-- ==== Sys2Proof/Word.lean ====
section
/-! DEFINITION. Word.lean: the word types of the device and the operand types of its commands (R13, R19). -/

namespace Sys2Proof

/-- A register word (R19). -/
abbrev Word := BitVec 32

/-- An octet of memory. -/
abbrev Byte := BitVec 8

/-- The three parts of the family (R1). -/
inductive Part where
  | thv4848
  | thv4832
  | thv4824
  deriving DecidableEq, Repr

/-- A master identity of R298: 0–11 engines, 12 host, 13 Sorrel, 14 fabric agent, 15 update engine, 16 datapath. -/
abbrev Master := Fin 17

/-- What a port's calibrations have measured (R91, R111, R118): DC offset and compensator factor C by gain index, the I/Q balance, TX leak
and image by bin, the reciprocity coefficient by bin, and the four taps of the coupling with other ports. -/
structure CalResults where
  dcs : List (Nat × Word × Word) := []
  iq : Word := 0
  leaks : List (Nat × Word) := []
  coefs : List (Nat × Word) := []
  taps : List (Nat × List (Word)) := []
  deriving DecidableEq, Repr

/-- A host access through BAR2 (R468, R469): a read of `length` octets, at most Max_Payload_Size, or a write of the octets whose byte enables are set, which
may come poisoned (R483). -/
inductive Bar2 where
  | read (offset : Nat) (length : Fin 513)
  | write (offset : Nat) (octets : List (Option Byte)) (poisoned : Bool)
  deriving DecidableEq, Repr

/-- A host access that unmasks vectors: a write of an MSI-X table entry, or of the message control (R468, R479). -/
inductive MsixCtl where
  | entry (vector : Fin 64) (address : BitVec 64) (data : Word) (masked : Bool)
  | control (enable functionMask : Bool)
  deriving DecidableEq, Repr

/-- The causes of an interface reset (R482). -/
inductive HifCause where
  | perst
  | flr
  | hotReset
  | dlDown
  deriving DecidableEq, Repr

/-! ### Operands of commands that bring several things at once -/

/-- A register write's octets, and the bits that events set on the same edge (R19, R21). -/
structure LandedWrite where
  octets : List Byte
  landing : Word := 0
  deriving DecidableEq, Repr

/-- A transmit lane whose ramp-down ends, with the coupling taps as refined from the residual (R118). -/
structure RampEnd where
  lane : Fin 96
  taps : List (Nat × Nat × List Word) := []
  deriving DecidableEq, Repr

/-- COEX_REQ rises for a transmit lane; `grant` is the level of COEX_GNT then (R99). -/
structure CoexRise where
  lane : Fin 96
  grant : Bool
  deriving DecidableEq, Repr

/-- The end of a sync field, and the level the digital AGC freezes at (R128, R155). -/
structure SyncInstant where
  time : Nat
  level : Int
  deriving DecidableEq, Repr

/-- A SYNC cell and the ring port it came on (R256, R265). -/
structure SyncCell where
  port : Fin 2
  epoch : Nat
  deriving DecidableEq, Repr

/-- The ring port a cell came on, and the member that sent it (R265). -/
structure CellFrom where
  port : Fin 2
  sender : Fin 8
  deriving DecidableEq, Repr

/-- The start sample and peak of a frame and its epoch, as DETECT and LANE_OPEN cells carry them (R259). -/
structure CellMoment where
  start : Nat
  peak : Nat
  epoch : Nat
  deriving DecidableEq, Repr

/-- The lane that a LANE_OPEN cell opens, with this member's own partial sums for it (R260, R261). -/
structure OpenLane where
  port : Fin 2
  tag : Fin 4096
  own : List Word
  deriving DecidableEq, Repr

/-- A LANE_CLOSE cell (R263). -/
structure CloseLane where
  port : Fin 2
  tag : Fin 4096
  reason : Fin 2
  deriving DecidableEq, Repr

/-- A lane without cells for 2 µs, with the first sample that is missing and this member's own partial sums (R263). -/
structure HalfStream where
  tag : Fin 4096
  first : Nat
  own : List Word
  deriving DecidableEq, Repr

/-- A cell and the ring port it came on (R265). -/
structure RingCell where
  port : Fin 2
  octets : List Byte
  deriving DecidableEq, Repr

/-- An edge of CORE_SAMPLE: its direction, and whether it meets an epoch boundary or the commit of a node record (R47, R487). -/
structure PinEdge where
  rising : Bool
  boundary : Bool := false
  node : Bool := false
  deriving DecidableEq, Repr

/-- How a read of a host frame buffer ends (R477). -/
inductive ReadEnd where
  | complete
  | badCompletion
  | timeout
  deriving DecidableEq, Repr

end Sys2Proof
end

