-- ==== Sys2Proof/Syntax.lean ====
section
/-! DEFINITION. Syntax.lean: the commands of the device.  `Instr` has one constructor for each row of
spec/opcode_table.json, with the row's operands: who commands, what is written, and whatever comes from outside the
device at that instant. -/

namespace Sys2Proof

/-- The commands, in the order of the opcode table. -/
inductive Instr where
  /-- REGISTER_WRITE, R19: A register write that has no row of its own stores the field under its access type, or ends in a bus error, a completer abort or an ignored write. -/
  | registerWrite (master : Master) (address : BitVec 32) (data : LandedWrite)
  /-- COUNTER_READ_CLEAR, R20: A read of an RC field returns the value and clears it, except that an increment landing on the same edge is kept. -/
  | counterReadClear (master : Master) (address : BitVec 32) (landing : Word)
  /-- SHADOW_WRITE, R38: A write to a shadowed register changes only the shadow; the active value waits for a commit. -/
  | shadowWrite (master : Master) (address : BitVec 32) (data : Word)
  /-- RING_BASE_WRITE, R526: A write of a ring, queue or pool base or size is ignored or clamped so that the span stays inside its permitted area. -/
  | ringBaseWrite (master : Master) (address : BitVec 32) (data : Word)
  /-- EPOCH_READ, R37: A read of SYS_EPOCHL returns the low epoch word and latches EPOCH_HI for the reading master. -/
  | epochRead (master : Master)
  /-- REF_LOST, R31: The reference monitor declares the selected reference lost; PAs drop, ports mute and go to STANDBY, frames in flight are lost and the root PLL enters holdover. -/
  | refLost
  /-- FALLBACK_SWITCH, R31: 2 µs after a reference loss the root PLL input switches to the fallback oscillator. -/
  | fallbackSwitch
  /-- FALLBACK_LOCK, R31: The root PLL locks to the fallback, ON_FALLBACK is set, the SerDes lose lock and the device leaves its stack into HOLDOVER. -/
  | fallbackLock
  /-- REF_VALID_QUALIFIED, R32: REF_VALID has held 1 for 10 ms, so the reference may return to service. -/
  | refValidQualified
  /-- ROOT_LOCK_RETURN, R32: The root PLL locks to the returned reference, ON_FALLBACK and ACTIVE clear, synthesizers relock and ports return to their states. -/
  | rootLockReturn
  /-- REF_SRC_SELECT, R30: A write of SYS_CLKCTL.REF_SRC selects a reference source that takes effect at the next period start. -/
  | refSrcSelect (source : Fin 4)
  /-- RETURN_REQUEST, R33: A write of SYS_CLKCTL.RETURN requests a return to the reference at the next period start, which is discarded if REF_VALID is 0 there. -/
  | returnRequest
  /-- EPOCH_BOUNDARY, R36: Venue time reaches a multiple of 10 ms, which starts a schedule period and an epoch. -/
  | epochBoundary (margin : Int)
  /-- STAGING_CUT, R39: 20 µs before a boundary the shadows of armed blocks are captured and a held swap request is checked. -/
  | stagingCut
  /-- COMMIT_ARM, R41: A write of SYS_COMMIT.ARM arms blocks for the next boundary. -/
  | commitArm (blocks : Byte)
  /-- COMMIT_CANCEL, R41: A write of SYS_COMMIT.CANCEL disarms blocks if it completes before the cut. -/
  | commitCancel (blocks : Byte)
  /-- LOAD_START, R60: A write of CFG_LOADCTL.START requests a bitstream load from a slot into the inactive planes. -/
  | loadStart (slot : Fin 2)
  /-- LOAD_BEGIN, R60: A load begins, at once or after a running engine reload ends, and check 16 is made. -/
  | loadBegin
  /-- LOAD_HEADER_CHECKED, R64: The bitstream header has been read and checks 1–8 are made. -/
  | loadHeaderChecked
  /-- LOAD_HASH_DONE, R64: SHA-256 over the signed octets completes as they are read. -/
  | loadHashDone
  /-- LOAD_SIGNATURE_VERIFIED, R64: ECDSA verification completes and checks 9 and 10 are made. -/
  | loadSignatureVerified
  /-- LOAD_REGION_CHECKED, R64: The payload of one selected region has been read, checked under checks 11–15 and written to its plane, which becomes LOADED. -/
  | loadRegionChecked
  /-- LOAD_ABORT, R63: A write of CFG_LOADCTL.ABORT stops a running load within 10 µs, empties the planes being written and fails it with ABORTED. -/
  | loadAbort
  /-- SWAP_ARM, R67: A write of CFG_SWAPCTL.ARM places a local swap request and arms the named inactive planes, or is refused while a request is held. -/
  | swapArm
  /-- SWAP_CANCEL, R67: A write of CFG_SWAPCTL.CANCEL before the cut cancels the held request and returns its planes to LOADED. -/
  | swapCancel
  /-- VENUE_ORDER, R70: A received venue order is classed as newer, repeat or older and, if newer, replaces, waits behind or is refused against the held request. -/
  | venueOrder (seq mask : Word) (build epoch : Nat)
  /-- BOOTSEL_GO, R72: A write of CFG_BOOTSEL.GO queues the erase, program and read-back of a commit page that marks a preferred bitstream slot. -/
  | bootselGo (slot : Fin 2)
  /-- BOOTSEL_COMPLETE, R72: The commit-page read-back ends and BOOTSEL_DONE or BOOTSEL_FAIL is set. -/
  | bootselComplete
  /-- PORT_STATE_REQUEST, R78: A write of RFP_CTL.REQ sets a port's held state and starts a walk through intermediate states, or is refused or conflicts. -/
  | portStateRequest (port : Fin 48) (req : Fin 8)
  /-- BAND_OVERRIDE, R80: A write of RFP_CTL.BANDOVR moves a port to a band other than its port map gives, or sets CONFLICT. -/
  | bandOverride (port : Fin 48) (ovr : Fin 4)
  /-- PORT_TRANSITION_DONE, R77: One step of a port state transition completes after its time, and the port heads on toward its target. -/
  | portTransitionDone (port : Fin 48)
  /-- LO_RETUNE_DONE, R89: A band-B LO retune completes after 20 µs or 400 µs and the group's ports are unmuted. -/
  | loRetuneDone (group : Fin 2)
  /-- SYN_LOCK_LOSS, R90: A synthesizer's lock detector has been out of lock for 1 µs; its ports drop PA and mute, and the spare starts taking over. -/
  | synLockLoss (syn : Fin 3)
  /-- SPARE_TAKEOVER_DONE, R90: The spare locks to the lost LO, the distribution switches and the ports re-enter SYNTH in phase. -/
  | spareTakeoverDone (syn : Fin 3) (locked : Bool)
  /-- SYN_CALIBRATION_DONE, R90: A synthesizer's full calibration ends locked or not, setting FAILED or returning it to the ports. -/
  | synCalibrationDone (syn : Fin 3) (locked : Bool)
  /-- SYN_FAILED_CLEAR, R90: A failed synthesizer has stayed locked for 1 s, so FAILED clears and it becomes the spare. -/
  | synFailedClear (syn : Fin 3)
  /-- SPARE_RECAL, R103: A write of SYN_CTL.RECAL starts a full calibration of the spare at each LO it may serve. -/
  | spareRecal
  /-- CALIBRATION_DUE, R94: A port's temperature drifts beyond DUE_DELTA, so DUE is set and RFP_CALDUE fires. -/
  | calibrationDue (port : Fin 48) (celsius : Int)
  /-- CALIBRATION_REQUEST, R94: A write of RFP_CALCTL.REQ requests calibrations on a port, which start at a period start. -/
  | calibrationRequest (port : Fin 48) (kinds : Fin 16)
  /-- CALIBRATION_DONE, R91: A port or synthesizer calibration ends, its results are stored and the port returns to its state. -/
  | calibrationDone (port : Fin 48) (celsius : Byte) (align : Fin 128) (results : CalResults)
  /-- TX_PORT_WALK, R85: The transition of a transmission's ports into TX starts: FEM_TR goes to its TX level and FEM_LNA turns off. -/
  | txPortWalk (lane : Fin 96)
  /-- TX_PA_ON, R85: At A − PA_LEAD, FEM_PA turns on and COEX_ACT rises. -/
  | txPaOn (lane : Fin 96) (grant : Bool)
  /-- TX_AIR_START, R85: The first modulated sample of a transmission reaches the ball. -/
  | txAirStart (lane : Fin 96)
  /-- TX_END, R85: The last sample of a transmission ends at the ball and ramp-down begins. -/
  | txEnd (lane : Fin 96)
  /-- TX_RAMP_DOWN_END, R85: The ramp-down ends, FEM_PA turns off and the ports head for their base states. -/
  | txRampDownEnd (lane : RampEnd)
  /-- COEX_GNT_WITHDRAWN, R100: Withdrawal of grant gates every PA of a governed band off within 20 ns and stops the affected lanes. -/
  | coexGntWithdrawn
  /-- COEX_CUT_REPORT, R100: 1 µs after a grant cut, COEX_CUT reports are issued, counters and COX_LASTCUT are written and COX_CUT fires. -/
  | coexCutReport
  /-- AAGC_STEP_DOWN, R110: A 2 µs window's peak reaches HI_THR or clips, so the analog gain steps down one index. -/
  | aagcStepDown (port : Fin 48) (below : Nat) (clipped : Bool) (t : Nat)
  /-- AAGC_STEP_UP, R110: The peak has stayed below LO_THR for HOLD_UP µs, so the analog gain steps up one index. -/
  | aagcStepUp (port : Fin 48) (below held : Nat) (t : Nat)
  /-- DETECTION, R120: A correlator crosses its threshold at a local peak, a detection is recorded and a window group opens if needed. -/
  | detection (bin : Fin 348) (prof : Fin 16) (rho start : Nat) (snr : Int) (ports : List Nat) (outs : List (Int × Int))
  /-- WINDOW_GROUP_CLOSE, R122: A window group closes once no further detection in it can be declared. -/
  | windowGroupClose (bin : Fin 348)
  /-- SEPARATION, R123: 1 µs after a group closes its detections are kept or reported unseparated, and weights are solved. -/
  | separation (bin : Fin 348)
  /-- BLANKING_START, R116: At the start of a blanking interval unfinished lanes on the bins are aborted and open window groups are discarded. -/
  | blankingStart (lane : Fin 96)
  /-- SIGNATURE_INVALIDATE, R131: A write of SPX_SIGINV.NODE invalidates one signature record within 1 µs. -/
  | signatureInvalidate (node : Fin 16384)
  /-- SIGNATURE_INVALIDATE_ALL, R131: A write of SPX_SIGINV.ALL invalidates every valid signature record within 1 ms. -/
  | signatureInvalidateAll
  /-- SIGNATURE_SWEEP, R131: Once per second signatures older than AGE_LIMIT are invalidated. -/
  | signatureSweep
  /-- SIGNATURE_BSET_SWEEP, R131: After a beam-set swap, SPX clears every signature whose BSET differs from the new tag within 1 ms. -/
  | signatureBsetSweep
  /-- SYNC_MATCH, R155: A receive lane matches its sync field within tolerance, freezes its AGC and records SYNC_ERR and SYNC_TIME. -/
  | syncMatch (lane : Fin 384) (e0 e1 : Nat) (t : SyncInstant)
  /-- SYNC_TIMEOUT, R156: A lane finds no sync match within SYNC_TO symbols and is released. -/
  | syncTimeout (lane : Fin 384)
  /-- HEADER_CHECK, R149: At the end of a TLP HCS the header is checked, and a failing frame is dropped. -/
  | headerCheck (lane : Fin 384) (octets : List Byte)
  /-- PILOT_LOCK_LOSS, R160: Two consecutive pilot fields exceed LOCK_THR, so the frame ends and the lane is released. -/
  | pilotLockLoss (lane : Fin 384) (err0 err1 : Fin 256)
  /-- RX_LANE_ABORT, R169: A write of PHY_RXCTLn.ABORT stops a receiving lane within 1 µs and discards its frame. -/
  | rxLaneAbort (lane : Fin 384)
  /-- TX_LANE_ABORT, R170: A write of PHY_TXCTLn.ABORT cancels a transmit request not yet at its port walk. -/
  | txLaneAbort (lane : Fin 96)
  /-- LOOKUP_POINT, R180: When the addressing fields are delivered the frame is filtered, its record is looked up or established, and resources are reserved. -/
  | lookupPoint (lane : Fin 384) (octets : List Byte) (upsets : List (Nat × Bool))
  /-- ASSOC_PAN_CHECK, R180: Test 8 for an unsecured Association Request with source PAN ID 0xFFFF is made on delivery of the command identifier. -/
  | assocPanCheck (frame : Nat) (command : Byte)
  /-- SECURITY_POINT, R180: When the auxiliary security header is delivered, security, frame counter and persistence window are tested and a stream context opens. -/
  | securityPoint (frame : Nat) (octets : List Byte)
  /-- FRAME_END, R161: A receive lane delivers the last octet of its frame to the link controller and is released. -/
  | frameEnd (lane : Fin 384) (psdu : List Byte) (stop : Nat) (cfo : Word)
  /-- FRAME_VERDICT, R192: 0.2 µs after the last octet the FCS, duplicate and counter decisions are made and the record is updated. -/
  | frameVerdict (frame : Nat)
  /-- MIC_RESULT, R193: The stream page gives its MIC result 0.5 µs after the verdict, deciding delivery of a secured frame. -/
  | micResult (frame : Nat)
  /-- DESCRIPTOR_WRITE, R196: 1 µs after the MIC result or verdict, the receive descriptor is written to its engine queue or host ring. -/
  | descriptorWrite (frame : Nat)
  /-- ACK_FREEZE, R190: At the freeze point the pending bit is sampled and the acknowledgement content is fixed. -/
  | ackFreeze (frame : Nat)
  /-- ACK_COMMIT, R187: At the commit point the acknowledgement passes duty, hop, reference and EIRP checks and is committed, or is withdrawn. -/
  | ackCommit (frame : Nat)
  /-- NODE_RECORD_WRITE, R177: Update-port WRITE replaces a record with the image, incrementing GEN. -/
  | nodeRecordWrite (index : Fin 16384)
  /-- NODE_RECORD_WRITE_IF, R177: Update-port WRITE_IF replaces a record only if its GEN matches. -/
  | nodeRecordWriteIf (index : Fin 16384)
  /-- NODE_RECORD_FREE, R177: Update-port FREE sets a record FREE and reports its requests FREED. -/
  | nodeRecordFree (index : Fin 16384)
  /-- NODE_RECORD_PERSIST, R177: Update-port PERSIST raises PERSISTED_FC and may clear PERSIST_DUE. -/
  | nodeRecordPersist (index : Fin 16384)
  /-- NODE_RECORD_ALLOC, R177: Update-port ALLOC writes the image into the lowest FREE record. -/
  | nodeRecordAlloc
  /-- NODE_RECORD_BAD_OP, R177: An update-port command with OP 0, 6 or 7 is refused with BAD_OP. -/
  | nodeRecordBadOp (op : Fin 3)
  /-- BUFFER_FREE, R198: A write of LNK_BUFFREE returns a buffer slot to the pool. -/
  | bufferFree (slot : Fin 4096)
  /-- SLOT_START, R205: A 250 µs slot starts; waiting direct requests are offered again for placement. -/
  | slotStart
  /-- TX_REQUEST_INTAKE, R210: A transmit request is taken from an engine queue or host ring and checked, held or refused. -/
  | txRequestIntake (queue : Fin 12)
  /-- TX_PLACE, R212: A request is placed in a slot, with its form computed for TIMED delivery, and its buffer fetch starts. -/
  | txPlace (request : Nat)
  /-- TX_BUFFER_FETCHED, R210: A request's frame buffer arrives and its length, MIC and key index are tested. -/
  | txBufferFetched (request : Nat)
  /-- TX_DEADLINE, R206: At D a request that is not ready is reported LATE, otherwise it holds its lane. -/
  | txDeadline (request : Nat)
  /-- TX_COMMIT, R207: At C the reference, duty-cycle, hop and EIRP checks are made and the transmission is committed or refused. -/
  | txCommit (request : Nat)
  /-- ACK_WAIT_EXPIRY, R217: The acknowledgement wait of an attempt ends unmatched, so the request is placed again or ends NOACK. -/
  | ackWaitExpiry (request : Nat)
  /-- DUTY_MINUTE_BOUNDARY, R221: At each minute boundary the oldest duty-cycle bucket expires and the current one rotates. -/
  | dutyMinuteBoundary
  /-- DUTY_CLEAR, R224: A write of TXS_DUTYCTL.CLEAR empties every bucket in MANUFACTURE or is refused. -/
  | dutyClear
  /-- KEEPALIVE_SWEEP, R231: Once per second records with a check-in interval are tested and may go STALE. -/
  | keepaliveSweep
  /-- STALE_EXPIRY, R231: 60 000 ms after a record went STALE its held requests are reported STALE. -/
  | staleExpiry (node : Fin 16384)
  /-- FLOOD_DECISION, R241: At a flood's decision point Silt is looked up and the flood is delivered, relayed, published or suppressed. -/
  | floodDecision (frame : Nat)
  /-- FLOOD_RECORD_RECEIVED, R247: A received SEEN or IMPORT_REPLY record is checked and inserted into Silt. -/
  | floodRecordReceived (sender : Nat) (body : List Byte)
  /-- SILT_SWEEP, R239: Once per second entries that are no longer live are cleared. -/
  | siltSweep
  /-- SILT_FLUSH, R251: A write of FLD_CMD.FLUSH clears VALID in every Silt entry within 1 ms. -/
  | siltFlush
  /-- IMPORT, R248: On join or a write of FLD_CMD.IMPORT, an IMPORT_REQ goes to every neighbour. -/
  | importCmd
  /-- IMPORT_REQ_RECEIVED, R248: A neighbour's import request is accepted or ignored. -/
  | importReqReceived (sender : Nat)
  /-- IMPORT_ANSWER, R248: Within 20 ms a neighbour sends IMPORT_REPLY records for recent live entries followed by IMPORT_END. -/
  | importAnswer
  /-- IMPORT_END_RECEIVED, R248: An IMPORT_END arrives, and the import completes when every neighbour has sent one. -/
  | importEndReceived (sender : Nat)
  /-- IMPORT_TIMEOUT, R248: An import reaches 100 ms and ends timed out. -/
  | importTimeout
  /-- MARK, R250: A write of FLD_CMD.MARK inserts an originated flood key with SOURCE 3 and publishes it. -/
  | mark
  /-- SYNC_CELL_SEND, R256: The stack leader sends a SYNC cell on both ring ports at least 1 ms before a boundary. -/
  | syncCellSend
  /-- SYNC_CELL_RECEIVED, R256: A member receives a SYNC cell naming the coming epoch. -/
  | syncCellReceived (cell : SyncCell)
  /-- STACK_SYNC_EDGE, R256: A member measures the STACK_SYNC edge against its boundary and trims or schedules a step. -/
  | stackSyncEdge (skew : Int)
  /-- IMAGE_CELL_RECEIVED, R258: A received record image is applied within 1 µs or discarded as stale. -/
  | imageCellReceived (sender : CellFrom) (node : Fin 16384) (octets : List Byte)
  /-- DETECT_CELL_RECEIVED, R259: A DETECT cell from another member is kept for grouping at separation. -/
  | detectCellReceived (sender : CellFrom) (bin : Fin 348) (prof : Fin 16) (snr : Int) (start : CellMoment)
  /-- LANE_OPEN_RECEIVED, R260: A member joins a joint lane's half-streams with its partial sum or zero. -/
  | laneOpenReceived (tag : OpenLane) (bin : Fin 348) (prof : Fin 16) (start : CellMoment)
  /-- SUMS_CELL_RECEIVED, R260: A SUMS cell of partial sums is added to and forwarded or delivered to the owner. -/
  | sumsCellReceived (tag : Fin 4096) (direction : Fin 2) (first : Nat) (words own : List Word)
  /-- LANE_CLOSE_RECEIVED, R263: A member stops its part of a lane within 1 µs of LANE_CLOSE. -/
  | laneCloseReceived (tag : CloseLane)
  /-- HALF_STREAM_TIMEOUT, R263: 2 µs without cells for a lane makes the first member after a break originate its half, or the owner continue without it. -/
  | halfStreamTimeout (tag : HalfStream)
  /-- RING_LINK_DOWN, R263: A ring port without block lock for 1 µs is declared down. -/
  | ringLinkDown (port : Fin 2)
  /-- RING_LINK_UP, R263: A ring port regains block lock and RINGn_UP is set. -/
  | ringLinkUp (port : Fin 2)
  /-- LEADER_LOST, R264: A member misses three SYNC cells or edges, declares the leader lost and stops sending joint cells. -/
  | leaderLost
  /-- LEADER_REJOIN, R264: After 100 periods of SYNC cells the leader rejoins at the next boundary and images are resent. -/
  | leaderRejoin
  /-- FABRIC_CELL_RECEIVED, R265: A FABRIC cell carries a fabric record between a member and the leader. -/
  | fabricCellReceived (cell : RingCell)
  /-- FABRIC_FRAME_RECEIVED, R267: A fabric frame is checked for duplicates and header fields, and its records are processed. -/
  | fabricFrameReceived (port : Fin 2) (payload : List Byte)
  /-- SEND_RING_ENTRY, R278: A write of VFB_SQHEAD makes the fabric agent send the queued records. -/
  | sendRingEntry (head : Fin 4096)
  /-- PTP_SYNC_SEND, R271: The master sends a two-step Sync on each fabric port 16 times per second. -/
  | ptpSyncSend
  /-- PTP_SYNC_RECEIVED, R271: A slave takes a Sync timestamp, measures its offset and slews, schedules a step or locks. -/
  | ptpSyncReceived (port : Fin 2) (origin : Nat) (correction : Int) (arrival : Nat)
  /-- PTP_DELAY_REQ_SEND, R271: A slave sends a Delay_Req 8 times per second. -/
  | ptpDelayReqSend
  /-- PTP_DELAY_REQ_RECEIVED, R271: The master answers a Delay_Req with Delay_Resp. -/
  | ptpDelayReqReceived (port : Fin 2) (requester arrival : Nat)
  /-- PTP_DELAY_RESP_RECEIVED, R271: A slave completes a path delay measurement. -/
  | ptpDelayRespReceived (port : Fin 2) (received : Nat) (correction : Int)
  /-- VENUE_TIME_STEP, R273: A measured offset above 1 µs steps venue time at the next boundary, and learned phases clear. -/
  | venueTimeStep
  /-- BEACON_SEND, R272: The master or acting backup sends a BEACON carrying its orders at every beacon time. -/
  | beaconSend
  /-- BEACON_RECEIVED, R272: A valid beacon is accepted, its orders are taken up and the timing state may change. -/
  | beaconReceived (body : List Byte)
  /-- BEACON_TIMEOUT, R272: 385 ms without a valid beacon moves a LOCKED device to HOLDOVER. -/
  | beaconTimeout
  /-- MASTER_TAKEOVER, R272: The designated master after 1 s in ACQUIRE without a beacon becomes MASTER and sets venue time. -/
  | masterTakeover
  /-- BACKUP_TAKEOVER, R272: The backup after 2 s without a master beacon becomes ACTING. -/
  | backupTakeover
  /-- ORDER_GO, R274: A write of VFB_CMD.ORDER_GO issues a venue order or is refused. -/
  | orderGo
  /-- VENUE_TIME_READ, R278: A read of VFB_TIMEL returns venue time [31:0] and latches TIME_HI for the reading master. -/
  | venueTimeRead (master : Master)
  /-- INTERRUPT_ENTRY, R295: An engine takes its interrupt at commit while INT_EN is 1 and enters the handler. -/
  | interruptEntry (engine : Fin 12)
  /-- WATCHDOG_EXPIRY, R305: An engine watchdog expires, the engine goes FAULTED and engine 0 is reloaded. -/
  | watchdogExpiry (engine : Fin 12)
  /-- WATCHDOG_KICK, R305: A write of SYS_ENGKICKn restarts the engine watchdog. -/
  | watchdogKick (master : Master) (engine : Fin 12)
  /-- ENGINE_RUN, R302: A write of RUN = 1 starts a HELD engine in normal or recovery mode. -/
  | engineRun (master : Master) (engine : Fin 12) (recovery : Bool)
  /-- ENGINE_STOP, R302: A write of RUN = 0 asks an engine to stop at its next commit boundary. -/
  | engineStop (master : Master) (engine : Fin 12)
  /-- ENGINE_HELD, R302: A stopping engine reaches HELD after undoing speculation and draining stores. -/
  | engineHeld (engine : Fin 12)
  /-- ENGINE_RESET, R303: A write of SYS_ENGCTLn.RESET starts an engine-local reset and its mailbox page reset. -/
  | engineReset (master : Master) (engine : Fin 12)
  /-- ENGINE_RESET_DONE, R302: An engine-local reset completes and the engine is HELD. -/
  | engineResetDone (engine : Fin 12)
  /-- WORLD_LOCK, R299: A write of SYS_ENGLOCK.WORLD_LOCK makes the engine WORLD fields read-only. -/
  | worldLock (master : Master)
  /-- SORREL_STARTUP, R308: After logic reset release Sorrel scans torn flags, loads the bitstream, starts calibration, authenticates the image and starts engine 0. -/
  | sorrelStartup (entropyFail : Bool)
  /-- LEAD_RELOAD, R309: A write of SYS_SRLCMD.LEAD_RELOAD stops and resets engine 0 and starts reloading its section. -/
  | leadReload (master : Master) (slot : Fin 4)
  /-- LEAD_RELOAD_SECTION_LOADED, R309: The engine-0 section is read, checked and written, and engine 0 is started, or Sorrel goes to RECOVERY. -/
  | leadReloadSectionLoaded
  /-- LEAD_READY, R309: Engine 0 writes LEAD_READY, ending the reload and returning Sorrel to IDLE. -/
  | leadReady (master : Master)
  /-- AUTONOMY_OVER, R310: LEAD_READY has not come 50 ms after a reload began, so AUTONOMY_OVER is set. -/
  | autonomyOver
  /-- NOP, R321: Plewin-V NOP does nothing. -/
  | nop (engine : Fin 12)
  /-- FENCE, R287: Plewin-V FENCE waits until every earlier access is performed and visible. -/
  | fence (engine : Fin 12)
  /-- SYNC_I, R289: Plewin-V SYNC.I drains the store buffer and refetches. -/
  | syncI (engine : Fin 12)
  /-- EI, R331: Plewin-V EI sets INT_EN at commit. -/
  | ei (engine : Fin 12)
  /-- DI, R331: Plewin-V DI clears INT_EN at commit. -/
  | di (engine : Fin 12)
  /-- WFI, R331: Plewin-V WFI waits without fetching until the interrupt input is high. -/
  | wfi (engine : Fin 12)
  /-- WFI_WAKE, R331: The interrupt input rises during WFI, which completes or takes the interrupt. -/
  | wfiWake (engine : Fin 12)
  /-- RET, R330: Plewin-V RET pops the return address. -/
  | ret (engine : Fin 12)
  /-- RETI, R330: Plewin-V RETI pops the resume address and status word. -/
  | reti (engine : Fin 12)
  /-- MOV, R321: Plewin-V MOV copies the source operand to the destination. -/
  | mov (engine : Fin 12) (upsets : List (Nat × Bool))
  /-- LEA, R321: Plewin-V LEA writes the address of its memory source. -/
  | lea (engine : Fin 12)
  /-- PUSH, R321: Plewin-V PUSH pre-decrements P7 and stores the operand. -/
  | push (engine : Fin 12)
  /-- POP, R321: Plewin-V POP loads from P7 and post-increments it. -/
  | pop (engine : Fin 12)
  /-- SWAP, R321: Plewin-V SWAP exchanges two operands, optionally atomically. -/
  | swap (engine : Fin 12)
  /-- CAS, R328: Plewin-V CAS atomically compares and swaps a memory operand. -/
  | cas (engine : Fin 12)
  /-- NOT, R321: Plewin-V NOT writes the complement of its source. -/
  | not (engine : Fin 12)
  /-- NEG, R321: Plewin-V NEG writes the negation of its source. -/
  | neg (engine : Fin 12)
  /-- ADD, R322: Plewin-V ADD, two- or three-operand, adds modulo 2^w. -/
  | add (engine : Fin 12)
  /-- SUB, R322: Plewin-V SUB subtracts modulo 2^w. -/
  | sub (engine : Fin 12)
  /-- MUL, R322: Plewin-V MUL writes the low half of the product. -/
  | mul (engine : Fin 12)
  /-- MULHU, R322: Plewin-V MULHU writes the high half of the unsigned product. -/
  | mulhu (engine : Fin 12)
  /-- MULHS, R322: Plewin-V MULHS writes the high half of the signed product. -/
  | mulhs (engine : Fin 12)
  /-- DIVU, R322: Plewin-V DIVU divides unsigned, faulting ARITH on zero. -/
  | divu (engine : Fin 12)
  /-- DIVS, R322: Plewin-V DIVS divides signed, faulting ARITH on zero. -/
  | divs (engine : Fin 12)
  /-- REMU, R322: Plewin-V REMU writes the unsigned remainder. -/
  | remu (engine : Fin 12)
  /-- REMS, R322: Plewin-V REMS writes the signed remainder. -/
  | rems (engine : Fin 12)
  /-- AND, R322: Plewin-V AND writes the bitwise AND. -/
  | and (engine : Fin 12)
  /-- OR, R322: Plewin-V OR writes the bitwise OR. -/
  | or (engine : Fin 12)
  /-- XOR, R322: Plewin-V XOR writes the bitwise XOR. -/
  | xor (engine : Fin 12)
  /-- ANDN, R322: Plewin-V ANDN writes a AND NOT b. -/
  | andn (engine : Fin 12)
  /-- SHL, R322: Plewin-V SHL shifts left. -/
  | shl (engine : Fin 12)
  /-- SHR, R322: Plewin-V SHR shifts right logically. -/
  | shr (engine : Fin 12)
  /-- SAR, R322: Plewin-V SAR shifts right arithmetically. -/
  | sar (engine : Fin 12)
  /-- ZXW, R321: Plewin-V ZXW zero-extends to 32 bits. -/
  | zxw (engine : Fin 12)
  /-- SXW, R321: Plewin-V SXW sign-extends to 32 bits. -/
  | sxw (engine : Fin 12)
  /-- ZXD, R321: Plewin-V ZXD zero-extends to 64 bits. -/
  | zxd (engine : Fin 12)
  /-- SXD, R321: Plewin-V SXD sign-extends to 64 bits. -/
  | sxd (engine : Fin 12)
  /-- CB_EQ, R323: Plewin-V CB.EQ branches when the operands are equal. -/
  | cbEq (engine : Fin 12)
  /-- CB_NE, R323: Plewin-V CB.NE branches when the operands differ. -/
  | cbNe (engine : Fin 12)
  /-- CB_LT, R323: Plewin-V CB.LT branches on signed less-than. -/
  | cbLt (engine : Fin 12)
  /-- CB_GE, R323: Plewin-V CB.GE branches on signed greater-or-equal. -/
  | cbGe (engine : Fin 12)
  /-- CB_LTU, R323: Plewin-V CB.LTU branches on unsigned less-than. -/
  | cbLtu (engine : Fin 12)
  /-- CB_GEU, R323: Plewin-V CB.GEU branches on unsigned greater-or-equal. -/
  | cbGeu (engine : Fin 12)
  /-- BR, R321: Plewin-V BR branches unconditionally. -/
  | br (engine : Fin 12)
  /-- CALL, R330: Plewin-V CALL pushes the return address and branches. -/
  | call (engine : Fin 12)
  /-- JMP, R321: Plewin-V JMP jumps to an address read from its operand. -/
  | jmp (engine : Fin 12)
  /-- CALLI, R330: Plewin-V CALLI calls through an address read from its operand. -/
  | calli (engine : Fin 12)
  /-- BFI, R325: Plewin-V BFI inserts a bit field. -/
  | bfi (engine : Fin 12)
  /-- BFX, R325: Plewin-V BFX extracts a bit field unsigned. -/
  | bfx (engine : Fin 12)
  /-- BFXS, R325: Plewin-V BFXS extracts a bit field sign-extended. -/
  | bfxs (engine : Fin 12)
  /-- CLZ, R326: Plewin-V CLZ counts leading zeros. -/
  | clz (engine : Fin 12)
  /-- BPERM, R327: Plewin-V BPERM permutes bytes by a selector. -/
  | bperm (engine : Fin 12)
  /-- SET_EQ, R324: Plewin-V SET.EQ writes 1 if the operands are equal. -/
  | setEq (engine : Fin 12)
  /-- SET_NE, R324: Plewin-V SET.NE writes 1 if the operands differ. -/
  | setNe (engine : Fin 12)
  /-- SET_LT, R324: Plewin-V SET.LT writes 1 on signed less-than. -/
  | setLt (engine : Fin 12)
  /-- SET_GE, R324: Plewin-V SET.GE writes 1 on signed greater-or-equal. -/
  | setGe (engine : Fin 12)
  /-- SET_LTU, R324: Plewin-V SET.LTU writes 1 on unsigned less-than. -/
  | setLtu (engine : Fin 12)
  /-- SET_GEU, R324: Plewin-V SET.GEU writes 1 on unsigned greater-or-equal. -/
  | setGeu (engine : Fin 12)
  /-- ILLEGAL, R332: An undefined Plewin-V encoding raises ILLEGAL at commit. -/
  | illegal (engine : Fin 12)
  /-- C_MOV, R336: Plewin-C MOV copies B to A. -/
  | cMov (unit : Fin 13)
  /-- C_ADD, R336: Plewin-C ADD adds B to A. -/
  | cAdd (unit : Fin 13)
  /-- C_SUB, R336: Plewin-C SUB subtracts B from A. -/
  | cSub (unit : Fin 13)
  /-- C_AND, R336: Plewin-C AND. -/
  | cAnd (unit : Fin 13)
  /-- C_OR, R336: Plewin-C OR. -/
  | cOr (unit : Fin 13)
  /-- C_XOR, R336: Plewin-C XOR. -/
  | cXor (unit : Fin 13)
  /-- C_SHL, R336: Plewin-C SHL. -/
  | cShl (unit : Fin 13)
  /-- C_SHR, R336: Plewin-C SHR. -/
  | cShr (unit : Fin 13)
  /-- C_CBEQ, R336: Plewin-C CBEQ branches when A equals B. -/
  | cCbeq (unit : Fin 13)
  /-- C_CBNE, R336: Plewin-C CBNE branches when A differs from B. -/
  | cCbne (unit : Fin 13)
  /-- C_CBLTU, R336: Plewin-C CBLTU branches on unsigned less-than. -/
  | cCbltu (unit : Fin 13)
  /-- C_CBGEU, R336: Plewin-C CBGEU branches on unsigned greater-or-equal. -/
  | cCbgeu (unit : Fin 13)
  /-- C_MOVB, R336: Plewin-C MOVB copies one byte. -/
  | cMovb (unit : Fin 13)
  /-- C_JMP, R336: Plewin-C JMP jumps to a word address. -/
  | cJmp (unit : Fin 13)
  /-- C_CALL, R336: Plewin-C CALL pushes the return word address and jumps. -/
  | cCall (unit : Fin 13)
  /-- C_NOP, R336: Plewin-C SYS NOP. -/
  | cNop (unit : Fin 13)
  /-- C_FENCE, R336: Plewin-C SYS FENCE. -/
  | cFence (unit : Fin 13)
  /-- C_RET, R336: Plewin-C SYS RET returns to the popped word address. -/
  | cRet (unit : Fin 13)
  /-- C_WAIT, R336: Plewin-C SYS WAIT stalls until the executing unit's interrupt level is high. -/
  | cWait (unit : Fin 13)
  /-- C_WAIT_WAKE, R336: The interrupt level rises and a stalled WAIT completes. -/
  | cWaitWake (unit : Fin 13)
  /-- EVENT_FIRE, R338: A producer's event enters its channel and on the next edge reaches every selecting task, privileged task, interrupt source and watch flag. -/
  | eventFire
  /-- RELAY_FIRE, R344: A relay's delay expires and its producer fires the pending event. -/
  | relayFire (relay : Fin 16)
  /-- SOFTWARE_TRIGGER, R359: A write of EVT_SWTRIG fires a channel at once, subject to ownership. -/
  | softwareTrigger (master : Master) (channel : Byte) (payload : BitVec 16)
  /-- ASYNC_EDGE, R348: An edge on GPIO, CORE_SAMPLE or PMB_ALERT_N is caught by its asynchronous latch and released as an ASYNC event. -/
  | asyncEdge (pin : Fin 18) (rising : Bool)
  /-- IRQ_COALESCE_TIMEOUT, R349: A batch's deadline passes and it is flushed. -/
  | irqCoalesceTimeout (source : Fin 256)
  /-- MBX_SEND, R354: A write of MBX_SEND checks and sends the staged message locally, to a member or to a venue device. -/
  | mbxSend (master : Master) (page : Fin 15) (word : Word)
  /-- MAILBOX_RECORD_RECEIVED, R356: A MAILBOX record delivers a message part, a reply, an aborted notice or a RESTART. -/
  | mailboxRecordReceived (peer : Nat) (body : List Byte)
  /-- MAILBOX_TIMEOUT, R354: A remote send gets no reply within MBX_CTL.TIMEOUT and ends with TIMEOUT. -/
  | mailboxTimeout (page : Fin 15)
  /-- FRAGMENT_TIMEOUT, R356: A message part left alone for 1 ms is discarded. -/
  | fragmentTimeout
  /-- MBX_SLOT_READ, R353: A read of word 15 of a slot by the page's master clears its FULL bit. -/
  | mbxSlotRead (master : Master) (page : Fin 15) (slot : Fin 8)
  /-- DOORBELL_MASK_WRITE, R353: A write of MBX_DBMASK that unmasks a set doorbell fires MBX_DB. -/
  | doorbellMaskWrite (master : Master) (page : Fin 15) (mask : Word)
  /-- TIMER_MATCH, R366: A tick moves a timer's count onto its compare value, advancing it under AUTO and producing an event. -/
  | timerMatch (timer : Fin 32)
  /-- TIMER_OVERFLOW, R363: A tick takes a timer from all ones to 0, carrying to the chain and producing an event. -/
  | timerOverflow (timer : Fin 32)
  /-- GROUP_LOAD, R370: A write of TMR_GRPCMD.LOAD or a group lead's START loads and runs every member of a group on one edge. -/
  | groupLoad (groups : Fin 16)
  /-- GROUP_STOP, R370: A write of TMR_GRPCMD.STOP clears RUN on every member of a group. -/
  | groupStop (groups : Fin 16)
  /-- TIMER_CHAIN_READ, R372: A read of a chain's low word returns the live count and latches the upper words for the reading master. -/
  | timerChainRead (master : Master) (timer : Fin 32)
  /-- RTC_SECOND, R375: The sub-second count wraps and the calendar advances one second, firing an armed alarm. -/
  | rtcSecond
  /-- OSC_FAIL, R376: 122 µs without a 32.768 kHz edge declares the oscillator failed and sets OSF. -/
  | oscFail
  /-- OSC_RESTORE, R376: 32.768 kHz edges return and OSC_OK is set. -/
  | oscRestore
  /-- RTC_TIME_READ, R377: The first read of a time register freezes the read shadow. -/
  | rtcTimeRead (register : Fin 9)
  /-- RTC_YEAR_READ, R377: A read of RTC_YEAR returns the shadow and releases the freeze. -/
  | rtcYearRead
  /-- FREEZE_LAPSE, R377: A freeze not released within 1 s lapses and FREEZE_LAPSED is set. -/
  | freezeLapse
  /-- RTC_APPLY, R378: A write of RTC_CMD.APPLY sets APPLY_PEND. -/
  | rtcApply
  /-- RTC_APPLY_EDGE, R378: At the next 32.768 kHz edge the write shadow is checked and becomes the calendar or sets APPLY_ERR. -/
  | rtcApplyEdge
  /-- ALARM_ARM, R380: A write of RTC_ALMCTL.ARMED arms the alarm, which fires at the next edge if already due. -/
  | alarmArm (wakeEn : Bool)
  /-- OSF_CLEAR, R376: A write of 1 to RTC_STAT.OSF clears it unless the oscillator is failed. -/
  | osfClear
  /-- TAMPER_ASSERT, R444: A qualifying low on TAMPER_N clears backup RAM, records the tamper and starts zeroization. -/
  | tamperAssert
  /-- ZEROIZE_ERASE_DONE, R444: The private array is erased except the life-cycle record, set to ZEROIZED, and KEY_ZEROIZED fires. -/
  | zeroizeEraseDone
  /-- BACKUP_POWER_UP, R386: The backup domain powers up, sets OSF, clears the calendar, alarm and backup RAM, and drives REG_EN high. -/
  | backupPowerUp (vbat : Bool)
  /-- RAIL_LOST, R387: A main rail lost while running gates PAs off and holds the main domain in reset. -/
  | railLost (rails : Fin 128)
  /-- RAILS_PRESENT, R387: Every main rail is present again and power-on start-up begins at step 0. -/
  | railsPresent
  /-- STARTUP_STEP_DONE, R393: A start-up step's ready signal arrives or its wait ends, and the next step begins. -/
  | startupStepDone (us : Nat) (ready : Bool)
  /-- STARTUP_STEP_TIMEOUT, R394: A start-up step reaches MAX_WAIT without its ready signal and is handled per step. -/
  | startupStepTimeout (us : Nat) (rails : Fin 128)
  /-- PGOOD_LOW, R387: PWR_GOOD falls while every rail is present and PWR_PGOOD_LOW fires. -/
  | pgoodLow
  /-- VOLTAGE_ACK, R389: Polling finds a voltage request acknowledged and the gated action proceeds. -/
  | voltageAck
  /-- VOLTAGE_REQUEST_FAIL, R389: A voltage request is not acknowledged within its wait and PWR_PMBFAIL fires. -/
  | voltageRequestFail
  /-- PMBUS_TRANSACTION, R392: A write of PWR_PMBCMD.GO starts a firmware PMBus transaction. -/
  | pmbusTransaction (word : Word)
  /-- PMBUS_TRANSACTION_DONE, R392: A PMBus transaction ends and RESULT is set. -/
  | pmbusTransactionDone (result : Fin 8) (data : Word)
  /-- PMBUS_ALERT, R392: A falling edge on PMB_ALERT_N makes the agent read STATUS_WORD of every page. -/
  | pmbusAlert (words : List Word)
  /-- QUIET_REQUEST, R396: A write of PWR_STATECTL REQ 1 starts entry to QUIET. -/
  | quietRequest
  /-- QUIET_DRAIN_DONE, R397: The last lane and transmission end, ports go to STANDBY, the datapath is gated and VDD_CORE lowered. -/
  | quietDrainDone
  /-- ACTIVE_REQUEST, R396: A write of PWR_STATECTL REQ 0 starts exit from QUIET with a voltage raise. -/
  | activeRequest
  /-- DORMANT_REQUEST, R398: A write of PWR_STATECTL REQ 2 with KEY 0x5D starts entry to DORMANT, or the write is refused. -/
  | dormantRequest (key : Byte)
  /-- DORMANT_DRAIN_DONE, R398: The last transmission's ramp-down ends, engines stop, the mirror is written and the rails are turned off. -/
  | dormantDrainDone
  /-- DORMANT_REACHED, R398: PWR_GOOD is low and every rail lost, or 100 ms passed, and DORMANT is declared. -/
  | dormantReached (confirmed : Bool)
  /-- WAKE, R399: A latched wake source raises REG_EN on the next 32.768 kHz edge and a wake reset follows. -/
  | wake
  /-- WAKE_PORT_MATCH, R400: The I2C wake port matches its address, acknowledges and latches a wake or sets MATCHED. -/
  | wakePortMatch (address : Fin 128)
  /-- PERST_ASSERT, R402: PERST_N asserted with PERST_DEV 1 triggers a device reset. -/
  | perstAssert
  /-- SOFTWARE_DEVICE_RESET, R402: A write of PWR_RSTCMD with KEY 0xD5 triggers a software device reset. -/
  | softwareDeviceReset (key : Byte)
  /-- DEVICE_WATCHDOG_EXPIRY, R405: The device watchdog expires and triggers a watchdog reset. -/
  | deviceWatchdogExpiry
  /-- DEVICE_WATCHDOG_KICK, R405: A write of PWR_WDTKICK restarts the device watchdog. -/
  | deviceWatchdogKick (master : Master)
  /-- RESET_DRAIN_DONE, R403: Transmissions and notices have drained, and the main domain is reset from step 5. -/
  | resetDrainDone
  /-- HOT_SENSOR, R506: A sensor first reads 110 °C or above and PWR_HOT fires. -/
  | hotSensor (celsius : Nat)
  /-- OVER_TEMPERATURE_SHUTDOWN, R506: A sensor reads 125 °C for 10 µs and the device acts as on a lost rail. -/
  | overTemperatureShutdown
  /-- PROGRAM, R414: FLC command PROGRAM encrypts and writes one page. -/
  | program (master : Master) (channel : Fin 4) (sector : Fin 1024) (page : Fin 128)
  /-- ERASE, R414: FLC command ERASE sets every page of a sector erased. -/
  | erase (master : Master) (channel : Fin 4) (sector : Fin 1024)
  /-- BLANK, R414: FLC command BLANK raw-reads a sector and reports whether it is erased. -/
  | blank (master : Master) (channel : Fin 4) (sector : Fin 1024)
  /-- LWRITE, R421: FLC command LWRITE writes a pending Loam copy to the next ring member. -/
  | lwrite (master : Master) (channel logical : Fin 4)
  /-- LCONFIRM, R421: FLC command LCONFIRM programs the confirm page and makes the pending copy current. -/
  | lconfirm (master : Master) (channel logical : Fin 4)
  /-- LABANDON, R421: FLC command LABANDON erases a pending Loam copy. -/
  | labandon (master : Master) (channel logical : Fin 4)
  /-- FLASH_OPERATION_DONE, R414: A program, erase or blank check completes or times out and the controller takes the next operation. -/
  | flashOperationDone (time : Nat) (timeout dirty : Bool) (level : Fin 9)
  /-- COUNTER_WRITE_DONE, R430: A monotonic counter advance completes its write and the new value applies. -/
  | counterWriteDone (which : Fin 3)
  /-- ISVN_ADVANCE, R430: A write of KEY_ISVNADV raises the ISVN floor. -/
  | isvnAdvance (master : Master) (value : Word)
  /-- LC_PROVISION, R433: KEY_LCCMD with TARGET 1 moves to PROVISION through a life-cycle reset, or is refused. -/
  | lcProvision (master : Master) (key : Byte)
  /-- LC_ZEROIZE, R433: KEY_LCCMD with TARGET 4 starts zeroization. -/
  | lcZeroize (master : Master) (key : Byte)
  /-- INSTALL, R438: Key-update INSTALL unwraps an AES key into a slot. -/
  | install (stored : Bool)
  /-- INSTALL_PUB, R438: Key-update INSTALL_PUB loads a VERIFY public key into a slot. -/
  | installPub (stored : Bool)
  /-- DELETE, R438: Key-update DELETE empties a slot with a tombstone. -/
  | delete (stored : Bool)
  /-- INSTALL_AUTHORITY, R438: Key-update INSTALL_AUTHORITY replaces the provisioning-authority key. -/
  | installAuthority (stored : Bool)
  /-- LC_DEPLOY, R438: Key-update LC_DEPLOY records DEPLOYED and starts a life-cycle reset. -/
  | lcDeploy (stored : Bool)
  /-- LC_RETURN, R438: Key-update LC_RETURN records RETURN, erases the authority and starts a life-cycle reset. -/
  | lcReturn (stored : Bool)
  /-- RESERVATION_WRITE_DONE, R447: A new transmit-counter reservation is written and waiting secured transmissions proceed. -/
  | reservationWriteDone (slot : Fin 256)
  /-- CCM_ENC, R446: Cipher page operation CCM_ENC encrypts and authenticates. -/
  | ccmEnc (master : Master) (page : Fin 16) (keyslot : Byte)
  /-- CCM_DEC, R446: Cipher page operation CCM_DEC decrypts and checks the MIC. -/
  | ccmDec (master : Master) (page : Fin 16) (keyslot : Byte)
  /-- KW_WRAP, R446: Cipher page operation KW_WRAP wraps a key. -/
  | kwWrap (master : Master) (page : Fin 16) (keyslot : Byte)
  /-- KW_UNWRAP, R446: Cipher page operation KW_UNWRAP unwraps a key. -/
  | kwUnwrap (master : Master) (page : Fin 16) (keyslot : Byte)
  /-- SHA256, R446: Cipher page operation SHA256 hashes a buffer. -/
  | sha256 (master : Master) (page : Fin 16)
  /-- ECDSA_VERIFY, R446: Cipher page operation ECDSA_VERIFY checks a signature. -/
  | ecdsaVerify (master : Master) (page : Fin 16) (keyslot : Byte) (rom : Bool)
  /-- CIPHER_OPERATION_DONE, R446: A general cipher operation ends, RESULT is set and its producer fires. -/
  | cipherOperationDone (page : Fin 16)
  /-- UPD_BLOCK, R455: A write of UPD_BLOCK asks the update engine to check one window block against UPD_BLKCRC. -/
  | updBlock (master : Master) (index : Fin 2048)
  /-- BLOCK_CRC_DONE, R455: The block CRC is compared, the block map updated and COMPLETE set when every block is marked. -/
  | blockCrcDone
  /-- UPD_WINBASE, R455: A write of UPD_WINBASE moves the window, clamps BLOCKS and clears the block map. -/
  | updWinbase (master : Master) (base : Word)
  /-- UPD_WINLEN, R455: A write of UPD_WINLEN sets BLOCKS within shared SRAM and clears the block map. -/
  | updWinlen (master : Master) (blocks : Fin 2048)
  /-- UPDATE_START, R458: UPD_CMD START begins an apply of the delta container into a target slot. -/
  | updateStart (master : Master) (kind : Fin 2) (slot : Fin 4)
  /-- UPDATE_CHECKS_DONE, R458: The signature and base-hash checks of an apply end and the target erase starts, or the apply fails. -/
  | updateChecksDone
  /-- UPDATE_ABORT, R460: UPD_CMD ABORT ends an apply after the current flash operation. -/
  | updateAbort (master : Master)
  /-- UPDATE_COMMIT, R462: UPD_CMD COMMIT writes an image commit page and advances the ISVN floor. -/
  | updateCommit (master : Master) (slot : Fin 4)
  /-- UPDATE_RECOVER, R463: UPD_CMD RECOVER makes Sorrel reload engine 0 from a chosen slot while in RECOVERY. -/
  | updateRecover (master : Master) (slot : Fin 4)
  /-- BLOCK_MAP_CLEAR, R465: UPD_CMD CLEAR clears the block map. -/
  | blockMapClear (master : Master)
  /-- HOST_BAR2_ACCESS, R469: A host read or write through BAR2 reaches shared SRAM. -/
  | hostBar2Access (access : Bar2) (upsets : List (Nat × Bool))
  /-- HOST_TX_REQUEST_FETCH, R475: Requests read from a host transmit ring arrive and pass to TXS intake. -/
  | hostTxRequestFetch (ring : Fin 32) (octets : List Byte)
  /-- HOST_BUFFER_READ_DONE, R477: A host frame buffer read completes or fails, setting HIF_ERR.FETCH. -/
  | hostBufferReadDone (request : Nat) (result : ReadEnd) (octets : List Byte)
  /-- HIF_MODERATION_TIMEOUT, R478: An interrupt source's moderation time expires and its vector is signalled. -/
  | hifModerationTimeout (source : Fin 65)
  /-- MSIX_UNMASK, R479: Unmasking a vector or enabling bus mastering sends pending messages. -/
  | msixUnmask (control : MsixCtl)
  /-- BUS_MASTER_CHANGE, R481: Bus Master Enable or D3hot changes, holding or releasing host-bound writes. -/
  | busMasterChange (enable d3 : Bool)
  /-- HELD_DESCRIPTOR_DISCARD, R481: A receive descriptor held for 10 ms is discarded and its slot returned. -/
  | heldDescriptorDiscard
  /-- INTERFACE_RESET, R482: PERST, FLR, Hot Reset or DL_Down resets the host interface, releases host-bound work and clears HIF registers. -/
  | interfaceReset (cause : HifCause)
  /-- LINK_UP, R482: The PCIe link trains up and RESETTING clears. -/
  | linkUp (speed : Fin 5) (width : Fin 5)
  /-- CORE_SAMPLE_PIN_EDGE, R488: A selected edge on CORE_SAMPLE triggers a core sample. -/
  | coreSamplePinEdge (rising : PinEdge)
  /-- CORE_SAMPLE_TIME_TRIGGER, R489: Venue time reaches the armed trigger time, or steps across it, and a core sample is triggered. -/
  | coreSampleTimeTrigger
  /-- CORE_SAMPLE_RECORD_RECEIVED, R489: A received CORE_SAMPLE record arms the venue-time trigger. -/
  | coreSampleRecordReceived (time : BitVec 64)
  /-- SNAPSHOT_MOVE_DONE, R490: The collector finishes moving a sample into a bank, which becomes HELD, and SNP_DONE fires. -/
  | snapshotMoveDone
  /-- SNAPSHOT_ARM, R489: SNP_CMD.ARM arms the venue-time trigger. -/
  | snapshotArm
  /-- SNAPSHOT_DISARM, R489: SNP_CMD.DISARM clears the armed trigger. -/
  | snapshotDisarm
  /-- SNAPSHOT_BCAST, R489: SNP_CMD.BCAST arms the trigger and sends a CORE_SAMPLE record to all devices. -/
  | snapshotBcast
  /-- BANK_RELEASE, R490: SNP_CMD.RELEASE frees a held snapshot bank. -/
  | bankRelease (banks : Fin 4)
  /-- COUNTER_CLEAR_ALL, R492: SNP_CNTCTL.CLRALL clears every RC counter on one edge. -/
  | counterClearAll
  /-- COUNTER_FREEZE, R492: A write of SNP_CNTCTL.FREEZE stops or resumes every RC counter. -/
  | counterFreeze (freeze : Bool)
  /-- EXTEST, R496: Test instruction EXTEST, if allowed, silences the radio and puts the balls under the boundary register. -/
  | extest
  /-- IDCODE, R495: Test instruction IDCODE selects the identification register. -/
  | idcode
  /-- SAMPLE_PRELOAD, R494: Test instruction SAMPLE/PRELOAD captures and loads the boundary register. -/
  | samplePreload (loaded : List Bool)
  /-- CLAMP, R496: Test instruction CLAMP, if allowed, holds the boundary outputs with bypass selected. -/
  | clamp
  /-- HIGHZ, R496: Test instruction HIGHZ, if allowed, floats the outputs. -/
  | highz
  /-- EXTEST_PULSE, R496: Test instruction EXTEST_PULSE of IEEE 1149.6, if allowed. -/
  | extestPulse
  /-- EXTEST_TRAIN, R496: Test instruction EXTEST_TRAIN of IEEE 1149.6, if allowed. -/
  | extestTrain
  /-- BYPASS, R494: Test instruction BYPASS selects the bypass register. -/
  | bypass
  /-- PRIVATE_INSTRUCTION, R497: A private test instruction, in MANUFACTURE or RETURN only, wipes SRAM and keys first and puts Sorrel in TEST. -/
  | privateInstruction (code : Fin 127)
  /-- REF_VALID_RISE, R32: While the device runs on the fallback oscillator, the reference monitor finds the selected reference present and within limits, REF_VALID goes to 1, and the 10 ms qualification starts. -/
  | refValidRise
  /-- FABRIC_PORT_DOWN, R278: A venue-fabric port loses its link: PORTn_UP goes to 0, frames stop going out on it, and timing moves to the other port. -/
  | fabricPortDown (port : Fin 2)
  /-- FABRIC_PORT_UP, R278: A venue-fabric port completes link-up: PORTn_UP goes to 1 and the port sends, receives and times again. -/
  | fabricPortUp (port : Fin 2)
  /-- BACKUP_POWER_LOST, R386: VBAT and VDD_IO are both absent, so the backup domain loses power, REG_EN goes high-impedance and the RTC, OSF state, alarm and backup RAM are lost. -/
  | backupPowerLost
  /-- HOT_CLEAR, R506: Every on-die temperature sensor reads below 105 °C, which re-arms PWR_HOT so that it can fire again. -/
  | hotClear
  /-- REG_EN_PULSE_END, R394: The 1 s low pulse on REG_EN that a second start-up timeout causes ends, REG_EN is driven high again, and start-up restarts at step 0. -/
  | regEnPulseEnd
  /-- HOP_SECOND_BOUNDARY, R226: Each second the oldest of the 20 one-second hop-occupancy buckets of every hop-sequence entry expires, and the current bucket rotates. -/
  | hopSecondBoundary
  /-- BEACON_TIME_MISSED, R279: On a slave, a beacon time passes without a valid beacon, and VFB_BCNMISS is incremented. -/
  | beaconTimeMissed
  /-- COEX_REQ_RISE, R99: With COX_CTL.EN set, COEX_REQ rises, and COEX_PRI with it when the class is selected, REQ_LEAD µs before the air start of a transmission in a governed band. -/
  | coexReqRise (rise : CoexRise)
  deriving DecidableEq, Repr

end Sys2Proof
end

