-- ==== Sys2Proof/Decode.lean ====
section
/-! DEFINITION. Decode.lean: the commands that words spell.  The opcode table gives no row any bits, so no word spells a command; the
encodings of the Plewin instructions, which the engines fetch from memory, are read in Machine/PlewinV.lean and Machine/PlewinC.lean. -/

namespace Sys2Proof

/-- The command that a word of `nbits` bits spells by the opcode table: none, since no row has bits. -/
def decodeTableWord (_nbits _w : Nat) : Option Instr := none

end Sys2Proof
end

