-- ==== Sys2Proof/Config.lean ====
section
/-! DEFINITION. Config.lean: the free values of the model.  Each is an uninterpreted constant: nothing in Lean can
evaluate it, so a claim holds whatever it is. -/

namespace Sys2Proof

/-- A number the spec leaves open, drawn afresh for each value of the counter `State.free` (entropy of R243, and every
other result the spec does not state).  Log entry 3. -/
opaque Config.freeNat : Nat → Nat

/-- Octets of the public keys in ROM (R448): 0 to 63 the image key, 64 to 127 the bitstream key, as X ‖ Y.  The spec gives no
value.  Log entry 20. -/
opaque Config.romKey : Nat → Nat

/-- The silicon revision (R466, R495), of which four bits show.  The spec gives no value.  Log entry 24. -/
opaque Config.revision : Nat

/-- The 14-bit words of Sorrel's ROM, by word address (R307).  The spec gives no contents.  Log entry 27. -/
opaque Config.romWord : Nat → Nat

end Sys2Proof
end

