-- ==== Sys2Proof/Machine/RegMap.lean ====
section
/-! DEFINITION. Machine/RegMap.lean: the register map of the device (R24), taken from the register tables of every
chapter.  Each register is its address (a function of its indexes for an array); each field is a `Field`; `regRows`
gives, per block, the access masks (R20) and the reset word (R23) of every register.  Computed registers (capabilities,
counts, table views) are listed with reset zero and computed where the bus reads them. -/

namespace Sys2Proof.Machine

/-- A field of a register: the register's address, the lowest bit, the width (R13). -/
structure Field where
  addr : Nat
  lo : Nat
  width : Nat
  deriving DecidableEq, Repr

/-- One row of the register map: `n1` groups at stride `s1`, each of `n2` words at stride `s2`, with the bit masks of
the access types of R20 and the reset word of R23. -/
structure RegRow where
  base : Nat
  n1 : Nat
  s1 : Nat
  n2 : Nat
  s2 : Nat
  rw : Nat
  w1c : Nat
  w1s : Nat
  rc : Nat
  wo : Nat
  reset : Nat
  shadowed : Bool
  deriving DecidableEq, Repr

/-- R4. -/
def SYS_CAP0 : Nat := 0x20000008
def SYS_CAP0_PORTS : Field := ⟨SYS_CAP0, 0, 8⟩
def SYS_CAP0_BAND_A : Field := ⟨SYS_CAP0, 8, 1⟩
def SYS_CAP0_BAND_B : Field := ⟨SYS_CAP0, 9, 1⟩
def SYS_CAP0_SPATIAL : Field := ⟨SYS_CAP0, 10, 4⟩
def SYS_CAP0_FABRIC_PORTS : Field := ⟨SYS_CAP0, 14, 2⟩
def SYS_CAP0_STACK : Field := ⟨SYS_CAP0, 16, 1⟩
def SYS_CAP0_PART : Field := ⟨SYS_CAP0, 24, 8⟩
/-- R5. -/
def SYS_CAP1 : Nat := 0x2000000C
def SYS_CAP1_RX_LANES : Field := ⟨SYS_CAP1, 0, 9⟩
def SYS_CAP1_TX_LANES : Field := ⟨SYS_CAP1, 16, 7⟩
def SYS_CAP1_ENGINES : Field := ⟨SYS_CAP1, 24, 4⟩
def SYS_CAP1_FLASH : Field := ⟨SYS_CAP1, 28, 4⟩
/-- R33. -/
def SYS_CLKCTL : Nat := 0x20000020
def SYS_CLKCTL_REF_SRC : Field := ⟨SYS_CLKCTL, 0, 2⟩
def SYS_CLKCTL_AUTO_RETURN : Field := ⟨SYS_CLKCTL, 2, 1⟩
def SYS_CLKCTL_RETURN : Field := ⟨SYS_CLKCTL, 3, 1⟩
/-- R34. -/
def SYS_CLKSTAT : Nat := 0x20000024
def SYS_CLKSTAT_REF_VALID : Field := ⟨SYS_CLKSTAT, 0, 1⟩
def SYS_CLKSTAT_ROOT_LOCK : Field := ⟨SYS_CLKSTAT, 1, 1⟩
def SYS_CLKSTAT_ON_FALLBACK : Field := ⟨SYS_CLKSTAT, 2, 1⟩
def SYS_CLKSTAT_REF_SRC_ACT : Field := ⟨SYS_CLKSTAT, 3, 2⟩
def SYS_CLKSTAT_SYN_A_LOCK : Field := ⟨SYS_CLKSTAT, 5, 1⟩
def SYS_CLKSTAT_SYN_B_LOCK : Field := ⟨SYS_CLKSTAT, 6, 1⟩
/-- R35. -/
def SYS_REFLOST : Nat := 0x20000028
def SYS_REFLOST_LOST : Field := ⟨SYS_REFLOST, 0, 1⟩
def SYS_REFLOST_ACTIVE : Field := ⟨SYS_REFLOST, 1, 1⟩
def SYS_REFLOST_COUNT : Field := ⟨SYS_REFLOST, 8, 8⟩
/-- R37. -/
def SYS_EPOCHL : Nat := 0x20000030
def SYS_EPOCHL_EPOCH_LO : Field := ⟨SYS_EPOCHL, 0, 32⟩
/-- R37. -/
def SYS_EPOCHH : Nat := 0x20000034
def SYS_EPOCHH_EPOCH_HI : Field := ⟨SYS_EPOCHH, 0, 9⟩
/-- R41. -/
def SYS_COMMIT : Nat := 0x20000040
def SYS_COMMIT_ARM : Field := ⟨SYS_COMMIT, 0, 8⟩
def SYS_COMMIT_CANCEL : Field := ⟨SYS_COMMIT, 8, 8⟩
def SYS_COMMIT_DISCARD : Field := ⟨SYS_COMMIT, 16, 8⟩
/-- R73. -/
def CFG_VERSION : Nat := 0x20010000
def CFG_VERSION_FMT_MAX : Field := ⟨CFG_VERSION, 0, 16⟩
/-- R73. -/
def CFG_LOADCTL : Nat := 0x20010010
def CFG_LOADCTL_START : Field := ⟨CFG_LOADCTL, 0, 1⟩
def CFG_LOADCTL_SLOT : Field := ⟨CFG_LOADCTL, 1, 1⟩
def CFG_LOADCTL_ABORT : Field := ⟨CFG_LOADCTL, 2, 1⟩
/-- R73. -/
def CFG_LOADMASK : Nat := 0x20010014
def CFG_LOADMASK_REGIONS : Field := ⟨CFG_LOADMASK, 0, 32⟩
/-- R73. -/
def CFG_LOADSTAT : Nat := 0x20010018
def CFG_LOADSTAT_BUSY : Field := ⟨CFG_LOADSTAT, 0, 1⟩
def CFG_LOADSTAT_DONE : Field := ⟨CFG_LOADSTAT, 1, 1⟩
def CFG_LOADSTAT_FAIL : Field := ⟨CFG_LOADSTAT, 2, 1⟩
def CFG_LOADSTAT_OVERRUN : Field := ⟨CFG_LOADSTAT, 3, 1⟩
def CFG_LOADSTAT_PHASE : Field := ⟨CFG_LOADSTAT, 4, 4⟩
def CFG_LOADSTAT_REGION : Field := ⟨CFG_LOADSTAT, 8, 8⟩
/-- R73. -/
def CFG_REJECT : Nat := 0x2001001C
def CFG_REJECT_CODE : Field := ⟨CFG_REJECT, 0, 8⟩
def CFG_REJECT_REGION : Field := ⟨CFG_REJECT, 8, 8⟩
def CFG_REJECT_ENTRY : Field := ⟨CFG_REJECT, 16, 16⟩
/-- R73. -/
def CFG_REJUNIT : Nat := 0x20010020
def CFG_REJUNIT_KIND : Field := ⟨CFG_REJUNIT, 0, 8⟩
def CFG_REJUNIT_NUMBER : Field := ⟨CFG_REJUNIT, 8, 16⟩
/-- R73. -/
def CFG_SWAPCTL : Nat := 0x20010030
def CFG_SWAPCTL_ARM : Field := ⟨CFG_SWAPCTL, 0, 1⟩
def CFG_SWAPCTL_CANCEL : Field := ⟨CFG_SWAPCTL, 1, 1⟩
def CFG_SWAPCTL_NEXT : Field := ⟨CFG_SWAPCTL, 2, 1⟩
def CFG_SWAPCTL_LATE_POLICY : Field := ⟨CFG_SWAPCTL, 3, 1⟩
/-- R73. -/
def CFG_SWAPMASK : Nat := 0x20010034
def CFG_SWAPMASK_REGIONS : Field := ⟨CFG_SWAPMASK, 0, 32⟩
/-- R73. -/
def CFG_SWAPEPL : Nat := 0x20010038
def CFG_SWAPEPL_EPOCH_LO : Field := ⟨CFG_SWAPEPL, 0, 32⟩
/-- R73. -/
def CFG_SWAPEPH : Nat := 0x2001003C
def CFG_SWAPEPH_EPOCH_HI : Field := ⟨CFG_SWAPEPH, 0, 9⟩
/-- R73. -/
def CFG_SWAPBLDL : Nat := 0x20010040
def CFG_SWAPBLDL_BUILD_LO : Field := ⟨CFG_SWAPBLDL, 0, 32⟩
/-- R73. -/
def CFG_SWAPBLDH : Nat := 0x20010044
def CFG_SWAPBLDH_BUILD_HI : Field := ⟨CFG_SWAPBLDH, 0, 32⟩
/-- R73. -/
def CFG_SWAPSTAT : Nat := 0x20010048
def CFG_SWAPSTAT_STATE : Field := ⟨CFG_SWAPSTAT, 0, 4⟩
def CFG_SWAPSTAT_VENUE : Field := ⟨CFG_SWAPSTAT, 4, 1⟩
def CFG_SWAPSTAT_REFUSED : Field := ⟨CFG_SWAPSTAT, 5, 1⟩
def CFG_SWAPSTAT_FAILREGION : Field := ⟨CFG_SWAPSTAT, 8, 8⟩
def CFG_SWAPSTAT_ORDER_SEQ : Field := ⟨CFG_SWAPSTAT, 16, 16⟩
/-- R73. -/
def CFG_BOOTSEL : Nat := 0x20010050
def CFG_BOOTSEL_SLOT : Field := ⟨CFG_BOOTSEL, 0, 1⟩
def CFG_BOOTSEL_GO : Field := ⟨CFG_BOOTSEL, 1, 1⟩
/-- R73. -/
def CFG_BOOTSTAT : Nat := 0x20010054
def CFG_BOOTSTAT_START_SLOT : Field := ⟨CFG_BOOTSTAT, 0, 1⟩
def CFG_BOOTSTAT_NOSTRUCT : Field := ⟨CFG_BOOTSTAT, 1, 1⟩
def CFG_BOOTSTAT_SLOT0_OK : Field := ⟨CFG_BOOTSTAT, 2, 1⟩
def CFG_BOOTSTAT_SLOT1_OK : Field := ⟨CFG_BOOTSTAT, 3, 1⟩
def CFG_BOOTSTAT_BOOTSEL_BUSY : Field := ⟨CFG_BOOTSTAT, 4, 1⟩
def CFG_BOOTSTAT_BOOTSEL_DONE : Field := ⟨CFG_BOOTSTAT, 5, 1⟩
def CFG_BOOTSTAT_BOOTSEL_FAIL : Field := ⟨CFG_BOOTSTAT, 6, 1⟩
def CFG_BOOTSTAT_DELAY_DEFAULTED : Field := ⟨CFG_BOOTSTAT, 7, 1⟩
def CFG_BOOTSTAT_SLOT0_CODE : Field := ⟨CFG_BOOTSTAT, 8, 8⟩
def CFG_BOOTSTAT_SLOT1_CODE : Field := ⟨CFG_BOOTSTAT, 16, 8⟩
/-- R73. -/
def CFG_BSVN : Nat := 0x20010058
def CFG_BSVN_FLOOR : Field := ⟨CFG_BSVN, 0, 32⟩
/-- R73. -/
def CFG_RGN (n : Nat) : Nat := 0x20010100 + 0x8 * n
def CFG_RGN_ACT (n : Nat) : Field := ⟨(CFG_RGN n), 0, 1⟩
def CFG_RGN_STATE_A (n : Nat) : Field := ⟨(CFG_RGN n), 1, 2⟩
def CFG_RGN_STATE_B (n : Nat) : Field := ⟨(CFG_RGN n), 3, 2⟩
def CFG_RGN_SLOT_A (n : Nat) : Field := ⟨(CFG_RGN n), 5, 1⟩
def CFG_RGN_SLOT_B (n : Nat) : Field := ⟨(CFG_RGN n), 6, 1⟩
/-- R73. -/
def CFG_RGNTAG (n : Nat) : Nat := 0x20010104 + 0x8 * n
def CFG_RGNTAG_TAG_A (n : Nat) : Field := ⟨(CFG_RGNTAG n), 0, 16⟩
def CFG_RGNTAG_TAG_B (n : Nat) : Field := ⟨(CFG_RGNTAG n), 16, 16⟩
/-- R101. -/
def RFP_CTL (n : Nat) : Nat := 0x20030000 + 0x100 * n
def RFP_CTL_REQ (n : Nat) : Field := ⟨(RFP_CTL n), 0, 3⟩
def RFP_CTL_FULLCAL (n : Nat) : Field := ⟨(RFP_CTL n), 3, 1⟩
def RFP_CTL_BANDOVR (n : Nat) : Field := ⟨(RFP_CTL n), 4, 2⟩
def RFP_CTL_TEST (n : Nat) : Field := ⟨(RFP_CTL n), 6, 2⟩
def RFP_CTL_TXCHAN (n : Nat) : Field := ⟨(RFP_CTL n), 8, 8⟩
def RFP_CTL_TXPWR (n : Nat) : Field := ⟨(RFP_CTL n), 16, 8⟩
/-- R101. -/
def RFP_STAT (n : Nat) : Nat := 0x20030004 + 0x100 * n
def RFP_STAT_STATE (n : Nat) : Field := ⟨(RFP_STAT n), 0, 3⟩
def RFP_STAT_TARGET (n : Nat) : Field := ⟨(RFP_STAT n), 3, 3⟩
def RFP_STAT_BAND (n : Nat) : Field := ⟨(RFP_STAT n), 6, 1⟩
def RFP_STAT_ROLE (n : Nat) : Field := ⟨(RFP_STAT n), 7, 2⟩
def RFP_STAT_INTRANSIT (n : Nat) : Field := ⟨(RFP_STAT n), 9, 1⟩
def RFP_STAT_ROLE_VIOL (n : Nat) : Field := ⟨(RFP_STAT n), 10, 1⟩
def RFP_STAT_CONFLICT (n : Nat) : Field := ⟨(RFP_STAT n), 11, 1⟩
def RFP_STAT_EXCLUDED (n : Nat) : Field := ⟨(RFP_STAT n), 12, 1⟩
def RFP_STAT_GRANT_CUT (n : Nat) : Field := ⟨(RFP_STAT n), 13, 1⟩
/-- R101, shadowed (active value at + 0x8000). -/
def RFP_TXPMAX (n : Nat) : Nat := 0x20030008 + 0x100 * n
def RFP_TXPMAX_MAXQ (n : Nat) : Field := ⟨(RFP_TXPMAX n), 0, 8⟩
/-- R101, shadowed (active value at + 0x8000). -/
def RFP_EXTPH (n : Nat) : Nat := 0x2003000C + 0x100 * n
def RFP_EXTPH_PHASE (n : Nat) : Field := ⟨(RFP_EXTPH n), 0, 12⟩
def RFP_EXTPH_AMP (n : Nat) : Field := ⟨(RFP_EXTPH n), 16, 8⟩
/-- R101. -/
def RFP_CALCTL (n : Nat) : Nat := 0x20030010 + 0x100 * n
def RFP_CALCTL_REQ (n : Nat) : Field := ⟨(RFP_CALCTL n), 0, 4⟩
/-- R101. -/
def RFP_CALSTAT (n : Nat) : Nat := 0x20030014 + 0x100 * n
def RFP_CALSTAT_BUSY (n : Nat) : Field := ⟨(RFP_CALSTAT n), 0, 1⟩
def RFP_CALSTAT_DONE (n : Nat) : Field := ⟨(RFP_CALSTAT n), 1, 1⟩
def RFP_CALSTAT_DUE (n : Nat) : Field := ⟨(RFP_CALSTAT n), 2, 1⟩
def RFP_CALSTAT_TEMP_AT_CAL (n : Nat) : Field := ⟨(RFP_CALSTAT n), 8, 8⟩
def RFP_CALSTAT_AGE (n : Nat) : Field := ⟨(RFP_CALSTAT n), 16, 16⟩
/-- R101. -/
def RFP_TXPLAST (n : Nat) : Nat := 0x20030018 + 0x100 * n
def RFP_TXPLAST_POWQ (n : Nat) : Field := ⟨(RFP_TXPLAST n), 0, 8⟩
def RFP_TXPLAST_DROPPED (n : Nat) : Field := ⟨(RFP_TXPLAST n), 8, 1⟩
/-- R101. -/
def RFP_CNT0 (n : Nat) : Nat := 0x20030020 + 0x100 * n
def RFP_CNT0_REFUSED (n : Nat) : Field := ⟨(RFP_CNT0 n), 0, 16⟩
def RFP_CNT0_TXSKIP (n : Nat) : Field := ⟨(RFP_CNT0 n), 16, 16⟩
/-- R101. -/
def RFP_CNT1 (n : Nat) : Nat := 0x20030024 + 0x100 * n
def RFP_CNT1_LOST (n : Nat) : Field := ⟨(RFP_CNT1 n), 0, 16⟩
def RFP_CNT1_NOCAL (n : Nat) : Field := ⟨(RFP_CNT1 n), 16, 16⟩
/-- R101. -/
def RFP_CALGLB : Nat := 0x20033000
def RFP_CALGLB_BACKGROUND : Field := ⟨RFP_CALGLB, 0, 1⟩
def RFP_CALGLB_MAXPAR : Field := ⟨RFP_CALGLB, 1, 3⟩
def RFP_CALGLB_DUE_DELTA : Field := ⟨RFP_CALGLB, 8, 8⟩
def RFP_CALGLB_PORT : Field := ⟨RFP_CALGLB, 16, 6⟩
/-- R101. -/
def RFP_EIRPSTAT : Nat := 0x20033004
def RFP_EIRPSTAT_LAST_BOUND : Field := ⟨RFP_EIRPSTAT, 0, 11⟩
def RFP_EIRPSTAT_LIMITED : Field := ⟨RFP_EIRPSTAT, 11, 1⟩
def RFP_EIRPSTAT_LAST_CUT : Field := ⟨RFP_EIRPSTAT, 12, 8⟩
def RFP_EIRPSTAT_REFUSED : Field := ⟨RFP_EIRPSTAT, 20, 12⟩
/-- R103. -/
def SYN_CTL : Nat := 0x20040000
def SYN_CTL_SPARE_AUTO : Field := ⟨SYN_CTL, 0, 1⟩
def SYN_CTL_RECAL : Field := ⟨SYN_CTL, 1, 1⟩
/-- R103. -/
def SYN_STAT : Nat := 0x20040004
def SYN_STAT_ASSIGN (k : Nat) : Field := ⟨SYN_STAT, 4 * k + 0, 2⟩
def SYN_STAT_LOCK (k : Nat) : Field := ⟨SYN_STAT, 4 * k + 2, 1⟩
def SYN_STAT_FAILED (k : Nat) : Field := ⟨SYN_STAT, 4 * k + 3, 1⟩
def SYN_STAT_NO_SPARE : Field := ⟨SYN_STAT, 12, 1⟩
/-- R103, shadowed (active value at + 0x8000). -/
def SYN_LOB0 : Nat := 0x20040008
def SYN_LOB0_FREQ : Field := ⟨SYN_LOB0, 0, 20⟩
/-- R103, shadowed (active value at + 0x8000). -/
def SYN_LOB1 : Nat := 0x2004000C
def SYN_LOB1_FREQ : Field := ⟨SYN_LOB1, 0, 20⟩
/-- R103. -/
def SYN_CNT : Nat := 0x20040010
def SYN_CNT_LOCKLOSS : Field := ⟨SYN_CNT, 0, 8⟩
def SYN_CNT_TAKEOVER : Field := ⟨SYN_CNT, 8, 8⟩
/-- R104. -/
def COX_CTL : Nat := 0x20180000
def COX_CTL_EN : Field := ⟨COX_CTL, 0, 1⟩
def COX_CTL_BAND_A : Field := ⟨COX_CTL, 1, 1⟩
def COX_CTL_BAND_B : Field := ⟨COX_CTL, 2, 1⟩
def COX_CTL_GNT_INV : Field := ⟨COX_CTL, 3, 1⟩
def COX_CTL_REQ_LEAD : Field := ⟨COX_CTL, 8, 8⟩
def COX_CTL_PRI_SRC : Field := ⟨COX_CTL, 16, 4⟩
/-- R104. -/
def COX_STAT : Nat := 0x20180004
def COX_STAT_GNT : Field := ⟨COX_STAT, 0, 1⟩
def COX_STAT_REQ : Field := ⟨COX_STAT, 1, 1⟩
def COX_STAT_PRI : Field := ⟨COX_STAT, 2, 1⟩
def COX_STAT_ACT : Field := ⟨COX_STAT, 3, 1⟩
def COX_STAT_CUT : Field := ⟨COX_STAT, 4, 1⟩
/-- R104. -/
def COX_CNT : Nat := 0x20180008
def COX_CNT_DENIED : Field := ⟨COX_CNT, 0, 16⟩
def COX_CNT_CUT : Field := ⟨COX_CNT, 16, 16⟩
/-- R104. -/
def COX_LASTCUT : Nat := 0x2018000C
def COX_LASTCUT_TIME : Field := ⟨COX_LASTCUT, 0, 32⟩
/-- R137, shadowed (active value at + 0x8000). -/
def CAP_CTL : Nat := 0x20050000
def CAP_CTL_AAGC_EN : Field := ⟨CAP_CTL, 0, 1⟩
def CAP_CTL_CANCEL_EN : Field := ⟨CAP_CTL, 1, 1⟩
def CAP_CTL_FIX_IDX : Field := ⟨CAP_CTL, 4, 5⟩
/-- R137, shadowed (active value at + 0x8000). -/
def CAP_AAGC : Nat := 0x20050004
def CAP_AAGC_HI_THR : Field := ⟨CAP_AAGC, 0, 6⟩
def CAP_AAGC_LO_THR : Field := ⟨CAP_AAGC, 8, 6⟩
def CAP_AAGC_HOLD_UP : Field := ⟨CAP_AAGC, 16, 8⟩
/-- R137, shadowed (active value at + 0x8000). -/
def CAP_CLEAR : Nat := 0x20050008
def CAP_CLEAR_CLEAR_A : Field := ⟨CAP_CLEAR, 0, 4⟩
def CAP_CLEAR_CLEAR_B : Field := ⟨CAP_CLEAR, 8, 5⟩
def CAP_CLEAR_WHOLE_A : Field := ⟨CAP_CLEAR, 16, 1⟩
def CAP_CLEAR_WHOLE_B : Field := ⟨CAP_CLEAR, 17, 1⟩
/-- R137. -/
def CAP_CANSTAT : Nat := 0x20050010
def CAP_CANSTAT_USED_A : Field := ⟨CAP_CANSTAT, 0, 4⟩
def CAP_CANSTAT_USED_B : Field := ⟨CAP_CANSTAT, 4, 4⟩
def CAP_CANSTAT_VALID_A : Field := ⟨CAP_CANSTAT, 8, 1⟩
def CAP_CANSTAT_VALID_B : Field := ⟨CAP_CANSTAT, 9, 1⟩
/-- R137. -/
def CAP_CANCNT : Nat := 0x20050014
def CAP_CANCNT_OVF_A : Field := ⟨CAP_CANCNT, 0, 16⟩
def CAP_CANCNT_OVF_B : Field := ⟨CAP_CANCNT, 16, 16⟩
/-- R137. -/
def CAP_PGAIN (n : Nat) : Nat := 0x20051000 + 0x10 * n
def CAP_PGAIN_IDX (n : Nat) : Field := ⟨(CAP_PGAIN n), 0, 5⟩
/-- R137. -/
def CAP_PALIGN (n : Nat) : Nat := 0x20051004 + 0x10 * n
def CAP_PALIGN_ALIGN (n : Nat) : Field := ⟨(CAP_PALIGN n), 0, 7⟩
def CAP_PALIGN_VALID (n : Nat) : Field := ⟨(CAP_PALIGN n), 7, 1⟩
/-- R137. -/
def CAP_PCNT (n : Nat) : Nat := 0x20051008 + 0x10 * n
def CAP_PCNT_CLIPS (n : Nat) : Field := ⟨(CAP_PCNT n), 0, 16⟩
def CAP_PCNT_STEPS (n : Nat) : Field := ⟨(CAP_PCNT n), 16, 16⟩
/-- R138, shadowed (active value at + 0x8000). -/
def SPX_CTL : Nat := 0x20060000
def SPX_CTL_DET_EN_A : Field := ⟨SPX_CTL, 0, 1⟩
def SPX_CTL_DET_EN_B : Field := ⟨SPX_CTL, 1, 1⟩
def SPX_CTL_DEPTH : Field := ⟨SPX_CTL, 2, 4⟩
/-- R138, shadowed (active value at + 0x8000). -/
def SPX_DETTHR : Nat := 0x20060004
def SPX_DETTHR_THR_A : Field := ⟨SPX_DETTHR, 0, 8⟩
def SPX_DETTHR_THR_B : Field := ⟨SPX_DETTHR, 8, 8⟩
/-- R138, shadowed (active value at + 0x8000). -/
def SPX_SEPCTL : Nat := 0x20060008
def SPX_SEPCTL_CORR_MAX : Field := ⟨SPX_SEPCTL, 0, 7⟩
/-- R138, shadowed (active value at + 0x8000). -/
def SPX_SIGCTL : Nat := 0x2006000C
def SPX_SIGCTL_AGE_LIMIT : Field := ⟨SPX_SIGCTL, 0, 12⟩
def SPX_SIGCTL_MAXOFS_A : Field := ⟨SPX_SIGCTL, 16, 6⟩
def SPX_SIGCTL_MAXOFS_B : Field := ⟨SPX_SIGCTL, 24, 8⟩
/-- R138, shadowed (active value at + 0x8000). -/
def SPX_DAGC : Nat := 0x20060010
def SPX_DAGC_TARGET : Field := ⟨SPX_DAGC, 0, 6⟩
/-- R138. -/
def SPX_POOL : Nat := 0x20060014
def SPX_POOL_POOL_SIZE : Field := ⟨SPX_POOL, 0, 9⟩
def SPX_POOL_POOL_USED : Field := ⟨SPX_POOL, 16, 9⟩
/-- R138. -/
def SPX_BSET : Nat := 0x20060018
def SPX_BSET_TAG : Field := ⟨SPX_BSET, 0, 8⟩
/-- R138. -/
def SPX_SIGINV : Nat := 0x2006001C
def SPX_SIGINV_NODE : Field := ⟨SPX_SIGINV, 0, 14⟩
def SPX_SIGINV_ALL : Field := ⟨SPX_SIGINV, 31, 1⟩
/-- R138. -/
def SPX_SIGCNT : Nat := 0x20060020
def SPX_SIGCNT_SECTOR : Field := ⟨SPX_SIGCNT, 0, 16⟩
def SPX_SIGCNT_PRECODED : Field := ⟨SPX_SIGCNT, 16, 16⟩
/-- R138. -/
def SPX_LASTCOL : Nat := 0x20060024
def SPX_LASTCOL_BIN : Field := ⟨SPX_LASTCOL, 0, 9⟩
def SPX_LASTCOL_REASON : Field := ⟨SPX_LASTCOL, 9, 2⟩
def SPX_LASTCOL_RUNNING : Field := ⟨SPX_LASTCOL, 11, 1⟩
def SPX_LASTCOL_SNR : Field := ⟨SPX_LASTCOL, 16, 8⟩
/-- R138. -/
def SPX_BIN0 (k : Nat) : Nat := 0x20061000 + 0x10 * k
def SPX_BIN0_DETECT (k : Nat) : Field := ⟨(SPX_BIN0 k), 0, 32⟩
/-- R138. -/
def SPX_BIN1 (k : Nat) : Nat := 0x20061004 + 0x10 * k
def SPX_BIN1_NOLANE (k : Nat) : Field := ⟨(SPX_BIN1 k), 0, 16⟩
def SPX_BIN1_BLANKED (k : Nat) : Field := ⟨(SPX_BIN1 k), 16, 16⟩
/-- R138. -/
def SPX_BIN2 (k : Nat) : Nat := 0x20061008 + 0x10 * k
def SPX_BIN2_UNSEP (k : Nat) : Field := ⟨(SPX_BIN2 k), 0, 16⟩
def SPX_BIN2_OVERDEPTH (k : Nat) : Field := ⟨(SPX_BIN2 k), 16, 16⟩
/-- R138. -/
def SPX_BIN3 (k : Nat) : Nat := 0x2006100C + 0x10 * k
def SPX_BIN3_FLOOR (k : Nat) : Field := ⟨(SPX_BIN3 k), 0, 9⟩
def SPX_BIN3_INUSE (k : Nat) : Field := ⟨(SPX_BIN3 k), 16, 9⟩
/-- R172, shadowed (active value at + 0x8000). -/
def PHY_SYNC (n : Nat) : Nat := 0x20070000 + 0x10 * n
def PHY_SYNC_SYNC_TOL (n : Nat) : Field := ⟨(PHY_SYNC n), 0, 3⟩
def PHY_SYNC_SYNC_TO (n : Nat) : Field := ⟨(PHY_SYNC n), 4, 12⟩
/-- R172, shadowed (active value at + 0x8000). -/
def PHY_TRK (n : Nat) : Nat := 0x20070004 + 0x10 * n
def PHY_TRK_FBW (n : Nat) : Field := ⟨(PHY_TRK n), 0, 4⟩
def PHY_TRK_TBW (n : Nat) : Field := ⟨(PHY_TRK n), 4, 4⟩
def PHY_TRK_PILOT_EN (n : Nat) : Field := ⟨(PHY_TRK n), 8, 1⟩
def PHY_TRK_LOCK_THR (n : Nat) : Field := ⟨(PHY_TRK n), 16, 8⟩
/-- R172. -/
def PHY_STAT : Nat := 0x20070200
def PHY_STAT_RX_INUSE : Field := ⟨PHY_STAT, 0, 9⟩
def PHY_STAT_TX_INUSE : Field := ⟨PHY_STAT, 16, 7⟩
/-- R172. -/
def PHY_CNT0 (n : Nat) : Nat := 0x20071000 + 0x10 * n
def PHY_CNT0_SYNCOK (n : Nat) : Field := ⟨(PHY_CNT0 n), 0, 16⟩
def PHY_CNT0_SYNCTO (n : Nat) : Field := ⟨(PHY_CNT0 n), 16, 16⟩
/-- R172. -/
def PHY_CNT1 (n : Nat) : Nat := 0x20071004 + 0x10 * n
def PHY_CNT1_HDRERR (n : Nat) : Field := ⟨(PHY_CNT1 n), 0, 16⟩
def PHY_CNT1_LENERR (n : Nat) : Field := ⟨(PHY_CNT1 n), 16, 16⟩
/-- R172. -/
def PHY_CNT2 (n : Nat) : Nat := 0x20071008 + 0x10 * n
def PHY_CNT2_MSDROP (n : Nat) : Field := ⟨(PHY_CNT2 n), 0, 16⟩
def PHY_CNT2_LOCKLOSS (n : Nat) : Field := ⟨(PHY_CNT2 n), 16, 16⟩
/-- R172. -/
def PHY_CNT3 (n : Nat) : Nat := 0x2007100C + 0x10 * n
def PHY_CNT3_IMAGE (n : Nat) : Field := ⟨(PHY_CNT3 n), 0, 16⟩
def PHY_CNT3_ABORTED (n : Nat) : Field := ⟨(PHY_CNT3 n), 16, 16⟩
/-- R172. -/
def PHY_RXCTL (n : Nat) : Nat := 0x20072000 + 0x8 * n
def PHY_RXCTL_ABORT (n : Nat) : Field := ⟨(PHY_RXCTL n), 0, 1⟩
/-- R172. -/
def PHY_RXSTAT (n : Nat) : Nat := 0x20072004 + 0x8 * n
def PHY_RXSTAT_STATE (n : Nat) : Field := ⟨(PHY_RXSTAT n), 0, 2⟩
def PHY_RXSTAT_BIN (n : Nat) : Field := ⟨(PHY_RXSTAT n), 2, 9⟩
def PHY_RXSTAT_PROFILE (n : Nat) : Field := ⟨(PHY_RXSTAT n), 11, 4⟩
def PHY_RXSTAT_COLLIDED (n : Nat) : Field := ⟨(PHY_RXSTAT n), 15, 1⟩
def PHY_RXSTAT_SYNC_ERR (n : Nat) : Field := ⟨(PHY_RXSTAT n), 16, 3⟩
/-- R172. -/
def PHY_TXCTL (n : Nat) : Nat := 0x20073000 + 0x8 * n
def PHY_TXCTL_ABORT (n : Nat) : Field := ⟨(PHY_TXCTL n), 0, 1⟩
/-- R172. -/
def PHY_TXSTAT (n : Nat) : Nat := 0x20073004 + 0x8 * n
def PHY_TXSTAT_STATE (n : Nat) : Field := ⟨(PHY_TXSTAT n), 0, 2⟩
def PHY_TXSTAT_BIN (n : Nat) : Field := ⟨(PHY_TXSTAT n), 2, 9⟩
def PHY_TXSTAT_PROFILE (n : Nat) : Field := ⟨(PHY_TXSTAT n), 11, 4⟩
def PHY_TXSTAT_FORM (n : Nat) : Field := ⟨(PHY_TXSTAT n), 15, 2⟩
def PHY_TXSTAT_STROBE_LEFT (n : Nat) : Field := ⟨(PHY_TXSTAT n), 17, 8⟩
/-- R201, shadowed (active value at + 0x8000). -/
def LNK_CTL : Nat := 0x20080000
def LNK_CTL_EN : Field := ⟨LNK_CTL, 0, 1⟩
def LNK_CTL_ACK_EN : Field := ⟨LNK_CTL, 1, 1⟩
def LNK_CTL_NOPERSIST_OK : Field := ⟨LNK_CTL, 2, 1⟩
def LNK_CTL_NEWREC : Field := ⟨LNK_CTL, 3, 1⟩
/-- R201, shadowed (active value at + 0x8000). -/
def LNK_PANID : Nat := 0x20080004
def LNK_PANID_PANID : Field := ⟨LNK_PANID, 0, 16⟩
def LNK_PANID_COORD : Field := ⟨LNK_PANID, 16, 16⟩
/-- R201, shadowed (active value at + 0x8000). -/
def LNK_EXTL : Nat := 0x20080008
def LNK_EXTL_EXT_LO : Field := ⟨LNK_EXTL, 0, 32⟩
/-- R201, shadowed (active value at + 0x8000). -/
def LNK_EXTH : Nat := 0x2008000C
def LNK_EXTH_EXT_HI : Field := ⟨LNK_EXTH, 0, 32⟩
/-- R201, shadowed (active value at + 0x8000). -/
def LNK_ABLK : Nat := 0x20080010
def LNK_ABLK_BASE : Field := ⟨LNK_ABLK, 0, 16⟩
def LNK_ABLK_SIZE : Field := ⟨LNK_ABLK, 16, 15⟩
/-- R201, shadowed (active value at + 0x8000). -/
def LNK_DELIV : Nat := 0x20080014
def LNK_DELIV_BEACON_DEST : Field := ⟨LNK_DELIV, 0, 6⟩
def LNK_DELIV_BEACON_EN : Field := ⟨LNK_DELIV, 6, 1⟩
def LNK_DELIV_NEWCLASS : Field := ⟨LNK_DELIV, 8, 6⟩
/-- R201, shadowed (active value at + 0x8000). -/
def LNK_ACKPWR : Nat := 0x20080018
def LNK_ACKPWR_PWR_A : Field := ⟨LNK_ACKPWR, 0, 8⟩
def LNK_ACKPWR_PWR_B : Field := ⟨LNK_ACKPWR, 8, 8⟩
/-- R201. -/
def LNK_UPDCMD : Nat := 0x20080040
def LNK_UPDCMD_INDEX : Field := ⟨LNK_UPDCMD, 0, 14⟩
def LNK_UPDCMD_OP : Field := ⟨LNK_UPDCMD, 14, 3⟩
/-- R201. -/
def LNK_UPDARG : Nat := 0x20080044
def LNK_UPDARG_ARG : Field := ⟨LNK_UPDARG, 0, 32⟩
/-- R201. -/
def LNK_UPDSTAT : Nat := 0x20080048
def LNK_UPDSTAT_BUSY : Field := ⟨LNK_UPDSTAT, 0, 1⟩
def LNK_UPDSTAT_RESULT : Field := ⟨LNK_UPDSTAT, 1, 3⟩
def LNK_UPDSTAT_INDEX : Field := ⟨LNK_UPDSTAT, 4, 14⟩
/-- R201. -/
def LNK_PRBASE : Nat := 0x20080060
def LNK_PRBASE_BASE : Field := ⟨LNK_PRBASE, 0, 32⟩
/-- R201. -/
def LNK_PRCFG : Nat := 0x20080064
def LNK_PRCFG_SIZE : Field := ⟨LNK_PRCFG, 0, 12⟩
/-- R201. -/
def LNK_PRHEAD : Nat := 0x20080068
def LNK_PRHEAD_HEAD : Field := ⟨LNK_PRHEAD, 0, 12⟩
/-- R201. -/
def LNK_PRTAIL : Nat := 0x2008006C
def LNK_PRTAIL_TAIL : Field := ⟨LNK_PRTAIL, 0, 12⟩
/-- R201. -/
def LNK_BUFBASE : Nat := 0x20080070
def LNK_BUFBASE_BASE : Field := ⟨LNK_BUFBASE, 0, 32⟩
/-- R201. -/
def LNK_BUFCFG : Nat := 0x20080074
def LNK_BUFCFG_COUNT : Field := ⟨LNK_BUFCFG, 0, 13⟩
/-- R201. -/
def LNK_BUFFREE : Nat := 0x20080078
def LNK_BUFFREE_SLOT : Field := ⟨LNK_BUFFREE, 0, 12⟩
/-- R201. -/
def LNK_BUFSTAT : Nat := 0x2008007C
def LNK_BUFSTAT_FREE : Field := ⟨LNK_BUFSTAT, 0, 13⟩
/-- R201. -/
def LNK_UPDDATA (i : Nat) : Nat := 0x20080100 + 0x4 * i
def LNK_UPDDATA_DATA (i : Nat) : Field := ⟨(LNK_UPDDATA i), 0, 32⟩
/-- R201. -/
def LNK_EQBASE (n : Nat) : Nat := 0x20080200 + 0x10 * n
def LNK_EQBASE_BASE (n : Nat) : Field := ⟨(LNK_EQBASE n), 0, 32⟩
/-- R201. -/
def LNK_EQSIZE (n : Nat) : Nat := 0x20080204 + 0x10 * n
def LNK_EQSIZE_SIZE (n : Nat) : Field := ⟨(LNK_EQSIZE n), 0, 12⟩
/-- R201. -/
def LNK_EQHEAD (n : Nat) : Nat := 0x20080208 + 0x10 * n
def LNK_EQHEAD_HEAD (n : Nat) : Field := ⟨(LNK_EQHEAD n), 0, 12⟩
/-- R201. -/
def LNK_EQTAIL (n : Nat) : Nat := 0x2008020C + 0x10 * n
def LNK_EQTAIL_TAIL (n : Nat) : Field := ⟨(LNK_EQTAIL n), 0, 12⟩
/-- R201. -/
def LNK_LASTREJ : Nat := 0x20080340
def LNK_LASTREJ_NODE : Field := ⟨LNK_LASTREJ, 0, 14⟩
def LNK_LASTREJ_REASON : Field := ⟨LNK_LASTREJ, 16, 5⟩
/-- R232, shadowed (active value at + 0x8000). -/
def TXS_CTL : Nat := 0x20090000
def TXS_CTL_EN : Field := ⟨TXS_CTL, 0, 1⟩
def TXS_CTL_ACK_RSV : Field := ⟨TXS_CTL, 1, 7⟩
def TXS_CTL_PREP : Field := ⟨TXS_CTL, 8, 8⟩
/-- R232, shadowed (active value at + 0x8000). -/
def TXS_PWR : Nat := 0x20090004
def TXS_PWR_DEF_A : Field := ⟨TXS_PWR, 0, 8⟩
def TXS_PWR_DEF_B : Field := ⟨TXS_PWR, 8, 8⟩
/-- R232, shadowed (active value at + 0x8000). -/
def TXS_SLEEPY : Nat := 0x20090008
def TXS_SLEEPY_PHASE_AGE : Field := ⟨TXS_SLEEPY, 0, 12⟩
def TXS_SLEEPY_FORM_PREF : Field := ⟨TXS_SLEEPY, 12, 1⟩
def TXS_SLEEPY_GUARD : Field := ⟨TXS_SLEEPY, 16, 8⟩
def TXS_SLEEPY_SAMPLE : Field := ⟨TXS_SLEEPY, 24, 8⟩
/-- R232, shadowed (active value at + 0x8000). -/
def TXS_STROBE : Nat := 0x2009000C
def TXS_STROBE_GAP : Field := ⟨TXS_STROBE, 0, 16⟩
/-- R232, shadowed (active value at + 0x8000). -/
def TXS_HOPCTL : Nat := 0x20090010
def TXS_HOPCTL_EN : Field := ⟨TXS_HOPCTL, 0, 1⟩
def TXS_HOPCTL_LEN : Field := ⟨TXS_HOPCTL, 1, 8⟩
def TXS_HOPCTL_DWELL : Field := ⟨TXS_HOPCTL, 9, 6⟩
def TXS_HOPCTL_OCC_MAX : Field := ⟨TXS_HOPCTL, 16, 12⟩
/-- R232. -/
def TXS_HOPSTAT : Nat := 0x20090014
def TXS_HOPSTAT_POS : Field := ⟨TXS_HOPSTAT, 0, 7⟩
def TXS_HOPSTAT_BIN : Field := ⟨TXS_HOPSTAT, 8, 8⟩
/-- R232. -/
def TXS_DUTYCTL : Nat := 0x20090018
def TXS_DUTYCTL_CLEAR : Field := ⟨TXS_DUTYCTL, 0, 1⟩
def TXS_DUTYCTL_RESTORED : Field := ⟨TXS_DUTYCTL, 1, 1⟩
def TXS_DUTYCTL_INVALID : Field := ⟨TXS_DUTYCTL, 2, 1⟩
def TXS_DUTYCTL_CLEAR_REFUSED : Field := ⟨TXS_DUTYCTL, 3, 1⟩
def TXS_DUTYCTL_MIRROR_EN : Field := ⟨TXS_DUTYCTL, 4, 1⟩
def TXS_DUTYCTL_SEQ : Field := ⟨TXS_DUTYCTL, 16, 16⟩
/-- R232. -/
def TXS_STAT : Nat := 0x2009001C
def TXS_STAT_PEND : Field := ⟨TXS_STAT, 0, 14⟩
def TXS_STAT_SCHED : Field := ⟨TXS_STAT, 16, 7⟩
/-- R232. -/
def TXS_DUTYACC (a : Nat) : Nat := 0x20090020 + 0x8 * a
def TXS_DUTYACC_USED (a : Nat) : Field := ⟨(TXS_DUTYACC a), 0, 20⟩
def TXS_DUTYACC_HELD (a : Nat) : Field := ⟨(TXS_DUTYACC a), 20, 1⟩
/-- R232. -/
def TXS_DUTYMIN (a : Nat) : Nat := 0x20090024 + 0x8 * a
def TXS_DUTYMIN_CUR (a : Nat) : Field := ⟨(TXS_DUTYMIN a), 0, 16⟩
def TXS_DUTYMIN_REFUSED (a : Nat) : Field := ⟨(TXS_DUTYMIN a), 16, 16⟩
/-- R232. -/
def TXS_QBASE (n : Nat) : Nat := 0x20090200 + 0x20 * n
def TXS_QBASE_BASE (n : Nat) : Field := ⟨(TXS_QBASE n), 0, 32⟩
/-- R232. -/
def TXS_QSIZE (n : Nat) : Nat := 0x20090204 + 0x20 * n
def TXS_QSIZE_SIZE (n : Nat) : Field := ⟨(TXS_QSIZE n), 0, 12⟩
/-- R232. -/
def TXS_QHEAD (n : Nat) : Nat := 0x20090208 + 0x20 * n
def TXS_QHEAD_HEAD (n : Nat) : Field := ⟨(TXS_QHEAD n), 0, 12⟩
/-- R232. -/
def TXS_QTAIL (n : Nat) : Nat := 0x2009020C + 0x20 * n
def TXS_QTAIL_TAIL (n : Nat) : Field := ⟨(TXS_QTAIL n), 0, 12⟩
/-- R232. -/
def TXS_RBASE (n : Nat) : Nat := 0x20090210 + 0x20 * n
def TXS_RBASE_BASE (n : Nat) : Field := ⟨(TXS_RBASE n), 0, 32⟩
/-- R232. -/
def TXS_RSIZE (n : Nat) : Nat := 0x20090214 + 0x20 * n
def TXS_RSIZE_SIZE (n : Nat) : Field := ⟨(TXS_RSIZE n), 0, 12⟩
/-- R232. -/
def TXS_RHEAD (n : Nat) : Nat := 0x20090218 + 0x20 * n
def TXS_RHEAD_HEAD (n : Nat) : Field := ⟨(TXS_RHEAD n), 0, 12⟩
/-- R232. -/
def TXS_RTAIL (n : Nat) : Nat := 0x2009021C + 0x20 * n
def TXS_RTAIL_TAIL (n : Nat) : Field := ⟨(TXS_RTAIL n), 0, 12⟩
/-- R232. -/
def TXS_DEAFMAP (w : Nat) : Nat := 0x20090400 + 0x4 * w
def TXS_DEAFMAP_MAP (w : Nat) : Field := ⟨(TXS_DEAFMAP w), 0, 32⟩
/-- R232. -/
def TXS_DEAF (k : Nat) : Nat := 0x20091000 + 0x4 * k
def TXS_DEAF_US (k : Nat) : Field := ⟨(TXS_DEAF k), 0, 32⟩
/-- R251, shadowed (active value at + 0x8000). -/
def FLD_CTL : Nat := 0x200A0000
def FLD_CTL_EN : Field := ⟨FLD_CTL, 0, 1⟩
def FLD_CTL_PUB_EN : Field := ⟨FLD_CTL, 1, 1⟩
def FLD_CTL_IMPORT_EN : Field := ⟨FLD_CTL, 2, 1⟩
def FLD_CTL_SUPPRESS : Field := ⟨FLD_CTL, 4, 4⟩
def FLD_CTL_DISPATCH : Field := ⟨FLD_CTL, 8, 8⟩
def FLD_CTL_TTL_MAX : Field := ⟨FLD_CTL, 16, 8⟩
/-- R251, shadowed (active value at + 0x8000). -/
def FLD_JIT : Nat := 0x200A0004
def FLD_JIT_DEF_WIN : Field := ⟨FLD_JIT, 0, 7⟩
def FLD_JIT_MAX_WIN : Field := ⟨FLD_JIT, 8, 7⟩
/-- R251, shadowed (active value at + 0x8000). -/
def FLD_SILT : Nat := 0x200A0008
def FLD_SILT_HOLD : Field := ⟨FLD_SILT, 0, 8⟩
/-- R251. -/
def FLD_CMD : Nat := 0x200A0010
def FLD_CMD_FLUSH : Field := ⟨FLD_CMD, 0, 1⟩
def FLD_CMD_IMPORT : Field := ⟨FLD_CMD, 1, 1⟩
def FLD_CMD_MARK : Field := ⟨FLD_CMD, 2, 1⟩
/-- R251. -/
def FLD_MARKL : Nat := 0x200A0014
def FLD_MARKL_ORIG_LO : Field := ⟨FLD_MARKL, 0, 32⟩
/-- R251. -/
def FLD_MARKH : Nat := 0x200A0018
def FLD_MARKH_ORIG_HI : Field := ⟨FLD_MARKH, 0, 32⟩
/-- R251. -/
def FLD_MARKSEQ : Nat := 0x200A001C
def FLD_MARKSEQ_SEQ : Field := ⟨FLD_MARKSEQ, 0, 16⟩
def FLD_MARKSEQ_TTL : Field := ⟨FLD_MARKSEQ, 16, 8⟩
/-- R251. -/
def FLD_STAT : Nat := 0x200A0020
def FLD_STAT_IMPORT : Field := ⟨FLD_STAT, 0, 2⟩
def FLD_STAT_MARK_OVR : Field := ⟨FLD_STAT, 2, 1⟩
def FLD_STAT_RELAYQ : Field := ⟨FLD_STAT, 4, 9⟩
def FLD_STAT_DSN : Field := ⟨FLD_STAT, 16, 8⟩
/-- R251. -/
def FLD_OCC : Nat := 0x200A0024
def FLD_OCC_LIVE : Field := ⟨FLD_OCC, 0, 17⟩
/-- R251. -/
def FLD_STAT2 : Nat := 0x200A0028
def FLD_STAT2_MYINDEX : Field := ⟨FLD_STAT2, 0, 11⟩
/-- R276. -/
def STK_CTL : Nat := 0x200B0000
def STK_CTL_JOINT_EN : Field := ⟨STK_CTL, 0, 1⟩
/-- R276. -/
def STK_ROLE : Nat := 0x200B0004
def STK_ROLE_MEMBER : Field := ⟨STK_ROLE, 0, 3⟩
def STK_ROLE_MEMBERS : Field := ⟨STK_ROLE, 3, 4⟩
def STK_ROLE_LEADER : Field := ⟨STK_ROLE, 7, 3⟩
def STK_ROLE_IN_STACK : Field := ⟨STK_ROLE, 10, 1⟩
def STK_ROLE_RING_EN : Field := ⟨STK_ROLE, 11, 2⟩
/-- R276. -/
def STK_STAT : Nat := 0x200B0008
def STK_STAT_RING0_UP : Field := ⟨STK_STAT, 0, 1⟩
def STK_STAT_RING1_UP : Field := ⟨STK_STAT, 1, 1⟩
def STK_STAT_LEADER_OK : Field := ⟨STK_STAT, 2, 1⟩
def STK_STAT_JOINT : Field := ⟨STK_STAT, 3, 1⟩
def STK_STAT_LEADERLOST : Field := ⟨STK_STAT, 4, 1⟩
def STK_STAT_SEEN : Field := ⟨STK_STAT, 8, 8⟩
/-- R276. -/
def STK_LOAD : Nat := 0x200B000C
def STK_LOAD_LOAD0 : Field := ⟨STK_LOAD, 0, 16⟩
def STK_LOAD_LOAD1 : Field := ⟨STK_LOAD, 16, 16⟩
/-- R276. -/
def STK_SKEW : Nat := 0x200B0010
def STK_SKEW_SKEW : Field := ⟨STK_SKEW, 0, 8⟩
/-- R278. -/
def VFB_CTL : Nat := 0x200C0000
def VFB_CTL_PTP_EN : Field := ⟨VFB_CTL, 0, 1⟩
def VFB_CTL_VLAN_EN : Field := ⟨VFB_CTL, 1, 1⟩
def VFB_CTL_VID : Field := ⟨VFB_CTL, 2, 12⟩
def VFB_CTL_PCP : Field := ⟨VFB_CTL, 14, 3⟩
def VFB_CTL_DOMAIN : Field := ⟨VFB_CTL, 17, 8⟩
/-- R278. -/
def VFB_CMD : Nat := 0x200C0004
def VFB_CMD_ORDER_GO : Field := ⟨VFB_CMD, 0, 1⟩
/-- R278. -/
def VFB_STAT : Nat := 0x200C0008
def VFB_STAT_STATE : Field := ⟨VFB_STAT, 0, 3⟩
def VFB_STAT_PORT0_UP : Field := ⟨VFB_STAT, 3, 1⟩
def VFB_STAT_PORT1_UP : Field := ⟨VFB_STAT, 4, 1⟩
def VFB_STAT_TPORT : Field := ⟨VFB_STAT, 5, 1⟩
def VFB_STAT_ORDER_REFUSED : Field := ⟨VFB_STAT, 6, 1⟩
def VFB_STAT_NORD : Field := ⟨VFB_STAT, 7, 3⟩
def VFB_STAT_TIME_UNSET : Field := ⟨VFB_STAT, 10, 1⟩
/-- R278. -/
def VFB_HOLDOVER : Nat := 0x200C000C
def VFB_HOLDOVER_HOLD : Field := ⟨VFB_HOLDOVER, 0, 1⟩
def VFB_HOLDOVER_ACTIVE : Field := ⟨VFB_HOLDOVER, 1, 1⟩
def VFB_HOLDOVER_COUNT : Field := ⟨VFB_HOLDOVER, 8, 8⟩
/-- R278. -/
def VFB_TIMEL : Nat := 0x200C0010
def VFB_TIMEL_TIME_LO : Field := ⟨VFB_TIMEL, 0, 32⟩
/-- R278. -/
def VFB_TIMEH : Nat := 0x200C0014
def VFB_TIMEH_TIME_HI : Field := ⟨VFB_TIMEH, 0, 32⟩
/-- R278. -/
def VFB_OFFSET : Nat := 0x200C0018
def VFB_OFFSET_NS : Field := ⟨VFB_OFFSET, 0, 32⟩
/-- R278. -/
def VFB_BCN : Nat := 0x200C001C
def VFB_BCN_BSEQ : Field := ⟨VFB_BCN, 0, 16⟩
def VFB_BCN_AGE : Field := ⟨VFB_BCN, 16, 16⟩
/-- R278. -/
def VFB_STEP : Nat := 0x200C0020
def VFB_STEP_NS : Field := ⟨VFB_STEP, 0, 32⟩
/-- R278. -/
def VFB_OMASK : Nat := 0x200C0030
def VFB_OMASK_REGIONS : Field := ⟨VFB_OMASK, 0, 32⟩
/-- R278. -/
def VFB_OEPL : Nat := 0x200C0034
def VFB_OEPL_EPOCH_LO : Field := ⟨VFB_OEPL, 0, 32⟩
/-- R278. -/
def VFB_OEPH : Nat := 0x200C0038
def VFB_OEPH_EPOCH_HI : Field := ⟨VFB_OEPH, 0, 9⟩
/-- R278. -/
def VFB_OBLDL : Nat := 0x200C003C
def VFB_OBLDL_BUILD_LO : Field := ⟨VFB_OBLDL, 0, 32⟩
/-- R278. -/
def VFB_OBLDH : Nat := 0x200C0040
def VFB_OBLDH_BUILD_HI : Field := ⟨VFB_OBLDH, 0, 32⟩
/-- R278. -/
def VFB_OSEQ : Nat := 0x200C0044
def VFB_OSEQ_SEQ : Field := ⟨VFB_OSEQ, 0, 32⟩
/-- R278. -/
def VFB_SQBASE : Nat := 0x200C0100
def VFB_SQBASE_BASE : Field := ⟨VFB_SQBASE, 0, 32⟩
/-- R278. -/
def VFB_SQSIZE : Nat := 0x200C0104
def VFB_SQSIZE_SIZE : Field := ⟨VFB_SQSIZE, 0, 12⟩
/-- R278. -/
def VFB_SQHEAD : Nat := 0x200C0108
def VFB_SQHEAD_HEAD : Field := ⟨VFB_SQHEAD, 0, 12⟩
/-- R278. -/
def VFB_SQTAIL : Nat := 0x200C010C
def VFB_SQTAIL_TAIL : Field := ⟨VFB_SQTAIL, 0, 12⟩
/-- R278. -/
def VFB_RRBASE : Nat := 0x200C0110
def VFB_RRBASE_BASE : Field := ⟨VFB_RRBASE, 0, 32⟩
/-- R278. -/
def VFB_RRSIZE : Nat := 0x200C0114
def VFB_RRSIZE_SIZE : Field := ⟨VFB_RRSIZE, 0, 12⟩
/-- R278. -/
def VFB_RRHEAD : Nat := 0x200C0118
def VFB_RRHEAD_HEAD : Field := ⟨VFB_RRHEAD, 0, 12⟩
/-- R278. -/
def VFB_RRTAIL : Nat := 0x200C011C
def VFB_RRTAIL_TAIL : Field := ⟨VFB_RRTAIL, 0, 12⟩
/-- R311. -/
def SYS_ENGCTL (n : Nat) : Nat := 0x20001000 + 0x40 * n
def SYS_ENGCTL_RUN (n : Nat) : Field := ⟨(SYS_ENGCTL n), 0, 1⟩
def SYS_ENGCTL_RESET (n : Nat) : Field := ⟨(SYS_ENGCTL n), 1, 1⟩
def SYS_ENGCTL_MODE (n : Nat) : Field := ⟨(SYS_ENGCTL n), 2, 1⟩
def SYS_ENGCTL_WORLD (n : Nat) : Field := ⟨(SYS_ENGCTL n), 3, 1⟩
/-- R311. -/
def SYS_ENGSTAT (n : Nat) : Nat := 0x20001004 + 0x40 * n
def SYS_ENGSTAT_STATE (n : Nat) : Field := ⟨(SYS_ENGSTAT n), 0, 3⟩
def SYS_ENGSTAT_INT_EN (n : Nat) : Field := ⟨(SYS_ENGSTAT n), 3, 1⟩
def SYS_ENGSTAT_IN_HANDLER (n : Nat) : Field := ⟨(SYS_ENGSTAT n), 4, 1⟩
def SYS_ENGSTAT_WORLD (n : Nat) : Field := ⟨(SYS_ENGSTAT n), 5, 1⟩
def SYS_ENGSTAT_STARTS (n : Nat) : Field := ⟨(SYS_ENGSTAT n), 8, 8⟩
/-- R311. -/
def SYS_ENGENTRY (n : Nat) : Nat := 0x20001008 + 0x40 * n
def SYS_ENGENTRY_ADDR (n : Nat) : Field := ⟨(SYS_ENGENTRY n), 0, 19⟩
/-- R311. -/
def SYS_ENGPC (n : Nat) : Nat := 0x2000100C + 0x40 * n
def SYS_ENGPC_PC (n : Nat) : Field := ⟨(SYS_ENGPC n), 0, 32⟩
/-- R311. -/
def SYS_ENGVEC (n : Nat) : Nat := 0x20001010 + 0x40 * n
def SYS_ENGVEC_BASE (n : Nat) : Field := ⟨(SYS_ENGVEC n), 4, 15⟩
/-- R311. -/
def SYS_ENGFAULT (n : Nat) : Nat := 0x20001014 + 0x40 * n
def SYS_ENGFAULT_CAUSE (n : Nat) : Field := ⟨(SYS_ENGFAULT n), 0, 3⟩
def SYS_ENGFAULT_DOUBLE (n : Nat) : Field := ⟨(SYS_ENGFAULT n), 3, 1⟩
def SYS_ENGFAULT_COUNT (n : Nat) : Field := ⟨(SYS_ENGFAULT n), 8, 8⟩
/-- R311. -/
def SYS_ENGFADDR (n : Nat) : Nat := 0x20001018 + 0x40 * n
def SYS_ENGFADDR_ADDR (n : Nat) : Field := ⟨(SYS_ENGFADDR n), 0, 32⟩
/-- R311. -/
def SYS_ENGFPC (n : Nat) : Nat := 0x2000101C + 0x40 * n
def SYS_ENGFPC_PC (n : Nat) : Field := ⟨(SYS_ENGFPC n), 0, 32⟩
/-- R311. -/
def SYS_ENGWDT (n : Nat) : Nat := 0x20001020 + 0x40 * n
def SYS_ENGWDT_LIMIT (n : Nat) : Field := ⟨(SYS_ENGWDT n), 0, 24⟩
/-- R311. -/
def SYS_ENGKICK (n : Nat) : Nat := 0x20001024 + 0x40 * n
def SYS_ENGKICK_KICK (n : Nat) : Field := ⟨(SYS_ENGKICK n), 0, 32⟩
/-- R311. -/
def SYS_ENGREC (n : Nat) : Nat := 0x20001028 + 0x40 * n
def SYS_ENGREC_WORD (n : Nat) : Field := ⟨(SYS_ENGREC n), 0, 14⟩
/-- R312. -/
def SYS_ENGLOCK : Nat := 0x20001300
def SYS_ENGLOCK_WORLD_LOCK : Field := ⟨SYS_ENGLOCK, 0, 1⟩
/-- R312. -/
def SYS_SRLSTAT : Nat := 0x20001400
def SYS_SRLSTAT_STATE : Field := ⟨SYS_SRLSTAT, 0, 3⟩
def SYS_SRLSTAT_LEAD_DOWN : Field := ⟨SYS_SRLSTAT, 3, 1⟩
def SYS_SRLSTAT_AUTONOMY_OVER : Field := ⟨SYS_SRLSTAT, 4, 1⟩
def SYS_SRLSTAT_REFUSED : Field := ⟨SYS_SRLSTAT, 5, 1⟩
def SYS_SRLSTAT_LAST_DOWN : Field := ⟨SYS_SRLSTAT, 16, 16⟩
/-- R312. -/
def SYS_SRLCMD : Nat := 0x20001404
def SYS_SRLCMD_LEAD_RELOAD : Field := ⟨SYS_SRLCMD, 0, 1⟩
def SYS_SRLCMD_SLOT : Field := ⟨SYS_SRLCMD, 1, 2⟩
def SYS_SRLCMD_LEAD_READY : Field := ⟨SYS_SRLCMD, 3, 1⟩
/-- R359. -/
def EVT_CTL : Nat := 0x200D0000
def EVT_CTL_EN : Field := ⟨EVT_CTL, 0, 1⟩
/-- R359. -/
def EVT_LOOP : Nat := 0x200D0004
def EVT_LOOP_CHANNEL : Field := ⟨EVT_LOOP, 0, 8⟩
def EVT_LOOP_FLAG : Field := ⟨EVT_LOOP, 8, 1⟩
def EVT_LOOP_COUNT : Field := ⟨EVT_LOOP, 16, 16⟩
/-- R359. -/
def EVT_SWTRIG : Nat := 0x200D0008
def EVT_SWTRIG_CHANNEL : Field := ⟨EVT_SWTRIG, 0, 8⟩
def EVT_SWTRIG_PAYLOAD : Field := ⟨EVT_SWTRIG, 16, 16⟩
/-- R359. -/
def EVT_KILLHOLD : Nat := 0x200D000C
def EVT_KILLHOLD_US : Field := ⟨EVT_KILLHOLD, 0, 16⟩
/-- R359. -/
def EVT_PCFG : Nat := 0x200D0010
def EVT_PCFG_COMMIT : Field := ⟨EVT_PCFG, 0, 8⟩
def EVT_PCFG_ENGINES : Field := ⟨EVT_PCFG, 8, 12⟩
/-- R359. -/
def EVT_FLAG (w : Nat) : Nat := 0x200D0020 + 0x4 * w
def EVT_FLAG_FLAG (w : Nat) : Field := ⟨(EVT_FLAG w), 0, 32⟩
/-- R359. -/
def EVT_PMAT (k : Nat) (w : Nat) : Nat := 0x200D0100 + 0x20 * k + 0x4 * w
def EVT_PMAT_EN (k : Nat) (w : Nat) : Field := ⟨(EVT_PMAT k w), 0, 32⟩
/-- R359. -/
def EVT_PCNT (k : Nat) : Nat := 0x200D0300 + 0x4 * k
def EVT_PCNT_ACT (k : Nat) : Field := ⟨(EVT_PCNT k), 0, 16⟩
def EVT_PCNT_MERGED (k : Nat) : Field := ⟨(EVT_PCNT k), 16, 16⟩
/-- R359. -/
def EVT_RELAY (k : Nat) : Nat := 0x200D0380 + 0x4 * k
def EVT_RELAY_DELAY (k : Nat) : Field := ⟨(EVT_RELAY k), 0, 16⟩
/-- R359. -/
def EVT_PROD (p : Nat) : Nat := 0x200D1000 + 0x4 * p
def EVT_PROD_CH (p : Nat) : Field := ⟨(EVT_PROD p), 0, 8⟩
def EVT_PROD_EN (p : Nat) : Field := ⟨(EVT_PROD p), 8, 1⟩
/-- R359. -/
def EVT_TASK (c : Nat) : Nat := 0x200D2000 + 0x4 * c
def EVT_TASK_CH (c : Nat) : Field := ⟨(EVT_TASK c), 0, 8⟩
def EVT_TASK_EN (c : Nat) : Field := ⟨(EVT_TASK c), 8, 1⟩
/-- R359. -/
def EVT_TCNT (c : Nat) : Nat := 0x200D3000 + 0x4 * c
def EVT_TCNT_ACT (c : Nat) : Field := ⟨(EVT_TCNT c), 0, 16⟩
def EVT_TCNT_MERGED (c : Nat) : Field := ⟨(EVT_TCNT c), 16, 16⟩
/-- R359. -/
def EVT_CHOWN (n : Nat) : Nat := 0x200D4000 + 0x4 * n
def EVT_CHOWN_OWNER (n : Nat) : Field := ⟨(EVT_CHOWN n), 0, 5⟩
def EVT_CHOWN_SECURE (n : Nat) : Field := ⟨(EVT_CHOWN n), 5, 1⟩
/-- R360. -/
def IRQ_RBASE (r : Nat) : Nat := 0x200E0000 + 0x10 * r
def IRQ_RBASE_BASE (r : Nat) : Field := ⟨(IRQ_RBASE r), 0, 32⟩
/-- R360. -/
def IRQ_RSIZE (r : Nat) : Nat := 0x200E0004 + 0x10 * r
def IRQ_RSIZE_SIZE (r : Nat) : Field := ⟨(IRQ_RSIZE r), 0, 12⟩
/-- R360. -/
def IRQ_RHEAD (r : Nat) : Nat := 0x200E0008 + 0x10 * r
def IRQ_RHEAD_HEAD (r : Nat) : Field := ⟨(IRQ_RHEAD r), 0, 12⟩
/-- R360. -/
def IRQ_RTAIL (r : Nat) : Nat := 0x200E000C + 0x10 * r
def IRQ_RTAIL_TAIL (r : Nat) : Field := ⟨(IRQ_RTAIL r), 0, 12⟩
/-- R360. -/
def IRQ_HBASEH : Nat := 0x200E00E0
def IRQ_HBASEH_BASE_HI : Field := ⟨IRQ_HBASEH, 0, 32⟩
/-- R360. -/
def IRQ_RSTAT (r : Nat) : Nat := 0x200E0100 + 0x4 * r
def IRQ_RSTAT_OVF (r : Nat) : Field := ⟨(IRQ_RSTAT r), 0, 1⟩
def IRQ_RSTAT_LEVEL (r : Nat) : Field := ⟨(IRQ_RSTAT r), 1, 1⟩
def IRQ_RSTAT_DROP (r : Nat) : Field := ⟨(IRQ_RSTAT r), 16, 16⟩
/-- R360. -/
def IRQ_PINCFG0 : Nat := 0x200E0200
def IRQ_PINCFG0_GPIO (n : Nat) : Field := ⟨IRQ_PINCFG0, 2 * n + 0, 2⟩
/-- R360. -/
def IRQ_PINCFG1 : Nat := 0x200E0204
def IRQ_PINCFG1_CORE_SAMPLE : Field := ⟨IRQ_PINCFG1, 0, 2⟩
def IRQ_PINCFG1_PMB_ALERT : Field := ⟨IRQ_PINCFG1, 2, 2⟩
/-- R360. -/
def IRQ_ALATCH : Nat := 0x200E0208
def IRQ_ALATCH_GPIO : Field := ⟨IRQ_ALATCH, 0, 16⟩
def IRQ_ALATCH_CORE_SAMPLE : Field := ⟨IRQ_ALATCH, 16, 1⟩
def IRQ_ALATCH_PMB_ALERT : Field := ⟨IRQ_ALATCH, 17, 1⟩
/-- R360. -/
def IRQ_SRC (s : Nat) : Nat := 0x200E1000 + 0x4 * s
def IRQ_SRC_DEST (s : Nat) : Field := ⟨(IRQ_SRC s), 0, 14⟩
def IRQ_SRC_COUNT_MAX (s : Nat) : Field := ⟨(IRQ_SRC s), 16, 8⟩
def IRQ_SRC_TIME (s : Nat) : Field := ⟨(IRQ_SRC s), 24, 8⟩
/-- R361. -/
def MBX_SLOT (e : Nat) (w : Nat) : Nat := 0x200F0000 + 0x1000 * e + 0x4 * w
def MBX_SLOT_DATA (e : Nat) (w : Nat) : Field := ⟨(MBX_SLOT e w), 0, 32⟩
/-- R361. -/
def MBX_STAGE (e : Nat) (w : Nat) : Nat := 0x200F0200 + 0x1000 * e + 0x4 * w
def MBX_STAGE_DATA (e : Nat) (w : Nat) : Field := ⟨(MBX_STAGE e w), 0, 32⟩
/-- R361. -/
def MBX_SEND (e : Nat) : Nat := 0x200F0240 + 0x1000 * e
def MBX_SEND_EP (e : Nat) : Field := ⟨(MBX_SEND e), 0, 5⟩
def MBX_SEND_SCOPE (e : Nat) : Field := ⟨(MBX_SEND e), 5, 2⟩
def MBX_SEND_MEMBER (e : Nat) : Field := ⟨(MBX_SEND e), 7, 3⟩
def MBX_SEND_DEVICE (e : Nat) : Field := ⟨(MBX_SEND e), 10, 11⟩
def MBX_SEND_SLOT (e : Nat) : Field := ⟨(MBX_SEND e), 21, 4⟩
def MBX_SEND_DB (e : Nat) : Field := ⟨(MBX_SEND e), 25, 5⟩
def MBX_SEND_DB_EN (e : Nat) : Field := ⟨(MBX_SEND e), 30, 1⟩
/-- R361. -/
def MBX_SENDTAG (e : Nat) : Nat := 0x200F0244 + 0x1000 * e
def MBX_SENDTAG_TAG (e : Nat) : Field := ⟨(MBX_SENDTAG e), 0, 16⟩
/-- R361. -/
def MBX_SENDSTAT (e : Nat) : Nat := 0x200F0248 + 0x1000 * e
def MBX_SENDSTAT_BUSY (e : Nat) : Field := ⟨(MBX_SENDSTAT e), 0, 1⟩
def MBX_SENDSTAT_RESULT (e : Nat) : Field := ⟨(MBX_SENDSTAT e), 1, 3⟩
def MBX_SENDSTAT_OVERRUN (e : Nat) : Field := ⟨(MBX_SENDSTAT e), 4, 1⟩
def MBX_SENDSTAT_ERRKIND (e : Nat) : Field := ⟨(MBX_SENDSTAT e), 5, 3⟩
def MBX_SENDSTAT_SLOT (e : Nat) : Field := ⟨(MBX_SENDSTAT e), 8, 3⟩
def MBX_SENDSTAT_TAG (e : Nat) : Field := ⟨(MBX_SENDSTAT e), 16, 16⟩
/-- R361. -/
def MBX_FULL (e : Nat) : Nat := 0x200F024C + 0x1000 * e
def MBX_FULL_FULL (e : Nat) : Field := ⟨(MBX_FULL e), 0, 8⟩
/-- R361. -/
def MBX_DB (e : Nat) : Nat := 0x200F0250 + 0x1000 * e
def MBX_DB_DB (e : Nat) : Field := ⟨(MBX_DB e), 0, 32⟩
/-- R361. -/
def MBX_DBMASK (e : Nat) : Nat := 0x200F0254 + 0x1000 * e
def MBX_DBMASK_MASK (e : Nat) : Field := ⟨(MBX_DBMASK e), 0, 32⟩
/-- R361. -/
def MBX_ABORT (e : Nat) : Nat := 0x200F0258 + 0x1000 * e
def MBX_ABORT_TAG (e : Nat) : Field := ⟨(MBX_ABORT e), 0, 16⟩
def MBX_ABORT_COUNT (e : Nat) : Field := ⟨(MBX_ABORT e), 16, 8⟩
/-- R361. -/
def MBX_SRC (e : Nat) (s : Nat) : Nat := 0x200F0260 + 0x1000 * e + 0x8 * s
def MBX_SRC_EP (e : Nat) (s : Nat) : Field := ⟨(MBX_SRC e s), 0, 5⟩
def MBX_SRC_SCOPE (e : Nat) (s : Nat) : Field := ⟨(MBX_SRC e s), 5, 2⟩
def MBX_SRC_MEMBER (e : Nat) (s : Nat) : Field := ⟨(MBX_SRC e s), 7, 3⟩
def MBX_SRC_DEVICE (e : Nat) (s : Nat) : Field := ⟨(MBX_SRC e s), 10, 11⟩
/-- R361. -/
def MBX_SRCTAG (e : Nat) (s : Nat) : Nat := 0x200F0264 + 0x1000 * e + 0x8 * s
def MBX_SRCTAG_TAG (e : Nat) (s : Nat) : Field := ⟨(MBX_SRCTAG e s), 0, 16⟩
/-- R361. -/
def MBX_CNT (e : Nat) : Nat := 0x200F02A0 + 0x1000 * e
def MBX_CNT_LATEREPLY (e : Nat) : Field := ⟨(MBX_CNT e), 0, 16⟩
def MBX_CNT_FRAGDROP (e : Nat) : Field := ⟨(MBX_CNT e), 16, 16⟩
/-- R361. -/
def MBX_CTL : Nat := 0x200FF000
def MBX_CTL_TIMEOUT : Field := ⟨MBX_CTL, 0, 8⟩
/-- R361. -/
def MBX_PEERRST : Nat := 0x200FF004
def MBX_PEERRST_INDEX : Field := ⟨MBX_PEERRST, 0, 11⟩
def MBX_PEERRST_FLAG : Field := ⟨MBX_PEERRST, 15, 1⟩
/-- R374. -/
def TMR_CTL (n : Nat) : Nat := 0x20100000 + 0x20 * n
def TMR_CTL_RUN (n : Nat) : Field := ⟨(TMR_CTL n), 0, 1⟩
def TMR_CTL_SRC (n : Nat) : Field := ⟨(TMR_CTL n), 1, 1⟩
def TMR_CTL_PRESC (n : Nat) : Field := ⟨(TMR_CTL n), 2, 4⟩
def TMR_CTL_AUTO (n : Nat) : Field := ⟨(TMR_CTL n), 6, 1⟩
def TMR_CTL_CMPHI (n : Nat) : Field := ⟨(TMR_CTL n), 7, 1⟩
def TMR_CTL_EV_MATCH (n : Nat) : Field := ⟨(TMR_CTL n), 8, 1⟩
def TMR_CTL_EV_OVF (n : Nat) : Field := ⟨(TMR_CTL n), 9, 1⟩
def TMR_CTL_GRPLEAD (n : Nat) : Field := ⟨(TMR_CTL n), 10, 1⟩
def TMR_CTL_GROUP (n : Nat) : Field := ⟨(TMR_CTL n), 11, 2⟩
def TMR_CTL_GRP_EN (n : Nat) : Field := ⟨(TMR_CTL n), 13, 1⟩
/-- R374. -/
def TMR_CNT (n : Nat) : Nat := 0x20100004 + 0x20 * n
def TMR_CNT_COUNT (n : Nat) : Field := ⟨(TMR_CNT n), 0, 32⟩
/-- R374. -/
def TMR_CMP (n : Nat) : Nat := 0x20100008 + 0x20 * n
def TMR_CMP_CMP (n : Nat) : Field := ⟨(TMR_CMP n), 0, 32⟩
/-- R374. -/
def TMR_PER (n : Nat) : Nat := 0x2010000C + 0x20 * n
def TMR_PER_PER (n : Nat) : Field := ⟨(TMR_PER n), 0, 32⟩
/-- R374. -/
def TMR_PHASE (n : Nat) : Nat := 0x20100010 + 0x20 * n
def TMR_PHASE_PHASE (n : Nat) : Field := ⟨(TMR_PHASE n), 0, 32⟩
/-- R374. -/
def TMR_CAP (n : Nat) : Nat := 0x20100014 + 0x20 * n
def TMR_CAP_CAP (n : Nat) : Field := ⟨(TMR_CAP n), 0, 32⟩
/-- R374. -/
def TMR_STAT (n : Nat) : Nat := 0x20100018 + 0x20 * n
def TMR_STAT_MATCH (n : Nat) : Field := ⟨(TMR_STAT n), 0, 1⟩
def TMR_STAT_OVF (n : Nat) : Field := ⟨(TMR_STAT n), 1, 1⟩
def TMR_STAT_CAPT (n : Nat) : Field := ⟨(TMR_STAT n), 2, 1⟩
def TMR_STAT_LOWWORD (n : Nat) : Field := ⟨(TMR_STAT n), 3, 1⟩
/-- R374. -/
def TMR_GRPCMD : Nat := 0x20100400
def TMR_GRPCMD_LOAD : Field := ⟨TMR_GRPCMD, 0, 4⟩
def TMR_GRPCMD_STOP : Field := ⟨TMR_GRPCMD, 4, 4⟩
/-- R383. -/
def RTC_SUBSEC : Nat := 0x20110000
def RTC_SUBSEC_SUBSEC : Field := ⟨RTC_SUBSEC, 0, 15⟩
/-- R383. -/
def RTC_SEC : Nat := 0x20110004
def RTC_SEC_SEC : Field := ⟨RTC_SEC, 0, 6⟩
/-- R383. -/
def RTC_MIN : Nat := 0x20110008
def RTC_MIN_MIN : Field := ⟨RTC_MIN, 0, 6⟩
/-- R383. -/
def RTC_HOUR : Nat := 0x2011000C
def RTC_HOUR_HOUR : Field := ⟨RTC_HOUR, 0, 5⟩
/-- R383. -/
def RTC_DAY : Nat := 0x20110010
def RTC_DAY_DAY : Field := ⟨RTC_DAY, 0, 5⟩
def RTC_DAY_WDAY : Field := ⟨RTC_DAY, 8, 3⟩
/-- R383. -/
def RTC_MONTH : Nat := 0x20110014
def RTC_MONTH_MONTH : Field := ⟨RTC_MONTH, 0, 4⟩
/-- R383. -/
def RTC_YEAR : Nat := 0x20110018
def RTC_YEAR_YEAR : Field := ⟨RTC_YEAR, 0, 8⟩
/-- R383. -/
def RTC_SECS : Nat := 0x2011001C
def RTC_SECS_SECS : Field := ⟨RTC_SECS, 0, 32⟩
/-- R383. -/
def RTC_SECSH : Nat := 0x20110020
def RTC_SECSH_SECS32 : Field := ⟨RTC_SECSH, 0, 1⟩
/-- R383. -/
def RTC_WSHADOW (i : Nat) : Nat := 0x20110040 + 0x4 * i
def RTC_WSHADOW_VALUE (i : Nat) : Field := ⟨(RTC_WSHADOW i), 0, 8⟩
/-- R383. -/
def RTC_CMD : Nat := 0x20110060
def RTC_CMD_APPLY : Field := ⟨RTC_CMD, 0, 1⟩
/-- R383. -/
def RTC_STAT : Nat := 0x20110064
def RTC_STAT_OSF : Field := ⟨RTC_STAT, 0, 1⟩
def RTC_STAT_OSC_OK : Field := ⟨RTC_STAT, 1, 1⟩
def RTC_STAT_FROZEN : Field := ⟨RTC_STAT, 2, 1⟩
def RTC_STAT_FREEZE_LAPSED : Field := ⟨RTC_STAT, 3, 1⟩
def RTC_STAT_APPLY_PEND : Field := ⟨RTC_STAT, 4, 1⟩
def RTC_STAT_APPLY_ERR : Field := ⟨RTC_STAT, 5, 1⟩
def RTC_STAT_ALARM : Field := ⟨RTC_STAT, 6, 1⟩
def RTC_STAT_ALARM_LATE : Field := ⟨RTC_STAT, 7, 1⟩
/-- R383. -/
def RTC_ALARM : Nat := 0x20110070
def RTC_ALARM_SECS : Field := ⟨RTC_ALARM, 0, 32⟩
/-- R383. -/
def RTC_ALARMH : Nat := 0x20110074
def RTC_ALARMH_SECS32 : Field := ⟨RTC_ALARMH, 0, 1⟩
/-- R383. -/
def RTC_ALMCTL : Nat := 0x20110078
def RTC_ALMCTL_ARMED : Field := ⟨RTC_ALMCTL, 0, 1⟩
def RTC_ALMCTL_WAKE_EN : Field := ⟨RTC_ALMCTL, 1, 1⟩
/-- R383. -/
def RTC_BRAM (w : Nat) : Nat := 0x20110100 + 0x4 * w
def RTC_BRAM_DATA (w : Nat) : Field := ⟨(RTC_BRAM w), 0, 32⟩
/-- R406. -/
def PWR_STATE : Nat := 0x20020000
def PWR_STATE_CUR : Field := ⟨PWR_STATE, 0, 3⟩
def PWR_STATE_REFUSED : Field := ⟨PWR_STATE, 3, 1⟩
/-- R406. -/
def PWR_STATECTL : Nat := 0x20020004
def PWR_STATECTL_REQ : Field := ⟨PWR_STATECTL, 0, 2⟩
def PWR_STATECTL_KEY : Field := ⟨PWR_STATECTL, 8, 8⟩
/-- R406. -/
def PWR_RAILSTAT : Nat := 0x20020008
def PWR_RAILSTAT_PRESENT : Field := ⟨PWR_RAILSTAT, 0, 7⟩
def PWR_RAILSTAT_VBAT_OK : Field := ⟨PWR_RAILSTAT, 7, 1⟩
def PWR_RAILSTAT_PGOOD : Field := ⟨PWR_RAILSTAT, 8, 1⟩
def PWR_RAILSTAT_REG_EN : Field := ⟨PWR_RAILSTAT, 9, 1⟩
/-- R406. -/
def PWR_PMBCFG : Nat := 0x20020010
def PWR_PMBCFG_ADDR : Field := ⟨PWR_PMBCFG, 0, 7⟩
def PWR_PMBCFG_FAST : Field := ⟨PWR_PMBCFG, 7, 1⟩
def PWR_PMBCFG_PEC : Field := ⟨PWR_PMBCFG, 8, 1⟩
def PWR_PMBCFG_PAGES : Field := ⟨PWR_PMBCFG, 9, 4⟩
def PWR_PMBCFG_CORE_PAGE : Field := ⟨PWR_PMBCFG, 13, 3⟩
def PWR_PMBCFG_OFF_AT_DORMANT : Field := ⟨PWR_PMBCFG, 16, 1⟩
/-- R406. -/
def PWR_PMBCMD : Nat := 0x20020014
def PWR_PMBCMD_CODE : Field := ⟨PWR_PMBCMD, 0, 8⟩
def PWR_PMBCMD_PAGE : Field := ⟨PWR_PMBCMD, 8, 3⟩
def PWR_PMBCMD_LEN : Field := ⟨PWR_PMBCMD, 11, 2⟩
def PWR_PMBCMD_READ : Field := ⟨PWR_PMBCMD, 13, 1⟩
def PWR_PMBCMD_GO : Field := ⟨PWR_PMBCMD, 14, 1⟩
/-- R406. -/
def PWR_PMBDATA : Nat := 0x20020018
def PWR_PMBDATA_DATA : Field := ⟨PWR_PMBDATA, 0, 16⟩
/-- R406. -/
def PWR_PMBSTAT : Nat := 0x2002001C
def PWR_PMBSTAT_BUSY : Field := ⟨PWR_PMBSTAT, 0, 1⟩
def PWR_PMBSTAT_RESULT : Field := ⟨PWR_PMBSTAT, 1, 3⟩
def PWR_PMBSTAT_OVERRUN : Field := ⟨PWR_PMBSTAT, 4, 1⟩
def PWR_PMBSTAT_ALERT : Field := ⟨PWR_PMBSTAT, 5, 1⟩
def PWR_PMBSTAT_STATUS : Field := ⟨PWR_PMBSTAT, 16, 16⟩
/-- R406. -/
def PWR_AVS : Nat := 0x20020020
def PWR_AVS_EN : Field := ⟨PWR_AVS, 0, 1⟩
def PWR_AVS_FLOOR : Field := ⟨PWR_AVS, 8, 8⟩
def PWR_AVS_CEIL : Field := ⟨PWR_AVS, 16, 8⟩
def PWR_AVS_QUIET_OFS : Field := ⟨PWR_AVS, 24, 8⟩
/-- R406. -/
def PWR_AVSSTAT : Nat := 0x20020024
def PWR_AVSSTAT_SET : Field := ⟨PWR_AVSSTAT, 0, 8⟩
def PWR_AVSSTAT_MARGIN : Field := ⟨PWR_AVSSTAT, 8, 8⟩
def PWR_AVSSTAT_FAILS : Field := ⟨PWR_AVSSTAT, 16, 8⟩
def PWR_AVSSTAT_HELD : Field := ⟨PWR_AVSSTAT, 24, 1⟩
/-- R406. -/
def PWR_RSTCFG : Nat := 0x20020030
def PWR_RSTCFG_PERST_DEV : Field := ⟨PWR_RSTCFG, 0, 1⟩
/-- R406. -/
def PWR_RSTCMD : Nat := 0x20020034
def PWR_RSTCMD_KEY : Field := ⟨PWR_RSTCMD, 0, 8⟩
/-- R406. -/
def PWR_WDT : Nat := 0x20020038
def PWR_WDT_LIMIT : Field := ⟨PWR_WDT, 0, 16⟩
def PWR_WDT_LOCK : Field := ⟨PWR_WDT, 16, 1⟩
/-- R406. -/
def PWR_WDTKICK : Nat := 0x2002003C
def PWR_WDTKICK_KICK : Field := ⟨PWR_WDTKICK, 0, 32⟩
/-- R406. -/
def PWR_STEPTO : Nat := 0x20020040
def PWR_STEPTO_TIMEOUT : Field := ⟨PWR_STEPTO, 0, 10⟩
/-- R406. -/
def PWR_WAKECFG : Nat := 0x20020050
def PWR_WAKECFG_ADDR : Field := ⟨PWR_WAKECFG, 0, 7⟩
def PWR_WAKECFG_EN : Field := ⟨PWR_WAKECFG, 7, 1⟩
def PWR_WAKECFG_ACK_AWAKE : Field := ⟨PWR_WAKECFG, 8, 1⟩
/-- R406. -/
def PWR_WAKESTAT : Nat := 0x20020054
def PWR_WAKESTAT_MATCHED : Field := ⟨PWR_WAKESTAT, 0, 1⟩
def PWR_WAKESTAT_COUNT : Field := ⟨PWR_WAKESTAT, 8, 8⟩
/-- R406. -/
def PWR_STEPTIME (i : Nat) : Nat := 0x20020080 + 0x4 * i
def PWR_STEPTIME_US (i : Nat) : Field := ⟨(PWR_STEPTIME i), 0, 24⟩
/-- R407. -/
def SYS_RSTCAUSE : Nat := 0x20000050
def SYS_RSTCAUSE_POR : Field := ⟨SYS_RSTCAUSE, 0, 1⟩
def SYS_RSTCAUSE_BROWNOUT : Field := ⟨SYS_RSTCAUSE, 1, 1⟩
def SYS_RSTCAUSE_WAKE : Field := ⟨SYS_RSTCAUSE, 2, 1⟩
def SYS_RSTCAUSE_PERST : Field := ⟨SYS_RSTCAUSE, 3, 1⟩
def SYS_RSTCAUSE_WDOG : Field := ⟨SYS_RSTCAUSE, 4, 1⟩
def SYS_RSTCAUSE_SOFT : Field := ⟨SYS_RSTCAUSE, 5, 1⟩
def SYS_RSTCAUSE_LIFECYCLE : Field := ⟨SYS_RSTCAUSE, 6, 1⟩
def SYS_RSTCAUSE_STARTFAIL : Field := ⟨SYS_RSTCAUSE, 7, 1⟩
def SYS_RSTCAUSE_WAKE_SRCS : Field := ⟨SYS_RSTCAUSE, 8, 3⟩
def SYS_RSTCAUSE_DORMANT_UNCONF : Field := ⟨SYS_RSTCAUSE, 11, 1⟩
def SYS_RSTCAUSE_RAILS : Field := ⟨SYS_RSTCAUSE, 12, 7⟩
def SYS_RSTCAUSE_COUNT : Field := ⟨SYS_RSTCAUSE, 24, 8⟩
/-- R424. -/
def FLC_CTL : Nat := 0x20120000
def FLC_CTL_EN : Field := ⟨FLC_CTL, 0, 1⟩
def FLC_CTL_WEAR_LEVEL : Field := ⟨FLC_CTL, 1, 3⟩
def FLC_CTL_ERASE_NOM : Field := ⟨FLC_CTL, 8, 8⟩
/-- R424. -/
def FLC_STAT : Nat := 0x20120004
def FLC_STAT_BUSY : Field := ⟨FLC_STAT, 0, 1⟩
def FLC_STAT_QUEUED : Field := ⟨FLC_STAT, 1, 4⟩
def FLC_STAT_LOAM_DEGRADED : Field := ⟨FLC_STAT, 5, 1⟩
/-- R424. -/
def FLC_WPROT : Nat := 0x20120010
def FLC_WPROT_IMAGE : Field := ⟨FLC_WPROT, 0, 4⟩
def FLC_WPROT_BSTREAM : Field := ⟨FLC_WPROT, 4, 2⟩
def FLC_WPROT_KEYBLOB : Field := ⟨FLC_WPROT, 6, 1⟩
def FLC_WPROT_GENERAL : Field := ⟨FLC_WPROT, 7, 1⟩
def FLC_WPROT_LOCK : Field := ⟨FLC_WPROT, 31, 1⟩
/-- R424. -/
def FLC_CMD (k : Nat) : Nat := 0x20120100 + 0x20 * k
def FLC_CMD_OP (k : Nat) : Field := ⟨(FLC_CMD k), 0, 4⟩
def FLC_CMD_SECTOR (k : Nat) : Field := ⟨(FLC_CMD k), 4, 10⟩
def FLC_CMD_PAGE (k : Nat) : Field := ⟨(FLC_CMD k), 14, 7⟩
def FLC_CMD_GO (k : Nat) : Field := ⟨(FLC_CMD k), 31, 1⟩
/-- R424. -/
def FLC_SRC (k : Nat) : Nat := 0x20120104 + 0x20 * k
def FLC_SRC_ADDR (k : Nat) : Field := ⟨(FLC_SRC k), 0, 32⟩
/-- R424. -/
def FLC_CSTAT (k : Nat) : Nat := 0x20120108 + 0x20 * k
def FLC_CSTAT_BUSY (k : Nat) : Field := ⟨(FLC_CSTAT k), 0, 1⟩
def FLC_CSTAT_RESULT (k : Nat) : Field := ⟨(FLC_CSTAT k), 1, 4⟩
def FLC_CSTAT_BLANK (k : Nat) : Field := ⟨(FLC_CSTAT k), 5, 1⟩
def FLC_CSTAT_OVERRUN (k : Nat) : Field := ⟨(FLC_CSTAT k), 6, 1⟩
def FLC_CSTAT_TIME (k : Nat) : Field := ⟨(FLC_CSTAT k), 16, 16⟩
/-- R424. -/
def FLC_TORN : Nat := 0x20120200
def FLC_TORN_COUNT : Field := ⟨FLC_TORN, 0, 11⟩
def FLC_TORN_LOAM : Field := ⟨FLC_TORN, 16, 1⟩
def FLC_TORN_SLOT : Field := ⟨FLC_TORN, 17, 1⟩
def FLC_TORN_OTHER : Field := ⟨FLC_TORN, 18, 1⟩
/-- R424. -/
def FLC_SLOTINV : Nat := 0x20120204
def FLC_SLOTINV_IMAGE : Field := ⟨FLC_SLOTINV, 0, 4⟩
def FLC_SLOTINV_BSTREAM : Field := ⟨FLC_SLOTINV, 4, 2⟩
/-- R424. -/
def FLC_TORNMAP (w : Nat) : Nat := 0x20120240 + 0x4 * w
def FLC_TORNMAP_MAP (w : Nat) : Field := ⟨(FLC_TORNMAP w), 0, 32⟩
/-- R424. -/
def FLC_WEAR : Nat := 0x20120300
def FLC_WEAR_WEAR : Field := ⟨FLC_WEAR, 0, 1⟩
def FLC_WEAR_KIND : Field := ⟨FLC_WEAR, 1, 2⟩
def FLC_WEAR_LEVEL : Field := ⟨FLC_WEAR, 4, 3⟩
def FLC_WEAR_SECTOR : Field := ⟨FLC_WEAR, 16, 10⟩
/-- R424. -/
def FLC_FORECAST : Nat := 0x20120304
def FLC_FORECAST_KWRITES : Field := ⟨FLC_FORECAST, 0, 24⟩
def FLC_FORECAST_LOGICAL : Field := ⟨FLC_FORECAST, 24, 2⟩
/-- R424. -/
def FLC_LOAMSTAT : Nat := 0x20120308
def FLC_LOAMSTAT_SPARES_LEFT : Field := ⟨FLC_LOAMSTAT, 0, 4⟩
def FLC_LOAMSTAT_READY : Field := ⟨FLC_LOAMSTAT, 4, 1⟩
def FLC_LOAMSTAT_RETIRED : Field := ⟨FLC_LOAMSTAT, 8, 8⟩
/-- R424. -/
def FLC_LOAMMAP (L : Nat) : Nat := 0x20120310 + 0x4 * L
def FLC_LOAMMAP_CUR (L : Nat) : Field := ⟨(FLC_LOAMMAP L), 0, 10⟩
def FLC_LOAMMAP_VALID (L : Nat) : Field := ⟨(FLC_LOAMMAP L), 10, 1⟩
def FLC_LOAMMAP_PSECT (L : Nat) : Field := ⟨(FLC_LOAMMAP L), 16, 10⟩
def FLC_LOAMMAP_PEND (L : Nat) : Field := ⟨(FLC_LOAMMAP L), 26, 1⟩
/-- R424. -/
def FLC_LOAMVER (L : Nat) : Nat := 0x20120320 + 0x4 * L
def FLC_LOAMVER_VERSION (L : Nat) : Field := ⟨(FLC_LOAMVER L), 0, 32⟩
/-- R449. -/
def KEY_LC : Nat := 0x20130000
def KEY_LC_STATE : Field := ⟨KEY_LC, 0, 3⟩
def KEY_LC_AUTH : Field := ⟨KEY_LC, 3, 1⟩
def KEY_LC_ROOT : Field := ⟨KEY_LC, 4, 1⟩
def KEY_LC_VENDOR : Field := ⟨KEY_LC, 5, 1⟩
/-- R449. -/
def KEY_LCCMD : Nat := 0x20130004
def KEY_LCCMD_TARGET : Field := ⟨KEY_LCCMD, 0, 3⟩
def KEY_LCCMD_KEY : Field := ⟨KEY_LCCMD, 8, 8⟩
/-- R449. -/
def KEY_STAT : Nat := 0x20130008
def KEY_STAT_LOADED : Field := ⟨KEY_STAT, 0, 1⟩
def KEY_STAT_ZEROIZING : Field := ⟨KEY_STAT, 1, 1⟩
def KEY_STAT_ENTROPY_FAIL : Field := ⟨KEY_STAT, 2, 1⟩
def KEY_STAT_LC_REFUSED : Field := ⟨KEY_STAT, 3, 1⟩
def KEY_STAT_KEYLOST : Field := ⟨KEY_STAT, 4, 1⟩
/-- R449. -/
def KEY_UPDADDR : Nat := 0x20130010
def KEY_UPDADDR_ADDR : Field := ⟨KEY_UPDADDR, 0, 32⟩
/-- R449. -/
def KEY_UPDCMD : Nat := 0x20130014
def KEY_UPDCMD_GO : Field := ⟨KEY_UPDCMD, 0, 1⟩
/-- R449. -/
def KEY_UPDSTAT : Nat := 0x20130018
def KEY_UPDSTAT_BUSY : Field := ⟨KEY_UPDSTAT, 0, 1⟩
def KEY_UPDSTAT_RESULT : Field := ⟨KEY_UPDSTAT, 1, 4⟩
def KEY_UPDSTAT_OVERRUN : Field := ⟨KEY_UPDSTAT, 5, 1⟩
def KEY_UPDSTAT_SLOT : Field := ⟨KEY_UPDSTAT, 8, 8⟩
/-- R449. -/
def KEY_CTRKU : Nat := 0x20130020
def KEY_CTRKU_VALUE : Field := ⟨KEY_CTRKU, 0, 32⟩
/-- R449. -/
def KEY_CTRBSVN : Nat := 0x20130024
def KEY_CTRBSVN_VALUE : Field := ⟨KEY_CTRBSVN, 0, 32⟩
/-- R449. -/
def KEY_CTRISVN : Nat := 0x20130028
def KEY_CTRISVN_VALUE : Field := ⟨KEY_CTRISVN, 0, 32⟩
/-- R449. -/
def KEY_ISVNADV : Nat := 0x2013002C
def KEY_ISVNADV_VALUE : Field := ⟨KEY_ISVNADV, 0, 32⟩
/-- R449. -/
def KEY_IDFP (i : Nat) : Nat := 0x20130040 + 0x4 * i
def KEY_IDFP_FP (i : Nat) : Field := ⟨(KEY_IDFP i), 0, 32⟩
/-- R449. -/
def KEY_IDPUB (i : Nat) : Nat := 0x20130060 + 0x4 * i
def KEY_IDPUB_PUB (i : Nat) : Field := ⟨(KEY_IDPUB i), 0, 32⟩
/-- R449. -/
def KEY_CNT (i : Nat) : Nat := 0x20130100 + 0x4 * i
def KEY_CNT_COUNT (i : Nat) : Field := ⟨(KEY_CNT i), 0, 32⟩
/-- R449. -/
def KEY_SLOTATTR (n : Nat) : Nat := 0x20130400 + 0x4 * n
def KEY_SLOTATTR_ATTR (n : Nat) : Field := ⟨(KEY_SLOTATTR n), 0, 32⟩
/-- R449. -/
def KEY_SLOTSTAT (n : Nat) : Nat := 0x20130800 + 0x4 * n
def KEY_SLOTSTAT_VALID (n : Nat) : Field := ⟨(KEY_SLOTSTAT n), 0, 1⟩
def KEY_SLOTSTAT_USABLE (n : Nat) : Field := ⟨(KEY_SLOTSTAT n), 1, 1⟩
def KEY_SLOTSTAT_LEN (n : Nat) : Field := ⟨(KEY_SLOTSTAT n), 2, 2⟩
def KEY_SLOTSTAT_ICV (n : Nat) : Field := ⟨(KEY_SLOTSTAT n), 4, 1⟩
def KEY_SLOTSTAT_RESWAIT (n : Nat) : Field := ⟨(KEY_SLOTSTAT n), 5, 1⟩
def KEY_SLOTSTAT_FC_EXHAUST (n : Nat) : Field := ⟨(KEY_SLOTSTAT n), 6, 1⟩
/-- R450. -/
def CPH_CMD (p : Nat) : Nat := 0x20140000 + 0x1000 * p
def CPH_CMD_OP (p : Nat) : Field := ⟨(CPH_CMD p), 0, 4⟩
def CPH_CMD_KEYSLOT (p : Nat) : Field := ⟨(CPH_CMD p), 8, 8⟩
def CPH_CMD_ROM (p : Nat) : Field := ⟨(CPH_CMD p), 16, 1⟩
def CPH_CMD_GO (p : Nat) : Field := ⟨(CPH_CMD p), 31, 1⟩
/-- R450. -/
def CPH_SRC (p : Nat) : Nat := 0x20140004 + 0x1000 * p
def CPH_SRC_ADDR (p : Nat) : Field := ⟨(CPH_SRC p), 0, 32⟩
/-- R450. -/
def CPH_DST (p : Nat) : Nat := 0x20140008 + 0x1000 * p
def CPH_DST_ADDR (p : Nat) : Field := ⟨(CPH_DST p), 0, 32⟩
/-- R450. -/
def CPH_LEN (p : Nat) : Nat := 0x2014000C + 0x1000 * p
def CPH_LEN_LEN (p : Nat) : Field := ⟨(CPH_LEN p), 0, 16⟩
/-- R450. -/
def CPH_PARAM (p : Nat) : Nat := 0x20140010 + 0x1000 * p
def CPH_PARAM_ADDR (p : Nat) : Field := ⟨(CPH_PARAM p), 0, 32⟩
/-- R450. -/
def CPH_STAT (p : Nat) : Nat := 0x20140014 + 0x1000 * p
def CPH_STAT_BUSY (p : Nat) : Field := ⟨(CPH_STAT p), 0, 1⟩
def CPH_STAT_RESULT (p : Nat) : Field := ⟨(CPH_STAT p), 1, 4⟩
def CPH_STAT_OVERRUN (p : Nat) : Field := ⟨(CPH_STAT p), 5, 1⟩
def CPH_STAT_OUTLEN (p : Nat) : Field := ⟨(CPH_STAT p), 16, 16⟩
/-- R450. -/
def CPH_STRCNT (p : Nat) : Nat := 0x20140020 + 0x1000 * p
def CPH_STRCNT_INUSE (p : Nat) : Field := ⟨(CPH_STRCNT p), 0, 8⟩
def CPH_STRCNT_NOCTX (p : Nat) : Field := ⟨(CPH_STRCNT p), 16, 16⟩
/-- R450. -/
def CPH_CTL : Nat := 0x2014F000
def CPH_CTL_EN : Field := ⟨CPH_CTL, 0, 1⟩
/-- R465. -/
def UPD_CTL : Nat := 0x20150000
def UPD_CTL_EN : Field := ⟨UPD_CTL, 0, 1⟩
/-- R465. -/
def UPD_WINBASE : Nat := 0x20150004
def UPD_WINBASE_BASE : Field := ⟨UPD_WINBASE, 0, 32⟩
/-- R465. -/
def UPD_WINLEN : Nat := 0x20150008
def UPD_WINLEN_BLOCKS : Field := ⟨UPD_WINLEN, 0, 11⟩
/-- R465. -/
def UPD_BLKCRC : Nat := 0x2015000C
def UPD_BLKCRC_CRC : Field := ⟨UPD_BLKCRC, 0, 32⟩
/-- R465. -/
def UPD_BLOCK : Nat := 0x20150010
def UPD_BLOCK_INDEX : Field := ⟨UPD_BLOCK, 0, 11⟩
/-- R465. -/
def UPD_RXSTAT : Nat := 0x20150014
def UPD_RXSTAT_RECEIVED : Field := ⟨UPD_RXSTAT, 0, 11⟩
def UPD_RXSTAT_COMPLETE : Field := ⟨UPD_RXSTAT, 16, 1⟩
/-- R465. -/
def UPD_CMD : Nat := 0x20150018
def UPD_CMD_OP : Field := ⟨UPD_CMD, 0, 3⟩
def UPD_CMD_KIND : Field := ⟨UPD_CMD, 3, 1⟩
def UPD_CMD_SLOT : Field := ⟨UPD_CMD, 4, 2⟩
def UPD_CMD_GO : Field := ⟨UPD_CMD, 31, 1⟩
/-- R465. -/
def UPD_STAT : Nat := 0x2015001C
def UPD_STAT_BUSY : Field := ⟨UPD_STAT, 0, 1⟩
def UPD_STAT_PHASE : Field := ⟨UPD_STAT, 1, 3⟩
def UPD_STAT_OVERRUN : Field := ⟨UPD_STAT, 4, 1⟩
def UPD_STAT_RESULT : Field := ⟨UPD_STAT, 8, 4⟩
def UPD_STAT_RUNSLOT : Field := ⟨UPD_STAT, 12, 2⟩
/-- R465. -/
def UPD_PROGRESS : Nat := 0x20150020
def UPD_PROGRESS_OUT : Field := ⟨UPD_PROGRESS, 0, 23⟩
/-- R465. -/
def UPD_SLOTSTAT (i : Nat) : Nat := 0x20150040 + 0x4 * i
def UPD_SLOTSTAT_STATE (i : Nat) : Field := ⟨(UPD_SLOTSTAT i), 0, 3⟩
def UPD_SLOTSTAT_AUTH (i : Nat) : Field := ⟨(UPD_SLOTSTAT i), 3, 1⟩
def UPD_SLOTSTAT_BUILD (i : Nat) : Field := ⟨(UPD_SLOTSTAT i), 16, 16⟩
/-- R465. -/
def UPD_BLKMAP (w : Nat) : Nat := 0x20150100 + 0x4 * w
def UPD_BLKMAP_MAP (w : Nat) : Field := ⟨(UPD_BLKMAP w), 0, 32⟩
/-- R465. -/
def UPD_CNT (i : Nat) : Nat := 0x20150200 + 0x4 * i
def UPD_CNT_COUNT (i : Nat) : Field := ⟨(UPD_CNT i), 0, 32⟩
/-- R483. -/
def HIF_CTL : Nat := 0x20160000
def HIF_CTL_EN : Field := ⟨HIF_CTL, 0, 1⟩
/-- R483. -/
def HIF_STAT : Nat := 0x20160004
def HIF_STAT_LINK_UP : Field := ⟨HIF_STAT, 0, 1⟩
def HIF_STAT_SPEED : Field := ⟨HIF_STAT, 1, 3⟩
def HIF_STAT_WIDTH : Field := ⟨HIF_STAT, 4, 3⟩
def HIF_STAT_BME : Field := ⟨HIF_STAT, 7, 1⟩
def HIF_STAT_D3 : Field := ⟨HIF_STAT, 8, 1⟩
def HIF_STAT_RESETTING : Field := ⟨HIF_STAT, 9, 1⟩
/-- R483. -/
def HIF_ERR : Nat := 0x20160008
def HIF_ERR_FETCH : Field := ⟨HIF_ERR, 0, 1⟩
def HIF_ERR_CTO : Field := ⟨HIF_ERR, 1, 1⟩
def HIF_ERR_BADCPL : Field := ⟨HIF_ERR, 2, 1⟩
def HIF_ERR_RXPOISON : Field := ⟨HIF_ERR, 3, 1⟩
/-- R483. -/
def HIF_EVWBL : Nat := 0x20160010
def HIF_EVWBL_ADDR_LO : Field := ⟨HIF_EVWBL, 0, 32⟩
/-- R483. -/
def HIF_EVWBH : Nat := 0x20160014
def HIF_EVWBH_ADDR_HI : Field := ⟨HIF_EVWBH, 0, 32⟩
/-- R483. -/
def HIF_EVMOD : Nat := 0x20160018
def HIF_EVMOD_COUNT_MAX : Field := ⟨HIF_EVMOD, 0, 8⟩
def HIF_EVMOD_TIME : Field := ⟨HIF_EVMOD, 8, 16⟩
def HIF_EVMOD_VEC : Field := ⟨HIF_EVMOD, 24, 6⟩
def HIF_EVMOD_EN : Field := ⟨HIF_EVMOD, 31, 1⟩
/-- R484. -/
def HIF_RXBASEL (r : Nat) : Nat := 0x20161000 + 0x40 * r
def HIF_RXBASEL_BASE_LO (r : Nat) : Field := ⟨(HIF_RXBASEL r), 0, 32⟩
/-- R484. -/
def HIF_RXBASEH (r : Nat) : Nat := 0x20161004 + 0x40 * r
def HIF_RXBASEH_BASE_HI (r : Nat) : Field := ⟨(HIF_RXBASEH r), 0, 32⟩
/-- R484. -/
def HIF_RXCFG (r : Nat) : Nat := 0x20161008 + 0x40 * r
def HIF_RXCFG_SIZE (r : Nat) : Field := ⟨(HIF_RXCFG r), 0, 12⟩
def HIF_RXCFG_COPY (r : Nat) : Field := ⟨(HIF_RXCFG r), 16, 1⟩
/-- R484. -/
def HIF_RXHEAD (r : Nat) : Nat := 0x2016100C + 0x40 * r
def HIF_RXHEAD_HEAD (r : Nat) : Field := ⟨(HIF_RXHEAD r), 0, 12⟩
/-- R484. -/
def HIF_RXTAIL (r : Nat) : Nat := 0x20161010 + 0x40 * r
def HIF_RXTAIL_TAIL (r : Nat) : Field := ⟨(HIF_RXTAIL r), 0, 12⟩
/-- R484. -/
def HIF_RXWBL (r : Nat) : Nat := 0x20161014 + 0x40 * r
def HIF_RXWBL_ADDR_LO (r : Nat) : Field := ⟨(HIF_RXWBL r), 0, 32⟩
/-- R484. -/
def HIF_RXWBH (r : Nat) : Nat := 0x20161018 + 0x40 * r
def HIF_RXWBH_ADDR_HI (r : Nat) : Field := ⟨(HIF_RXWBH r), 0, 32⟩
/-- R484. -/
def HIF_RXBUFL (r : Nat) : Nat := 0x2016101C + 0x40 * r
def HIF_RXBUFL_ADDR_LO (r : Nat) : Field := ⟨(HIF_RXBUFL r), 0, 32⟩
/-- R484. -/
def HIF_RXBUFH (r : Nat) : Nat := 0x20161020 + 0x40 * r
def HIF_RXBUFH_ADDR_HI (r : Nat) : Field := ⟨(HIF_RXBUFH r), 0, 32⟩
/-- R484. -/
def HIF_RXMOD (r : Nat) : Nat := 0x20161024 + 0x40 * r
def HIF_RXMOD_COUNT_MAX (r : Nat) : Field := ⟨(HIF_RXMOD r), 0, 8⟩
def HIF_RXMOD_TIME (r : Nat) : Field := ⟨(HIF_RXMOD r), 8, 16⟩
def HIF_RXMOD_VEC (r : Nat) : Field := ⟨(HIF_RXMOD r), 24, 6⟩
def HIF_RXMOD_EN (r : Nat) : Field := ⟨(HIF_RXMOD r), 31, 1⟩
/-- R484. -/
def HIF_RXCNT (r : Nat) : Nat := 0x20161028 + 0x40 * r
def HIF_RXCNT_LOST (r : Nat) : Field := ⟨(HIF_RXCNT r), 0, 16⟩
def HIF_RXCNT_NOPLACE (r : Nat) : Field := ⟨(HIF_RXCNT r), 16, 16⟩
/-- R485. -/
def HIF_TXBASEL (r : Nat) : Nat := 0x20162000 + 0x40 * r
def HIF_TXBASEL_BASE_LO (r : Nat) : Field := ⟨(HIF_TXBASEL r), 0, 32⟩
/-- R485. -/
def HIF_TXBASEH (r : Nat) : Nat := 0x20162004 + 0x40 * r
def HIF_TXBASEH_BASE_HI (r : Nat) : Field := ⟨(HIF_TXBASEH r), 0, 32⟩
/-- R485. -/
def HIF_TXCFG (r : Nat) : Nat := 0x20162008 + 0x40 * r
def HIF_TXCFG_SIZE (r : Nat) : Field := ⟨(HIF_TXCFG r), 0, 12⟩
/-- R485. -/
def HIF_TXHEAD (r : Nat) : Nat := 0x2016200C + 0x40 * r
def HIF_TXHEAD_HEAD (r : Nat) : Field := ⟨(HIF_TXHEAD r), 0, 12⟩
/-- R485. -/
def HIF_TXTAIL (r : Nat) : Nat := 0x20162010 + 0x40 * r
def HIF_TXTAIL_TAIL (r : Nat) : Field := ⟨(HIF_TXTAIL r), 0, 12⟩
/-- R485. -/
def HIF_TXCBASEL (r : Nat) : Nat := 0x20162014 + 0x40 * r
def HIF_TXCBASEL_BASE_LO (r : Nat) : Field := ⟨(HIF_TXCBASEL r), 0, 32⟩
/-- R485. -/
def HIF_TXCBASEH (r : Nat) : Nat := 0x20162018 + 0x40 * r
def HIF_TXCBASEH_BASE_HI (r : Nat) : Field := ⟨(HIF_TXCBASEH r), 0, 32⟩
/-- R485. -/
def HIF_TXCCFG (r : Nat) : Nat := 0x2016201C + 0x40 * r
def HIF_TXCCFG_CSIZE (r : Nat) : Field := ⟨(HIF_TXCCFG r), 0, 12⟩
/-- R485. -/
def HIF_TXCHEAD (r : Nat) : Nat := 0x20162020 + 0x40 * r
def HIF_TXCHEAD_CHEAD (r : Nat) : Field := ⟨(HIF_TXCHEAD r), 0, 12⟩
/-- R485. -/
def HIF_TXCTAIL (r : Nat) : Nat := 0x20162024 + 0x40 * r
def HIF_TXCTAIL_CTAIL (r : Nat) : Field := ⟨(HIF_TXCTAIL r), 0, 12⟩
/-- R485. -/
def HIF_TXWBL (r : Nat) : Nat := 0x20162028 + 0x40 * r
def HIF_TXWBL_ADDR_LO (r : Nat) : Field := ⟨(HIF_TXWBL r), 0, 32⟩
/-- R485. -/
def HIF_TXWBH (r : Nat) : Nat := 0x2016202C + 0x40 * r
def HIF_TXWBH_ADDR_HI (r : Nat) : Field := ⟨(HIF_TXWBH r), 0, 32⟩
/-- R485. -/
def HIF_TXMOD (r : Nat) : Nat := 0x20162030 + 0x40 * r
def HIF_TXMOD_COUNT_MAX (r : Nat) : Field := ⟨(HIF_TXMOD r), 0, 8⟩
def HIF_TXMOD_TIME (r : Nat) : Field := ⟨(HIF_TXMOD r), 8, 16⟩
def HIF_TXMOD_VEC (r : Nat) : Field := ⟨(HIF_TXMOD r), 24, 6⟩
def HIF_TXMOD_EN (r : Nat) : Field := ⟨(HIF_TXMOD r), 31, 1⟩
/-- R485. -/
def HIF_TXOUT (r : Nat) : Nat := 0x20162034 + 0x40 * r
def HIF_TXOUT_OUT (r : Nat) : Field := ⟨(HIF_TXOUT r), 0, 13⟩
/-- R501. -/
def SNP_CTL : Nat := 0x20170000
def SNP_CTL_PIN_EN : Field := ⟨SNP_CTL, 0, 1⟩
def SNP_CTL_OUT_EN : Field := ⟨SNP_CTL, 1, 1⟩
def SNP_CTL_FAB_EN : Field := ⟨SNP_CTL, 2, 1⟩
/-- R501. -/
def SNP_CMD : Nat := 0x20170004
def SNP_CMD_ARM : Field := ⟨SNP_CMD, 0, 1⟩
def SNP_CMD_DISARM : Field := ⟨SNP_CMD, 1, 1⟩
def SNP_CMD_BCAST : Field := ⟨SNP_CMD, 2, 1⟩
def SNP_CMD_RELEASE : Field := ⟨SNP_CMD, 4, 2⟩
/-- R501. -/
def SNP_STAT : Nat := 0x20170008
def SNP_STAT_HELD : Field := ⟨SNP_STAT, 0, 2⟩
def SNP_STAT_MOVING : Field := ⟨SNP_STAT, 2, 1⟩
def SNP_STAT_ARMED : Field := ⟨SNP_STAT, 3, 1⟩
def SNP_STAT_MISSED : Field := ⟨SNP_STAT, 4, 1⟩
def SNP_STAT_NEXTSEQ : Field := ⟨SNP_STAT, 16, 16⟩
/-- R501. -/
def SNP_TTRIGL : Nat := 0x2017000C
def SNP_TTRIGL_TIME_LO : Field := ⟨SNP_TTRIGL, 0, 32⟩
/-- R501. -/
def SNP_TTRIGH : Nat := 0x20170010
def SNP_TTRIGH_TIME_HI : Field := ⟨SNP_TTRIGH, 0, 32⟩
/-- R501. -/
def SNP_CNTCTL : Nat := 0x20170014
def SNP_CNTCTL_FREEZE : Field := ⟨SNP_CNTCTL, 0, 1⟩
def SNP_CNTCTL_CLRALL : Field := ⟨SNP_CNTCTL, 1, 1⟩
/-- R501. -/
def SNP_TEST : Nat := 0x20170018
def SNP_TEST_ALLOW : Field := ⟨SNP_TEST, 0, 1⟩
def SNP_TEST_DENIED : Field := ⟨SNP_TEST, 1, 1⟩
def SNP_TEST_DIRTY : Field := ⟨SNP_TEST, 2, 1⟩
def SNP_TEST_IR : Field := ⟨SNP_TEST, 8, 8⟩
/-- R501. -/
def SNP_IDCODE : Nat := 0x2017001C
def SNP_IDCODE_ID : Field := ⟨SNP_IDCODE, 0, 32⟩
/-- R501. -/
def SNP_SEG (b : Nat) : Nat := 0x20170100 + 0x4 * b
def SNP_SEG_OFFSET (b : Nat) : Field := ⟨(SNP_SEG b), 0, 11⟩
def SNP_SEG_COUNT (b : Nat) : Field := ⟨(SNP_SEG b), 16, 11⟩
/-- R501. -/
def SNP_BANK (k : Nat) (w : Nat) : Nat := 0x20172000 + 0x2000 * k + 0x4 * w
def SNP_BANK_DATA (k : Nat) (w : Nat) : Field := ⟨(SNP_BANK k w), 0, 32⟩
/-- R202. -/
def LNK_RXOK : Nat := 0x20080300
def LNK_RXOK_COUNT : Field := ⟨LNK_RXOK, 0, 32⟩
/-- R202. -/
def LNK_DUP : Nat := 0x20080304
def LNK_DUP_COUNT : Field := ⟨LNK_DUP, 0, 32⟩
/-- R202. -/
def LNK_REPLAY : Nat := 0x20080308
def LNK_REPLAY_COUNT : Field := ⟨LNK_REPLAY, 0, 32⟩
/-- R202. -/
def LNK_FILT : Nat := 0x2008030C
def LNK_FILT_COUNT : Field := ⟨LNK_FILT, 0, 32⟩
/-- R202. -/
def LNK_FCSERR : Nat := 0x20080310
def LNK_FCSERR_COUNT : Field := ⟨LNK_FCSERR, 0, 32⟩
/-- R202. -/
def LNK_NOREC : Nat := 0x20080314
def LNK_NOREC_COUNT : Field := ⟨LNK_NOREC, 0, 32⟩
/-- R202. -/
def LNK_NORES : Nat := 0x20080318
def LNK_NORES_COUNT : Field := ⟨LNK_NORES, 0, 32⟩
/-- R202. -/
def LNK_SECERR : Nat := 0x2008031C
def LNK_SECERR_COUNT : Field := ⟨LNK_SECERR, 0, 32⟩
/-- R202. -/
def LNK_ACKTX : Nat := 0x20080320
def LNK_ACKTX_COUNT : Field := ⟨LNK_ACKTX, 0, 32⟩
/-- R202. -/
def LNK_ACKWD : Nat := 0x20080324
def LNK_ACKWD_COUNT : Field := ⟨LNK_ACKWD, 0, 32⟩
/-- R202. -/
def LNK_FCHOLD : Nat := 0x20080328
def LNK_FCHOLD_COUNT : Field := ⟨LNK_FCHOLD, 0, 32⟩
/-- R202. -/
def LNK_RECRACE : Nat := 0x2008032C
def LNK_RECRACE_COUNT : Field := ⟨LNK_RECRACE, 0, 32⟩
/-- R233. -/
def TXS_CNT_SENT : Nat := 0x20090100
def TXS_CNT_SENT_COUNT : Field := ⟨TXS_CNT_SENT, 0, 32⟩
/-- R233. -/
def TXS_CNT_ACKED : Nat := 0x20090104
def TXS_CNT_ACKED_COUNT : Field := ⟨TXS_CNT_ACKED, 0, 32⟩
/-- R233. -/
def TXS_CNT_NOACK : Nat := 0x20090108
def TXS_CNT_NOACK_COUNT : Field := ⟨TXS_CNT_NOACK, 0, 32⟩
/-- R233. -/
def TXS_CNT_LATE : Nat := 0x2009010C
def TXS_CNT_LATE_COUNT : Field := ⟨TXS_CNT_LATE, 0, 32⟩
/-- R233. -/
def TXS_CNT_DUTY : Nat := 0x20090110
def TXS_CNT_DUTY_COUNT : Field := ⟨TXS_CNT_DUTY, 0, 32⟩
/-- R233. -/
def TXS_CNT_HOP : Nat := 0x20090114
def TXS_CNT_HOP_COUNT : Field := ⟨TXS_CNT_HOP, 0, 32⟩
/-- R233. -/
def TXS_CNT_STALE : Nat := 0x20090118
def TXS_CNT_STALE_COUNT : Field := ⟨TXS_CNT_STALE, 0, 32⟩
/-- R233. -/
def TXS_CNT_NOROOM : Nat := 0x2009011C
def TXS_CNT_NOROOM_COUNT : Field := ⟨TXS_CNT_NOROOM, 0, 32⟩
/-- R233. -/
def TXS_CNT_RETRY : Nat := 0x20090120
def TXS_CNT_RETRY_COUNT : Field := ⟨TXS_CNT_RETRY, 0, 32⟩
/-- R233. -/
def TXS_CNT_FULLWAKE : Nat := 0x20090124
def TXS_CNT_FULLWAKE_COUNT : Field := ⟨TXS_CNT_FULLWAKE, 0, 32⟩
/-- R233. -/
def TXS_CNT_TIMEDWAKE : Nat := 0x20090128
def TXS_CNT_TIMEDWAKE_COUNT : Field := ⟨TXS_CNT_TIMEDWAKE, 0, 32⟩
/-- R252. -/
def FLD_RXNEW : Nat := 0x200A0100
def FLD_RXNEW_COUNT : Field := ⟨FLD_RXNEW, 0, 32⟩
/-- R252. -/
def FLD_SEEN : Nat := 0x200A0104
def FLD_SEEN_COUNT : Field := ⟨FLD_SEEN, 0, 32⟩
/-- R252. -/
def FLD_SEEN_FAB : Nat := 0x200A0108
def FLD_SEEN_FAB_COUNT : Field := ⟨FLD_SEEN_FAB, 0, 32⟩
/-- R252. -/
def FLD_TTLEND : Nat := 0x200A010C
def FLD_TTLEND_COUNT : Field := ⟨FLD_TTLEND, 0, 32⟩
/-- R252. -/
def FLD_RELAYED : Nat := 0x200A0110
def FLD_RELAYED_COUNT : Field := ⟨FLD_RELAYED, 0, 32⟩
/-- R252. -/
def FLD_RELAYFAIL : Nat := 0x200A0114
def FLD_RELAYFAIL_COUNT : Field := ⟨FLD_RELAYFAIL, 0, 32⟩
/-- R252. -/
def FLD_RELAYDROP : Nat := 0x200A0118
def FLD_RELAYDROP_COUNT : Field := ⟨FLD_RELAYDROP, 0, 32⟩
/-- R252. -/
def FLD_SUPPRESSED : Nat := 0x200A011C
def FLD_SUPPRESSED_COUNT : Field := ⟨FLD_SUPPRESSED, 0, 32⟩
/-- R252. -/
def FLD_EVICT : Nat := 0x200A0120
def FLD_EVICT_COUNT : Field := ⟨FLD_EVICT, 0, 32⟩
/-- R252. -/
def FLD_PUB : Nat := 0x200A0124
def FLD_PUB_COUNT : Field := ⟨FLD_PUB, 0, 32⟩
/-- R252. -/
def FLD_PUBLOST : Nat := 0x200A0128
def FLD_PUBLOST_COUNT : Field := ⟨FLD_PUBLOST, 0, 32⟩
/-- R252. -/
def FLD_FABIN : Nat := 0x200A012C
def FLD_FABIN_COUNT : Field := ⟨FLD_FABIN, 0, 32⟩
/-- R252. -/
def FLD_FABDROP : Nat := 0x200A0130
def FLD_FABDROP_COUNT : Field := ⟨FLD_FABDROP, 0, 32⟩
/-- R252. -/
def FLD_IMPORTED : Nat := 0x200A0134
def FLD_IMPORTED_COUNT : Field := ⟨FLD_IMPORTED, 0, 32⟩
/-- R252. -/
def FLD_BADHDR : Nat := 0x200A0138
def FLD_BADHDR_COUNT : Field := ⟨FLD_BADHDR, 0, 32⟩
/-- R277. -/
def STK_JOINT : Nat := 0x200B0100
def STK_JOINT_COUNT : Field := ⟨STK_JOINT, 0, 32⟩
/-- R277. -/
def STK_LOCALONLY : Nat := 0x200B0104
def STK_LOCALONLY_COUNT : Field := ⟨STK_LOCALONLY, 0, 32⟩
/-- R277. -/
def STK_DEGRADED : Nat := 0x200B0108
def STK_DEGRADED_COUNT : Field := ⟨STK_DEGRADED, 0, 32⟩
/-- R277. -/
def STK_CONTRIB : Nat := 0x200B010C
def STK_CONTRIB_COUNT : Field := ⟨STK_CONTRIB, 0, 32⟩
/-- R277. -/
def STK_RECAPPLY : Nat := 0x200B0110
def STK_RECAPPLY_COUNT : Field := ⟨STK_RECAPPLY, 0, 32⟩
/-- R277. -/
def STK_RECSTALE : Nat := 0x200B0114
def STK_RECSTALE_COUNT : Field := ⟨STK_RECSTALE, 0, 32⟩
/-- R277. -/
def STK_CELLERR : Nat := 0x200B0118
def STK_CELLERR_COUNT : Field := ⟨STK_CELLERR, 0, 32⟩
/-- R277. -/
def STK_LEADERLOSTS : Nat := 0x200B011C
def STK_LEADERLOSTS_COUNT : Field := ⟨STK_LEADERLOSTS, 0, 32⟩
/-- R279. -/
def VFB_RXFRM : Nat := 0x200C0200
def VFB_RXFRM_COUNT : Field := ⟨VFB_RXFRM, 0, 32⟩
/-- R279. -/
def VFB_TXFRM : Nat := 0x200C0204
def VFB_TXFRM_COUNT : Field := ⟨VFB_TXFRM, 0, 32⟩
/-- R279. -/
def VFB_DUPDROP : Nat := 0x200C0208
def VFB_DUPDROP_COUNT : Field := ⟨VFB_DUPDROP, 0, 32⟩
/-- R279. -/
def VFB_BADFRM : Nat := 0x200C020C
def VFB_BADFRM_COUNT : Field := ⟨VFB_BADFRM, 0, 32⟩
/-- R279. -/
def VFB_BCNMISS : Nat := 0x200C0210
def VFB_BCNMISS_COUNT : Field := ⟨VFB_BCNMISS, 0, 32⟩
/-- R279. -/
def VFB_STEPS : Nat := 0x200C0214
def VFB_STEPS_COUNT : Field := ⟨VFB_STEPS, 0, 32⟩
/-- R279. -/
def VFB_TAKEOVER : Nat := 0x200C0218
def VFB_TAKEOVER_COUNT : Field := ⟨VFB_TAKEOVER, 0, 32⟩
/-- R279. -/
def VFB_RRDROP : Nat := 0x200C021C
def VFB_RRDROP_COUNT : Field := ⟨VFB_RRDROP, 0, 32⟩
/-- R425. -/
def FLC_PROG : Nat := 0x20120400
def FLC_PROG_COUNT : Field := ⟨FLC_PROG, 0, 32⟩
/-- R425. -/
def FLC_ERASES : Nat := 0x20120404
def FLC_ERASES_COUNT : Field := ⟨FLC_ERASES, 0, 32⟩
/-- R425. -/
def FLC_RETRY : Nat := 0x20120408
def FLC_RETRY_COUNT : Field := ⟨FLC_RETRY, 0, 32⟩
/-- R425. -/
def FLC_UNCORR : Nat := 0x2012040C
def FLC_UNCORR_COUNT : Field := ⟨FLC_UNCORR, 0, 32⟩
/-- R425. -/
def FLC_BLANKFAIL : Nat := 0x20120410
def FLC_BLANKFAIL_COUNT : Field := ⟨FLC_BLANKFAIL, 0, 32⟩
/-- R425. -/
def FLC_LWRITES : Nat := 0x20120414
def FLC_LWRITES_COUNT : Field := ⟨FLC_LWRITES, 0, 32⟩
/-- R486. -/
def HIF_RXDESC : Nat := 0x20160100
def HIF_RXDESC_COUNT : Field := ⟨HIF_RXDESC, 0, 32⟩
/-- R486. -/
def HIF_RXLOST : Nat := 0x20160104
def HIF_RXLOST_COUNT : Field := ⟨HIF_RXLOST, 0, 32⟩
/-- R486. -/
def HIF_TXREQ : Nat := 0x20160108
def HIF_TXREQ_COUNT : Field := ⟨HIF_TXREQ, 0, 32⟩
/-- R486. -/
def HIF_TXDISC : Nat := 0x2016010C
def HIF_TXDISC_COUNT : Field := ⟨HIF_TXDISC, 0, 32⟩
/-- R486. -/
def HIF_MSIX : Nat := 0x20160110
def HIF_MSIX_COUNT : Field := ⟨HIF_MSIX, 0, 32⟩
/-- R486. -/
def HIF_CTO : Nat := 0x20160114
def HIF_CTO_COUNT : Field := ⟨HIF_CTO, 0, 32⟩
/-- R486. -/
def HIF_RESETS : Nat := 0x20160118
def HIF_RESETS_COUNT : Field := ⟨HIF_RESETS, 0, 32⟩
/-- R486. -/
def HIF_LINKDOWN : Nat := 0x2016011C
def HIF_LINKDOWN_COUNT : Field := ⟨HIF_LINKDOWN, 0, 32⟩
/-- R502. -/
def SNP_TRIGS : Nat := 0x20170200
def SNP_TRIGS_COUNT : Field := ⟨SNP_TRIGS, 0, 32⟩
/-- R502. -/
def SNP_MISSED : Nat := 0x20170204
def SNP_MISSED_COUNT : Field := ⟨SNP_MISSED, 0, 32⟩
/-- R502. -/
def SNP_LATE : Nat := 0x20170208
def SNP_LATE_COUNT : Field := ⟨SNP_LATE, 0, 32⟩
/-- R502. -/
def SRAM_CORR : Nat := 0x2017020C
def SRAM_CORR_COUNT : Field := ⟨SRAM_CORR, 0, 32⟩
/-- R502. -/
def SRAM_UNCORR : Nat := 0x20170210
def SRAM_UNCORR_COUNT : Field := ⟨SRAM_UNCORR, 0, 32⟩

/-- The rows of block SYS (R24). -/
def regRowsSys : List RegRow := [
  ⟨0x20000008, 1, 0x4, 1, 0x4, 0x0, 0x0, 0x0, 0x0, 0x0, 0x100, false⟩, -- SYS_CAP0
  ⟨0x2000000C, 1, 0x4, 1, 0x4, 0x0, 0x0, 0x0, 0x0, 0x0, 0xc000000, false⟩, -- SYS_CAP1
  ⟨0x20000020, 1, 0x4, 1, 0x4, 0x7, 0x0, 0x8, 0x0, 0x0, 0x4, false⟩, -- SYS_CLKCTL
  ⟨0x20000024, 1, 0x4, 1, 0x4, 0x0, 0x0, 0x0, 0x0, 0x0, 0x4, false⟩, -- SYS_CLKSTAT
  ⟨0x20000028, 1, 0x4, 1, 0x4, 0x0, 0x1, 0x0, 0xff00, 0x0, 0x0, false⟩, -- SYS_REFLOST
  ⟨0x20000030, 1, 0x4, 1, 0x4, 0x0, 0x0, 0x0, 0x0, 0x0, 0x0, false⟩, -- SYS_EPOCHL
  ⟨0x20000034, 1, 0x4, 1, 0x4, 0x0, 0x0, 0x0, 0x0, 0x0, 0x0, false⟩, -- SYS_EPOCHH
  ⟨0x20000040, 1, 0x4, 1, 0x4, 0x0, 0xff0000, 0xff, 0x0, 0xff00, 0x0, false⟩, -- SYS_COMMIT
  ⟨0x20001000, 12, 0x40, 1, 0x4, 0xd, 0x0, 0x2, 0x0, 0x0, 0x0, false⟩, -- SYS_ENGCTL
  ⟨0x20001004, 12, 0x40, 1, 0x4, 0x0, 0x0, 0x0, 0xff00, 0x0, 0x0, false⟩, -- SYS_ENGSTAT
  ⟨0x20001008, 12, 0x40, 1, 0x4, 0x7ffff, 0x0, 0x0, 0x0, 0x0, 0x0, false⟩, -- SYS_ENGENTRY
  ⟨0x2000100C, 12, 0x40, 1, 0x4, 0x0, 0x0, 0x0, 0x0, 0x0, 0x0, false⟩, -- SYS_ENGPC
  ⟨0x20001010, 12, 0x40, 1, 0x4, 0x7fff0, 0x0, 0x0, 0x0, 0x0, 0x0, false⟩, -- SYS_ENGVEC
  ⟨0x20001014, 12, 0x40, 1, 0x4, 0x0, 0x0, 0x0, 0xff00, 0x0, 0x0, false⟩, -- SYS_ENGFAULT
  ⟨0x20001018, 12, 0x40, 1, 0x4, 0x0, 0x0, 0x0, 0x0, 0x0, 0x0, false⟩, -- SYS_ENGFADDR
  ⟨0x2000101C, 12, 0x40, 1, 0x4, 0x0, 0x0, 0x0, 0x0, 0x0, 0x0, false⟩, -- SYS_ENGFPC
  ⟨0x20001020, 12, 0x40, 1, 0x4, 0xffffff, 0x0, 0x0, 0x0, 0x0, 0x0, false⟩, -- SYS_ENGWDT
  ⟨0x20001024, 12, 0x40, 1, 0x4, 0x0, 0x0, 0x0, 0x0, 0xffffffff, 0x0, false⟩, -- SYS_ENGKICK
  ⟨0x20001028, 12, 0x40, 1, 0x4, 0x3fff, 0x0, 0x0, 0x0, 0x0, 0x0, false⟩, -- SYS_ENGREC
  ⟨0x20001300, 1, 0x4, 1, 0x4, 0x0, 0x0, 0x1, 0x0, 0x0, 0x0, false⟩, -- SYS_ENGLOCK
  ⟨0x20001400, 1, 0x4, 1, 0x4, 0x0, 0x30, 0x0, 0x0, 0x0, 0x0, false⟩, -- SYS_SRLSTAT
  ⟨0x20001404, 1, 0x4, 1, 0x4, 0x6, 0x0, 0x9, 0x0, 0x0, 0x0, false⟩, -- SYS_SRLCMD
  ⟨0x20000050, 1, 0x4, 1, 0x4, 0x0, 0x0, 0x0, 0x0, 0x0, 0x0, false⟩ -- SYS_RSTCAUSE
]

/-- The rows of block CFG (R24). -/
def regRowsCfg : List RegRow := [
  ⟨0x20010000, 1, 0x4, 1, 0x4, 0x0, 0x0, 0x0, 0x0, 0x0, 0x1, false⟩, -- CFG_VERSION
  ⟨0x20010010, 1, 0x4, 1, 0x4, 0x2, 0x0, 0x5, 0x0, 0x0, 0x0, false⟩, -- CFG_LOADCTL
  ⟨0x20010014, 1, 0x4, 1, 0x4, 0xffffffff, 0x0, 0x0, 0x0, 0x0, 0x0, false⟩, -- CFG_LOADMASK
  ⟨0x20010018, 1, 0x4, 1, 0x4, 0x0, 0xe, 0x0, 0x0, 0x0, 0x0, false⟩, -- CFG_LOADSTAT
  ⟨0x2001001C, 1, 0x4, 1, 0x4, 0x0, 0x0, 0x0, 0x0, 0x0, 0x0, false⟩, -- CFG_REJECT
  ⟨0x20010020, 1, 0x4, 1, 0x4, 0x0, 0x0, 0x0, 0x0, 0x0, 0x0, false⟩, -- CFG_REJUNIT
  ⟨0x20010030, 1, 0x4, 1, 0x4, 0xc, 0x0, 0x1, 0x0, 0x2, 0x8, false⟩, -- CFG_SWAPCTL
  ⟨0x20010034, 1, 0x4, 1, 0x4, 0xffffffff, 0x0, 0x0, 0x0, 0x0, 0x0, false⟩, -- CFG_SWAPMASK
  ⟨0x20010038, 1, 0x4, 1, 0x4, 0xffffffff, 0x0, 0x0, 0x0, 0x0, 0x0, false⟩, -- CFG_SWAPEPL
  ⟨0x2001003C, 1, 0x4, 1, 0x4, 0x1ff, 0x0, 0x0, 0x0, 0x0, 0x0, false⟩, -- CFG_SWAPEPH
  ⟨0x20010040, 1, 0x4, 1, 0x4, 0xffffffff, 0x0, 0x0, 0x0, 0x0, 0x0, false⟩, -- CFG_SWAPBLDL
  ⟨0x20010044, 1, 0x4, 1, 0x4, 0xffffffff, 0x0, 0x0, 0x0, 0x0, 0x0, false⟩, -- CFG_SWAPBLDH
  ⟨0x20010048, 1, 0x4, 1, 0x4, 0x0, 0x20, 0x0, 0x0, 0x0, 0x0, false⟩, -- CFG_SWAPSTAT
  ⟨0x20010050, 1, 0x4, 1, 0x4, 0x1, 0x0, 0x2, 0x0, 0x0, 0x0, false⟩, -- CFG_BOOTSEL
  ⟨0x20010054, 1, 0x4, 1, 0x4, 0x0, 0x60, 0x0, 0x0, 0x0, 0x0, false⟩, -- CFG_BOOTSTAT
  ⟨0x20010058, 1, 0x4, 1, 0x4, 0x0, 0x0, 0x0, 0x0, 0x0, 0x0, false⟩, -- CFG_BSVN
  ⟨0x20010100, 32, 0x8, 1, 0x4, 0x0, 0x0, 0x0, 0x0, 0x0, 0x0, false⟩, -- CFG_RGN
  ⟨0x20010104, 32, 0x8, 1, 0x4, 0x0, 0x0, 0x0, 0x0, 0x0, 0x0, false⟩ -- CFG_RGNTAG
]

/-- The rows of block PWR (R24). -/
def regRowsPwr : List RegRow := [
  ⟨0x20020000, 1, 0x4, 1, 0x4, 0x0, 0x8, 0x0, 0x0, 0x0, 0x0, false⟩, -- PWR_STATE
  ⟨0x20020004, 1, 0x4, 1, 0x4, 0x0, 0x0, 0x0, 0x0, 0xff03, 0x0, false⟩, -- PWR_STATECTL
  ⟨0x20020008, 1, 0x4, 1, 0x4, 0x0, 0x0, 0x0, 0x0, 0x0, 0x200, false⟩, -- PWR_RAILSTAT
  ⟨0x20020010, 1, 0x4, 1, 0x4, 0x1ffff, 0x0, 0x0, 0x0, 0x0, 0x110c0, false⟩, -- PWR_PMBCFG
  ⟨0x20020014, 1, 0x4, 1, 0x4, 0x3fff, 0x0, 0x4000, 0x0, 0x0, 0x0, false⟩, -- PWR_PMBCMD
  ⟨0x20020018, 1, 0x4, 1, 0x4, 0xffff, 0x0, 0x0, 0x0, 0x0, 0x0, false⟩, -- PWR_PMBDATA
  ⟨0x2002001C, 1, 0x4, 1, 0x4, 0x0, 0x10, 0x0, 0x0, 0x0, 0x0, false⟩, -- PWR_PMBSTAT
  ⟨0x20020020, 1, 0x4, 1, 0x4, 0xffffff01, 0x0, 0x0, 0x0, 0x0, 0x4aa8200, false⟩, -- PWR_AVS
  ⟨0x20020024, 1, 0x4, 1, 0x4, 0x0, 0x0, 0x0, 0xff0000, 0x0, 0x96, false⟩, -- PWR_AVSSTAT
  ⟨0x20020030, 1, 0x4, 1, 0x4, 0x1, 0x0, 0x0, 0x0, 0x0, 0x1, false⟩, -- PWR_RSTCFG
  ⟨0x20020034, 1, 0x4, 1, 0x4, 0x0, 0x0, 0x0, 0x0, 0xff, 0x0, false⟩, -- PWR_RSTCMD
  ⟨0x20020038, 1, 0x4, 1, 0x4, 0xffff, 0x0, 0x10000, 0x0, 0x0, 0x0, false⟩, -- PWR_WDT
  ⟨0x2002003C, 1, 0x4, 1, 0x4, 0x0, 0x0, 0x0, 0x0, 0xffffffff, 0x0, false⟩, -- PWR_WDTKICK
  ⟨0x20020040, 1, 0x4, 1, 0x4, 0x0, 0x0, 0x0, 0x0, 0x0, 0x0, false⟩, -- PWR_STEPTO
  ⟨0x20020050, 1, 0x4, 1, 0x4, 0x1ff, 0x0, 0x0, 0x0, 0x0, 0x2c, false⟩, -- PWR_WAKECFG
  ⟨0x20020054, 1, 0x4, 1, 0x4, 0x0, 0x1, 0x0, 0xff00, 0x0, 0x0, false⟩, -- PWR_WAKESTAT
  ⟨0x20020080, 10, 0x4, 1, 0x4, 0x0, 0x0, 0x0, 0x0, 0x0, 0x0, false⟩ -- PWR_STEPTIME
]

/-- The rows of block RFP (R24). -/
def regRowsRfp : List RegRow := [
  ⟨0x20030000, 48, 0x100, 1, 0x4, 0xffffff, 0x0, 0x0, 0x0, 0x0, 0x0, false⟩, -- RFP_CTL
  ⟨0x20030004, 48, 0x100, 1, 0x4, 0x0, 0x2c00, 0x0, 0x0, 0x0, 0x0, false⟩, -- RFP_STAT
  ⟨0x20030008, 48, 0x100, 1, 0x4, 0xff, 0x0, 0x0, 0x0, 0x0, 0x20, true⟩, -- RFP_TXPMAX
  ⟨0x2003000C, 48, 0x100, 1, 0x4, 0xff0fff, 0x0, 0x0, 0x0, 0x0, 0x0, true⟩, -- RFP_EXTPH
  ⟨0x20030010, 48, 0x100, 1, 0x4, 0x0, 0x0, 0xf, 0x0, 0x0, 0x0, false⟩, -- RFP_CALCTL
  ⟨0x20030014, 48, 0x100, 1, 0x4, 0x0, 0x2, 0x0, 0x0, 0x0, 0x0, false⟩, -- RFP_CALSTAT
  ⟨0x20030018, 48, 0x100, 1, 0x4, 0x0, 0x0, 0x0, 0x0, 0x0, 0x0, false⟩, -- RFP_TXPLAST
  ⟨0x20030020, 48, 0x100, 1, 0x4, 0x0, 0x0, 0x0, 0xffffffff, 0x0, 0x0, false⟩, -- RFP_CNT0
  ⟨0x20030024, 48, 0x100, 1, 0x4, 0x0, 0x0, 0x0, 0xffffffff, 0x0, 0x0, false⟩, -- RFP_CNT1
  ⟨0x20033000, 1, 0x4, 1, 0x4, 0xff0f, 0x0, 0x0, 0x0, 0x0, 0xf03, false⟩, -- RFP_CALGLB
  ⟨0x20033004, 1, 0x4, 1, 0x4, 0x0, 0x0, 0x0, 0xfff00000, 0x0, 0x0, false⟩ -- RFP_EIRPSTAT
]

/-- The rows of block SYN (R24). -/
def regRowsSyn : List RegRow := [
  ⟨0x20040000, 1, 0x4, 1, 0x4, 0x1, 0x0, 0x2, 0x0, 0x0, 0x1, false⟩, -- SYN_CTL
  ⟨0x20040004, 1, 0x4, 1, 0x4, 0x0, 0x0, 0x0, 0x0, 0x0, 0x0, false⟩, -- SYN_STAT
  ⟨0x20040008, 1, 0x4, 1, 0x4, 0xfffff, 0x0, 0x0, 0x0, 0x0, 0xd4495, true⟩, -- SYN_LOB0
  ⟨0x2004000C, 1, 0x4, 1, 0x4, 0xfffff, 0x0, 0x0, 0x0, 0x0, 0xdf638, true⟩, -- SYN_LOB1
  ⟨0x20040010, 1, 0x4, 1, 0x4, 0x0, 0x0, 0x0, 0xffff, 0x0, 0x0, false⟩ -- SYN_CNT
]

/-- The rows of block CAP (R24). -/
def regRowsCap : List RegRow := [
  ⟨0x20050000, 1, 0x4, 1, 0x4, 0x1f3, 0x0, 0x0, 0x0, 0x0, 0xa3, true⟩, -- CAP_CTL
  ⟨0x20050004, 1, 0x4, 1, 0x4, 0xff3f3f, 0x0, 0x0, 0x0, 0x0, 0x401e06, true⟩, -- CAP_AAGC
  ⟨0x20050008, 1, 0x4, 1, 0x4, 0x31f0f, 0x0, 0x0, 0x0, 0x0, 0xa06, true⟩, -- CAP_CLEAR
  ⟨0x20050010, 1, 0x4, 1, 0x4, 0x0, 0x0, 0x0, 0x0, 0x0, 0x0, false⟩, -- CAP_CANSTAT
  ⟨0x20050014, 1, 0x4, 1, 0x4, 0x0, 0x0, 0x0, 0xffffffff, 0x0, 0x0, false⟩, -- CAP_CANCNT
  ⟨0x20051000, 48, 0x10, 1, 0x4, 0x0, 0x0, 0x0, 0x0, 0x0, 0xa, false⟩, -- CAP_PGAIN
  ⟨0x20051004, 48, 0x10, 1, 0x4, 0x0, 0x0, 0x0, 0x0, 0x0, 0x0, false⟩, -- CAP_PALIGN
  ⟨0x20051008, 48, 0x10, 1, 0x4, 0x0, 0x0, 0x0, 0xffffffff, 0x0, 0x0, false⟩ -- CAP_PCNT
]

/-- The rows of block SPX (R24). -/
def regRowsSpx : List RegRow := [
  ⟨0x20060000, 1, 0x4, 1, 0x4, 0x3f, 0x0, 0x0, 0x0, 0x0, 0x23, true⟩, -- SPX_CTL
  ⟨0x20060004, 1, 0x4, 1, 0x4, 0xffff, 0x0, 0x0, 0x0, 0x0, 0x7373, true⟩, -- SPX_DETTHR
  ⟨0x20060008, 1, 0x4, 1, 0x4, 0x7f, 0x0, 0x0, 0x0, 0x0, 0x46, true⟩, -- SPX_SEPCTL
  ⟨0x2006000C, 1, 0x4, 1, 0x4, 0xff3f0fff, 0x0, 0x0, 0x0, 0x0, 0x9508001e, true⟩, -- SPX_SIGCTL
  ⟨0x20060010, 1, 0x4, 1, 0x4, 0x3f, 0x0, 0x0, 0x0, 0x0, 0x18, true⟩, -- SPX_DAGC
  ⟨0x20060014, 1, 0x4, 1, 0x4, 0x0, 0x0, 0x0, 0x0, 0x0, 0x0, false⟩, -- SPX_POOL
  ⟨0x20060018, 1, 0x4, 1, 0x4, 0x0, 0x0, 0x0, 0x0, 0x0, 0x0, false⟩, -- SPX_BSET
  ⟨0x2006001C, 1, 0x4, 1, 0x4, 0x0, 0x0, 0x0, 0x0, 0x80003fff, 0x0, false⟩, -- SPX_SIGINV
  ⟨0x20060020, 1, 0x4, 1, 0x4, 0x0, 0x0, 0x0, 0xffffffff, 0x0, 0x0, false⟩, -- SPX_SIGCNT
  ⟨0x20060024, 1, 0x4, 1, 0x4, 0x0, 0x0, 0x0, 0x0, 0x0, 0x0, false⟩, -- SPX_LASTCOL
  ⟨0x20061000, 348, 0x10, 1, 0x4, 0x0, 0x0, 0x0, 0xffffffff, 0x0, 0x0, false⟩, -- SPX_BIN0
  ⟨0x20061004, 348, 0x10, 1, 0x4, 0x0, 0x0, 0x0, 0xffffffff, 0x0, 0x0, false⟩, -- SPX_BIN1
  ⟨0x20061008, 348, 0x10, 1, 0x4, 0x0, 0x0, 0x0, 0xffffffff, 0x0, 0x0, false⟩, -- SPX_BIN2
  ⟨0x2006100C, 348, 0x10, 1, 0x4, 0x0, 0x0, 0x0, 0x0, 0x0, 0x0, false⟩ -- SPX_BIN3
]

/-- The rows of block PHY (R24). -/
def regRowsPhy : List RegRow := [
  ⟨0x20070000, 16, 0x10, 1, 0x4, 0xfff7, 0x0, 0x0, 0x0, 0x0, 0x2, true⟩, -- PHY_SYNC
  ⟨0x20070004, 16, 0x10, 1, 0x4, 0xff01ff, 0x0, 0x0, 0x0, 0x0, 0x400154, true⟩, -- PHY_TRK
  ⟨0x20070200, 1, 0x4, 1, 0x4, 0x0, 0x0, 0x0, 0x0, 0x0, 0x0, false⟩, -- PHY_STAT
  ⟨0x20071000, 16, 0x10, 1, 0x4, 0x0, 0x0, 0x0, 0xffffffff, 0x0, 0x0, false⟩, -- PHY_CNT0
  ⟨0x20071004, 16, 0x10, 1, 0x4, 0x0, 0x0, 0x0, 0xffffffff, 0x0, 0x0, false⟩, -- PHY_CNT1
  ⟨0x20071008, 16, 0x10, 1, 0x4, 0x0, 0x0, 0x0, 0xffffffff, 0x0, 0x0, false⟩, -- PHY_CNT2
  ⟨0x2007100C, 16, 0x10, 1, 0x4, 0x0, 0x0, 0x0, 0xffffffff, 0x0, 0x0, false⟩, -- PHY_CNT3
  ⟨0x20072000, 384, 0x8, 1, 0x4, 0x0, 0x0, 0x1, 0x0, 0x0, 0x0, false⟩, -- PHY_RXCTL
  ⟨0x20072004, 384, 0x8, 1, 0x4, 0x0, 0x0, 0x0, 0x0, 0x0, 0x0, false⟩, -- PHY_RXSTAT
  ⟨0x20073000, 96, 0x8, 1, 0x4, 0x0, 0x0, 0x1, 0x0, 0x0, 0x0, false⟩, -- PHY_TXCTL
  ⟨0x20073004, 96, 0x8, 1, 0x4, 0x0, 0x0, 0x0, 0x0, 0x0, 0x0, false⟩ -- PHY_TXSTAT
]

/-- The rows of block LNK (R24). -/
def regRowsLnk : List RegRow := [
  ⟨0x20080000, 1, 0x4, 1, 0x4, 0xf, 0x0, 0x0, 0x0, 0x0, 0xa, true⟩, -- LNK_CTL
  ⟨0x20080004, 1, 0x4, 1, 0x4, 0xffffffff, 0x0, 0x0, 0x0, 0x0, 0xffff, true⟩, -- LNK_PANID
  ⟨0x20080008, 1, 0x4, 1, 0x4, 0xffffffff, 0x0, 0x0, 0x0, 0x0, 0x0, true⟩, -- LNK_EXTL
  ⟨0x2008000C, 1, 0x4, 1, 0x4, 0xffffffff, 0x0, 0x0, 0x0, 0x0, 0x0, true⟩, -- LNK_EXTH
  ⟨0x20080010, 1, 0x4, 1, 0x4, 0x7fffffff, 0x0, 0x0, 0x0, 0x0, 0x0, true⟩, -- LNK_ABLK
  ⟨0x20080014, 1, 0x4, 1, 0x4, 0x3f7f, 0x0, 0x0, 0x0, 0x0, 0x0, true⟩, -- LNK_DELIV
  ⟨0x20080018, 1, 0x4, 1, 0x4, 0xffff, 0x0, 0x0, 0x0, 0x0, 0x2820, true⟩, -- LNK_ACKPWR
  ⟨0x20080040, 1, 0x4, 1, 0x4, 0x0, 0x0, 0x0, 0x0, 0x1ffff, 0x0, false⟩, -- LNK_UPDCMD
  ⟨0x20080044, 1, 0x4, 1, 0x4, 0xffffffff, 0x0, 0x0, 0x0, 0x0, 0x0, false⟩, -- LNK_UPDARG
  ⟨0x20080048, 1, 0x4, 1, 0x4, 0x0, 0x0, 0x0, 0x0, 0x0, 0x0, false⟩, -- LNK_UPDSTAT
  ⟨0x20080060, 1, 0x4, 1, 0x4, 0xffffffff, 0x0, 0x0, 0x0, 0x0, 0x0, false⟩, -- LNK_PRBASE
  ⟨0x20080064, 1, 0x4, 1, 0x4, 0xfff, 0x0, 0x0, 0x0, 0x0, 0x0, false⟩, -- LNK_PRCFG
  ⟨0x20080068, 1, 0x4, 1, 0x4, 0x0, 0x0, 0x0, 0x0, 0x0, 0x0, false⟩, -- LNK_PRHEAD
  ⟨0x2008006C, 1, 0x4, 1, 0x4, 0xfff, 0x0, 0x0, 0x0, 0x0, 0x0, false⟩, -- LNK_PRTAIL
  ⟨0x20080070, 1, 0x4, 1, 0x4, 0xffffffff, 0x0, 0x0, 0x0, 0x0, 0x1000000, false⟩, -- LNK_BUFBASE
  ⟨0x20080074, 1, 0x4, 1, 0x4, 0x1fff, 0x0, 0x0, 0x0, 0x0, 0x0, false⟩, -- LNK_BUFCFG
  ⟨0x20080078, 1, 0x4, 1, 0x4, 0x0, 0x0, 0x0, 0x0, 0xfff, 0x0, false⟩, -- LNK_BUFFREE
  ⟨0x2008007C, 1, 0x4, 1, 0x4, 0x0, 0x0, 0x0, 0x0, 0x0, 0x0, false⟩, -- LNK_BUFSTAT
  ⟨0x20080100, 16, 0x4, 1, 0x4, 0xffffffff, 0x0, 0x0, 0x0, 0x0, 0x0, false⟩, -- LNK_UPDDATA
  ⟨0x20080200, 12, 0x10, 1, 0x4, 0xffffffff, 0x0, 0x0, 0x0, 0x0, 0x0, false⟩, -- LNK_EQBASE
  ⟨0x20080204, 12, 0x10, 1, 0x4, 0xfff, 0x0, 0x0, 0x0, 0x0, 0x0, false⟩, -- LNK_EQSIZE
  ⟨0x20080208, 12, 0x10, 1, 0x4, 0x0, 0x0, 0x0, 0x0, 0x0, 0x0, false⟩, -- LNK_EQHEAD
  ⟨0x2008020C, 12, 0x10, 1, 0x4, 0xfff, 0x0, 0x0, 0x0, 0x0, 0x0, false⟩, -- LNK_EQTAIL
  ⟨0x20080340, 1, 0x4, 1, 0x4, 0x0, 0x0, 0x0, 0x0, 0x0, 0x0, false⟩, -- LNK_LASTREJ
  ⟨0x20080300, 1, 0x4, 1, 0x4, 0x0, 0x0, 0x0, 0xffffffff, 0x0, 0x0, false⟩, -- LNK_RXOK
  ⟨0x20080304, 1, 0x4, 1, 0x4, 0x0, 0x0, 0x0, 0xffffffff, 0x0, 0x0, false⟩, -- LNK_DUP
  ⟨0x20080308, 1, 0x4, 1, 0x4, 0x0, 0x0, 0x0, 0xffffffff, 0x0, 0x0, false⟩, -- LNK_REPLAY
  ⟨0x2008030C, 1, 0x4, 1, 0x4, 0x0, 0x0, 0x0, 0xffffffff, 0x0, 0x0, false⟩, -- LNK_FILT
  ⟨0x20080310, 1, 0x4, 1, 0x4, 0x0, 0x0, 0x0, 0xffffffff, 0x0, 0x0, false⟩, -- LNK_FCSERR
  ⟨0x20080314, 1, 0x4, 1, 0x4, 0x0, 0x0, 0x0, 0xffffffff, 0x0, 0x0, false⟩, -- LNK_NOREC
  ⟨0x20080318, 1, 0x4, 1, 0x4, 0x0, 0x0, 0x0, 0xffffffff, 0x0, 0x0, false⟩, -- LNK_NORES
  ⟨0x2008031C, 1, 0x4, 1, 0x4, 0x0, 0x0, 0x0, 0xffffffff, 0x0, 0x0, false⟩, -- LNK_SECERR
  ⟨0x20080320, 1, 0x4, 1, 0x4, 0x0, 0x0, 0x0, 0xffffffff, 0x0, 0x0, false⟩, -- LNK_ACKTX
  ⟨0x20080324, 1, 0x4, 1, 0x4, 0x0, 0x0, 0x0, 0xffffffff, 0x0, 0x0, false⟩, -- LNK_ACKWD
  ⟨0x20080328, 1, 0x4, 1, 0x4, 0x0, 0x0, 0x0, 0xffffffff, 0x0, 0x0, false⟩, -- LNK_FCHOLD
  ⟨0x2008032C, 1, 0x4, 1, 0x4, 0x0, 0x0, 0x0, 0xffffffff, 0x0, 0x0, false⟩ -- LNK_RECRACE
]

/-- The rows of block TXS (R24). -/
def regRowsTxs : List RegRow := [
  ⟨0x20090000, 1, 0x4, 1, 0x4, 0xffff, 0x0, 0x0, 0x0, 0x0, 0xa20, true⟩, -- TXS_CTL
  ⟨0x20090004, 1, 0x4, 1, 0x4, 0xffff, 0x0, 0x0, 0x0, 0x0, 0x2820, true⟩, -- TXS_PWR
  ⟨0x20090008, 1, 0x4, 1, 0x4, 0xffff1fff, 0x0, 0x0, 0x0, 0x0, 0x14320258, true⟩, -- TXS_SLEEPY
  ⟨0x2009000C, 1, 0x4, 1, 0x4, 0xffff, 0x0, 0x0, 0x0, 0x0, 0x64, true⟩, -- TXS_STROBE
  ⟨0x20090010, 1, 0x4, 1, 0x4, 0xfff7fff, 0x0, 0x0, 0x0, 0x0, 0x1905064, true⟩, -- TXS_HOPCTL
  ⟨0x20090014, 1, 0x4, 1, 0x4, 0x0, 0x0, 0x0, 0x0, 0x0, 0x0, false⟩, -- TXS_HOPSTAT
  ⟨0x20090018, 1, 0x4, 1, 0x4, 0x10, 0x8, 0x1, 0x0, 0x0, 0x10, false⟩, -- TXS_DUTYCTL
  ⟨0x2009001C, 1, 0x4, 1, 0x4, 0x0, 0x0, 0x0, 0x0, 0x0, 0x0, false⟩, -- TXS_STAT
  ⟨0x20090020, 4, 0x8, 1, 0x4, 0x0, 0x0, 0x0, 0x0, 0x0, 0x0, false⟩, -- TXS_DUTYACC
  ⟨0x20090024, 4, 0x8, 1, 0x4, 0x0, 0x0, 0x0, 0xffff0000, 0x0, 0x0, false⟩, -- TXS_DUTYMIN
  ⟨0x20090200, 12, 0x20, 1, 0x4, 0xffffffff, 0x0, 0x0, 0x0, 0x0, 0x0, false⟩, -- TXS_QBASE
  ⟨0x20090204, 12, 0x20, 1, 0x4, 0xfff, 0x0, 0x0, 0x0, 0x0, 0x0, false⟩, -- TXS_QSIZE
  ⟨0x20090208, 12, 0x20, 1, 0x4, 0xfff, 0x0, 0x0, 0x0, 0x0, 0x0, false⟩, -- TXS_QHEAD
  ⟨0x2009020C, 12, 0x20, 1, 0x4, 0x0, 0x0, 0x0, 0x0, 0x0, 0x0, false⟩, -- TXS_QTAIL
  ⟨0x20090210, 12, 0x20, 1, 0x4, 0xffffffff, 0x0, 0x0, 0x0, 0x0, 0x0, false⟩, -- TXS_RBASE
  ⟨0x20090214, 12, 0x20, 1, 0x4, 0xfff, 0x0, 0x0, 0x0, 0x0, 0x0, false⟩, -- TXS_RSIZE
  ⟨0x20090218, 12, 0x20, 1, 0x4, 0x0, 0x0, 0x0, 0x0, 0x0, 0x0, false⟩, -- TXS_RHEAD
  ⟨0x2009021C, 12, 0x20, 1, 0x4, 0xfff, 0x0, 0x0, 0x0, 0x0, 0x0, false⟩, -- TXS_RTAIL
  ⟨0x20090400, 11, 0x4, 1, 0x4, 0x0, 0x0, 0x0, 0x0, 0x0, 0x0, false⟩, -- TXS_DEAFMAP
  ⟨0x20091000, 348, 0x4, 1, 0x4, 0x0, 0x0, 0x0, 0xffffffff, 0x0, 0x0, false⟩, -- TXS_DEAF
  ⟨0x20090100, 1, 0x4, 1, 0x4, 0x0, 0x0, 0x0, 0xffffffff, 0x0, 0x0, false⟩, -- TXS_CNT_SENT
  ⟨0x20090104, 1, 0x4, 1, 0x4, 0x0, 0x0, 0x0, 0xffffffff, 0x0, 0x0, false⟩, -- TXS_CNT_ACKED
  ⟨0x20090108, 1, 0x4, 1, 0x4, 0x0, 0x0, 0x0, 0xffffffff, 0x0, 0x0, false⟩, -- TXS_CNT_NOACK
  ⟨0x2009010C, 1, 0x4, 1, 0x4, 0x0, 0x0, 0x0, 0xffffffff, 0x0, 0x0, false⟩, -- TXS_CNT_LATE
  ⟨0x20090110, 1, 0x4, 1, 0x4, 0x0, 0x0, 0x0, 0xffffffff, 0x0, 0x0, false⟩, -- TXS_CNT_DUTY
  ⟨0x20090114, 1, 0x4, 1, 0x4, 0x0, 0x0, 0x0, 0xffffffff, 0x0, 0x0, false⟩, -- TXS_CNT_HOP
  ⟨0x20090118, 1, 0x4, 1, 0x4, 0x0, 0x0, 0x0, 0xffffffff, 0x0, 0x0, false⟩, -- TXS_CNT_STALE
  ⟨0x2009011C, 1, 0x4, 1, 0x4, 0x0, 0x0, 0x0, 0xffffffff, 0x0, 0x0, false⟩, -- TXS_CNT_NOROOM
  ⟨0x20090120, 1, 0x4, 1, 0x4, 0x0, 0x0, 0x0, 0xffffffff, 0x0, 0x0, false⟩, -- TXS_CNT_RETRY
  ⟨0x20090124, 1, 0x4, 1, 0x4, 0x0, 0x0, 0x0, 0xffffffff, 0x0, 0x0, false⟩, -- TXS_CNT_FULLWAKE
  ⟨0x20090128, 1, 0x4, 1, 0x4, 0x0, 0x0, 0x0, 0xffffffff, 0x0, 0x0, false⟩ -- TXS_CNT_TIMEDWAKE
]

/-- The rows of block FLD (R24). -/
def regRowsFld : List RegRow := [
  ⟨0x200A0000, 1, 0x4, 1, 0x4, 0xfffff7, 0x0, 0x0, 0x0, 0x0, 0xff507, true⟩, -- FLD_CTL
  ⟨0x200A0004, 1, 0x4, 1, 0x4, 0x7f7f, 0x0, 0x0, 0x0, 0x0, 0x2808, true⟩, -- FLD_JIT
  ⟨0x200A0008, 1, 0x4, 1, 0x4, 0xff, 0x0, 0x0, 0x0, 0x0, 0x14, true⟩, -- FLD_SILT
  ⟨0x200A0010, 1, 0x4, 1, 0x4, 0x0, 0x0, 0x7, 0x0, 0x0, 0x0, false⟩, -- FLD_CMD
  ⟨0x200A0014, 1, 0x4, 1, 0x4, 0xffffffff, 0x0, 0x0, 0x0, 0x0, 0x0, false⟩, -- FLD_MARKL
  ⟨0x200A0018, 1, 0x4, 1, 0x4, 0xffffffff, 0x0, 0x0, 0x0, 0x0, 0x0, false⟩, -- FLD_MARKH
  ⟨0x200A001C, 1, 0x4, 1, 0x4, 0xffffff, 0x0, 0x0, 0x0, 0x0, 0x0, false⟩, -- FLD_MARKSEQ
  ⟨0x200A0020, 1, 0x4, 1, 0x4, 0x0, 0x4, 0x0, 0x0, 0x0, 0x0, false⟩, -- FLD_STAT
  ⟨0x200A0024, 1, 0x4, 1, 0x4, 0x0, 0x0, 0x0, 0x0, 0x0, 0x0, false⟩, -- FLD_OCC
  ⟨0x200A0028, 1, 0x4, 1, 0x4, 0x0, 0x0, 0x0, 0x0, 0x0, 0x0, false⟩, -- FLD_STAT2
  ⟨0x200A0100, 1, 0x4, 1, 0x4, 0x0, 0x0, 0x0, 0xffffffff, 0x0, 0x0, false⟩, -- FLD_RXNEW
  ⟨0x200A0104, 1, 0x4, 1, 0x4, 0x0, 0x0, 0x0, 0xffffffff, 0x0, 0x0, false⟩, -- FLD_SEEN
  ⟨0x200A0108, 1, 0x4, 1, 0x4, 0x0, 0x0, 0x0, 0xffffffff, 0x0, 0x0, false⟩, -- FLD_SEEN_FAB
  ⟨0x200A010C, 1, 0x4, 1, 0x4, 0x0, 0x0, 0x0, 0xffffffff, 0x0, 0x0, false⟩, -- FLD_TTLEND
  ⟨0x200A0110, 1, 0x4, 1, 0x4, 0x0, 0x0, 0x0, 0xffffffff, 0x0, 0x0, false⟩, -- FLD_RELAYED
  ⟨0x200A0114, 1, 0x4, 1, 0x4, 0x0, 0x0, 0x0, 0xffffffff, 0x0, 0x0, false⟩, -- FLD_RELAYFAIL
  ⟨0x200A0118, 1, 0x4, 1, 0x4, 0x0, 0x0, 0x0, 0xffffffff, 0x0, 0x0, false⟩, -- FLD_RELAYDROP
  ⟨0x200A011C, 1, 0x4, 1, 0x4, 0x0, 0x0, 0x0, 0xffffffff, 0x0, 0x0, false⟩, -- FLD_SUPPRESSED
  ⟨0x200A0120, 1, 0x4, 1, 0x4, 0x0, 0x0, 0x0, 0xffffffff, 0x0, 0x0, false⟩, -- FLD_EVICT
  ⟨0x200A0124, 1, 0x4, 1, 0x4, 0x0, 0x0, 0x0, 0xffffffff, 0x0, 0x0, false⟩, -- FLD_PUB
  ⟨0x200A0128, 1, 0x4, 1, 0x4, 0x0, 0x0, 0x0, 0xffffffff, 0x0, 0x0, false⟩, -- FLD_PUBLOST
  ⟨0x200A012C, 1, 0x4, 1, 0x4, 0x0, 0x0, 0x0, 0xffffffff, 0x0, 0x0, false⟩, -- FLD_FABIN
  ⟨0x200A0130, 1, 0x4, 1, 0x4, 0x0, 0x0, 0x0, 0xffffffff, 0x0, 0x0, false⟩, -- FLD_FABDROP
  ⟨0x200A0134, 1, 0x4, 1, 0x4, 0x0, 0x0, 0x0, 0xffffffff, 0x0, 0x0, false⟩, -- FLD_IMPORTED
  ⟨0x200A0138, 1, 0x4, 1, 0x4, 0x0, 0x0, 0x0, 0xffffffff, 0x0, 0x0, false⟩ -- FLD_BADHDR
]

/-- The rows of block STK (R24). -/
def regRowsStk : List RegRow := [
  ⟨0x200B0000, 1, 0x4, 1, 0x4, 0x1, 0x0, 0x0, 0x0, 0x0, 0x1, false⟩, -- STK_CTL
  ⟨0x200B0004, 1, 0x4, 1, 0x4, 0x0, 0x0, 0x0, 0x0, 0x0, 0x0, false⟩, -- STK_ROLE
  ⟨0x200B0008, 1, 0x4, 1, 0x4, 0x0, 0x10, 0x0, 0x0, 0x0, 0x0, false⟩, -- STK_STAT
  ⟨0x200B000C, 1, 0x4, 1, 0x4, 0x0, 0x0, 0x0, 0x0, 0x0, 0x0, false⟩, -- STK_LOAD
  ⟨0x200B0010, 1, 0x4, 1, 0x4, 0x0, 0x0, 0x0, 0x0, 0x0, 0x0, false⟩, -- STK_SKEW
  ⟨0x200B0100, 1, 0x4, 1, 0x4, 0x0, 0x0, 0x0, 0xffffffff, 0x0, 0x0, false⟩, -- STK_JOINT
  ⟨0x200B0104, 1, 0x4, 1, 0x4, 0x0, 0x0, 0x0, 0xffffffff, 0x0, 0x0, false⟩, -- STK_LOCALONLY
  ⟨0x200B0108, 1, 0x4, 1, 0x4, 0x0, 0x0, 0x0, 0xffffffff, 0x0, 0x0, false⟩, -- STK_DEGRADED
  ⟨0x200B010C, 1, 0x4, 1, 0x4, 0x0, 0x0, 0x0, 0xffffffff, 0x0, 0x0, false⟩, -- STK_CONTRIB
  ⟨0x200B0110, 1, 0x4, 1, 0x4, 0x0, 0x0, 0x0, 0xffffffff, 0x0, 0x0, false⟩, -- STK_RECAPPLY
  ⟨0x200B0114, 1, 0x4, 1, 0x4, 0x0, 0x0, 0x0, 0xffffffff, 0x0, 0x0, false⟩, -- STK_RECSTALE
  ⟨0x200B0118, 1, 0x4, 1, 0x4, 0x0, 0x0, 0x0, 0xffffffff, 0x0, 0x0, false⟩, -- STK_CELLERR
  ⟨0x200B011C, 1, 0x4, 1, 0x4, 0x0, 0x0, 0x0, 0xffffffff, 0x0, 0x0, false⟩ -- STK_LEADERLOSTS
]

/-- The rows of block VFB (R24). -/
def regRowsVfb : List RegRow := [
  ⟨0x200C0000, 1, 0x4, 1, 0x4, 0x1ffffff, 0x0, 0x0, 0x0, 0x0, 0x18001, false⟩, -- VFB_CTL
  ⟨0x200C0004, 1, 0x4, 1, 0x4, 0x0, 0x0, 0x1, 0x0, 0x0, 0x0, false⟩, -- VFB_CMD
  ⟨0x200C0008, 1, 0x4, 1, 0x4, 0x0, 0x40, 0x0, 0x0, 0x0, 0x1, false⟩, -- VFB_STAT
  ⟨0x200C000C, 1, 0x4, 1, 0x4, 0x0, 0x1, 0x0, 0xff00, 0x0, 0x0, false⟩, -- VFB_HOLDOVER
  ⟨0x200C0010, 1, 0x4, 1, 0x4, 0x0, 0x0, 0x0, 0x0, 0x0, 0x0, false⟩, -- VFB_TIMEL
  ⟨0x200C0014, 1, 0x4, 1, 0x4, 0x0, 0x0, 0x0, 0x0, 0x0, 0x0, false⟩, -- VFB_TIMEH
  ⟨0x200C0018, 1, 0x4, 1, 0x4, 0x0, 0x0, 0x0, 0x0, 0x0, 0x0, false⟩, -- VFB_OFFSET
  ⟨0x200C001C, 1, 0x4, 1, 0x4, 0x0, 0x0, 0x0, 0x0, 0x0, 0xffff0000, false⟩, -- VFB_BCN
  ⟨0x200C0020, 1, 0x4, 1, 0x4, 0x0, 0x0, 0x0, 0x0, 0x0, 0x0, false⟩, -- VFB_STEP
  ⟨0x200C0030, 1, 0x4, 1, 0x4, 0xffffffff, 0x0, 0x0, 0x0, 0x0, 0x0, false⟩, -- VFB_OMASK
  ⟨0x200C0034, 1, 0x4, 1, 0x4, 0xffffffff, 0x0, 0x0, 0x0, 0x0, 0x0, false⟩, -- VFB_OEPL
  ⟨0x200C0038, 1, 0x4, 1, 0x4, 0x1ff, 0x0, 0x0, 0x0, 0x0, 0x0, false⟩, -- VFB_OEPH
  ⟨0x200C003C, 1, 0x4, 1, 0x4, 0xffffffff, 0x0, 0x0, 0x0, 0x0, 0x0, false⟩, -- VFB_OBLDL
  ⟨0x200C0040, 1, 0x4, 1, 0x4, 0xffffffff, 0x0, 0x0, 0x0, 0x0, 0x0, false⟩, -- VFB_OBLDH
  ⟨0x200C0044, 1, 0x4, 1, 0x4, 0x0, 0x0, 0x0, 0x0, 0x0, 0x0, false⟩, -- VFB_OSEQ
  ⟨0x200C0100, 1, 0x4, 1, 0x4, 0xffffffff, 0x0, 0x0, 0x0, 0x0, 0x0, false⟩, -- VFB_SQBASE
  ⟨0x200C0104, 1, 0x4, 1, 0x4, 0xfff, 0x0, 0x0, 0x0, 0x0, 0x0, false⟩, -- VFB_SQSIZE
  ⟨0x200C0108, 1, 0x4, 1, 0x4, 0xfff, 0x0, 0x0, 0x0, 0x0, 0x0, false⟩, -- VFB_SQHEAD
  ⟨0x200C010C, 1, 0x4, 1, 0x4, 0x0, 0x0, 0x0, 0x0, 0x0, 0x0, false⟩, -- VFB_SQTAIL
  ⟨0x200C0110, 1, 0x4, 1, 0x4, 0xffffffff, 0x0, 0x0, 0x0, 0x0, 0x0, false⟩, -- VFB_RRBASE
  ⟨0x200C0114, 1, 0x4, 1, 0x4, 0xfff, 0x0, 0x0, 0x0, 0x0, 0x0, false⟩, -- VFB_RRSIZE
  ⟨0x200C0118, 1, 0x4, 1, 0x4, 0x0, 0x0, 0x0, 0x0, 0x0, 0x0, false⟩, -- VFB_RRHEAD
  ⟨0x200C011C, 1, 0x4, 1, 0x4, 0xfff, 0x0, 0x0, 0x0, 0x0, 0x0, false⟩, -- VFB_RRTAIL
  ⟨0x200C0200, 1, 0x4, 1, 0x4, 0x0, 0x0, 0x0, 0xffffffff, 0x0, 0x0, false⟩, -- VFB_RXFRM
  ⟨0x200C0204, 1, 0x4, 1, 0x4, 0x0, 0x0, 0x0, 0xffffffff, 0x0, 0x0, false⟩, -- VFB_TXFRM
  ⟨0x200C0208, 1, 0x4, 1, 0x4, 0x0, 0x0, 0x0, 0xffffffff, 0x0, 0x0, false⟩, -- VFB_DUPDROP
  ⟨0x200C020C, 1, 0x4, 1, 0x4, 0x0, 0x0, 0x0, 0xffffffff, 0x0, 0x0, false⟩, -- VFB_BADFRM
  ⟨0x200C0210, 1, 0x4, 1, 0x4, 0x0, 0x0, 0x0, 0xffffffff, 0x0, 0x0, false⟩, -- VFB_BCNMISS
  ⟨0x200C0214, 1, 0x4, 1, 0x4, 0x0, 0x0, 0x0, 0xffffffff, 0x0, 0x0, false⟩, -- VFB_STEPS
  ⟨0x200C0218, 1, 0x4, 1, 0x4, 0x0, 0x0, 0x0, 0xffffffff, 0x0, 0x0, false⟩, -- VFB_TAKEOVER
  ⟨0x200C021C, 1, 0x4, 1, 0x4, 0x0, 0x0, 0x0, 0xffffffff, 0x0, 0x0, false⟩ -- VFB_RRDROP
]

/-- The rows of block EVT (R24). -/
def regRowsEvt : List RegRow := [
  ⟨0x200D0000, 1, 0x4, 1, 0x4, 0x1, 0x0, 0x0, 0x0, 0x0, 0x1, false⟩, -- EVT_CTL
  ⟨0x200D0004, 1, 0x4, 1, 0x4, 0x0, 0x100, 0x0, 0xffff0000, 0x0, 0x0, false⟩, -- EVT_LOOP
  ⟨0x200D0008, 1, 0x4, 1, 0x4, 0x0, 0x0, 0x0, 0x0, 0xffff00ff, 0x0, false⟩, -- EVT_SWTRIG
  ⟨0x200D000C, 1, 0x4, 1, 0x4, 0xffff, 0x0, 0x0, 0x0, 0x0, 0x2710, false⟩, -- EVT_KILLHOLD
  ⟨0x200D0010, 1, 0x4, 1, 0x4, 0xfffff, 0x0, 0x0, 0x0, 0x0, 0x0, false⟩, -- EVT_PCFG
  ⟨0x200D0020, 8, 0x4, 1, 0x4, 0x0, 0xffffffff, 0x0, 0x0, 0x0, 0x0, false⟩, -- EVT_FLAG
  ⟨0x200D0100, 16, 0x20, 8, 0x4, 0xffffffff, 0x0, 0x0, 0x0, 0x0, 0x0, false⟩, -- EVT_PMAT
  ⟨0x200D0300, 16, 0x4, 1, 0x4, 0x0, 0x0, 0x0, 0xffffffff, 0x0, 0x0, false⟩, -- EVT_PCNT
  ⟨0x200D0380, 16, 0x4, 1, 0x4, 0xffff, 0x0, 0x0, 0x0, 0x0, 0x1, false⟩, -- EVT_RELAY
  ⟨0x200D1000, 800, 0x4, 1, 0x4, 0x1ff, 0x0, 0x0, 0x0, 0x0, 0x0, false⟩, -- EVT_PROD
  ⟨0x200D2000, 400, 0x4, 1, 0x4, 0x1ff, 0x0, 0x0, 0x0, 0x0, 0x0, false⟩, -- EVT_TASK
  ⟨0x200D3000, 400, 0x4, 1, 0x4, 0x0, 0x0, 0x0, 0xffffffff, 0x0, 0x0, false⟩, -- EVT_TCNT
  ⟨0x200D4000, 256, 0x4, 1, 0x4, 0x0, 0x0, 0x0, 0x0, 0x0, 0x0, false⟩ -- EVT_CHOWN
]

/-- The rows of block IRQ (R24). -/
def regRowsIrq : List RegRow := [
  ⟨0x200E0000, 14, 0x10, 1, 0x4, 0xffffffff, 0x0, 0x0, 0x0, 0x0, 0x0, false⟩, -- IRQ_RBASE
  ⟨0x200E0004, 14, 0x10, 1, 0x4, 0xfff, 0x0, 0x0, 0x0, 0x0, 0x0, false⟩, -- IRQ_RSIZE
  ⟨0x200E0008, 14, 0x10, 1, 0x4, 0x0, 0x0, 0x0, 0x0, 0x0, 0x0, false⟩, -- IRQ_RHEAD
  ⟨0x200E000C, 14, 0x10, 1, 0x4, 0xfff, 0x0, 0x0, 0x0, 0x0, 0x0, false⟩, -- IRQ_RTAIL
  ⟨0x200E00E0, 1, 0x4, 1, 0x4, 0xffffffff, 0x0, 0x0, 0x0, 0x0, 0x0, false⟩, -- IRQ_HBASEH
  ⟨0x200E0100, 14, 0x4, 1, 0x4, 0x0, 0x1, 0x0, 0xffff0000, 0x0, 0x0, false⟩, -- IRQ_RSTAT
  ⟨0x200E0200, 1, 0x4, 1, 0x4, 0xffffffff, 0x0, 0x0, 0x0, 0x0, 0x0, false⟩, -- IRQ_PINCFG0
  ⟨0x200E0204, 1, 0x4, 1, 0x4, 0xf, 0x0, 0x0, 0x0, 0x0, 0x9, false⟩, -- IRQ_PINCFG1
  ⟨0x200E0208, 1, 0x4, 1, 0x4, 0x0, 0x0, 0x0, 0x0, 0x0, 0x0, false⟩, -- IRQ_ALATCH
  ⟨0x200E1000, 256, 0x4, 1, 0x4, 0xffff3fff, 0x0, 0x0, 0x0, 0x0, 0x10000, false⟩ -- IRQ_SRC
]

/-- The rows of block MBX (R24). -/
def regRowsMbx : List RegRow := [
  ⟨0x200F0000, 15, 0x1000, 128, 0x4, 0x0, 0x0, 0x0, 0x0, 0x0, 0x0, false⟩, -- MBX_SLOT
  ⟨0x200F0200, 15, 0x1000, 16, 0x4, 0xffffffff, 0x0, 0x0, 0x0, 0x0, 0x0, false⟩, -- MBX_STAGE
  ⟨0x200F0240, 15, 0x1000, 1, 0x4, 0x0, 0x0, 0x0, 0x0, 0x7fffffff, 0x0, false⟩, -- MBX_SEND
  ⟨0x200F0244, 15, 0x1000, 1, 0x4, 0xffff, 0x0, 0x0, 0x0, 0x0, 0x0, false⟩, -- MBX_SENDTAG
  ⟨0x200F0248, 15, 0x1000, 1, 0x4, 0x0, 0x10, 0x0, 0x0, 0x0, 0x0, false⟩, -- MBX_SENDSTAT
  ⟨0x200F024C, 15, 0x1000, 1, 0x4, 0x0, 0x0, 0x0, 0x0, 0x0, 0x0, false⟩, -- MBX_FULL
  ⟨0x200F0250, 15, 0x1000, 1, 0x4, 0x0, 0xffffffff, 0x0, 0x0, 0x0, 0x0, false⟩, -- MBX_DB
  ⟨0x200F0254, 15, 0x1000, 1, 0x4, 0xffffffff, 0x0, 0x0, 0x0, 0x0, 0x0, false⟩, -- MBX_DBMASK
  ⟨0x200F0258, 15, 0x1000, 1, 0x4, 0x0, 0x0, 0x0, 0xff0000, 0x0, 0x0, false⟩, -- MBX_ABORT
  ⟨0x200F0260, 15, 0x1000, 8, 0x8, 0x0, 0x0, 0x0, 0x0, 0x0, 0x0, false⟩, -- MBX_SRC
  ⟨0x200F0264, 15, 0x1000, 8, 0x8, 0x0, 0x0, 0x0, 0x0, 0x0, 0x0, false⟩, -- MBX_SRCTAG
  ⟨0x200F02A0, 15, 0x1000, 1, 0x4, 0x0, 0x0, 0x0, 0xffffffff, 0x0, 0x0, false⟩, -- MBX_CNT
  ⟨0x200FF000, 1, 0x4, 1, 0x4, 0xff, 0x0, 0x0, 0x0, 0x0, 0xa, false⟩, -- MBX_CTL
  ⟨0x200FF004, 1, 0x4, 1, 0x4, 0x0, 0x8000, 0x0, 0x0, 0x0, 0x0, false⟩ -- MBX_PEERRST
]

/-- The rows of block TMR (R24). -/
def regRowsTmr : List RegRow := [
  ⟨0x20100000, 32, 0x20, 1, 0x4, 0x3fff, 0x0, 0x0, 0x0, 0x0, 0x0, false⟩, -- TMR_CTL
  ⟨0x20100004, 32, 0x20, 1, 0x4, 0xffffffff, 0x0, 0x0, 0x0, 0x0, 0x0, false⟩, -- TMR_CNT
  ⟨0x20100008, 32, 0x20, 1, 0x4, 0xffffffff, 0x0, 0x0, 0x0, 0x0, 0x0, false⟩, -- TMR_CMP
  ⟨0x2010000C, 32, 0x20, 1, 0x4, 0xffffffff, 0x0, 0x0, 0x0, 0x0, 0x0, false⟩, -- TMR_PER
  ⟨0x20100010, 32, 0x20, 1, 0x4, 0xffffffff, 0x0, 0x0, 0x0, 0x0, 0x0, false⟩, -- TMR_PHASE
  ⟨0x20100014, 32, 0x20, 1, 0x4, 0x0, 0x0, 0x0, 0x0, 0x0, 0x0, false⟩, -- TMR_CAP
  ⟨0x20100018, 32, 0x20, 1, 0x4, 0x0, 0x7, 0x0, 0x0, 0x0, 0x8, false⟩, -- TMR_STAT
  ⟨0x20100400, 1, 0x4, 1, 0x4, 0x0, 0x0, 0xff, 0x0, 0x0, 0x0, false⟩ -- TMR_GRPCMD
]

/-- The rows of block RTC (R24). -/
def regRowsRtc : List RegRow := [
  ⟨0x20110000, 1, 0x4, 1, 0x4, 0x0, 0x0, 0x0, 0x0, 0x0, 0x0, false⟩, -- RTC_SUBSEC
  ⟨0x20110004, 1, 0x4, 1, 0x4, 0x0, 0x0, 0x0, 0x0, 0x0, 0x0, false⟩, -- RTC_SEC
  ⟨0x20110008, 1, 0x4, 1, 0x4, 0x0, 0x0, 0x0, 0x0, 0x0, 0x0, false⟩, -- RTC_MIN
  ⟨0x2011000C, 1, 0x4, 1, 0x4, 0x0, 0x0, 0x0, 0x0, 0x0, 0x0, false⟩, -- RTC_HOUR
  ⟨0x20110010, 1, 0x4, 1, 0x4, 0x0, 0x0, 0x0, 0x0, 0x0, 0x501, false⟩, -- RTC_DAY
  ⟨0x20110014, 1, 0x4, 1, 0x4, 0x0, 0x0, 0x0, 0x0, 0x0, 0x1, false⟩, -- RTC_MONTH
  ⟨0x20110018, 1, 0x4, 1, 0x4, 0x0, 0x0, 0x0, 0x0, 0x0, 0x0, false⟩, -- RTC_YEAR
  ⟨0x2011001C, 1, 0x4, 1, 0x4, 0x0, 0x0, 0x0, 0x0, 0x0, 0x0, false⟩, -- RTC_SECS
  ⟨0x20110020, 1, 0x4, 1, 0x4, 0x0, 0x0, 0x0, 0x0, 0x0, 0x0, false⟩, -- RTC_SECSH
  ⟨0x20110040, 6, 0x4, 1, 0x4, 0xff, 0x0, 0x0, 0x0, 0x0, 0x0, false⟩, -- RTC_WSHADOW
  ⟨0x20110060, 1, 0x4, 1, 0x4, 0x0, 0x0, 0x1, 0x0, 0x0, 0x0, false⟩, -- RTC_CMD
  ⟨0x20110064, 1, 0x4, 1, 0x4, 0x0, 0xe9, 0x0, 0x0, 0x0, 0x1, false⟩, -- RTC_STAT
  ⟨0x20110070, 1, 0x4, 1, 0x4, 0xffffffff, 0x0, 0x0, 0x0, 0x0, 0x0, false⟩, -- RTC_ALARM
  ⟨0x20110074, 1, 0x4, 1, 0x4, 0x1, 0x0, 0x0, 0x0, 0x0, 0x0, false⟩, -- RTC_ALARMH
  ⟨0x20110078, 1, 0x4, 1, 0x4, 0x3, 0x0, 0x0, 0x0, 0x0, 0x0, false⟩, -- RTC_ALMCTL
  ⟨0x20110100, 16, 0x4, 1, 0x4, 0xffffffff, 0x0, 0x0, 0x0, 0x0, 0x0, false⟩ -- RTC_BRAM
]

/-- The rows of block FLC (R24). -/
def regRowsFlc : List RegRow := [
  ⟨0x20120000, 1, 0x4, 1, 0x4, 0xff0f, 0x0, 0x0, 0x0, 0x0, 0xf07, false⟩, -- FLC_CTL
  ⟨0x20120004, 1, 0x4, 1, 0x4, 0x0, 0x0, 0x0, 0x0, 0x0, 0x0, false⟩, -- FLC_STAT
  ⟨0x20120010, 1, 0x4, 1, 0x4, 0xff, 0x0, 0x80000000, 0x0, 0x0, 0x0, false⟩, -- FLC_WPROT
  ⟨0x20120100, 4, 0x20, 1, 0x4, 0x1fffff, 0x0, 0x80000000, 0x0, 0x0, 0x0, false⟩, -- FLC_CMD
  ⟨0x20120104, 4, 0x20, 1, 0x4, 0xffffffff, 0x0, 0x0, 0x0, 0x0, 0x0, false⟩, -- FLC_SRC
  ⟨0x20120108, 4, 0x20, 1, 0x4, 0x0, 0x40, 0x0, 0x0, 0x0, 0x0, false⟩, -- FLC_CSTAT
  ⟨0x20120200, 1, 0x4, 1, 0x4, 0x0, 0x0, 0x0, 0x0, 0x0, 0x0, false⟩, -- FLC_TORN
  ⟨0x20120204, 1, 0x4, 1, 0x4, 0x0, 0x0, 0x0, 0x0, 0x0, 0x0, false⟩, -- FLC_SLOTINV
  ⟨0x20120240, 32, 0x4, 1, 0x4, 0x0, 0x0, 0x0, 0x0, 0x0, 0x0, false⟩, -- FLC_TORNMAP
  ⟨0x20120300, 1, 0x4, 1, 0x4, 0x0, 0x1, 0x0, 0x0, 0x0, 0x0, false⟩, -- FLC_WEAR
  ⟨0x20120304, 1, 0x4, 1, 0x4, 0x0, 0x0, 0x0, 0x0, 0x0, 0x0, false⟩, -- FLC_FORECAST
  ⟨0x20120308, 1, 0x4, 1, 0x4, 0x0, 0x0, 0x0, 0x0, 0x0, 0x0, false⟩, -- FLC_LOAMSTAT
  ⟨0x20120310, 4, 0x4, 1, 0x4, 0x0, 0x0, 0x0, 0x0, 0x0, 0x0, false⟩, -- FLC_LOAMMAP
  ⟨0x20120320, 4, 0x4, 1, 0x4, 0x0, 0x0, 0x0, 0x0, 0x0, 0x0, false⟩, -- FLC_LOAMVER
  ⟨0x20120400, 1, 0x4, 1, 0x4, 0x0, 0x0, 0x0, 0xffffffff, 0x0, 0x0, false⟩, -- FLC_PROG
  ⟨0x20120404, 1, 0x4, 1, 0x4, 0x0, 0x0, 0x0, 0xffffffff, 0x0, 0x0, false⟩, -- FLC_ERASES
  ⟨0x20120408, 1, 0x4, 1, 0x4, 0x0, 0x0, 0x0, 0xffffffff, 0x0, 0x0, false⟩, -- FLC_RETRY
  ⟨0x2012040C, 1, 0x4, 1, 0x4, 0x0, 0x0, 0x0, 0xffffffff, 0x0, 0x0, false⟩, -- FLC_UNCORR
  ⟨0x20120410, 1, 0x4, 1, 0x4, 0x0, 0x0, 0x0, 0xffffffff, 0x0, 0x0, false⟩, -- FLC_BLANKFAIL
  ⟨0x20120414, 1, 0x4, 1, 0x4, 0x0, 0x0, 0x0, 0xffffffff, 0x0, 0x0, false⟩ -- FLC_LWRITES
]

/-- The rows of block KEY (R24). -/
def regRowsKey : List RegRow := [
  ⟨0x20130000, 1, 0x4, 1, 0x4, 0x0, 0x0, 0x0, 0x0, 0x0, 0x0, false⟩, -- KEY_LC
  ⟨0x20130004, 1, 0x4, 1, 0x4, 0x0, 0x0, 0x0, 0x0, 0xff07, 0x0, false⟩, -- KEY_LCCMD
  ⟨0x20130008, 1, 0x4, 1, 0x4, 0x0, 0x8, 0x0, 0x0, 0x0, 0x0, false⟩, -- KEY_STAT
  ⟨0x20130010, 1, 0x4, 1, 0x4, 0xffffffff, 0x0, 0x0, 0x0, 0x0, 0x0, false⟩, -- KEY_UPDADDR
  ⟨0x20130014, 1, 0x4, 1, 0x4, 0x0, 0x0, 0x1, 0x0, 0x0, 0x0, false⟩, -- KEY_UPDCMD
  ⟨0x20130018, 1, 0x4, 1, 0x4, 0x0, 0x20, 0x0, 0x0, 0x0, 0x0, false⟩, -- KEY_UPDSTAT
  ⟨0x20130020, 1, 0x4, 1, 0x4, 0x0, 0x0, 0x0, 0x0, 0x0, 0x0, false⟩, -- KEY_CTRKU
  ⟨0x20130024, 1, 0x4, 1, 0x4, 0x0, 0x0, 0x0, 0x0, 0x0, 0x0, false⟩, -- KEY_CTRBSVN
  ⟨0x20130028, 1, 0x4, 1, 0x4, 0x0, 0x0, 0x0, 0x0, 0x0, 0x0, false⟩, -- KEY_CTRISVN
  ⟨0x2013002C, 1, 0x4, 1, 0x4, 0x0, 0x0, 0x0, 0x0, 0xffffffff, 0x0, false⟩, -- KEY_ISVNADV
  ⟨0x20130040, 8, 0x4, 1, 0x4, 0x0, 0x0, 0x0, 0x0, 0x0, 0x0, false⟩, -- KEY_IDFP
  ⟨0x20130060, 16, 0x4, 1, 0x4, 0x0, 0x0, 0x0, 0x0, 0x0, 0x0, false⟩, -- KEY_IDPUB
  ⟨0x20130100, 4, 0x4, 1, 0x4, 0x0, 0x0, 0x0, 0xffffffff, 0x0, 0x0, false⟩, -- KEY_CNT
  ⟨0x20130400, 256, 0x4, 1, 0x4, 0x0, 0x0, 0x0, 0x0, 0x0, 0x0, false⟩, -- KEY_SLOTATTR
  ⟨0x20130800, 256, 0x4, 1, 0x4, 0x0, 0x20, 0x0, 0x0, 0x0, 0x0, false⟩ -- KEY_SLOTSTAT
]

/-- The rows of block CPH (R24). -/
def regRowsCph : List RegRow := [
  ⟨0x20140000, 15, 0x1000, 1, 0x4, 0x1ff0f, 0x0, 0x80000000, 0x0, 0x0, 0x0, false⟩, -- CPH_CMD
  ⟨0x20140004, 16, 0x1000, 1, 0x4, 0xffffffff, 0x0, 0x0, 0x0, 0x0, 0x0, false⟩, -- CPH_SRC
  ⟨0x20140008, 16, 0x1000, 1, 0x4, 0xffffffff, 0x0, 0x0, 0x0, 0x0, 0x0, false⟩, -- CPH_DST
  ⟨0x2014000C, 16, 0x1000, 1, 0x4, 0xffff, 0x0, 0x0, 0x0, 0x0, 0x0, false⟩, -- CPH_LEN
  ⟨0x20140010, 16, 0x1000, 1, 0x4, 0xffffffff, 0x0, 0x0, 0x0, 0x0, 0x0, false⟩, -- CPH_PARAM
  ⟨0x20140014, 16, 0x1000, 1, 0x4, 0x0, 0x20, 0x0, 0x0, 0x0, 0x0, false⟩, -- CPH_STAT
  ⟨0x20140020, 16, 0x1000, 1, 0x4, 0x0, 0x0, 0x0, 0xffff0000, 0x0, 0x0, false⟩, -- CPH_STRCNT
  ⟨0x2014F000, 1, 0x4, 1, 0x4, 0x1, 0x0, 0x0, 0x0, 0x0, 0x1, false⟩ -- CPH_CTL
]

/-- The rows of block UPD (R24). -/
def regRowsUpd : List RegRow := [
  ⟨0x20150000, 1, 0x4, 1, 0x4, 0x1, 0x0, 0x0, 0x0, 0x0, 0x1, false⟩, -- UPD_CTL
  ⟨0x20150004, 1, 0x4, 1, 0x4, 0xffffffff, 0x0, 0x0, 0x0, 0x0, 0x1200000, false⟩, -- UPD_WINBASE
  ⟨0x20150008, 1, 0x4, 1, 0x4, 0x7ff, 0x0, 0x0, 0x0, 0x0, 0x600, false⟩, -- UPD_WINLEN
  ⟨0x2015000C, 1, 0x4, 1, 0x4, 0xffffffff, 0x0, 0x0, 0x0, 0x0, 0x0, false⟩, -- UPD_BLKCRC
  ⟨0x20150010, 1, 0x4, 1, 0x4, 0x0, 0x0, 0x0, 0x0, 0x7ff, 0x0, false⟩, -- UPD_BLOCK
  ⟨0x20150014, 1, 0x4, 1, 0x4, 0x0, 0x0, 0x0, 0x0, 0x0, 0x0, false⟩, -- UPD_RXSTAT
  ⟨0x20150018, 1, 0x4, 1, 0x4, 0x3f, 0x0, 0x80000000, 0x0, 0x0, 0x0, false⟩, -- UPD_CMD
  ⟨0x2015001C, 1, 0x4, 1, 0x4, 0x0, 0x10, 0x0, 0x0, 0x0, 0x0, false⟩, -- UPD_STAT
  ⟨0x20150020, 1, 0x4, 1, 0x4, 0x0, 0x0, 0x0, 0x0, 0x0, 0x0, false⟩, -- UPD_PROGRESS
  ⟨0x20150040, 4, 0x4, 1, 0x4, 0x0, 0x0, 0x0, 0x0, 0x0, 0x0, false⟩, -- UPD_SLOTSTAT
  ⟨0x20150100, 48, 0x4, 1, 0x4, 0x0, 0x0, 0x0, 0x0, 0x0, 0x0, false⟩, -- UPD_BLKMAP
  ⟨0x20150200, 3, 0x4, 1, 0x4, 0x0, 0x0, 0x0, 0xffffffff, 0x0, 0x0, false⟩ -- UPD_CNT
]

/-- The rows of block HIF (R24). -/
def regRowsHif : List RegRow := [
  ⟨0x20160000, 1, 0x4, 1, 0x4, 0x1, 0x0, 0x0, 0x0, 0x0, 0x1, false⟩, -- HIF_CTL
  ⟨0x20160004, 1, 0x4, 1, 0x4, 0x0, 0x0, 0x0, 0x0, 0x0, 0x0, false⟩, -- HIF_STAT
  ⟨0x20160008, 1, 0x4, 1, 0x4, 0x0, 0xf, 0x0, 0x0, 0x0, 0x0, false⟩, -- HIF_ERR
  ⟨0x20160010, 1, 0x4, 1, 0x4, 0xffffffff, 0x0, 0x0, 0x0, 0x0, 0x0, false⟩, -- HIF_EVWBL
  ⟨0x20160014, 1, 0x4, 1, 0x4, 0xffffffff, 0x0, 0x0, 0x0, 0x0, 0x0, false⟩, -- HIF_EVWBH
  ⟨0x20160018, 1, 0x4, 1, 0x4, 0xbfffffff, 0x0, 0x0, 0x0, 0x0, 0x1, false⟩, -- HIF_EVMOD
  ⟨0x20161000, 32, 0x40, 1, 0x4, 0xffffffff, 0x0, 0x0, 0x0, 0x0, 0x0, false⟩, -- HIF_RXBASEL
  ⟨0x20161004, 32, 0x40, 1, 0x4, 0xffffffff, 0x0, 0x0, 0x0, 0x0, 0x0, false⟩, -- HIF_RXBASEH
  ⟨0x20161008, 32, 0x40, 1, 0x4, 0x10fff, 0x0, 0x0, 0x0, 0x0, 0x0, false⟩, -- HIF_RXCFG
  ⟨0x2016100C, 32, 0x40, 1, 0x4, 0x0, 0x0, 0x0, 0x0, 0x0, 0x0, false⟩, -- HIF_RXHEAD
  ⟨0x20161010, 32, 0x40, 1, 0x4, 0xfff, 0x0, 0x0, 0x0, 0x0, 0x0, false⟩, -- HIF_RXTAIL
  ⟨0x20161014, 32, 0x40, 1, 0x4, 0xffffffff, 0x0, 0x0, 0x0, 0x0, 0x0, false⟩, -- HIF_RXWBL
  ⟨0x20161018, 32, 0x40, 1, 0x4, 0xffffffff, 0x0, 0x0, 0x0, 0x0, 0x0, false⟩, -- HIF_RXWBH
  ⟨0x2016101C, 32, 0x40, 1, 0x4, 0xffffffff, 0x0, 0x0, 0x0, 0x0, 0x0, false⟩, -- HIF_RXBUFL
  ⟨0x20161020, 32, 0x40, 1, 0x4, 0xffffffff, 0x0, 0x0, 0x0, 0x0, 0x0, false⟩, -- HIF_RXBUFH
  ⟨0x20161024, 32, 0x40, 1, 0x4, 0xbfffffff, 0x0, 0x0, 0x0, 0x0, 0x1, false⟩, -- HIF_RXMOD
  ⟨0x20161028, 32, 0x40, 1, 0x4, 0x0, 0x0, 0x0, 0xffffffff, 0x0, 0x0, false⟩, -- HIF_RXCNT
  ⟨0x20162000, 32, 0x40, 1, 0x4, 0xffffffff, 0x0, 0x0, 0x0, 0x0, 0x0, false⟩, -- HIF_TXBASEL
  ⟨0x20162004, 32, 0x40, 1, 0x4, 0xffffffff, 0x0, 0x0, 0x0, 0x0, 0x0, false⟩, -- HIF_TXBASEH
  ⟨0x20162008, 32, 0x40, 1, 0x4, 0xfff, 0x0, 0x0, 0x0, 0x0, 0x0, false⟩, -- HIF_TXCFG
  ⟨0x2016200C, 32, 0x40, 1, 0x4, 0xfff, 0x0, 0x0, 0x0, 0x0, 0x0, false⟩, -- HIF_TXHEAD
  ⟨0x20162010, 32, 0x40, 1, 0x4, 0x0, 0x0, 0x0, 0x0, 0x0, 0x0, false⟩, -- HIF_TXTAIL
  ⟨0x20162014, 32, 0x40, 1, 0x4, 0xffffffff, 0x0, 0x0, 0x0, 0x0, 0x0, false⟩, -- HIF_TXCBASEL
  ⟨0x20162018, 32, 0x40, 1, 0x4, 0xffffffff, 0x0, 0x0, 0x0, 0x0, 0x0, false⟩, -- HIF_TXCBASEH
  ⟨0x2016201C, 32, 0x40, 1, 0x4, 0xfff, 0x0, 0x0, 0x0, 0x0, 0x0, false⟩, -- HIF_TXCCFG
  ⟨0x20162020, 32, 0x40, 1, 0x4, 0x0, 0x0, 0x0, 0x0, 0x0, 0x0, false⟩, -- HIF_TXCHEAD
  ⟨0x20162024, 32, 0x40, 1, 0x4, 0xfff, 0x0, 0x0, 0x0, 0x0, 0x0, false⟩, -- HIF_TXCTAIL
  ⟨0x20162028, 32, 0x40, 1, 0x4, 0xffffffff, 0x0, 0x0, 0x0, 0x0, 0x0, false⟩, -- HIF_TXWBL
  ⟨0x2016202C, 32, 0x40, 1, 0x4, 0xffffffff, 0x0, 0x0, 0x0, 0x0, 0x0, false⟩, -- HIF_TXWBH
  ⟨0x20162030, 32, 0x40, 1, 0x4, 0xbfffffff, 0x0, 0x0, 0x0, 0x0, 0x1, false⟩, -- HIF_TXMOD
  ⟨0x20162034, 32, 0x40, 1, 0x4, 0x0, 0x0, 0x0, 0x0, 0x0, 0x0, false⟩, -- HIF_TXOUT
  ⟨0x20160100, 1, 0x4, 1, 0x4, 0x0, 0x0, 0x0, 0xffffffff, 0x0, 0x0, false⟩, -- HIF_RXDESC
  ⟨0x20160104, 1, 0x4, 1, 0x4, 0x0, 0x0, 0x0, 0xffffffff, 0x0, 0x0, false⟩, -- HIF_RXLOST
  ⟨0x20160108, 1, 0x4, 1, 0x4, 0x0, 0x0, 0x0, 0xffffffff, 0x0, 0x0, false⟩, -- HIF_TXREQ
  ⟨0x2016010C, 1, 0x4, 1, 0x4, 0x0, 0x0, 0x0, 0xffffffff, 0x0, 0x0, false⟩, -- HIF_TXDISC
  ⟨0x20160110, 1, 0x4, 1, 0x4, 0x0, 0x0, 0x0, 0xffffffff, 0x0, 0x0, false⟩, -- HIF_MSIX
  ⟨0x20160114, 1, 0x4, 1, 0x4, 0x0, 0x0, 0x0, 0xffffffff, 0x0, 0x0, false⟩, -- HIF_CTO
  ⟨0x20160118, 1, 0x4, 1, 0x4, 0x0, 0x0, 0x0, 0xffffffff, 0x0, 0x0, false⟩, -- HIF_RESETS
  ⟨0x2016011C, 1, 0x4, 1, 0x4, 0x0, 0x0, 0x0, 0xffffffff, 0x0, 0x0, false⟩ -- HIF_LINKDOWN
]

/-- The rows of block SNP (R24). -/
def regRowsSnp : List RegRow := [
  ⟨0x20170000, 1, 0x4, 1, 0x4, 0x7, 0x0, 0x0, 0x0, 0x0, 0x5, false⟩, -- SNP_CTL
  ⟨0x20170004, 1, 0x4, 1, 0x4, 0x0, 0x0, 0x37, 0x0, 0x0, 0x0, false⟩, -- SNP_CMD
  ⟨0x20170008, 1, 0x4, 1, 0x4, 0x0, 0x10, 0x0, 0x0, 0x0, 0x0, false⟩, -- SNP_STAT
  ⟨0x2017000C, 1, 0x4, 1, 0x4, 0xffffffff, 0x0, 0x0, 0x0, 0x0, 0x0, false⟩, -- SNP_TTRIGL
  ⟨0x20170010, 1, 0x4, 1, 0x4, 0xffffffff, 0x0, 0x0, 0x0, 0x0, 0x0, false⟩, -- SNP_TTRIGH
  ⟨0x20170014, 1, 0x4, 1, 0x4, 0x1, 0x0, 0x2, 0x0, 0x0, 0x0, false⟩, -- SNP_CNTCTL
  ⟨0x20170018, 1, 0x4, 1, 0x4, 0x1, 0x2, 0x0, 0x0, 0x0, 0x100, false⟩, -- SNP_TEST
  ⟨0x2017001C, 1, 0x4, 1, 0x4, 0x0, 0x0, 0x0, 0x0, 0x0, 0x0, false⟩, -- SNP_IDCODE
  ⟨0x20170100, 32, 0x4, 1, 0x4, 0x0, 0x0, 0x0, 0x0, 0x0, 0x0, false⟩, -- SNP_SEG
  ⟨0x20172000, 2, 0x2000, 2048, 0x4, 0x0, 0x0, 0x0, 0x0, 0x0, 0x0, false⟩, -- SNP_BANK
  ⟨0x20170200, 1, 0x4, 1, 0x4, 0x0, 0x0, 0x0, 0xffffffff, 0x0, 0x0, false⟩, -- SNP_TRIGS
  ⟨0x20170204, 1, 0x4, 1, 0x4, 0x0, 0x0, 0x0, 0xffffffff, 0x0, 0x0, false⟩, -- SNP_MISSED
  ⟨0x20170208, 1, 0x4, 1, 0x4, 0x0, 0x0, 0x0, 0xffffffff, 0x0, 0x0, false⟩, -- SNP_LATE
  ⟨0x2017020C, 1, 0x4, 1, 0x4, 0x0, 0x0, 0x0, 0xffffffff, 0x0, 0x0, false⟩, -- SRAM_CORR
  ⟨0x20170210, 1, 0x4, 1, 0x4, 0x0, 0x0, 0x0, 0xffffffff, 0x0, 0x0, false⟩ -- SRAM_UNCORR
]

/-- The rows of block COX (R24). -/
def regRowsCox : List RegRow := [
  ⟨0x20180000, 1, 0x4, 1, 0x4, 0xfff0f, 0x0, 0x0, 0x0, 0x0, 0x11402, false⟩, -- COX_CTL
  ⟨0x20180004, 1, 0x4, 1, 0x4, 0x0, 0x10, 0x0, 0x0, 0x0, 0x0, false⟩, -- COX_STAT
  ⟨0x20180008, 1, 0x4, 1, 0x4, 0x0, 0x0, 0x0, 0xffffffff, 0x0, 0x0, false⟩, -- COX_CNT
  ⟨0x2018000C, 1, 0x4, 1, 0x4, 0x0, 0x0, 0x0, 0x0, 0x0, 0x0, false⟩ -- COX_LASTCUT
]

/-- The rows of the block with number `b`, its place in the 64 KiB stride of R24. -/
def regRows (b : Nat) : List RegRow :=
  match b with
  | 0 => regRowsSys
  | 1 => regRowsCfg
  | 2 => regRowsPwr
  | 3 => regRowsRfp
  | 4 => regRowsSyn
  | 5 => regRowsCap
  | 6 => regRowsSpx
  | 7 => regRowsPhy
  | 8 => regRowsLnk
  | 9 => regRowsTxs
  | 10 => regRowsFld
  | 11 => regRowsStk
  | 12 => regRowsVfb
  | 13 => regRowsEvt
  | 14 => regRowsIrq
  | 15 => regRowsMbx
  | 16 => regRowsTmr
  | 17 => regRowsRtc
  | 18 => regRowsFlc
  | 19 => regRowsKey
  | 20 => regRowsCph
  | 21 => regRowsUpd
  | 22 => regRowsHif
  | 23 => regRowsSnp
  | 24 => regRowsCox
  | _ => []

/-- `r` covers the word at `a`. -/
def RegRow.covers (r : RegRow) (a : Nat) : Bool :=
  r.base ≤ a && (a - r.base) / r.s1 < r.n1 && (a - r.base) % r.s1 / r.s2 < r.n2 && (a - r.base) % r.s1 % r.s2 == 0

/-- The row of the register map that holds the word at `a`, if one does (R24, R25). -/
def regRow (a : Nat) : Option RegRow :=
  if a < 0x20000000 then none else (regRows ((a - 0x20000000) / 0x10000)).find? (·.covers a)

/-- The word a register holds after reset (R23); an active value (R38) resets to its register's word. -/
def resetWord (a : Nat) : Word :=
  match regRow a with
  | some r => BitVec.ofNat 32 r.reset
  | none =>
    match regRow (a - 0x8000) with
    | some r => if r.shadowed then BitVec.ofNat 32 r.reset else 0
    | none => 0

/-- The field's active value, kept at the mirror address (R38). -/
def Field.active (f : Field) : Field := ⟨f.addr + 0x8000, f.lo, f.width⟩

end Sys2Proof.Machine
end

