-- ==== Sys2Proof/Machine/Store.lean ====
section
/-! DEFINITION. Machine/Store.lean: one sparse map from numbers to values, used for registers, memory and every array
of like things.  It lists, keys strictly rising, the entries that differ from a default, so that equal maps are equal
data; and the reading and writing of bit fields in a word. -/

namespace Sys2Proof.Machine

/-- A sparse map: keys strictly rising, no entry equal to its default. -/
abbrev Store (α : Type) := List (Nat × α)

/-- The value under key `k`; an unlisted key holds `d`. -/
def stGet {α : Type} (d : α) : Store α → Nat → α
  | [], _ => d
  | (j, v) :: m, k => if j = k then v else stGet d m k

/-- Put `v` under key `k`, whatever it is, keeping the keys rising. -/
def stInsert {α : Type} (v : α) : Store α → Nat → Store α
  | [], k => [(k, v)]
  | (j, w) :: m, k =>
    if k < j then (k, v) :: (j, w) :: m
    else if k = j then (k, v) :: m
    else (j, w) :: stInsert v m k

/-- Remove every entry of key `k`. -/
def stErase {α : Type} : Store α → Nat → Store α
  | [], _ => []
  | (j, w) :: m, k => if j = k then stErase m k else (j, w) :: stErase m k

/-- Write `v` under key `k` in canonical form: the default is not listed. -/
def stSet {α : Type} [DecidableEq α] (d : α) (m : Store α) (k : Nat) (v : α) : Store α :=
  if v = d then stErase m k else stInsert v m k

/-- The keys of a store rise strictly from above `lo`. -/
def stRising {α : Type} : Nat → Store α → Bool
  | _, [] => true
  | lo, (j, _) :: m => lo ≤ j && stRising (j + 1) m

/-- The canonical form of a store whose default at key `k` is `d k`. -/
def stWf {α : Type} [DecidableEq α] (d : Nat → α) (m : Store α) : Bool :=
  stRising 0 m && m.all fun e => decide (e.2 ≠ d e.1)

/-- Bits `lo` to `lo + width − 1` of a word, as a number (R13). -/
def fieldGet (w : Word) (lo width : Nat) : Nat := w.toNat / 2 ^ lo % 2 ^ width

/-- The mask of a field's bits. -/
def fieldMask (lo width : Nat) : Word := BitVec.ofNat 32 ((2 ^ width - 1) * 2 ^ lo)

/-- The word `w` with bits `lo` to `lo + width − 1` replaced by the low bits of `v`. -/
def fieldSet (w : Word) (lo width v : Nat) : Word :=
  (w &&& ~~~ fieldMask lo width) ||| BitVec.ofNat 32 (v % 2 ^ width * 2 ^ lo)

/-- Bit `n` of a number. -/
def bitOf (v n : Nat) : Bool := v / 2 ^ n % 2 == 1

/-- Bits [m:n] of a number, m ≥ n (R13). -/
def bitsOf (v m n : Nat) : Nat := v / 2 ^ n % 2 ^ (m + 1 - n)

/-- A two's-complement number of `w` bits as an integer. -/
def signedOf (w v : Nat) : Int := if v % 2 ^ w < 2 ^ (w - 1) then (v % 2 ^ w : Int) else (v % 2 ^ w : Int) - 2 ^ w

/-- The low `w` bits of an integer in two's complement. -/
def wrapOf (w : Nat) (v : Int) : Nat := (v % (2 ^ w : Int)).toNat

/-- 1 for true, 0 for false. -/
def b2n (b : Bool) : Nat := if b then 1 else 0

/-- The smaller of a value and its limit: a count that saturates at all ones of `w` bits. -/
def satInc (w v n : Nat) : Nat := min (v + n) (2 ^ w - 1)

/-- A number as `n` octets, least significant first (R17). -/
def leBytes : Nat → Nat → List Byte
  | 0, _ => []
  | n + 1, v => BitVec.ofNat 8 v :: leBytes n (v / 256)

/-- The number that octets spell, least significant first (R17). -/
def ofLe : List Byte → Nat
  | [] => 0
  | b :: bs => b.toNat + 256 * ofLe bs

/-- A number as `n` octets, most significant first. -/
def beBytes (n v : Nat) : List Byte := (leBytes n v).reverse

/-- The number that octets spell, most significant first. -/
def ofBe (l : List Byte) : Nat := ofLe l.reverse

end Sys2Proof.Machine
end

