-- ==== Sys2Proof/Machine/State.lean ====
section
/-! DEFINITION. Machine/State.lean: the state of the device as plain data.  Registers live in one sparse store keyed by
their address (Machine/RegMap.lean); the structures below hold what the spec gives the device beside its registers.
Arrays of like things are sparse stores whose unlisted entries are idle. -/

namespace Sys2Proof.Machine

/-- Why a command stops with a fault.  No command of this device does: an access the spec forbids ends in a bus error
or a completer abort (R19, R27), which is a result and not a stop.  Safe: the type is empty of uses. -/
inductive Fault where
  /-- Raised by no command; kept so that the type is not empty. -/
  | none
  deriving DecidableEq, Repr

/-- Why a command is refused by the model. -/
inductive Refusal where
  /-- The command has no meaning in the model yet; raised by `exec` alone.  Safe: the run stops. -/
  | notModelled (mnemonic : String)
  deriving DecidableEq, Repr

/-- An event in the Tilth fabric on its way from its producer to its channel (R338, R343, R348). -/
structure Event where
  producer : Nat
  payload : Nat
  hops : Nat := 0
  async : Bool := false
  /-- The channel of a software trigger, which has no route (R359). -/
  chan : Option Nat := none
  /-- A relay's output, which enters its channel under EVT_CTL.EN = 0 too (R358). -/
  forced : Bool := false
  deriving DecidableEq, Repr

/-- What leaves the device through one of its interfaces. -/
inductive OutKind where
  /-- A write to host memory: address (R470). -/
  | hostWrite
  /-- An MSI-X message: vector (R479). -/
  | msix
  /-- A fabric frame: port, kind, fields (R267). -/
  | fabricFrame
  /-- A stack cell: ring ports, kind, fields (R265). -/
  | stackCell
  /-- A PTP message: port, message, fields (R271). -/
  | ptp
  /-- A frame handed to a transmit lane and put on air: lane, bin, air start (R85). -/
  | air
  /-- A transmission by software of a port held in TX: port, bin, content (1 PRBS9 under profile 0, 0 carrier), power (R80, R164). -/
  | test
  /-- A PMBus transaction: page, code, data (R389). -/
  | pmbus
  /-- The completion of a host read through BAR2: offset, octets (R469). -/
  | completion
  /-- The digital balls under the boundary register: instruction code, cells (R494, R496). -/
  | balls
  /-- A pulse on a pin: which pin (R256, R488). -/
  | pulse
  /-- The wake port holds SDA low for the ninth clock of its address (R400). -/
  | wakeAck
  deriving DecidableEq, Repr

/-- One item on an interface of the device, with its numbers and octets. -/
structure Output where
  kind : OutKind
  nums : List Nat
  octets : List Byte := []
  deriving DecidableEq, Repr

/-- The result of the last bus access (R19, R27, R60). -/
inductive BusResult where
  /-- The access completed. -/
  | ok
  /-- It ended in a bus error toward an engine, or a completer abort toward the host. -/
  | error
  deriving DecidableEq, Repr

/-- One of the two planes of a region (R66): what a bitstream put into configuration memory.  Its state and slot are in
CFG_RGNn. -/
structure Plane where
  build : Nat := 0
  bsvn : Nat := 0
  /-- Register runs: word by register address (R57). -/
  regs : List (Nat × Word) := []
  /-- Table runs: word by table key. -/
  tables : List (Nat × Word) := []
  /-- The octets of a fixed-layout region (R56, R58, R59). -/
  payload : List Byte := []
  deriving DecidableEq, Repr

/-- The reference and what follows it: stage 1 when a loss is declared, 2 when the input has switched, 0 otherwise; REF_VALID has held
10 ms; the return has begun; and the calibration of a start-up runs or waits for the band plan (R31, R32, R82, R93). -/
structure RefX where
  stage : Nat := 0
  qual : Bool := false
  ret : Bool := false
  startCal : Bool := false
  deriving DecidableEq, Repr

/-- The staging cut of the period (R39): whether it has passed, the shadow words captured at it by mirror address, and the blocks
armed then. -/
structure CutX where
  done : Bool := false
  words : List (Nat × Word) := []
  mask : Nat := 0
  deriving DecidableEq, Repr

/-- A swap request (R67, R70, R71): regions, required build, target epoch, whether it came as a venue order and under which
ORDER_SEQ, and whether it is late. -/
structure SwapReq where
  mask : Nat
  build : Nat
  target : Nat
  venue : Bool := false
  seq : Nat := 0
  late : Bool := false
  deriving DecidableEq, Repr

/-- A directory entry of a bitstream (R53). -/
structure BsDir where
  id : Nat
  off : Nat
  len : Nat
  crc : Nat
  deriving DecidableEq, Repr

/-- A load that is requested or runs (R60 to R64): its slot and region mask, whether it has begun, whether it is the load of a
start-up, what the header gave, the directory, the regions still to be checked, and whether it runs in the no-structure
state. -/
structure LoadRun where
  slot : Nat
  mask : Nat
  begun : Bool := false
  boot : Bool := false
  total : Nat := 0
  build : Nat := 0
  bsvn : Nat := 0
  signer : Nat := 0
  dirs : List BsDir := []
  left : List Nat := []
  /-- Regions whose plane an arm named while this load was filling it (R67). -/
  armed : Nat := 0
  /-- SYS_SRLSTAT.STATE before the load began. -/
  back : Nat := 1
  deriving DecidableEq, Repr

/-- What CFG holds beside its registers: the load that is requested or runs, and the page and content of a boot selection under way
(R60, R72). -/
structure CfgX where
  load : Option LoadRun := none
  boot : Option (Nat × List Byte) := none
  deriving DecidableEq, Repr

/-- What port p holds beside its register page: the running step of a transition, the PA window, mutes, the lane of the
transmission that holds it, its calibration and the LO frequencies its stored coefficients were made at (R77–R94). -/
structure PortX where
  /-- The state that the running step of a transition ends in. -/
  next : Nat := 0
  /-- The port is in the PA window of a transmission (R85). -/
  pa : Bool := false
  /-- Receive samples are marked invalid (R31, R89, R90). -/
  muted : Bool := false
  /-- One above the transmit lane whose transmission holds the port; 0 for none (R79). -/
  txLane : Nat := 0
  /-- The state from which the transmission or the calibration started. -/
  base : Nat := 0
  /-- Calibrations running (R94). -/
  calRun : Nat := 0
  /-- The port leaves exclusion at the next period start (R94). -/
  calEnded : Bool := false
  /-- Stored reciprocity coefficients by LO frequency in kHz and bin, Q1.15 (R91, R93). -/
  coefs : List (Nat × Nat × Word) := []
  /-- ALIGN by band, as DC-offset calibration measured it (R111). -/
  aligns : List (Nat × Nat) := []
  /-- Uptime of the last calibration, in ns (RFP_CALSTAT.AGE). -/
  calAt : Option Nat := none
  /-- The port-map entry from before a swap, kept while a transmission that began before it holds the port (R42, R83). -/
  entry : Option Nat := none
  /-- A band change is due: the port goes through STANDBY before it heads on (R80, R83). -/
  bandDue : Bool := false
  /-- A band override has moved the port to another band and BANDOVR has not been 0b00 since (R80). -/
  foreign : Bool := false
  /-- Its start-up calibration has yet to run or to end (R93), and the kinds of calibration that are due (R89, R94). -/
  firstCal : Bool := false
  dueKinds : Nat := 0
  /-- DC offset and compensator factor C by gain index, and the I/Q balance, as the last calibrations measured them (R91, R111). -/
  dcs : List (Nat × Word × Word) := []
  iq : Option Word := none
  /-- Stored TX leak and image results by LO frequency in kHz and bin (R91). -/
  leaks : List (Nat × Nat × Word) := []
  /-- One above the bin of the software transmission it radiates, 0 for none; the instant of a cut that is not reported yet (R80, R100). -/
  test : Nat := 0
  testCut : Option Nat := none
  /-- The base state it stays in after a software transmission was denied or cut, until RFP_CTL is written (R99, R100). -/
  backTo : Option Nat := none
  /-- The gain index its compensator used before the analog steps listed, each with the converter sample at which the new index applies (R111). -/
  compOld : Nat := 10
  compAt : List (Nat × Nat) := []
  deriving DecidableEq, Repr

/-- What synthesizer k holds beside SYN_STAT: stored calibration per LO in kHz, a calibration or takeover under way, and
whether its last calibration locked (R90, R91). -/
structure SynX where
  cal : List Nat := []
  calibrating : Bool := false
  /-- The assignment code it takes over; 0 for none. -/
  taking : Nat := 0
  lockedAfterCal : Bool := false
  deriving DecidableEq, Repr

/-- One detection (R120): profile, start sample (ns at the ball), SNR in quarter dB, strongest beam, and the signature as
beams with Q1.15 coefficients.  `owner` is one above the stack member that declared it, 0 for this device (R259). -/
structure Detection where
  prof : Nat
  start : Nat
  snr : Int
  beam : Nat
  sig : List (Nat × Word)
  owner : Nat := 0
  deriving DecidableEq, Repr

/-- An open or closed window group of a bin (R122), with the SPX values in force when it opened (R135). -/
structure Group where
  start : Nat
  closeAt : Nat
  closed : Bool := false
  dets : List Detection := []
  thr : Nat := 0
  depth : Nat
  corrMax : Nat
  deriving DecidableEq, Repr

/-- A span in which bins are blanked or deaf (R114, R115, R189, R218): the whole of a band, the bins within a distance of
a centre, or one LO group. -/
structure Blank where
  band : Nat
  /-- 0 the whole band; 1 within `clear` kHz of `centre`; 2 LO group 0; 3 LO group 1. -/
  scope : Nat
  centre : Nat := 0
  clear : Nat := 0
  start : Nat
  /-- End in ns of venue time; 0 while the end is not known. -/
  stop : Nat
  /-- One above the transmit lane it belongs to; 0 for none. -/
  lane : Nat := 0
  /-- It holds the correlators off and aborts lanes, and does not only count as deaf (R116). -/
  blanks : Bool := true
  /-- Its start has acted on lanes and window groups (R116). -/
  applied : Bool := false
  deriving DecidableEq, Repr

/-- A cancellation slot's reservation (R117). -/
structure CancelSpan where
  band : Nat
  slot : Nat
  start : Nat
  stop : Nat
  lane : Nat
  /-- The composite coupling toward each receive-only port, as the terms u_i · H_ij of its sum: port j, port i, the product that gives
  u_i's magnitude and phase, its turn in 1/4096, and the four taps of H_ij (R117). -/
  terms : List (Nat × Nat × (Int × Int) × Nat × List Word) := []
  deriving DecidableEq, Repr

/-- What receive lane n holds beside PHY_RXSTATn (R125, R127, R141, R42): its detection, the profile words, tuning and
link policy in force at its allocation, what its header gave, and the frame of the link controller it feeds. -/
structure RxLane where
  det : Detection
  /-- The four profile words, PHY_SYNC and PHY_TRK (R141). -/
  words : List Nat := []
  sync : Nat := 0
  trk : Nat := 0
  /-- Active LNK words (LNK_CTL to LNK_ACKPWR) and the plane of the link-policy region (R42). -/
  policy : List Nat := []
  plane : Bool := false
  syncTime : Nat := 0
  /-- Bad pilot fields in a row (R160). -/
  badPilots : Nat := 0
  /-- From the header: PSDU length, 4-octet FCS, whitening (R146 to R148). -/
  headed : Bool := false
  len : Nat := 0
  fcs4 : Bool := false
  /-- End of frame at the ball where it is known; 0 otherwise (R151). -/
  endAt : Nat := 0
  /-- The link controller has dropped its frame (R180). -/
  dropped : Bool := false
  /-- One above the number of its frame in the link controller; 0 for none. -/
  frame : Nat := 0
  /-- The lane is joint in a stack (R260). -/
  joint : Bool := false
  /-- The combining weights w_f of the frame, over one denominator (R123), and the gain at which the digital AGC has frozen, in half dB
  (R128). -/
  weights : List (Nat × Int × Int) := []
  weightDen : Int := 1
  gain : Option Int := none
  /-- SPX_DAGC.TARGET at the allocation (R128). -/
  target : Nat := 0
  /-- The PSDU is whitened (R147, R148), and the plane of region 4 at the allocation (R42, R132). -/
  white : Bool := false
  beamPlane : Bool := false
  /-- Partial sums received for a joint lane: direction, first sample, words (R260). -/
  sums : List (Nat × Nat × List Word) := []
  deriving DecidableEq, Repr

/-- A frame in the link controller, from its lookup point to its descriptor and the end of its acknowledgement (R180 to
R197). -/
structure RxFrame where
  lane : Nat := 0
  /-- The lane's detection, profile words and bin, kept after the lane is released. -/
  det : Detection
  bin : Nat := 0
  words : List Nat := []
  policy : List Nat := []
  plane : Bool := false
  collided : Bool := false
  syncErr : Nat := 0
  syncTime : Nat := 0
  white : Bool := false
  beamPlane : Bool := false
  /-- PSDU octets delivered so far, from frame control on. -/
  octets : List Byte := []
  len : Nat := 0
  fcs4 : Bool := false
  /-- End of frame at the ball in ns, 0 until it has come; the carrier offset. -/
  endAt : Nat := 0
  cfo : Nat := 0
  /-- Record index, the record's octets as read at the lookup point, and whether R182 established it. -/
  node : Option Nat := none
  recRead : List Byte := []
  isNew : Bool := false
  /-- An update-port commit has touched the record since the lookup point (R178). -/
  race : Bool := false
  /-- Reserved buffer slot, delivery destination (as DATA_DEST) whose place is reserved, acknowledgement lane. -/
  slot : Option Nat := none
  dest : Option Nat := none
  ackLane : Option Nat := none
  /-- The acknowledgement: 0 none, 1 prepared, 2 frozen, 3 committed, 4 withdrawn (R186, R188). -/
  ack : Nat := 0
  pendBit : Bool := false
  /-- Test 8 waits for the command identifier (R180). -/
  test8 : Bool := false
  assoc : Bool := false
  bcast : Bool := false
  /-- Security: secured, and a stream page's context is open (R193). -/
  secured : Bool := false
  stream : Option Nat := none
  /-- Outcome at the verdict: 0 not yet, 1 NEW, 2 DUPLICATE (R192). -/
  outcome : Nat := 0
  /-- The verdict and, for a secured frame, the MIC result allow delivery. -/
  deliver : Bool := false
  described : Bool := false
  /-- Its record update has been made or dropped; a later verdict's update of the same record came before it; it is accepted; its
  acknowledgement is on air (R178, R191, R230). -/
  recDone : Bool := false
  overtaken : Bool := false
  accepted : Bool := false
  aired : Bool := false
  /-- The MIC result has come. -/
  micDone : Bool := false
  /-- Node key and key index taken at the security point (R439). -/
  key : List Byte := []
  keyIx : Nat := 0
  /-- Active FLD_CTL, FLD_JIT and FLD_SILT at the lookup point (R241). -/
  fld : List Nat := []
  /-- Vetch has the frame and decides on its delivery (R181, R241). -/
  flood : Bool := false
  deriving DecidableEq, Repr

/-- A transmit request in the scheduler (R209 to R217).  Its number, the key it is stored under, is its intake order. -/
structure TxReq where
  /-- 0–11 the engine queue it came from, 12 + r host transmit ring r, 100 Vetch, 101 a discarded source. -/
  src : Nat
  /-- The 32 octets of the request (R209). -/
  raw : List Byte
  /-- 0 direct, 1 indirect, 2 timed, as delivered (R212, R229). -/
  kind : Nat := 0
  /-- 0 held in the pending store, 1 direct and offered again at slot starts, 2 placed, 3 fetched and ready, 4 lane held,
  5 committed, 6 on air, 7 awaiting its acknowledgement. -/
  phase : Nat := 0
  attempts : Nat := 0
  /-- Place: air start, end, bin in use, form, preamble length, strobe count, interval and the strobe under way. -/
  airStart : Nat := 0
  airEnd : Nat := 0
  bin : Nat := 0
  form : Nat := 0
  lpre : Nat := 0
  strobes : Nat := 0
  interval : Nat := 0
  strobe : Nat := 0
  lane : Nat := 0
  /-- The frame in the staging buffer, protected and with its FCS, once it is ready. -/
  frame : List Byte := []
  fetched : Bool := false
  /-- Earliest instant of the next placement. -/
  notBefore : Nat := 0
  waitEnd : Nat := 0
  precoded : Bool := false
  ackPend : Bool := false
  lastAir : Nat := 0
  /-- The status it ends with after its transmission (FREED under R214), 0 for none. -/
  endAs : Nat := 0
  /-- A request for this poll came with this bin (R230). -/
  polled : Bool := false
  /-- The words of its profile in force when its transmission, or the first of its series, was committed (R42). -/
  words : List Nat := []
  /-- Its wake placement has been counted in FULLWAKE or TIMEDWAKE (R229). -/
  wakeCounted : Bool := false
  deriving DecidableEq, Repr

/-- What transmit lane n holds beside PHY_TXSTATn: whose transmission it is, its place, ports and powers (R79, R85, R97). -/
structure TxLane where
  /-- 0 free, 1 the acknowledgement of frame `ref`, 2 request `ref`. -/
  owner : Nat := 0
  ref : Nat := 0
  /-- 0 reserved or held, 1 committed, 2 walking, 3 PA on, 4 on air, 5 ramping down. -/
  stage : Nat := 0
  band : Nat := 0
  bin : Nat := 0
  prof : Nat := 0
  airStart : Nat := 0
  airEnd : Nat := 0
  /-- Class for COEX_PRI: 0 acknowledgement, 1 wake preamble, 2 flood rebroadcast, 3 other (R104). -/
  cls : Nat := 0
  ports : List (Nat × Int) := []
  /-- Switched ports of the band that leave RX with the transmission and radiate nothing (R75). -/
  silent : List Nat := []
  /-- The weight u_i of each port: a product of the signature, weight and reciprocity coefficients, and the turn of RFP_EXTPH.PHASE in
  1/4096 of a circle by which it goes back (R133, R134). -/
  weights : List (Nat × (Int × Int) × Nat) := []
  /-- The profile words of the transmission, its preamble in symbols, its header's WAKE bit, and its FCS type (R141, R147, R148). -/
  words : List Nat := []
  pre : Nat := 0
  wake : Bool := false
  fcs4 : Bool := false
  frame : List Byte := []
  /-- It ends without its planned effect: 0 no, else the status code (COEX, REFLOST, LOCKLOSS, ABORTED). -/
  cut : Nat := 0
  /-- It has passed its commit point. -/
  committed : Bool := false
  deriving DecidableEq, Repr

/-- A duty-cycle account's 60 one-minute buckets, oldest first, and the minute boundaries a restore charge still holds
(R221, R223). -/
structure DutyAcc where
  buckets : List Nat := []
  heldFor : Nat := 0
  deriving DecidableEq, Repr

/-- A flood rebroadcast in a relay buffer, stored under the number of its request (R243, R244). -/
structure Relay where
  orig : List Byte := []
  seq : Nat := 0
  hears : Nat := 0
  /-- The frame without FCS, unprotected, and the key index it is secured with. -/
  frame : List Byte := []
  keyIx : Nat := 0
  suppressed : Bool := false
  deriving DecidableEq, Repr

/-- An import request that is being answered: sender, and the millisecond count at its arrival (R248). -/
structure ImportAsk where
  sender : Nat
  atMs : Nat
  deriving DecidableEq, Repr

/-- A DETECT cell kept for grouping at separation (R259, R265): member, bin, profile, SNR, start in bin samples of its period and the low
16 bits of that period's epoch. -/
structure RemoteDet where
  member : Nat
  bin : Nat
  prof : Nat
  snr : Int
  start : Nat
  epoch : Nat
  deriving DecidableEq, Repr

/-- A kept frame that another member owns (R259): bin, profile, start sample and epoch, and this member's separation weights for it over one
denominator (R260). -/
structure Contribution where
  bin : Nat
  prof : Nat
  start : Nat
  epoch : Nat
  weights : List (Nat × Int × Int) := []
  weightDen : Int := 1
  deriving DecidableEq, Repr

/-- This member's part in another member's joint lane (R260, R261, R263): the owner's peak sample; the contribution whose weights it
combines with, none where it adds zero; and whether it originates its half after a break. -/
structure JointPart where
  bin : Nat := 0
  peak : Nat := 0
  part : Option Contribution := none
  origin : Bool := false
  deriving DecidableEq, Repr

/-- What a stack member holds of its leader and its images (R256, R264). -/
structure StackX where
  /-- Epoch named by the last SYNC cell. -/
  syncEpoch : Nat := 0
  /-- SYNC cells and STACK_SYNC edges missed in a row, and periods with SYNC cells in a row since a loss. -/
  missedSync : Nat := 0
  missedEdge : Nat := 0
  rejoinPeriods : Nat := 0
  /-- At the next boundary: joint combining ends; the leader is back. -/
  endJoint : Bool := false
  rejoin : Bool := false
  /-- Members whose cells came in this period, as a mask. -/
  seen : Nat := 0
  /-- Records committed while separated (R264). -/
  records : List Nat := []
  /-- CLK_DSP cycles by which periods are still to be trimmed, one in each, and the thirds of a ns carried from it (R256). -/
  trim : Int := 0
  trimThirds : Int := 0
  /-- Joint combining has ended after a loss, or has not begun: images are not sent (R264); LEADER_OK has risen since reset (R248). -/
  apart : Bool := true
  joined : Bool := false
  /-- Cells taken in this period and the one before, by which a second copy is known (R265). -/
  cells : List (List Byte) := []
  cellsOld : List (List Byte) := []
  deriving DecidableEq, Repr

/-- A venue order (R269). -/
structure Order where
  seq : Nat
  mask : Nat
  build : Nat
  epoch : Nat
  deriving DecidableEq, Repr

/-- What the venue fabric agent holds beside its registers (R266 to R274). -/
structure FabricX where
  fseq : Nat := 0
  bseq : Nat := 0
  /-- Venue time of the last beacon sent. -/
  sentAt : Nat := 0
  orders : List Order := []
  /-- BSEQ of the last valid beacon; uptime in ns of the last valid and the last master beacon, plus one. -/
  lastBseq : Option Nat := none
  beaconAt : Nat := 0
  masterAt : Nat := 0
  /-- Uptime at entry to ACQUIRE, and Sync offsets within ±50 ns in a row since the last valid beacon. -/
  acquireAt : Nat := 0
  syncRun : Nat := 0
  beaconSeen : Bool := false
  /-- A LOCKED state has been reached since reset. -/
  wasLocked : Bool := false
  /-- The master sets its time at its first beacon (R273). -/
  timeDue : Bool := false
  /-- Path delay in ns, the last Sync's one-way difference, the last Delay_Req's departure, what is left to slew. -/
  delay : Int := 0
  syncDiff : Int := 0
  reqSent : Nat := 0
  /-- Uptime in ns of the last Sync on port 0, plus one (R271). -/
  sync0At : Nat := 0
  /-- The first part of a member's venue message that the leader holds, by member, with its device (R356). -/
  parts : List (Nat × Nat × List Byte) := []
  slew : Int := 0
  /-- A step measured and the uptime of its measurement (R273). -/
  step : Option (Int × Nat) := none
  deriving DecidableEq, Repr

/-- What engine n holds beside its register page (R282, R295, R302, R305, R331): P0 to P7; the next start begins at ENTRY; a
stop is asked for; it waits in WFI or WAIT; an interrupt waits for the instruction after EI; the uptime its watchdog was last
restarted, and while it is HELD the ns it had counted; the octets of its local memory written since its fetch path last emptied
(R289); the address of the REP instruction whose pass was the last to commit (R329); the address after the WFI it waits in
(R331); for engine 0, that its reload has passed 50 ms (R310). -/
structure EngX where
  ptrs : List Nat := []
  fresh : Bool := true
  stopping : Bool := false
  waiting : Bool := false
  eiHold : Bool := false
  kickAt : Nat := 0
  wdHeld : Nat := 0
  stale : List (Nat × Bool) := []
  repAt : Option Nat := none
  wake : Nat := 0
  late : Bool := false
  deriving DecidableEq, Repr

/-- Sorrel: P0 to P7, the word address of its next instruction, whether it waits in WAIT, its 64 KiB data memory, and its patch RAM
by word address (R307). -/
structure SrlX where
  ptrs : List Nat := []
  pc : Nat := 0
  waiting : Bool := false
  mem : List Host.Cell := []
  patch : List (Nat × Nat) := []
  deriving DecidableEq, Repr

/-- The open batch of an interrupt source (R349): events counted, venue time of the first, the uptime of its deadline, and producer, hop
count, payload and ASYNC mark of the last. -/
structure Batch where
  count : Nat := 0
  first : Nat := 0
  due : Nat := 0
  producer : Nat := 0
  hops : Nat := 0
  payload : Nat := 0
  async : Bool := false
  deriving DecidableEq, Repr

/-- A relay's pending event (R344): payload and hop count of its activation, and the uptime at which it fires. -/
structure RelayWait where
  payload : Nat
  hops : Nat
  due : Nat
  deriving DecidableEq, Repr

/-- What EVT and IRQ hold beside their registers: open batches by source, the rings whose next record carries LOST as a mask, the
pending relays, and the latches of R348 whose edge has seen a CLK_PER edge, as a mask;
the MSEQ of the message in a mailbox slot, by 8 · page + slot (R356); the timers whose TMR_CMPn was written since the last edge, as a
mask (R367). -/
structure EvtX where
  batches : List (Nat × Batch) := []
  lost : Nat := 0
  relays : List (Nat × RelayWait) := []
  aged : Nat := 0
  slotSeq : List (Nat × Nat) := []
  cmpNew : Nat := 0
  deriving DecidableEq, Repr

/-- A remote send in flight from a mailbox page (R354): its count, the device or 4096 + member it went to, and the uptime at
which it was sent. -/
structure MbxSend where
  mseq : Nat
  peer : Nat
  tag : Nat
  sentAt : Nat
  deriving DecidableEq, Repr

/-- One part of a message that waits for the other (R356). -/
structure MbxFrag where
  peer : Nat
  body : List Byte
  cameAt : Nat
  deriving DecidableEq, Repr



/-- Where the main domain stands (R385, R393, R394, R398): held in reset while a rail is absent, in start-up steps 0 to 7,
running from step 7 on, DORMANT, or in the 1 s low pulse of REG_EN. -/
inductive MainPhase where
  | held
  | starting
  | running
  | dormant
  | pulse
  deriving DecidableEq, Repr

/-- A voltage request that is not acknowledged yet (R389): the value in 5 mV units and why it was made: 0 the AVS loop, 1 the
raise before ACTIVE, 2 the lowering after QUIET. -/
structure VoltReq where
  value : Nat
  why : Nat
  deriving DecidableEq, Repr

/-- A page of the flash die (R411, R412): whether its programmed marker is set, its plaintext, the root secret in force when it was
programmed, the threshold level at which its codeword decodes (8 not at all), and whether its content is known at all: an
operation cut short leaves it unknown (R417). -/
structure FlashPage where
  written : Bool := false
  data : List Byte := []
  root : List Byte := []
  level : Nat := 0
  known : Bool := true
  deriving DecidableEq, Repr

/-- A primitive operation of the die: 1 program, 2 erase, 3 blank check. -/
structure FlcPrim where
  kind : Nat
  sector : Nat
  page : Nat := 0
  data : List Byte := []
  deriving DecidableEq, Repr

/-- A piece of work for the flash controller (R414, R418): from channel 0 to 3, 4 the background erase of a torn Loam sector, 5 the
commit page of a boot selection, 6 the update engine, 7 the key-blob region.  The Loam commands keep their stage, their target and
their failed blank checks. -/
structure FlcJob where
  who : Nat
  op : Nat
  sector : Nat
  page : Nat := 0
  data : List Byte := []
  src : Nat := 0
  master : Nat := 13
  stage : Nat := 0
  fails : Nat := 0
  target : Nat := 0
  deriving DecidableEq, Repr

/-- A key slot that holds a key (R434): native attribute word, key octets, whether it came with FORM 1, and for a DERIVE
slot its transmit counter, its reservation, whether a new reservation is being written, and RESWAIT (R447). -/
structure KeySlot where
  attr : Nat := 0
  key : List Byte := []
  icv : Bool := false
  txfc : Nat := 0
  res : Nat := 0
  resWriting : Bool := false
  resWait : Bool := false
  deriving DecidableEq, Repr

/-- The private array (R426): root, life-cycle state and VENDOR, authority key, counters KU, BSVN and ISVN, VERIFY public
keys with their attribute words and FORM, reservations by slot, and a zeroize-pending record. -/
structure PrivArray where
  root : Option (List Byte) := none
  lc : Nat := 0
  vendor : Bool := false
  auth : Option (List Byte) := none
  ku : Nat := 0
  bsvn : Nat := 0
  isvn : Nat := 0
  verify : List (Nat × Nat × Bool × List Byte) := []
  res : List (Nat × Nat) := []
  zeroPending : Bool := false
  deriving DecidableEq, Repr

/-- A key-update message that has passed its checks and waits for the KU write (R430, R438). -/
structure KeyUpd where
  op : Nat
  slot : Nat
  counter : Nat
  attr : Nat
  icv : Bool
  key : List Byte
  vendor : Bool
  deriving DecidableEq, Repr

/-- An operation that runs on a cipher page, with the outcome it will have (R446). -/
structure CphRun where
  dst : Nat
  data : List Byte
  result : Nat
  outlen : Nat
  deriving DecidableEq, Repr

/-- An entry of the MSI-X table with its mask and pending bits (R468, R479). -/
structure MsixEntry where
  addr : Nat := 0
  data : Nat := 0
  unmasked : Bool := false
  pending : Bool := false
  deriving DecidableEq, Repr

/-- A write toward the host that is due and waits for bus mastering (R481): 0 the receive descriptor of frame buffer
`slot` for ring `ring`, 1 a report for completion ring `ring`, 2 a record for interrupt ring 12. -/
structure HeldWrite where
  kind : Nat
  ring : Nat
  data : List Byte
  slot : Nat := 0
  due : Nat := 0
  deriving DecidableEq, Repr

/-- What the update engine holds beside its registers (R455 to R463): blocks whose CRC is due with the value expected, the apply under way
(stage 0 none, 1 checks, 2 erase, 3 blank check, 4 a page of the result, 5 its last page, 6 the erase of a commit sector, 7 a commit
page), its target, its place in the container and in the result, the page that is being programmed, whether an abort waits, and the
slot that Sorrel's reload reads. -/
structure UpdX where
  due : List (Nat × Nat) := []
  stage : Nat := 0
  slot : Nat := 0
  kind : Nat := 0
  sector : Nat := 0
  base : Nat := 0
  pos : Nat := 256
  ofs : Nat := 0
  out : Nat := 0
  page : Nat := 0
  buf : List Byte := []
  abort : Bool := false
  reloadSlot : Nat := 0
  deriving DecidableEq, Repr

/-- The host interface, beside its registers and the fields above: the transmit ring served last, plus one (R475). -/
structure HifX where
  turn : Nat := 0
  deriving DecidableEq, Repr

/-- What SNP holds beside its registers (R487 to R497): the armed time, the sample that is being moved with the bank it goes to, the
words of the two banks, the uptime until which CORE_SAMPLE is driven, the boundary register, and whether a private instruction has
wiped the part. -/
structure SnpX where
  trigAt : Nat := 0
  moving : Option (Nat × List Word) := none
  bank0 : List Word := []
  bank1 : List Word := []
  drivenTo : Nat := 0
  boundary : List Bool := []
  wiped : Bool := false
  deriving DecidableEq, Repr

/-- The whole state of the device. -/
structure State where
  /-- Commands that wait, first in, first out. -/
  pending : List Instr
  part : Part
  /-- Registers, by address; an unlisted one holds its reset word. -/
  regs : List (Nat × Word)
  /-- SRAM, node table, signature store, Silt and engine memories, by shared-view address (R26). -/
  mem : List Host.Cell
  /-- Venue time in ns, and thirds of a ns beyond it (R16, R28). -/
  venue : Nat
  thirds : Nat
  /-- Fired events not yet distributed, oldest first (R338). -/
  events : List Event
  /-- What has left the device, oldest first. -/
  out : List Output
  /-- The data and the outcome of the last bus access. -/
  busData : Word
  busResult : BusResult
  /-- The model's own counter of free values drawn (Config.freeNat). -/
  free : Nat
  /-- Latches held per master: EPOCH_HI (R37), TIME_HI (R278) and the upper words of timer chains (R372). -/
  latches : List (Nat × Word)
  /-- Planes A and B of regions 1 to 13 (R66). -/
  planeA : List (Nat × Plane)
  planeB : List (Nat × Plane)
  /-- The reference, and the staging cut of the period (R31, R32, R39). -/
  ref : RefX
  cut : CutX
  /-- The held swap request, an order that waits for its end, the outcome of the checks at its cut (a STATE code, 1 passed,
  0 not cut yet), the region that failed, and the ORDER_SEQ of the last order taken up (R67 to R71). -/
  swapReq : Option SwapReq
  swapWait : Option SwapReq
  swapCut : Nat
  swapFail : Nat
  lastOrder : Option Nat
  /-- CFG, beside its registers. -/
  cfg : CfgX
  /-- Ports, beside their register pages (R76). -/
  ports : List (Nat × PortX)
  /-- Synthesizers (R87). -/
  syns : List (Nat × SynX)
  /-- LO group g (bit g) retunes now, or waits for a ramp-down to retune (R89). -/
  loRetune : Nat
  loWaiting : Nat
  /-- Nanoseconds on CLK_PER since reset; a step of venue time does not change it (R129). -/
  uptime : Nat
  /-- Window groups per bin, oldest first (R122). -/
  groups : List (Nat × List Group)
  /-- Frames kept at separation not long ago, by bin (R154). -/
  kept : List (Nat × Detection)
  /-- Receive lanes that are not free (R125). -/
  rxLanes : List (Nat × RxLane)
  /-- Blanking and deafness spans (R114, R218), and the time up to which deaf time has been counted. -/
  blanks : List Blank
  deafTo : Nat
  /-- The working deaf map: bins deaf in the present period (R219). -/
  deafMap : List (Nat × Bool)
  /-- Cancellation slots reserved (R117). -/
  cancels : List CancelSpan
  /-- The four taps of H_ij of every pair (transmit port, receive port) measured, as 48·i + j with band B from 2304 on (R117, R118). -/
  pairs : List (Nat × List Word)
  /-- Instant of each port's last analog gain step plus one, 0 for none (R110). -/
  gainAt : List (Nat × Nat)
  /-- Sweeps of the signature store due after a beam-set swap and after SPX_SIGINV.ALL (R131). -/
  bsetSweep : Bool
  sigAll : Bool
  /-- One above the uptime at which the last write of the duty-cycle mirror began, 0 for none (R222). -/
  mirrorAt : Nat
  /-- Uptime up to which the node-table update port runs an operation (R177). -/
  updTo : Nat
  /-- Frames in the link controller, by frame number. -/
  frames : List (Nat × RxFrame)
  /-- Buffer slots in use (R198). -/
  bufUsed : List (Nat × Bool)
  /-- Places reserved on engine queue n (RSV, R198) and, from 16 on, on host receive ring n − 16 (R472). -/
  rsv : List (Nat × Nat)
  /-- Records with an outstanding persistence entry (R194). -/
  persistOut : List (Nat × Bool)
  /-- Requests of the scheduler, by intake number, and the next number. -/
  reqs : List (Nat × TxReq)
  reqNext : Nat
  /-- Transmit lanes that are not free (R215). -/
  txLanes : List (Nat × TxLane)
  /-- OUT[n]: requests taken from queue n (host ring r under 12 + r) and not yet reported (R232, R475). -/
  outs : List (Nat × Nat)
  /-- Duty-cycle accounts (R221) and whether the restore of R223 has run. -/
  duty : List (Nat × DutyAcc)
  dutyRestored : Bool
  /-- Occupied milliseconds per hop entry: the current bucket first, then 20 one-second buckets (R226). -/
  hopOcc : List (Nat × List Nat)
  /-- TX_KILL refuses transmissions whose commit point falls before this venue time (R341). -/
  killUntil : Nat
  /-- Relay buffers in use (R243). -/
  relays : List (Nat × Relay)
  /-- Neighbours asked by the running import, those that have sent IMPORT_END, and requests being answered (R248).  A stack
  member m stands as 4096 + m. -/
  importAsked : List Nat
  importEnds : List Nat
  importAnswers : List ImportAsk
  /-- DETECT cells kept, contributions of this member by bin, profile and start, and its parts in joint lanes by LANE_TAG
  (R259, R260). -/
  remoteDets : List RemoteDet
  contribs : List Contribution
  jointParts : List (Nat × JointPart)
  /-- Stack and venue fabric, beside their registers. -/
  stk : StackX
  vfb : FabricX
  /-- The last FSEQ values by sender, newest first (R266). -/
  fseqSeen : List (Nat × List Nat)
  /-- A RESTART record is owed on joining the fabric (R357). -/
  restartDue : Bool
  /-- Engines, beside their register pages (R282). -/
  engs : List (Nat × EngX)
  /-- Sorrel (R307). -/
  srl : SrlX
  /-- The uptime at which a lead-engine reload began (R309). -/
  reloadAt : Nat
  /-- SRAM words, by address, that hold an error their next read finds: 1 a single-bit, 2 a double-bit error (R493). -/
  upsets : List (Nat × Nat)
  /-- Tilth's batches, lost marks and relays. -/
  evt : EvtX
  /-- Remote sends in flight by mailbox page, the count of messages sent, and message parts that wait (R354, R356). -/
  mbxSends : List (Nat × MbxSend)
  mbxSeq : Nat
  mbxFrags : List MbxFrag
  /-- Timers: prescaler counts and the hop count their events carry (R363, R369). -/
  tmrPresc : List (Nat × Nat)
  tmrHops : List (Nat × Nat)
  /-- RTC: the frozen read shadow of the nine time registers, the uptime of its freeze, the uptime of the last second edge,
  and an alarm armed when already due (R375 to R380). -/
  rtcShadow : List Word
  rtcFrozenAt : Nat
  rtcSecAt : Nat
  rtcAlarmDue : Bool
  /-- The main domain; the start-up step that runs (8 and 9 while it already runs, 10 when all have ended), and whether
  steps 3 to 5 are in their retry (R393, R394). -/
  phase : MainPhase
  startStep : Nat
  stepRetry : Bool
  /-- A reset that waits for transmissions on air, and the kinds merged into the reset under way (R402, R403). -/
  draining : Bool
  /-- The backup domain is powered; the record of the last reset in the bits of SYS_RSTCAUSE, and the count of resets
  (R386, R404, R407). -/
  backupOn : Bool
  cause : Nat
  resetCount : Nat
  /-- Wake sources armed and latched: 0 wake port, 1 RTC alarm, 2 TAMPER_N (R399). -/
  wakeArmed : Bool
  wakeLatch : Nat
  /-- Step of the entry to DORMANT, 0 for none, and hardware PMBus transactions still to end (R398). -/
  dormStep : Nat
  hwPmbus : Nat
  /-- AVS: target in 5 mV units, periods with a large margin, the request out, and AVS off after step 1 (R391, R394). -/
  avsTarget : Nat
  avsCalm : Nat
  voltReq : Option VoltReq
  avsDead : Bool
  /-- Detection is stopped for QUIET, and the datapath is gated (R397). -/
  detOff : Bool
  gated : Bool
  /-- Uptime of the last restart of the device watchdog (R405). -/
  wdtAt : Nat
  /-- PWR_HOT has fired and waits for every sensor below 105 °C (R506); a sensor still reads 110 °C or above. -/
  hotFired : Bool
  hotNow : Bool
  /-- The DELAY entries of the header read, for steps that run again (R51, R52). -/
  delays : List Nat
  /-- The flash die by page number, and the unfinished-erase cells that are set (R409, R418). -/
  flash : List (Nat × FlashPage)
  flashCells : List (Nat × Bool)
  /-- The die did not report ready at start-up (R394). -/
  flashDead : Bool
  /-- The controller's waiting work, oldest first, and the work whose operation runs (R414). -/
  flcQueue : List FlcJob
  flcRun : Option (FlcJob × FlcPrim)
  /-- Loam: ring members and erase counts by pool sector, free spares, sectors marked for retirement or with a wear sign, and the map
  rebuilt (R419 to R423). -/
  loamRings : List (Nat × List Nat)
  loamErases : List (Nat × Nat)
  loamSpares : List Nat
  loamMarked : List Nat
  loamWorn : List Nat
  loamMapped : Bool
  /-- The private array, the key slots that hold a key, and whether the device keys are derived (R426 to R434). -/
  priv : PrivArray
  keySlots : List (Nat × KeySlot)
  keysDerived : Bool
  /-- A key-update message past its checks (R438), and counter writes under way: 0 KU, 1 BSVN, 2 ISVN (R430). -/
  keyUpd : Option KeyUpd
  counterWrites : List (Nat × Nat)
  /-- Operations that run on cipher pages (R446). -/
  cphRuns : List (Nat × CphRun)
  /-- The MSI-X table, its enable and function mask (R479). -/
  msix : List (Nat × MsixEntry)
  msixEnable : Bool
  msixMask : Bool
  /-- Writes held toward the host, oldest first (R481). -/
  held : List HeldWrite
  /-- Moderation count and deadline of the interrupt sources (R478). -/
  modCount : List (Nat × Nat)
  modDue : List (Nat × Nat)
  /-- The update engine, beside its registers. -/
  upd : UpdX
  /-- The host interface's turn. -/
  hif : HifX
  /-- Core samples and the test port, beside their registers. -/
  snp : SnpX
  deriving DecidableEq, Repr

/-- The state after power-on reset, every register at its reset word, for a given part (R1, R23). -/
def State.resetOf (part : Part) : State where
  pending := []
  part := part
  regs := []
  mem := []
  venue := 0
  thirds := 0
  events := []
  out := []
  busData := 0
  busResult := .ok
  free := 0
  latches := []
  planeA := []
  planeB := []
  ref := {}
  cut := {}
  swapReq := none
  swapWait := none
  swapCut := 0
  swapFail := 0
  lastOrder := none
  cfg := {}
  ports := []
  syns := []
  loRetune := 0
  loWaiting := 0
  uptime := 0
  groups := []
  kept := []
  rxLanes := []
  blanks := []
  deafTo := 0
  deafMap := []
  cancels := []
  pairs := []
  gainAt := []
  bsetSweep := false
  sigAll := false
  mirrorAt := 0
  updTo := 0
  frames := []
  bufUsed := []
  rsv := []
  persistOut := []
  reqs := []
  reqNext := 0
  txLanes := []
  outs := []
  duty := []
  dutyRestored := false
  hopOcc := []
  killUntil := 0
  relays := []
  importAsked := []
  importEnds := []
  importAnswers := []
  remoteDets := []
  contribs := []
  jointParts := []
  stk := {}
  vfb := {}
  fseqSeen := []
  restartDue := true
  engs := []
  srl := {}
  reloadAt := 0
  upsets := []
  evt := {}
  mbxSends := []
  mbxSeq := 0
  mbxFrags := []
  tmrPresc := []
  tmrHops := []
  rtcShadow := []
  rtcFrozenAt := 0
  rtcSecAt := 0
  rtcAlarmDue := false
  phase := .starting
  startStep := 0
  stepRetry := false
  draining := false
  backupOn := true
  cause := 1
  resetCount := 0
  wakeArmed := false
  wakeLatch := 0
  dormStep := 0
  hwPmbus := 0
  avsTarget := 150
  avsCalm := 0
  voltReq := none
  avsDead := false
  detOff := false
  gated := false
  wdtAt := 0
  hotFired := false
  hotNow := false
  delays := []
  flash := []
  flashCells := []
  flashDead := false
  flcQueue := []
  flcRun := none
  loamRings := []
  loamErases := []
  loamSpares := []
  loamMarked := []
  loamWorn := []
  loamMapped := false
  priv := {}
  keySlots := []
  keysDerived := false
  keyUpd := none
  counterWrites := []
  cphRuns := []
  msix := []
  msixEnable := false
  msixMask := false
  held := []
  modCount := []
  modDue := []
  upd := {}
  hif := {}
  snp := {}

/-- The state right after reset; the part is the THV4848 (log entry 1). -/
def State.reset : State := State.resetOf .thv4848

end Sys2Proof.Machine
end

