-- ==== Sys2Proof/Machine/Ops.lean ====
section
/-! DEFINITION. Machine/Ops.lean: the shared operations over registers, memory, events, outputs, time and planes. -/

namespace Sys2Proof.Machine

/-- The answer of a command. -/
abbrev Res := Host.Outcome State Fault Refusal

/-- A command ends in a next state. -/
def ok (s : State) : Res := .next s

/-! ### Registers -/

/-- The word of the register at an address. -/
def State.reg (s : State) (a : Nat) : Word := stGet (resetWord a) s.regs a

/-- Store a register's word. -/
def State.setReg (s : State) (a : Nat) (w : Word) : State := { s with regs := stSet (resetWord a) s.regs a w }

/-- A field as a number. -/
def State.fld (s : State) (f : Field) : Nat := fieldGet (s.reg f.addr) f.lo f.width

/-- A one-bit field as a truth value. -/
def State.flag (s : State) (f : Field) : Bool := s.fld f == 1

/-- Store a field, cut to its width. -/
def State.setFld (s : State) (f : Field) (v : Nat) : State :=
  s.setReg f.addr (fieldSet (s.reg f.addr) f.lo f.width v)

/-- Store several fields, in order. -/
def State.setFlds (s : State) (l : List (Field × Nat)) : State := l.foldl (fun s e => s.setFld e.1 e.2) s

/-- The active value of a field of a shadowed register (R38). -/
def State.act (s : State) (f : Field) : Nat := s.fld f.active

/-- SNP_CNTCTL.FREEZE stops every RC counter (R492). -/
def State.frozen (s : State) : Bool := s.flag SNP_CNTCTL_FREEZE

/-- A counter field counts `n` more and saturates at all ones, unless counters are frozen (R20, R492). -/
def State.bumpBy (s : State) (f : Field) (n : Nat) : State :=
  if s.frozen then s else s.setFld f (satInc f.width (s.fld f) n)

/-- A counter field counts one. -/
def State.bump (s : State) (f : Field) : State := s.bumpBy f 1

/-! ### Events, outputs, free values -/

/-- A producer fires (R338): its event waits to be distributed. -/
def State.fire (s : State) (producer payload : Nat) : State :=
  { s with events := s.events ++ [{ producer := producer, payload := payload % 2 ^ 32 }] }

/-- A producer fires an event with a hop count or the ASYNC mark (R343, R348). -/
def State.fireEv (s : State) (e : Event) : State := { s with events := s.events ++ [e] }

/-- Something leaves the device. -/
def State.emit (s : State) (kind : OutKind) (nums : List Nat) (octets : List Byte := []) : State :=
  { s with out := s.out ++ [{ kind := kind, nums := nums, octets := octets }] }

/-- The next free value, and the state in which it has been drawn. -/
def State.draw (s : State) : Nat × State := (Config.freeNat s.free, { s with free := s.free + 1 })

end Sys2Proof.Machine

namespace Sys2Proof

/-! ### Parts (R1, R3, R7) -/

/-- Number of RF ports present. -/
def Part.ports : Part → Nat
  | .thv4848 => 48
  | .thv4832 => 32
  | .thv4824 => 24

/-- Number of receive lanes present. -/
def Part.rxLanes : Part → Nat
  | .thv4848 => 384
  | .thv4832 => 256
  | .thv4824 => 192

/-- Number of transmit lanes present. -/
def Part.txLanes : Part → Nat
  | .thv4848 => 96
  | .thv4832 => 64
  | .thv4824 => 48

/-- Band B is present. -/
def Part.bandB : Part → Bool
  | .thv4824 => false
  | _ => true

/-- Stack links are present. -/
def Part.stack : Part → Bool
  | .thv4824 => false
  | _ => true

/-- Number of venue-fabric ports. -/
def Part.fabricPorts : Part → Nat
  | .thv4824 => 1
  | _ => 2

/-- Maximum number of concurrent frames separated per channel. -/
def Part.spatial : Part → Nat
  | .thv4824 => 4
  | _ => 8

/-- Flash size in sectors of 64 KiB (R409). -/
def Part.flashSectors : Part → Nat
  | .thv4824 => 512
  | _ => 1024

/-- SYS_CAP0 (R4, R6). -/
def Part.cap0 : Part → Word
  | .thv4848 => 0x4801A330#32
  | .thv4832 => 0x3201A320#32
  | .thv4824 => 0x24005118#32

/-- SYS_CAP1 (R5, R6). -/
def Part.cap1 : Part → Word
  | .thv4848 => 0x8C600180#32
  | .thv4832 => 0x8C400100#32
  | .thv4824 => 0x4C3000C0#32

/-- Number of bins: 48 of band A, then 300 of the two LO groups of band B (R15). -/
def Part.bins : Part → Nat
  | .thv4824 => 48
  | _ => 348

end Sys2Proof

namespace Sys2Proof.Machine

/-! ### Memory (R26) -/

/-- One octet of memory; an unlisted one reads zero (R14: reset wipes SRAM). -/
def State.rd8 (s : State) (a : Nat) : Byte := stGet 0 s.mem a

/-- Write one octet of memory; an SRAM word that is written holds no error any more (R493). -/
def State.wr8 (s : State) (a : Nat) (b : Byte) : State :=
  { s with mem := stSet 0 s.mem a b, upsets := stErase s.upsets (a / 8 * 8) }

/-- `n` octets of memory from an address. -/
def State.rdN (s : State) (a : Nat) : Nat → List Byte
  | 0 => []
  | n + 1 => s.rd8 a :: s.rdN (a + 1) n

/-- Write octets of memory from an address. -/
def State.wrN (s : State) (a : Nat) : List Byte → State
  | [] => s
  | b :: bs => (s.wr8 a b).wrN (a + 1) bs

/-- A little-endian number of `n` octets (R17). -/
def State.rdLe (s : State) (a n : Nat) : Nat := ofLe (s.rdN a n)

/-- Write a little-endian number of `n` octets (R17). -/
def State.wrLe (s : State) (a n v : Nat) : State := s.wrN a (leBytes n v)

/-- The canonical form of memory: addresses strictly rising, and no entry equal to what an unlisted address reads as. -/
def Memory.wf (m : List Host.Cell) : Bool := stWf (fun _ => 0) m

/-! ### Errors of SRAM (R493) -/

/-- SRAM words, by address, suffer a single-bit or a double-bit error. -/
def State.upset (s : State) (l : List (Nat × Bool)) : State :=
  { s with upsets := l.foldl (fun m e =>
      let w := e.1 / 8 * 8
      stSet 0 m w (if e.2 then 2 else min 2 (stGet 0 m w + 1))) s.upsets }

/-- The SRAM words that a read of octets touches. -/
def wordsOf (a n : Nat) : List Nat := (List.range ((a + n + 7) / 8 - a / 8)).map fun i => (a / 8 + i) * 8

/-- What a read of `n` octets meets: single-bit errors are corrected, written back and counted; double-bit errors are counted,
fire producer 739 and make the read fail. -/
def State.eccRead (s : State) (a n : Nat) : Bool × State :=
  (wordsOf a n).foldl (fun (x : Bool × State) w =>
    match stGet 0 x.2.upsets w with
    | 0 => x
    | 1 => (x.1, { x.2 with upsets := stErase x.2.upsets w }.bump SRAM_CORR_COUNT)
    | _ => (true, (x.2.bump SRAM_UNCORR_COUNT).fire 739 w)) (false, s)

/-! ### Time (R16, R36) -/

/-- Length of a schedule period, in ns. -/
def periodNs : Nat := 10000000

/-- The epoch number: venue time divided by 10 ms (R36). -/
def State.epoch (s : State) : Nat := s.venue / periodNs

/-- Venue time counts modulo 2 ^ 64 (R16). -/
def venueEnd : Nat := 2 ^ 64

/-- The next epoch boundary, in ns of venue time; the last epoch ends where the count begins again. -/
def State.nextBoundary (s : State) : Nat := min ((s.epoch + 1) * periodNs) venueEnd

/-- Venue time moves on to `t`, never back; the count since reset moves with it (R16, R129).  While an offset is slewed out, a
part of at most 10 ppm of the way is correction and not elapsed time; how much is free (R273, log entry 16). -/
def State.passTo (s : State) (t : Nat) : State :=
  if s.venue < t then
    let d := t - s.venue
    if s.vfb.slew = 0 then { s with venue := t % venueEnd, uptime := s.uptime + d, thirds := 0 }
    else
      let k := Config.freeNat s.free % (min s.vfb.slew.natAbs (d / 100000) + 1)
      let gone := if 0 < s.vfb.slew then d - k else d + k
      { s with venue := t % venueEnd
               uptime := s.uptime + gone
               thirds := 0
               free := s.free + 1
               vfb := { s.vfb with slew := s.vfb.slew - s.vfb.slew.sign * k } }
  else s

/-- Time moves on to `t`, but not to or past the next epoch boundary, which is a command of its own. -/
def State.advance (s : State) (t : Nat) : State := s.passTo (min t (s.nextBoundary - 1))

/-- The state in which the count since reset has reached `u` ns, where that lies within the present period; none where an epoch
boundary comes first (log entry 15). -/
def State.reachUp (s : State) (u : Nat) : Option State :=
  if u ≤ s.uptime then some s
  else if s.venue + (u - s.uptime) < s.nextBoundary then some (s.passTo (s.venue + (u - s.uptime)))
  else none

/-- The bus access ends in a bus error toward an engine, or a completer abort toward the host, and changes nothing (R19,
R27). -/
def State.refuse (s : State) : State := { s with busData := 0, busResult := .error }

/-- A read completes with a word. -/
def State.answer (s : State) (w : Word) : State := { s with busData := w, busResult := .ok }

/-- The SPX and device millisecond count (R129, R175). -/
def State.ms (s : State) : Nat := s.uptime / 1000000 % 2 ^ 32

/-- The low 48 bits of venue time, as a record carries them (R16). -/
def State.stamp (s : State) : Nat := s.venue % 2 ^ 48

/-! ### Latches per master (R37, R278, R372) -/

def State.latch (s : State) (k : Nat) : Word := stGet 0 s.latches k

def State.setLatch (s : State) (k : Nat) (w : Word) : State := { s with latches := stSet 0 s.latches k w }

/-! ### Planes and tables (R43, R57, R66) -/

/-- A region's active plane is B. -/
def State.actB (s : State) (r : Nat) : Bool := s.flag (CFG_RGN_ACT r)

/-- The plane of a region: B or A. -/
def State.plane (s : State) (b : Bool) (r : Nat) : Plane := stGet {} (if b then s.planeB else s.planeA) r

/-- Store a plane of a region. -/
def State.setPlane (s : State) (b : Bool) (r : Nat) (p : Plane) : State :=
  if b then { s with planeB := stSet {} s.planeB r p } else { s with planeA := stSet {} s.planeA r p }

/-- The state field of a plane in CFG_RGNn: 0 EMPTY, 1 LOADING, 2 LOADED, 3 ARMED (R73). -/
def planeState (b : Bool) (r : Nat) : Field := if b then CFG_RGN_STATE_B r else CFG_RGN_STATE_A r

/-- The active plane of a region. -/
def State.active (s : State) (r : Nat) : Plane := s.plane (s.actB r) r

/-- A region is active: its active plane holds a loaded bitstream (R66). -/
def State.regionOn (s : State) (r : Nat) : Bool := s.fld (planeState (s.actB r) r) ≠ 0

/-- The key of a table word: block, table number and index (R57). -/
def tableKey (block table ix : Nat) : Nat := (block * 256 + table) * 65536 + ix

/-- The region that carries a table, by block and table number (R102, R140, R173, R203, R234, R253, R362, R445). -/
def tableRegion (block table : Nat) : Nat :=
  match block, table with
  | 3, _ => 8
  | 5, 0 => 2
  | 5, _ => 3
  | 6, 4 => 5
  | 6, _ => 4
  | 7, _ => 6
  | 8, _ => 7
  | 9, _ => 8
  | 10, _ => 7
  | 13, _ => 10
  | 15, 0 => 11
  | 15, _ => 10
  | 20, _ => 10
  | _, _ => 0

/-- A word of an active table; a word the active plane does not carry is zero (log entry 5). -/
def State.table (s : State) (block table ix : Nat) : Nat :=
  (stGet 0 (s.active (tableRegion block table)).tables (tableKey block table ix)).toNat

/-- A word of a table in plane B or A of its region (R42, R132). -/
def State.tableIn (s : State) (b : Bool) (block table ix : Nat) : Nat :=
  (stGet 0 (s.plane b (tableRegion block table)).tables (tableKey block table ix)).toNat

/-- Octet `k` of a fixed-layout region's active payload; zero where there is none. -/
def State.payloadByte (s : State) (r k : Nat) : Nat := ((s.active r).payload.getD k 0).toNat

/-- `n` octets of a fixed-layout region's active payload from offset `k`, as a number (R17). -/
def State.payloadLe (s : State) (r k n : Nat) : Nat := ofLe (((s.active r).payload.drop k).take n)

/-! ### Ring bookkeeping -/

/-- The place after `i` in a ring of `size` places. -/
def ringNext (size i : Nat) : Nat := if i + 1 < size then i + 1 else 0

/-- Occupied places between tail and head in a ring of `size` places. -/
def ringUsed (size head tail : Nat) : Nat := if tail ≤ head then head - tail else head + size - tail

/-- The device writes the entry at index `i` of a ring of `size` places, or the slot of that number; none outside it (R526, log entry 156). -/
def State.wrEntry (s : State) (size i base len : Nat) (l : List Byte) : State := if i < size then s.wrN (base + len * i) l else s

/-- Apply an operation for every number below `n`, in ascending order. -/
def forBelow (n : Nat) (f : State → Nat → State) (s : State) : State := (List.range n).foldl f s

end Sys2Proof.Machine
end

