-- ==== Sys2Proof/Machine/Rf.lean ====
section
/-! DEFINITION. Machine/Rf.lean: RF ports, front-end-module outputs, synthesizers, calibration, the EIRP ceiling and
the coexistence wires, as shared operations (R74 to R105). -/

namespace Sys2Proof.Machine

/-! ### Ports and their roles (R56, R74) -/

def State.portx (s : State) (p : Nat) : PortX := stGet {} s.ports p

def State.setPortx (s : State) (p : Nat) (x : PortX) : State := { s with ports := stSet {} s.ports p x }

def State.syn (s : State) (k : Nat) : SynX := stGet {} s.syns k

def State.setSyn (s : State) (k : Nat) (x : SynX) : State := { s with syns := stSet {} s.syns k x }

/-- The active port-map entry of a port (R56); while a transmission that began before a swap holds the port, the old one (R42,
R83). -/
def portEntry (s : State) (p : Nat) : Nat := (s.portx p).entry.getD (s.payloadLe 1 (4 * p) 4)

/-- ROLE: 0 off, 1 receive-only, 2 transmit-only, 3 switched. -/
def portRole (s : State) (p : Nat) : Nat := portEntry s p % 4

/-- The band the port map gives: 0 A, 1 B. -/
def portMapBand (s : State) (p : Nat) : Nat := bitsOf (portEntry s p) 2 2

/-- The band in use, after BANDOVR (R80). -/
def portBand (s : State) (p : Nat) : Nat :=
  match s.fld (RFP_CTL_BANDOVR p) with
  | 0 => portMapBand s p
  | 2 => if s.part.bandB then 1 else 0
  | _ => 0

/-- The segment in use; a port moved to band B takes segment 0 (R80). -/
def portSegment (s : State) (p : Nat) : Nat :=
  if portBand s p = 0 then 0 else if portMapBand s p = 0 then 0 else bitsOf (portEntry s p) 4 3

/-- The LO group of a band-B port (R88). -/
def portGroup (s : State) (p : Nat) : Nat := if portSegment s p = 2 then 1 else 0

/-- The synthesizer assignment code a port needs: 1 band A, 2 LO group 0, 3 LO group 1 (R103). -/
def portAssign (s : State) (p : Nat) : Nat := if portBand s p = 0 then 1 else 2 + portGroup s p

/-- The LO frequency of an assignment code, in kHz (R88). -/
def assignLo (s : State) (code : Nat) : Nat :=
  if code = 2 then s.act SYN_LOB0_FREQ else if code = 3 then s.act SYN_LOB1_FREQ else 2442500

/-- The word of FEM table 0 that a port names (R84, R102). -/
def portFem (s : State) (p : Nat) : Nat := s.table 3 0 (bitsOf (portEntry s p) 19 16)

/-- PA_LEAD of a port in ns, at most 2.5 µs (R85, R102). -/
def portPaLead (s : State) (p : Nat) : Nat := 10 * min (bitsOf (portFem s p) 15 8) 250

/-- PA_LAG of a port in ns, at most 2 µs (R85, R102). -/
def portPaLag (s : State) (p : Nat) : Nat := 10 * min (bitsOf (portFem s p) 23 16) 200

/-- The base state of a role: SLEEP, RX, SYNTH, RX (R74). -/
def roleBase (role : Nat) : Nat := match role with | 0 => 0 | 2 => 2 | _ => 3

/-- The state of a port: 0 SLEEP, 1 STANDBY, 2 SYNTH, 3 RX, 4 TX, 5 CAL (R76). -/
def portState (s : State) (p : Nat) : Nat := s.fld (RFP_STAT_STATE p)

/-- The ports present, in ascending order. -/
def allPorts (s : State) : List Nat := List.range s.part.ports

/-! ### Bins (R106, R107) -/

/-- Band of a unified bin: 0 A, 1 B. -/
def binBand (k : Nat) : Nat := if k < 48 then 0 else 1

/-- LO group of a band-B bin. -/
def binGroup (k : Nat) : Nat := if k < 198 then 0 else 1

/-- Bin number within its band or LO group. -/
def binNo (k : Nat) : Nat := if k < 48 then k else if k < 198 then k - 48 else k - 198

/-- Centre of a bin in kHz. -/
def binCentre (s : State) (k : Nat) : Nat :=
  if k < 48 then 2442500 + 2500 * k - 60000 else assignLo s (2 + binGroup k) + 200 * binNo k - 15000

/-- Segment whose EIRP entry a bin uses: 0 863–870, 1 870–876, 2 902–928 MHz (R102). -/
def binSegment (s : State) (k : Nat) : Nat :=
  if binGroup k = 1 then 2 else if binCentre s k < 870000 then 0 else 1

/-! ### Front-end-module outputs (R84, R86) -/

/-- FEM_TR, FEM_PA, FEM_LNA and FEM_ANT of a port, in bits 0 to 3, after inversion; none where the balls are high-impedance, in
DORMANT (R86). -/
def femOut (s : State) (p : Nat) : Option Nat :=
  if s.phase = .dormant then none
  else if portRole s p = 0 || !s.regionOn 1 || s.part.ports ≤ p then some 0 else
  let st := portState s p
  let fem := portFem s p
  let tr := b2n (st == 4)
  let pa := b2n (st == 4 && (s.portx p).pa)
  let lna := b2n (st == 3)
  let ant := if st = 0 || !bitOf fem 4 then 0 else portBand s p
  some ((tr + 2 * pa + 4 * lna + 8 * ant) ^^^ (fem % 16))

/-! ### Transitions (R77, R78) -/

/-- The state next to `st` on the way to `tg` (R77, R78). -/
def portHop (st tg : Nat) : Nat :=
  match st with
  | 0 => 1
  | 1 => if tg = 0 then 0 else 2
  | 2 => if tg < 2 then 1 else tg
  | 3 => if tg = 4 then 4 else 2
  | _ => if tg = 3 then 3 else 2

/-- Some locked synthesizer serves an assignment code. -/
def loServed (s : State) (code : Nat) : Bool :=
  (List.range 3).any fun k => s.fld (SYN_STAT_ASSIGN k) == code && s.flag (SYN_STAT_LOCK k)

/-- A port is in the set of a lane's transmission, or leaves RX with it (R75, R79). -/
def laneHas (l : TxLane) (p : Nat) : Bool := l.ports.any (·.1 == p) || l.silent.contains p

/-- A committed transmission that does not walk yet has the port in its set (R79). -/
def commitHolds (s : State) (p : Nat) : Bool :=
  s.txLanes.any fun e => e.2.committed && decide (e.2.stage ≤ 1) && laneHas e.2 p

/-- A port that rests away from its target starts the next step of its walk.  It waits in STANDBY with CONFLICT set
while no synthesizer serves its LO (R80), and holds still in CAL, while a transmission uses it or has it in its set, or while it is muted
there by a lost LO (R79, R90).  With a band change due it goes to STANDBY first (R80). -/
def portHead (s : State) (p : Nat) : State :=
  let st := portState s p
  let x := s.portx p
  let tg := s.fld (RFP_STAT_TARGET p)
  if s.flag (RFP_STAT_INTRANSIT p) || st = 5 || x.txLane ≠ 0 || x.muted || commitHolds s p then s else
  let s := if x.bandDue then (s.setPortx p { x with bandDue := false }).setFld (RFP_STAT_STATE p) (min st 1) else s
  let st := if x.bandDue then min st 1 else st
  if st = tg then s
  else
    let nx := portHop st tg
    if st = 1 && nx = 2 && !loServed s (portAssign s p) then s.setFld (RFP_STAT_CONFLICT p) 1
    else (s.setPortx p { s.portx p with next := nx }).setFld (RFP_STAT_INTRANSIT p) 1

/-- Set a port's target and head for it (R78). -/
def portAim (s : State) (p tg : Nat) : State := portHead (s.setFld (RFP_STAT_TARGET p) tg) p

/-- The state a port is held in (R79, R80): none for a port that is off or after an intrusive test (R496), at most STANDBY while the
datapath is gated (R397); after a software transmission that was denied or cut, the base state it went back to (R99, R100). -/
def portWant (s : State) (p : Nat) : Nat :=
  let held := (s.portx p).backTo.getD (s.fld (RFP_CTL_REQ p))
  if portRole s p = 0 || s.flag SNP_TEST_DIRTY then 0 else if s.gated then min held 1 else held

/-- Why a port is excluded from beams and signatures: an off or transmit-only role, a band override, TX, from the walk there to
the return, or a calibration (R74, R75, R80, R94). -/
def portExcluded (s : State) (p : Nat) : Bool :=
  portRole s p == 0 || portRole s p == 2 || (s.portx p).foreign || portState s p == 4
    || (s.portx p).calRun != 0 || (s.portx p).calEnded

/-- A port that a band override has moved to another band counts as foreign until BANDOVR = 0b00 (R80). -/
def foreignFit (s : State) (p : Nat) : State :=
  let x := s.portx p
  s.setPortx p { x with foreign := s.fld (RFP_CTL_BANDOVR p) != 0 && (x.foreign || portBand s p != portMapBand s p) }

/-- The gain index of a port whose loop is off, or whose alignment is not measured, holds at FIX_IDX (R110). -/
def gainHold (s : State) (p : Nat) : State :=
  if s.act CAP_CTL_AAGC_EN = 0 || !s.flag (CAP_PALIGN_VALID p) then
    (s.setPortx p { s.portx p with compOld := s.act CAP_CTL_FIX_IDX, compAt := [] }).setFld (CAP_PGAIN_IDX p) (s.act CAP_CTL_FIX_IDX)
  else s

/-- CAP_PALIGN shows the alignment that a DC-offset calibration measured in the port's band, if any (R111, R137). -/
def alignRefresh (s : State) (p : Nat) : State :=
  match (s.portx p).aligns.find? (·.1 = portBand s p) with
  | some e => gainHold (s.setFlds [(CAP_PALIGN_ALIGN p, e.2), (CAP_PALIGN_VALID p, 1)]) p
  | none => gainHold (s.setFlds [(CAP_PALIGN_ALIGN p, 0), (CAP_PALIGN_VALID p, 0)]) p

/-- BAND, ROLE and EXCLUDED of RFP_STAT follow the port map, the override and the calibration (R101), and CAP_PALIGN the band. -/
def portRefresh (s : State) (p : Nat) : State :=
  let s := foreignFit s p
  alignRefresh (s.setFlds [(RFP_STAT_BAND p, portBand s p), (RFP_STAT_ROLE p, portRole s p),
    (RFP_STAT_EXCLUDED p, b2n (portExcluded s p))]) p

/-- The step of a port's transition that is running completes, and the port heads on for its target (R77, R78).
FULLCAL clears when STANDBY → SYNTH has used it. -/
def portArrive (s : State) (p : Nat) : State :=
  if !s.flag (RFP_STAT_INTRANSIT p) then s else
  let st := portState s p
  let nx := (s.portx p).next
  let s := s.setFlds [(RFP_STAT_STATE p, nx), (RFP_STAT_INTRANSIT p, 0)]
  let s := if st = 1 && nx = 2 then s.setFld (RFP_CTL_FULLCAL p) 0 else s
  -- the state before a software transmission (R85)
  let s := if nx = 4 && (s.portx p).txLane = 0 then s.setPortx p { s.portx p with base := st } else s
  portHead (portRefresh s p) p

/-- The port is forced to STANDBY, PA and receive path off (R31). -/
def portToStandby (s : State) (p : Nat) : State :=
  if portRole s p = 0 || portState s p = 0 then s else
  let x := s.portx p
  -- calibrations cut short stay requested (log entry 7), that of a start-up stays due as such
  let s := if x.calRun = 0 || x.firstCal then s else s.setFld (RFP_CALCTL_REQ p) (s.fld (RFP_CALCTL_REQ p) ||| x.calRun)
  let s := s.setPortx p { x with pa := false, txLane := 0, next := 0, calRun := 0, bandDue := false, entry := none, test := 0, testCut := none }
  portRefresh (s.setFlds [(RFP_STAT_STATE p, 1), (RFP_STAT_TARGET p, 1), (RFP_STAT_INTRANSIT p, 0)]) p

/-! ### The EIRP ceiling (R97), in exact integer arithmetic -/

/-- The factors 10 ^ (2 ^ j / 400) for j = 0 to 8, times 10 ^ 30, rounded down. -/
def ampFactors : List Nat :=
  [1005773063001738242735642490042,
    1011579454259898524440932314454,
    1023292992280754130966275174819,
    1047128548050899533464502031528,
    1096478196143185013143713606141,
    1202264434617412905832612715193,
    1445439770745927511931481545835,
    2089296130854039483122233735799,
    4365158322401659674638349961053]

/-- An amplitude of `u` twentieths of a dB, times 10 ^ 30: 10 ^ (u / 400).  Exact for whole powers of ten, so equal
powers compare equal; rounded down otherwise (log entry 6). -/
def ampOf (u : Nat) : Nat :=
  let r := u % 400
  10 ^ (u / 400) * ((List.range 9).foldl (fun a j => if bitOf r j then a * ampFactors.getD j 1 / 10 ^ 30 else a) (10 ^ 30))

/-- The offset, in twentieths of a dB, that keeps every exponent of R97 positive. -/
def ampOffset : Int := 4000

/-- The sum of the amplitudes of ports at given powers, in quarter dBm. -/
def ampSum (powers : List Int) : Nat := (powers.map fun q => ampOf (5 * q + ampOffset).toNat).sum

/-- The largest power, in twentieths of a dB from `lo`, whose amplitude does not exceed a sum: halving `n` times. -/
def ampLog (sum : Nat) : Nat → Nat → Nat
  | 0, lo => lo
  | n + 1, lo => if ampOf (lo + 2 ^ n) ≤ sum then ampLog sum n (lo + 2 ^ n) else ampLog sum n lo

/-- 20·log10 of a sum of amplitudes, rounded down to a twentieth of a dB. -/
def ampDb (sum : Nat) : Int := (ampLog sum 13 0 : Int) - ampOffset

/-- What R97 makes of a transmission: the ports kept with their powers in quarter dBm, those dropped, the final bound
and the cut in quarter dB. -/
structure EirpResult where
  kept : List (Nat × Int)
  dropped : List (Nat × Int)
  bound : Int
  cut : Nat
  limited : Bool
  deriving DecidableEq, Repr

/-- The maximum power of a band in quarter dBm (R96). -/
def bandMax (band : Nat) : Int := if band = 0 then 32 else 40

/-- A power of `q` quarter dBm in linear measure, on the scale of `ampOf`. -/
def powerOf (q : Int) : Nat := ampOf (10 * q + ampOffset).toNat

/-- The headroom of a port in quarter dBm (R208): the band maximum less the linear sum of the powers that committed
transmissions overlapping the span use on it; −400 where nothing is left. -/
def portRoom (s : State) (band p a e : Nat) : Int :=
  let used := (s.txLanes.map fun l =>
    if l.2.committed && l.2.stage ≤ 4 && l.2.airStart < e && a < l.2.airEnd then
      ((l.2.ports.filter (·.1 = p)).map fun x => powerOf x.2).sum else 0).sum
  let top := powerOf (bandMax band)
  if used = 0 then bandMax band
  else if top ≤ used then -400
  else ((ampLog (top - used) 13 0 : Int) - ampOffset) / 10

/-- The port's ceiling of R96, R97 and R208 in quarter dBm. -/
def portCap (s : State) (room : Nat → Int) (p : Nat) : Int :=
  min (signedOf 8 (s.act (RFP_TXPMAX_MAXQ p))) (room p)

/-- The computation of R97 for requested powers in quarter dBm; `entry` is the table 1 index of band and segment and `room` the
headroom of each port. -/
def eirpCompute (s : State) (room : Nat → Int) (entry : Nat) (req : List (Nat × Int)) : EirpResult :=
  let w := s.table 3 1 entry
  let ceiling : Int := 5 * signedOf 11 w + (if bitOf w 11 then 43 else 0)
  let gain : Int := 5 * (signedOf 8 (bitsOf w 19 12) - (bitsOf w 27 20 : Int))
  let ps := req.map fun e => (e.1, min e.2 (portCap s room e.1))
  let sum := ampSum (ps.map (·.2))
  let limit := ampOf (ceiling - gain + ampOffset).toNat
  let limited := bitOf w 28 && decide (limit < sum)
  -- the least whole number of quarter dB that brings the bound down to the ceiling
  let excess := ampDb sum - (ceiling - gain)
  let cutq : Nat := if limited then
      let c := (excess / 5).toNat
      if sum ≤ ampOf (ceiling - gain + 5 * (c : Int) + ampOffset).toNat then c else c + 1
    else 0
  let ps := ps.map fun e => (e.1, e.2 - (cutq : Int))
  let kept := ps.filter fun e => decide (-96 ≤ e.2)
  { kept := kept
    dropped := ps.filter fun e => decide (e.2 < -96)
    bound := (gain + ampDb (ampSum (kept.map (·.2)))) / 5
    cut := cutq
    limited := limited }

/-- The table 1 index of a band and a band-B segment (R102). -/
def eirpEntry (band segment : Nat) : Nat := if band = 0 then 0 else 1 + segment % 3

/-- Record a computation of R97 in RFP_EIRPSTAT and in the used ports' RFP_TXPLAST; a dropped port keeps the power it applied last
and shows DROPPED; a transmission with no port left is refused and counted. -/
def eirpRecord (s : State) (r : EirpResult) : State :=
  let s := r.kept.foldl (fun s e => s.setFlds [(RFP_TXPLAST_POWQ e.1, wrapOf 8 e.2), (RFP_TXPLAST_DROPPED e.1, 0)]) s
  let s := r.dropped.foldl (fun s e => s.setFld (RFP_TXPLAST_DROPPED e.1) 1) s
  let s := s.setFlds [(RFP_EIRPSTAT_LIMITED, b2n r.limited), (RFP_EIRPSTAT_LAST_CUT, min 255 r.cut)]
  if r.kept.isEmpty then s.bump RFP_EIRPSTAT_REFUSED
  else s.setFld RFP_EIRPSTAT_LAST_BOUND (wrapOf 11 r.bound)

/-! ### Stored coefficients (R91, R95) -/

/-- The port's stored reciprocity coefficient for a bin at its present LO, if it has one. -/
def portCoef (s : State) (p b : Nat) : Option Word :=
  let lo := assignLo s (portAssign s p)
  ((s.portx p).coefs.find? fun e => e.1 = lo && e.2.1 = b).map (·.2.2)

/-- A port transmits uncorrected on bin k: a leak and image result or a reciprocity coefficient is not stored. -/
def uncalibrated (s : State) (p k : Nat) : Bool :=
  let lo := assignLo s (portAssign s p)
  (portCoef s p (binNo k)).isNone || !((s.portx p).leaks.any fun e => e.1 == lo && e.2.1 == binNo k)

/-! ### Coexistence wires (R99, R100) -/

/-- The coexistence wires govern a band. -/
def coxGoverns (s : State) (band : Nat) : Bool :=
  s.flag COX_CTL_EN && (if band = 0 then s.flag COX_CTL_BAND_A else s.flag COX_CTL_BAND_B)

/-- COEX_ACT is high while a port of a governed band is in the PA window (R85, R99). -/
def coxActRefresh (s : State) : State :=
  s.setFld COX_STAT_ACT (b2n ((allPorts s).any fun p => (s.portx p).pa && coxGoverns s (portBand s p)))

/-- A software transmission is under way in a governed band. -/
def coxTest (s : State) : Bool := (allPorts s).any fun p => (s.portx p).test != 0 && coxGoverns s (portBand s p)

/-- COEX_REQ and COEX_PRI fall with the last transmission in a governed band that holds them (R99). -/
def coxReqRefresh (s : State) : State :=
  let by1 := s.venue + max 1000 (1000 * s.fld COX_CTL_REQ_LEAD)
  let l := s.txLanes.filter fun e => e.2.committed && e.2.stage ≤ 4 && coxGoverns s e.2.band && decide (e.2.airStart ≤ by1)
  if !s.flag COX_STAT_REQ then s
  else s.setFlds [(COX_STAT_REQ, b2n (!l.isEmpty || coxTest s)),
    (COX_STAT_PRI, b2n ((l.any fun e => bitOf (s.fld COX_CTL_PRI_SRC) e.2.cls) || (coxTest s && bitOf (s.fld COX_CTL_PRI_SRC) 3)))]

/-- The wires follow the transmissions that are left. -/
def coxWires (s : State) : State := coxReqRefresh (coxActRefresh s)

/-- A software transmission raises COEX_REQ, COEX_PRI where its class is selected, and COEX_ACT (R99, R104). -/
def coxTestRise (s : State) : State :=
  coxActRefresh (if coxTest s then
    s.setFlds [(COX_STAT_REQ, 1), (COX_STAT_PRI, b2n (s.flag COX_STAT_PRI || bitOf (s.fld COX_CTL_PRI_SRC) 3))] else s)

/-- Without grant every PA of a governed band is off: lanes in their PA window stop, and software transmissions are cut (R100 steps
1 and 2). -/
def coxGate (s : State) : State :=
  if !s.flag COX_CTL_EN || s.flag COX_STAT_GNT then s else
  let s := (allPorts s).foldl (fun s p =>
    let x := s.portx p
    if x.pa && coxGoverns s (portBand s p) then
      s.setPortx p { x with pa := false, testCut := if x.test = 0 then none else some s.venue } else s) s
  coxActRefresh { s with txLanes := s.txLanes.map fun e =>
    if (e.2.stage = 3 || e.2.stage = 4) && e.2.cut = 0 && coxGoverns s e.2.band then (e.1, { e.2 with cut := 7, airEnd := s.venue }) else e }

/-- The level of COEX_GNT is seen (R99, R100, R104). -/
def coxLevel (s : State) (level : Bool) : State :=
  coxGate (s.setFld COX_STAT_GNT (b2n (level != s.flag COX_CTL_GNT_INV)))

/-- What a write of COX_CTL leaves behind, GNT_INV having been `inv` before it: GNT is read under the new polarity; with EN = 0 the wires
are low, with EN = 1 the gate acts (R99, R100, R104). -/
def coxCtlWritten (inv : Nat) (s : State) : State :=
  let s := if s.fld COX_CTL_GNT_INV = inv then s else s.setFld COX_STAT_GNT (1 - s.fld COX_STAT_GNT)
  if s.flag COX_CTL_EN then coxGate (coxActRefresh s)
  else s.setFlds [(COX_STAT_REQ, 0), (COX_STAT_PRI, 0), (COX_STAT_ACT, 0)]

/-! ### Writes of RFP_CTL and its neighbours (R80, R101) -/

/-- A port is held in TX by software (R80). -/
def testHeld (s : State) (p : Nat) : Bool :=
  portState s p == 4 && s.fld (RFP_CTL_REQ p) == 4 && (s.portx p).txLane == 0

/-- The bin of a port's software transmission: TXCHAN in its band and LO group; a value above the highest bin acts as bin 0 (R101). -/
def testBin (s : State) (p : Nat) : Nat :=
  let c := s.fld (RFP_CTL_TXCHAN p)
  if portBand s p = 0 then (if c < 48 then c else 0)
  else (if portGroup s p = 0 then 48 else 198) + (if c < 150 then c else 0)

/-- What a port held in TX radiates: 1 PRBS9 under profile 0, where slot 0 is defined for the port's band, 0 the unmodulated carrier (R164). -/
def testContent (s : State) (p : Nat) : Nat :=
  let w := s.table 7 0 0
  b2n (s.fld (RFP_CTL_TEST p) == 1 && bitOf w 0 && bitsOf w 4 4 == portBand s p)

/-- A software transmission that was denied or cut ends: its port goes back to the state before it and stays there until RFP_CTL is
written (R99, R100). -/
def testBack (s : State) (p : Nat) : State :=
  let b := (s.portx p).base
  (s.setPortx p { s.portx p with pa := false, test := 0, testCut := none, backTo := some b, next := b }).setFlds
    [(RFP_STAT_TARGET p, b), (RFP_STAT_INTRANSIT p, 1)]

/-- A port takes part in its software transmission or not; a new one on a bin without stored coefficients counts it (R95). -/
def testPort (s : State) (k p : Nat) (on : Bool) : State :=
  let x := s.portx p
  let s := if on && x.test ≠ k + 1 && uncalibrated s p k then s.bump (RFP_CNT1_NOCAL p) else s
  s.setPortx p { x with pa := on, test := if on then k + 1 else 0 }

/-- A software transmission of a port held in TX (RFP_CTL.TEST, TXCHAN, TXPWR), under R97 over the ports held in TX on its bin (R133):
with grant, where the coexistence wires govern its band, the PA window opens for those that remain; without it they go back, each
denied (R99; log entry 147). -/
def testRadiate (s : State) (p : Nat) : State :=
  if testHeld s p && s.regionOn 8 then
    let band := portBand s p
    let k := testBin s p
    let l := (allPorts s).filter fun q => testHeld s q && testBin s q == k
    let r := eirpCompute s (fun _ => bandMax band) (eirpEntry band (binSegment s k))
      (l.map fun q => (q, signedOf 8 (s.fld (RFP_CTL_TXPWR q))))
    let s := eirpRecord s r
    if coxGoverns s band && !s.flag COX_STAT_GNT then
      coxWires (r.kept.foldl (fun s e => testBack (s.bump COX_CNT_DENIED) e.1) s)
    else
      let s := coxTestRise (l.foldl (fun s q => testPort s k q (r.kept.any (·.1 = q))) s)
      r.kept.foldl (fun s e => s.emit .test [e.1, k, testContent s e.1, wrapOf 8 e.2]) s
  else if portState s p ≠ 4 && ((s.portx p).pa || (s.portx p).test ≠ 0) then
    coxWires (s.setPortx p { s.portx p with pa := false, test := 0 })
  else s

/-- What a write of RFP_CTL does (R80): a port with role off ignores it; a request of 5 to 7, both bands, or band B
where there is none sets CONFLICT; a request above STANDBY on the fallback oscillator is refused and counted; otherwise
the held state is set and the port heads for it, waiting for the end of a transmission or a calibration. -/
def rfpCtlWrite (s : State) (p v : Nat) : State :=
  let req := v % 8
  if portRole s p = 0 then (if req = 0 then s else s.bump (RFP_CNT0_REFUSED p)) else
  let oldBand := portBand s p
  let s := s.setFlds [(RFP_CTL_FULLCAL p, bitsOf v 3 3), (RFP_CTL_BANDOVR p, bitsOf v 5 4), (RFP_CTL_TEST p, bitsOf v 7 6),
    (RFP_CTL_TXCHAN p, bitsOf v 15 8), (RFP_CTL_TXPWR p, bitsOf v 23 16)]
  let s := s.setPortx p { s.portx p with backTo := none }
  let ovr := bitsOf v 5 4
  let s := if ovr = 3 || (ovr = 2 && !s.part.bandB) then s.setFld (RFP_STAT_CONFLICT p) 1 else s
  -- a band change goes through STANDBY and SYNTH and back to the held state
  let s := if portBand s p ≠ oldBand then s.setPortx p { s.portx p with bandDue := true } else s
  let s :=
    if 5 ≤ req then s.setFld (RFP_STAT_CONFLICT p) 1
    else if 1 < req && s.flag SYS_CLKSTAT_ON_FALLBACK then s.bump (RFP_CNT0_REFUSED p)
    else
      let role := portRole s p
      let s := s.setFld (RFP_CTL_REQ p) req
      let s := if (req = 4 && role = 1) || (req = 3 && role = 2) then s.setFld (RFP_STAT_ROLE_VIOL p) 1 else s
      if (s.portx p).txLane ≠ 0 || commitHolds s p then s else s.setFld (RFP_STAT_TARGET p) (portWant s p)
  let s := portRefresh s p
  testRadiate (portHead s p) p

/-- What a write of RFP_TXPMAX stores in the shadow: at most the band's maximum (R101). -/
def txpmaxClamp (s : State) (p v : Nat) : Nat :=
  let cap : Int := if portBand s p = 0 then 32 else 40
  wrapOf 8 (min (signedOf 8 v) cap)

/-- A frequency of an LO group lies in its range and on the 25 kHz raster (R88). -/
def lobOk (g v : Nat) : Bool :=
  v % 25 == 0 && (if g = 0 then decide (861200 ≤ v && v ≤ 878000) else decide (913200 ≤ v && v ≤ 917000))

/-- A request for calibrations on a port (R94): the bits stay pending until their period start. -/
def calRequest (s : State) (p kinds : Nat) : State :=
  if kinds % 16 = 0 then s
  else s.setFlds [(RFP_CALCTL_REQ p, s.fld (RFP_CALCTL_REQ p) ||| kinds % 16), (RFP_CALSTAT_BUSY p, 1)]

/-- Calibrations of a port fall due (R89, R94): DUE is set and RFP_CALDUE, producer 96, fires. -/
def calDue (s : State) (p kinds : Nat) : State :=
  let s' := s.setPortx p { s.portx p with dueKinds := (s.portx p).dueKinds ||| kinds }
  if s.flag (RFP_CALSTAT_DUE p) then s' else (s'.setFld (RFP_CALSTAT_DUE p) 1).fire 96 p

/-- RFP_CALGLB.PORT names the lowest port in calibration. -/
def calPortRefresh (s : State) : State :=
  match (allPorts s).find? fun p => (s.portx p).calRun ≠ 0 with
  | some p => s.setFld RFP_CALGLB_PORT p
  | none => s.setFld RFP_CALGLB_PORT 0

/-- A synthesizer that serves an LO calibrates (R93 step 1). -/
def synsBusy (s : State) : Bool := (List.range 3).any fun k => (s.syn k).calibrating && s.fld (SYN_STAT_ASSIGN k) != 0

/-- A port enters CAL for some calibrations. -/
def calEnter (s : State) (p kinds : Nat) : State :=
  let st := portState s p
  let s := s.setPortx p { s.portx p with calRun := kinds, base := st, pa := false, test := 0 }
  portRefresh (s.setFlds [(RFP_CALSTAT_BUSY p, 1), (RFP_STAT_STATE p, 5), (RFP_STAT_INTRANSIT p, 0)]) p

/-- Whether a port can begin calibrations now: a port in a transmission, in SLEEP or in a transition waits, and so does one whose
reference or synthesizer is not there (log entry 7). -/
def calReady (s : State) (p : Nat) : Bool :=
  let st := portState s p
  (s.portx p).txLane == 0 && !commitHolds s p && (s.portx p).calRun == 0 && !s.flag (RFP_STAT_INTRANSIT p) && st != 0 && decide (st < 4)
    && s.flag SYS_CLKSTAT_ROOT_LOCK && !s.flag SYS_CLKSTAT_ON_FALLBACK

/-- Some calibrations of a port start at a period start where it is ready and fewer than MAXPAR ports calibrate (R94); a start-up
calibration that was cut short starts again. -/
def calStart (s : State) (p kinds : Nat) : State :=
  let running := ((allPorts s).filter fun q => (s.portx q).calRun ≠ 0).length
  if kinds = 0 || !calReady s p then s
  else if (s.portx p).firstCal then (if synsBusy s then s else calEnter s p 15)
  else if max (s.fld RFP_CALGLB_MAXPAR) 1 ≤ running then s
  else (calEnter s p kinds).setFld (RFP_CALCTL_REQ p) 0

/-- What a period start does for calibrations: ports whose calibration has ended rejoin, then requested ones start in ascending port
order, then due ones with BACKGROUND (R94). -/
def calBoundary (s : State) : State :=
  let s := (allPorts s).foldl (fun s p =>
    if (s.portx p).calEnded then portRefresh (s.setPortx p { s.portx p with calEnded := false }) p else s) s
  let s := (allPorts s).foldl (fun s p => calStart s p (if (s.portx p).firstCal then 15 else s.fld (RFP_CALCTL_REQ p))) s
  calPortRefresh ((allPorts s).foldl (fun s p =>
    if s.flag RFP_CALGLB_BACKGROUND && s.flag (RFP_CALSTAT_DUE p) then calStart s p 15 else s) s)

/-- A stored table takes new entries in place of those of LO `lo`. -/
def loStore (lo : Nat) (new : List (Nat × Word)) (old : List (Nat × Nat × Word)) : List (Nat × Nat × Word) :=
  new.map (fun e => (lo, e.1, e.2)) ++ old.filter (·.1 ≠ lo)

/-- The results of the calibrations that have run on a port are kept (R91, R111): those of DC offset with the port's delay `align`, per
gain index of its band; I/Q balance; TX leak and image, on a port with a transmit path, and reciprocity per LO and bin. -/
def calKeep (s : State) (p align : Nat) (r : CalResults) : PortX :=
  let x := s.portx p
  let lo := assignLo s (portAssign s p)
  let band := portBand s p
  { x with
    dcs := if bitOf x.calRun 0 then r.dcs.map (fun e => (32 * band + e.1, e.2)) ++ x.dcs.filter (·.1 / 32 ≠ band) else x.dcs
    aligns := if bitOf x.calRun 0 then (band, align) :: x.aligns.filter (·.1 ≠ band) else x.aligns
    iq := if bitOf x.calRun 1 then some r.iq else x.iq
    leaks := if bitOf x.calRun 2 && 2 ≤ portRole s p then loStore lo r.leaks x.leaks else x.leaks
    coefs := if bitOf x.calRun 3 then loStore lo r.coefs x.coefs else x.coefs }

/-- A port's calibration ends at temperature `temp` (R91, R94): its results are kept, TEMP_AT_CAL is set, DONE too unless it is that of
a start-up, DUE clears when every kind that is due has run, and the port starts its way back to its held state, except in the
calibration of a start-up. -/
def calDone (s : State) (p temp align : Nat) (r : CalResults) : State :=
  let x := s.portx p
  if x.calRun = 0 then s else
  let due := x.dueKinds &&& (15 - x.calRun % 16)
  let want := portWant s p
  let next := if 1 < want && !loServed s (portAssign s p) then 1 else want
  let s := s.setPortx p { calKeep s p align r with
    calRun := 0, calEnded := true, calAt := some s.uptime, next := next, dueKinds := due, firstCal := false }
  let s := s.setFlds [(RFP_CALSTAT_TEMP_AT_CAL p, temp), (RFP_CALSTAT_DONE p, if x.firstCal then s.fld (RFP_CALSTAT_DONE p) else 1),
    (RFP_CALSTAT_DUE p, b2n (due ≠ 0)), (RFP_CALSTAT_BUSY p, b2n (s.fld (RFP_CALCTL_REQ p) ≠ 0))]
  let s := if s.ref.startCal then s else s.setFlds [(RFP_STAT_TARGET p, want), (RFP_STAT_INTRANSIT p, 1)]
  calPortRefresh (portRefresh s p)

/-! ### Synthesizers (R87 to R90) -/

/-- The assignment code of the lowest-numbered band-B port that is not off, and of the other LO group if a port uses it
(R87). -/
def bandBCodes (s : State) : Nat × Nat :=
  let bs := (allPorts s).filter fun p => portRole s p ≠ 0 && portMapBand s p = 1
  match bs with
  | [] => (0, 0)
  | p :: _ =>
    let g := if bitsOf (portEntry s p) 4 3 = 2 then 1 else 0
    let other := bs.any fun q => (if bitsOf (portEntry s q) 4 3 = 2 then 1 else 0) ≠ g
    (2 + g, if other then 3 - g else 0)

/-- SYS_CLKSTAT shows whether each band's synthesizers are locked (R34). -/
def synClkstat (s : State) : State :=
  let codes := (List.range 3).map fun k => (s.fld (SYN_STAT_ASSIGN k), s.fld (SYN_STAT_LOCK k))
  let a := codes.any fun e => e.1 = 1 && e.2 = 1
  let b := (codes.any fun e => 2 ≤ e.1) && (codes.all fun e => e.1 < 2 || e.2 = 1)
  s.setFlds [(SYS_CLKSTAT_SYN_A_LOCK, b2n a), (SYS_CLKSTAT_SYN_B_LOCK, b2n (b && s.part.bandB))]

/-- Synthesizer k is present (R29, R87). -/
def synPresent (s : State) (k : Nat) : Bool := decide (k < 3) && (s.part.bandB || k != 1)

/-- The spare: a present synthesizer that serves nothing, takes nothing over and has not failed (R87, R90).  Without a band-B port SYN1 is
idle and not the spare. -/
def spareSyn (s : State) : Option Nat :=
  [2, 1, 0].find? fun k => synPresent s k && s.fld (SYN_STAT_ASSIGN k) == 0 && !s.flag (SYN_STAT_FAILED k)
    && (s.syn k).taking == 0 && (k != 1 || (bandBCodes s).1 != 0)

/-- NO_SPARE and the lock summary follow the synthesizers. -/
def synRefresh (s : State) : State :=
  synClkstat (s.setFld SYN_STAT_NO_SPARE (b2n (spareSyn s).isNone))

/-- Assign the synthesizers (R87); one that is newly given an LO locks to it. -/
def synAssign (s : State) : State :=
  let (c1, c2) := bandBCodes s
  let want := [1, if s.part.bandB then c1 else 0, if s.part.bandB then c2 else 0]
  synRefresh ((List.range 3).foldl (fun s k =>
    let w := want.getD k 0
    if s.fld (SYN_STAT_ASSIGN k) = w then s
    else s.setFlds [(SYN_STAT_ASSIGN k, w), (SYN_STAT_LOCK k, b2n (w ≠ 0))]) s)

/-- The ports a synthesizer serves. -/
def synPorts (s : State) (code : Nat) : List Nat :=
  (allPorts s).filter fun p => portRole s p ≠ 0 && portAssign s p = code

/-- Ports come back in phase and head for their held states (R81, R90). -/
def portsBack (s : State) (l : List Nat) : State :=
  l.foldl (fun s p =>
    let s := s.setPortx p { s.portx p with muted := false }
    portAim s p (portWant s p)) s

/-- Every period start, a failed synthesizer that is not locked runs a full calibration again (R90). -/
def synBoundary (s : State) : State :=
  (List.range 3).foldl (fun s k =>
    if s.flag (SYN_STAT_FAILED k) && !(s.syn k).lockedAfterCal then s.setSyn k { s.syn k with calibrating := true } else s) s

end Sys2Proof.Machine
end

