-- ==== Sys2Proof/Machine/Capture.lean ====
section
/-! DEFINITION. Machine/Capture.lean: bins, profiles, detections and window groups, lanes, blanking, the canceller,
signatures and precoding, as shared operations (R106 to R174). -/

namespace Sys2Proof.Machine

/-! ### Bins (R106 to R108) -/

/-- The bin is present on this part (R3, R8). -/
def binPresent (s : State) (k : Nat) : Bool := decide (k < s.part.bins)

/-- The detection-bin map's word of a bin (R140). -/
def binMap (s : State) (k : Nat) : Nat := if binPresent s k then s.table 5 0 k else 0

/-- The bin carries beams, detection and lanes (R108). -/
def binDet (s : State) (k : Nat) : Bool := bitOf (binMap s k) 0

/-- The profile slots the map assigns to a bin (R120, R140). -/
def binProfs (s : State) (k : Nat) : List Nat :=
  let w := binMap s k
  if !bitOf w 0 then [] else if bitOf w 1 then [bitsOf w 5 2, bitsOf w 9 6] else [bitsOf w 5 2]

/-- Detection is on for the bin's band (R138). -/
def detOn (s : State) (k : Nat) : Bool :=
  if binBand k = 0 then s.act SPX_CTL_DET_EN_A == 1 else s.act SPX_CTL_DET_EN_B == 1 && s.part.bandB

/-- ns per bin sample (R106). -/
def sampleNs (band : Nat) : Nat := if band = 0 then 200 else 2500

/-! ### Profiles (R141, R142, R173) -/

/-- The four words of a profile slot in the active plane. -/
def profWords (s : State) (n : Nat) : List Nat := (List.range 4).map fun i => s.table 7 0 (4 * n + i)

def pwValid (w : List Nat) : Bool := bitOf (w.getD 0 0) 0
def pwMode (w : List Nat) : Nat := bitsOf (w.getD 0 0) 3 1
def pwBand (w : List Nat) : Nat := bitsOf (w.getD 0 0) 4 4
def pwRate (w : List Nat) : Nat := bitsOf (w.getD 0 0) 6 5
def pwMaxLen (w : List Nat) : Nat := bitsOf (w.getD 0 0) 21 11
def pwPreLen (w : List Nat) : Nat := bitsOf (w.getD 2 0) 11 0
def pwDetWin (w : List Nat) : Nat := bitsOf (w.getD 2 0) 23 12
def pwLongMax (w : List Nat) : Nat := bitsOf (w.getD 3 0) 18 0
def pwStrobeOk (w : List Nat) : Bool := bitOf (w.getD 3 0) 19

/-- Symbol period in ns, times three so that 150 kb/s is exact (R142). -/
def symNs3 (w : List Nat) : Nat :=
  match pwMode w with
  | 0 => 48000
  | 1 => if pwRate w = 0 then 60000 else if pwRate w = 1 then 30000 else 20000
  | _ => if pwBand w = 0 then 6000 else 30000

/-- The normal preamble in symbols (R156). -/
def preSymbols (w : List Nat) : Nat :=
  match pwMode w with | 0 => 8 | 1 => 8 * pwPreLen w | _ => pwPreLen w

/-- The sync field in symbols (R156). -/
def syncSymbols (w : List Nat) : Nat := match pwMode w with | 0 => 2 | 1 => 16 | _ => 32

/-- Symbols of header and PSDU after the sync field, pilots included, for a PSDU of `len` octets (R146, R147, R150). -/
def bodySymbols (w : List Nat) (len : Nat) : Nat :=
  match pwMode w with
  | 0 => 2 * (1 + len)
  | 1 => 8 * (2 + len)
  | _ => 8 * (3 + len) + 8 * ((8 * (3 + len) - 1) / 64)

/-- Air time in ns of a frame with `pre` preamble symbols, rounded up (R146, R147, R150). -/
def airNs (w : List Nat) (pre len : Nat) : Nat :=
  ((pre + syncSymbols w + bodySymbols w len) * symNs3 w + 2) / 3

/-- Detection window in ns (R120, R173). -/
def detWinNs (w : List Nat) : Nat := (pwDetWin w * symNs3 w + 2) / 3

/-- A bin lies on a profile's raster (R142, R144). -/
def onRaster (w : List Nat) (k : Nat) : Bool :=
  pwBand w == binBand k &&
    match pwMode w with
    | 0 => decide (9 ≤ k && k ≤ 39) && k % 2 == 1
    | 1 => true
    | _ => if pwBand w = 0 then decide (8 ≤ k && k ≤ 39) && k != 24 else true

/-- The acknowledgement's air start after the end of frame, in ns (R186). -/
def ackTurnNs (w : List Nat) : Nat := match pwMode w with | 0 => 192000 | 1 => 1000000 | _ => 24000

/-- How long before the air start the acknowledgement is frozen, in ns (R186). -/
def ackFreezeNs (w : List Nat) : Nat :=
  match pwMode w with | 2 => if pwBand w = 0 then 10000 else 2500 | _ => 40000

/-! ### Lanes (R125 to R127, R172) -/

def State.rxl (s : State) (n : Nat) : Option RxLane := (s.rxLanes.find? (·.1 = n)).map (·.2)

def State.setRxl (s : State) (n : Nat) (x : RxLane) : State := { s with rxLanes := stInsert x s.rxLanes n }

/-- A receive lane's state: 0 free, 1 sync search, 2 receiving. -/
def rxState (s : State) (n : Nat) : Nat := s.fld (PHY_RXSTAT_STATE n)

/-- A receive lane's bin. -/
def rxBin (s : State) (n : Nat) : Nat := s.fld (PHY_RXSTAT_BIN n)

/-- The lanes that are not free, in ascending order. -/
def busyRx (s : State) : List Nat := (s.rxLanes.map (·.1)).filter fun n => rxState s n ≠ 0

def freeRx (s : State) : Option Nat := (List.range s.part.rxLanes).find? fun n => rxState s n = 0

/-- POOL_USED: the lanes in use above each bin's floor (R125). -/
def poolUsed (s : State) : Nat :=
  ((List.range s.part.bins).map fun k => s.fld (SPX_BIN3_INUSE k) - s.fld (SPX_BIN3_FLOOR k)).sum

/-- POOL_USED and RX_INUSE follow the lanes. -/
def laneRefresh (s : State) : State :=
  s.setFlds [(SPX_POOL_POOL_USED, poolUsed s), (PHY_STAT_RX_INUSE, (busyRx s).length)]

/-- A receive lane is released (R127): INUSE of its bin is decremented and its status clears. -/
def laneRelease (s : State) (n : Nat) : State :=
  if rxState s n = 0 then s else
  let k := rxBin s n
  let s := s.setFld (SPX_BIN3_INUSE k) (s.fld (SPX_BIN3_INUSE k) - 1)
  let s := s.setReg (PHY_RXSTAT n) 0
  laneRefresh { s with rxLanes := stErase s.rxLanes n }

/-- The floors of the active lane-pool region, and the pool that is left (R125, R135). -/
def floorsApply (s : State) : State :=
  let s := forBelow s.part.bins (fun s k => s.setFld (SPX_BIN3_FLOOR k) (s.table 6 4 k)) s
  let total := ((List.range s.part.bins).map fun k => s.table 6 4 k % 512).sum
  laneRefresh (s.setFld SPX_POOL_POOL_SIZE (s.part.rxLanes - total))

/-- The active words of LNK_CTL, LNK_PANID, LNK_EXTL, LNK_EXTH, LNK_ABLK, LNK_DELIV and LNK_ACKPWR (R42). -/
def linkPolicy (s : State) : List Nat :=
  (List.range 7).map fun i => (s.reg (0x20088000 + 4 * i)).toNat

/-- A kept frame is granted the lowest free lane within its bin's floor or the pool, or refused and counted in NOLANE; a
profile slot that is not defined refuses it too and counts in ABORTED (R125, R141).  `w` are its combining weights over one denominator. -/
def laneAllocate (s : State) (k : Nat) (d : Detection) (weights : List (Nat × Int × Int) × Int) (joint : Bool) : State × Option Nat :=
  let w := profWords s d.prof
  if !pwValid w then (s.bump (PHY_CNT3_ABORTED d.prof), none) else
  let inuse := s.fld (SPX_BIN3_INUSE k)
  match freeRx s with
  | none => (s.bump (SPX_BIN1_NOLANE k), none)
  | some n =>
    if inuse < s.fld (SPX_BIN3_FLOOR k) || poolUsed s < s.fld SPX_POOL_POOL_SIZE then
      let s := s.setFld (SPX_BIN3_INUSE k) (inuse + 1)
      let s := s.setRxl n { det := d, words := w, sync := (s.reg (PHY_SYNC d.prof + 0x8000)).toNat,
                            trk := (s.reg (PHY_TRK d.prof + 0x8000)).toNat, policy := linkPolicy s, plane := s.actB 7,
                            joint := joint, weights := weights.1, weightDen := weights.2, beamPlane := s.actB 4
                            target := s.act SPX_DAGC_TARGET }
      let s := s.setFlds [(PHY_RXSTAT_STATE n, 1), (PHY_RXSTAT_BIN n, k), (PHY_RXSTAT_PROFILE n, d.prof),
        (PHY_RXSTAT_COLLIDED n, 0), (PHY_RXSTAT_SYNC_ERR n, 0)]
      (laneRefresh s, some n)
    else (s.bump (SPX_BIN1_NOLANE k), none)

/-! ### Window groups and separation (R120 to R124, R154) -/

/-- The low 16 bits of the epoch of an instant, as cells carry it (R265). -/
def epoch16 (t : Nat) : Nat := t / periodNs % 65536

/-- Two start samples of a band, each with its epoch, lie within ±2 bin samples, across a boundary too (R259). -/
def startsMeet (band e i f j : Nat) : Bool :=
  let n := periodNs / sampleNs band
  let d := (65536 * n + e % 65536 * n + i - (f % 65536 * n + j)) % (65536 * n)
  decide (d ≤ 2 ∨ 65536 * n ≤ d + 2)

def State.binGroups (s : State) (k : Nat) : List Group := stGet [] s.groups k

def State.setGroups (s : State) (k : Nat) (l : List Group) : State := { s with groups := stSet [] s.groups k l }

/-- The longest detection window of a bin's profiles, in ns (R122). -/
def binWMax (s : State) (k : Nat) : Nat := ((binProfs s k).map fun n => detWinNs (profWords s n)).foldl max 0

/-- The threshold of a bin's band in force (R120). -/
def detThr (s : State) (k : Nat) : Nat := if binBand k = 0 then s.act SPX_DETTHR_THR_A else s.act SPX_DETTHR_THR_B

/-- The threshold for a detection that starts at `start`: that of the open group it falls in, else the one in force (R135). -/
def groupThr (s : State) (k start : Nat) : Nat :=
  match (s.binGroups k).find? fun g => !g.closed && g.start ≤ start && start < g.start + 64 * sampleNs (binBand k) with
  | some g => g.thr
  | none => detThr s k

/-- Put a detection into the window group its start falls in, or open a group for it (R122). -/
def groupAdd (s : State) (k : Nat) (d : Detection) : State :=
  let span := 64 * sampleNs (binBand k)
  let gs := s.binGroups k
  if gs.any fun g => !g.closed && g.start ≤ d.start && d.start < g.start + span then
    s.setGroups k (gs.map fun g => if !g.closed && g.start ≤ d.start && d.start < g.start + span
      then { g with dets := g.dets ++ [d] } else g)
  else
    s.setGroups k (gs ++ [{ start := d.start, closeAt := d.start + span + binWMax s k, dets := [d],
                            thr := detThr s k, depth := min (s.act SPX_CTL_DEPTH) s.part.spatial
                            corrMax := s.act SPX_SEPCTL_CORR_MAX }])

/-- The inner product s_f^H s_g of two signatures as real and imaginary part, in units of 2⁻³⁰ (R123, R129). -/
def sigInner (f g : List (Nat × Word)) : Int × Int :=
  (f.foldl (fun acc e =>
    match g.find? (·.1 = e.1) with
    | none => acc
    | some e' =>
      let a := signedOf 16 e.2.toNat; let b := signedOf 16 (e.2.toNat / 65536)
      let c := signedOf 16 e'.2.toNat; let d := signedOf 16 (e'.2.toNat / 65536)
      (acc.1 + (a * c + b * d), acc.2 + (a * d - b * c))) (0, 0))

/-- 100·corr(f, g) ≥ limit, compared as squares; unit length is 2¹⁵ (R123; log entry 8). -/
def corrAtLeast (f g : List (Nat × Word)) (limit : Nat) : Bool :=
  let p := sigInner f g
  decide ((limit : Int) ^ 2 * 2 ^ 60 ≤ 10000 * (p.1 ^ 2 + p.2 ^ 2))

/-- The order of R123: SNR highest first, then earlier start, then lower strongest beam. -/
def detBefore (a b : Detection) : Bool :=
  decide (b.snr < a.snr) || (a.snr == b.snr && (decide (a.start < b.start) || (a.start == b.start && decide (a.beam ≤ b.beam))))

/-- Insert a detection in the order of R123. -/
def detInsert (d : Detection) : List Detection → List Detection
  | [] => [d]
  | e :: l => if detBefore d e then d :: e :: l else e :: detInsert d l

/-- The detections of a group in the order of R123. -/
def detSort (l : List Detection) : List Detection := l.foldr detInsert []

/-- The lanes that run a frame on a bin (RUN of R123). -/
def runLanes (s : State) (k : Nat) : List Nat := (busyRx s).filter fun n => rxBin s n = k

/-- Report an unseparated collision (R124): UNSEP, OVERDEPTH with that reason, and SPX_LASTCOL. -/
def reportUnsep (s : State) (k reason : Nat) (running : Bool) (snr : Int) : State :=
  let s := s.bump (SPX_BIN2_UNSEP k)
  let s := if reason = 2 then s.bump (SPX_BIN2_OVERDEPTH k) else s
  s.setFlds [(SPX_LASTCOL_BIN, k), (SPX_LASTCOL_REASON, reason), (SPX_LASTCOL_RUNNING, b2n running),
    (SPX_LASTCOL_SNR, wrapOf 8 snr)]

/-- SNR of the frame a lane runs. -/
def laneSnr (s : State) (n : Nat) : Int := match s.rxl n with | some x => x.det.snr | none => 0

/-- Flag running frames that a stronger late frame overlaps (R123, R124). -/
def flagCollided (s : State) (k : Nat) : State :=
  (runLanes s k).foldl (fun s n =>
    if s.flag (PHY_RXSTAT_COLLIDED n) then s
    else reportUnsep (s.setFld (PHY_RXSTAT_COLLIDED n) 1) k 3 true (laneSnr s n)) s

/-- The decisions of R123 over a closed group, in order: the frames kept. -/
def separateLoop (k : Nat) (g : Group) : List Detection → State → List Detection → State × List Detection
  | [], s, kept => (s, kept)
  | f :: rest, s, kept =>
    let run := runLanes s k
    if run.any fun n => f.snr ≤ laneSnr s n then separateLoop k g rest (reportUnsep s k 3 false f.snr) kept
    else if g.depth ≤ kept.length + run.length then separateLoop k g rest (reportUnsep s k 2 false f.snr) kept
    else if kept.any fun e => corrAtLeast f.sig e.sig g.corrMax then
      separateLoop k g rest (reportUnsep s k 1 false f.snr) kept
    else separateLoop k g rest (flagCollided s k) (kept ++ [f])

/-- Frames running or already kept, by bin: those of the lanes, and those kept not long ago with a lane or without. -/
def keptFrames (s : State) : List (Nat × Detection) :=
  s.kept ++ (busyRx s).filterMap fun n => (s.rxl n).map fun x => (rxBin s n, x.det)

/-- A band-B detection is the image of a frame of the same profile on an adjacent bin (R154). -/
def neighbourImage (s : State) (k : Nat) (g : Group) (f : Detection) : Bool :=
  binBand k == 1 && ((keptFrames s).any fun e =>
    (e.1 + 1 == k || e.1 == k + 1) && binBand e.1 == 1 && binGroup e.1 == binGroup k
      && e.2.prof == f.prof && decide (e.2.start ≤ f.start + 5000 && f.start ≤ e.2.start + 5000)
      && corrAtLeast f.sig e.2.sig g.corrMax)

/-- A frame is kept; frames whose start lies more than 10 µs before it can have no image any more and are forgotten. -/
def keptPut (s : State) (k : Nat) (d : Detection) : State :=
  { s with kept := (s.kept.filter fun e => d.start < e.2.start + 10000) ++ [(k, d)] }

/-! ### Combining weights (R123) -/

/-- A signature as complex integers, unit 2¹⁵. -/
def sigInts (l : List (Nat × Word)) : List (Nat × Int × Int) :=
  l.map fun e => (e.1, signedOf 16 e.2.toNat, signedOf 16 (e.2.toNat / 65536))

/-- The inner product a^H b of two vectors by beam. -/
def vecDot (a b : List (Nat × Int × Int)) : Int × Int :=
  a.foldl (fun acc e =>
    match b.find? (·.1 = e.1) with
    | none => acc
    | some f => (acc.1 + (e.2.1 * f.2.1 + e.2.2 * f.2.2), acc.2 + (e.2.1 * f.2.2 - e.2.2 * f.2.1))) (0, 0)

/-- The vector d·a − c·b over the beams of either, d an integer and c complex. -/
def vecComb (d : Int) (a : List (Nat × Int × Int)) (c : Int × Int) (b : List (Nat × Int × Int)) : List (Nat × Int × Int) :=
  let at_ (l : List (Nat × Int × Int)) (m : Nat) : Int × Int := match l.find? (·.1 = m) with | some e => e.2 | none => (0, 0)
  let keys := a.map (·.1) ++ (b.map (·.1)).filter fun m => !(a.map (·.1)).contains m
  keys.map fun m =>
    let x := at_ a m; let y := at_ b m
    (m, d * x.1 - (c.1 * y.1 - c.2 * y.2), d * x.2 - (c.1 * y.2 + c.2 * y.1))

/-- One signature enters the inverse of Σ s·s^H + N·I by its rank-one update: `vs` are the products of the inverse so far with every
signature, over the denominator `d`; `k` is the place of the one that enters, `s` its vector. -/
def weightStep (vs : List (List (Nat × Int × Int))) (d : Int) (k : Nat) (s : List (Nat × Int × Int)) :
    List (List (Nat × Int × Int)) × Int :=
  let v := vs.getD k []
  let q := (vecDot s v).1
  (vs.map fun x => vecComb (d + q) x (vecDot s x) v, d * (d + q))

/-- w_f of R123 for frame `f` among the signatures `all` of the kept and running frames: its value by beam over one denominator, with
N_f = 10^(−SNR/10) rounded down at 10⁻⁴⁰ (log entry 6). -/
def combWeights (all : List (List (Nat × Word))) (f : Detection) : List (Nat × Int × Int) × Int :=
  let l := (f.sig :: all).map sigInts
  let n : Int := ampOf (4000 - 10 * f.snr).toNat * 2 ^ 30
  let vs := l.map fun v => v.map fun e => (e.1, e.2.1 * 10 ^ 40, e.2.2 * 10 ^ 40)
  let r := (List.range all.length).foldl (fun (a : List (List (Nat × Int × Int)) × Int) i =>
    weightStep a.1 a.2 (i + 1) (l.getD (i + 1) [])) (vs, n)
  ((r.1.headD []).map fun e => (e.1, e.2.1 * 2 ^ 15, e.2.2 * 2 ^ 15), r.2)


/-! ### Blanking and deafness (R114 to R118, R153, R218) -/

/-- A span covers a bin. -/
def Blank.covers (s : State) (b : Blank) (k : Nat) : Bool :=
  match b.scope with
  | 0 => binBand k == b.band
  | 1 => binBand k == b.band &&
      decide (binCentre s k < b.centre + b.clear && b.centre < binCentre s k + b.clear)
  | 2 => binBand k == 1 && binGroup k == 0
  | _ => binBand k == 1 && binGroup k == 1

/-- A bin is blanked at an instant: correlators are held off (R116). -/
def blankedAt (s : State) (k t : Nat) : Bool :=
  s.blanks.any fun b => b.blanks && decide (b.start ≤ t) && (b.stop == 0 || decide (t < b.stop)) && b.covers s k

/-- A lane on bin k lies in the blanked set, a band-B lane with its flank bins (R153). -/
def laneBlanked (s : State) (b : Blank) (k : Nat) : Bool :=
  b.covers s k || (binBand k == 1 &&
    ((decide (0 < binNo k) && b.covers s (k - 1)) || (decide (binNo k < 149) && b.covers s (k + 1))))

/-- Whole microseconds, as multiples of 1000 ns, in [a, b). -/
def usBetween (a b : Nat) : Nat := (b + 999) / 1000 - (a + 999) / 1000

/-- Insert a span in ascending order of its start. -/
def spanInsert (e : Nat × Nat) : List (Nat × Nat) → List (Nat × Nat)
  | [] => [e]
  | f :: l => if e.1 ≤ f.1 then e :: f :: l else f :: spanInsert e l

/-- Whole microseconds in the union of spans given in ascending order of start, from `a` on. -/
def unionUs : List (Nat × Nat) → Nat → Nat
  | [], _ => 0
  | (x, y) :: l, a => let x := max x a; if y ≤ x then unionUs l a else usBetween x y + unionUs l y

/-- Deaf microseconds of bin k in [a, b), each counted once however many causes overlap (R218). -/
def deafUs (s : State) (k a b : Nat) : Nat :=
  let l := s.blanks.filterMap fun e =>
    if e.covers s k then some (max e.start a, if e.stop = 0 then b else min e.stop b) else none
  unionUs (l.foldr spanInsert []) a

/-- Whole microseconds of bin k in [a, b) that lie in a span and were not deaf before it came (R218). -/
def deafMore (s : State) (x : Blank) (k a b : Nat) : Nat := deafUs { s with blanks := s.blanks ++ [x] } k a b - deafUs s k a b

/-- Microseconds of deafness count in TXS_DEAFk of a detection bin, and in the map of the period: the working one, or the one copied last
where they fell before the period's start. -/
def deafCount (s : State) (k us : Nat) (ended : Bool) : State :=
  if us = 0 then s
  else if ended then
    (s.bumpBy (TXS_DEAF_US k) us).setFld (TXS_DEAFMAP_MAP (k / 32)) (s.fld (TXS_DEAFMAP_MAP (k / 32)) ||| 2 ^ (k % 32))
  else { s.bumpBy (TXS_DEAF_US k) us with deafMap := stSet false s.deafMap k true }

/-- Count deaf time up to now into TXS_DEAFk and the working map (R218), and forget spans that ended long ago. -/
def deafSettle (s : State) : State :=
  let a := s.deafTo
  let b := s.venue
  if b ≤ a then { s with deafTo := b } else
  let s := if s.blanks.isEmpty || s.fld PWR_STATE_CUR = 1 then s else
    forBelow s.part.bins (fun s k => deafCount s k (if binDet s k then deafUs s k a b else 0) false) s
  { s with deafTo := b, blanks := s.blanks.filter fun e => e.stop = 0 || b < e.stop + 100000 }

/-- A span is added; what of it lies before now counts at once, in the period in which it fell (R218).  Deaf time already counted in
advance of a step of venue time is not counted again: the counting restarts at the new time (R273). -/
def addBlank (s : State) (x : Blank) : State :=
  let s := deafSettle s
  let start := s.venue / periodNs * periodNs
  let b := if x.stop = 0 then s.venue else min x.stop s.venue
  let s := if b ≤ x.start || s.fld PWR_STATE_CUR = 1 then s else
    forBelow s.part.bins (fun s k =>
      if !binDet s k then s
      else deafCount (deafCount s k (deafMore s x k x.start (min b start)) true) k (deafMore s x k (max x.start start) b) false) s
  { s with blanks := s.blanks ++ [x] }

/-- A receive-only port of the band is in RX (R114 case 1). -/
def rxOnlyInRx (s : State) (band : Nat) : Bool :=
  (allPorts s).any fun p => portRole s p = 1 && portBand s p = band && portState s p = 3

/-- The lowest cancellation slot of a band with no reservation in a span (R117). -/
def cancelSlot (s : State) (band a b : Nat) : Option Nat :=
  (List.range 8).find? fun n => !(s.cancels.any fun c => c.band == band && c.slot == n && decide (c.start < b && a < c.stop))

/-- Slots of a band reserved at an instant: from the commit to the end of the span (R117). -/
def cancelUsed (s : State) (band t : Nat) : Nat :=
  ((List.range 8).filter fun j => s.cancels.any fun c => c.band == band && c.slot == j && decide (t < c.stop)).length

/-- The terms u_i · H_ij of the composite coupling of a lane's transmission toward every receive-only port (R117). -/
def cancelTerms (s : State) (lane band : Nat) : List (Nat × Nat × (Int × Int) × Nat × List Word) :=
  let rx := (allPorts s).filter fun p => portRole s p = 1 && portBand s p = band
  rx.flatMap fun j => (stGet {} s.txLanes lane : TxLane).weights.map fun e =>
    (j, e.1, e.2.1, e.2.2, stGet [] s.pairs (band * 2304 + 48 * e.1 + j))

/-- What blanking a transmission decides at its commit (R114): the case, the span, and in case 2 a cancellation slot;
with all eight slots taken it falls to case 3 and is counted (R117). -/
def blankDecide (s : State) (lane k a e : Nat) : State :=
  let band := binBand k
  let valid := if band = 0 then s.flag CAP_CANSTAT_VALID_A else s.flag CAP_CANSTAT_VALID_B
  let whole := if band = 0 then s.act CAP_CLEAR_WHOLE_A = 1 else s.act CAP_CLEAR_WHOLE_B = 1
  let clear := if band = 0 then s.act CAP_CLEAR_CLEAR_A * 2500 else s.act CAP_CLEAR_CLEAR_B * 200
  if !rxOnlyInRx s band then
    addBlank s { band := band, scope := 0, start := a - 8000, stop := e + 9000, lane := lane + 1 }
  else if s.act CAP_CTL_CANCEL_EN = 1 && !whole && valid then
    match cancelSlot s band (a - 2000) (e + 2000) with
    | some n =>
      let s := { s with cancels := (s.cancels.filter fun c => s.venue < c.stop) ++
        [{ band := band, slot := n, start := a - 2000, stop := e + 2000, lane := lane, terms := cancelTerms s lane band }] }
      addBlank s
        { band := band, scope := 1, centre := binCentre s k, clear := clear, start := a - 2000, stop := e + 2000
          lane := lane + 1 }
    | none =>
      let s := s.bump (if band = 0 then CAP_CANCNT_OVF_A else CAP_CANCNT_OVF_B)
      addBlank s { band := band, scope := 0, start := a - 2000, stop := e + 2000, lane := lane + 1 }
  else addBlank s { band := band, scope := 0, start := a - 2000, stop := e + 2000, lane := lane + 1 }

/-- The cancellation slot of a lane's transmission is given up before its span ends. -/
def cancelFree (s : State) (lane : Nat) : State := { s with cancels := s.cancels.filter (·.lane ≠ lane) }

/-- The pairs of transmit-capable and receive-only ports of a band (R118). -/
def couplingPairs (s : State) (band : Nat) : List Nat :=
  let tx := (allPorts s).filter fun p => 2 ≤ portRole s p && portBand s p = band
  let rx := (allPorts s).filter fun p => portRole s p = 1 && portBand s p = band
  tx.flatMap fun i => rx.map fun j => band * 2304 + 48 * i + j

/-- CAP_CANSTAT.VALID: every pair of a band has been measured since the last wipe; a band without one reads 1 once the calibration of
a start-up has ended (R118). -/
def couplingRefresh (s : State) : State :=
  let v (band : Nat) :=
    let l := couplingPairs s band
    (l.all fun e => stGet [] s.pairs e != []) && !(l.isEmpty && s.ref.startCal)
  s.setFlds [(CAP_CANSTAT_VALID_A, b2n (v 0)), (CAP_CANSTAT_VALID_B, b2n (v 1 && s.part.bandB))]

/-- The measured responses of pairs are kept, where the pairs exist. -/
def couplingStore (s : State) (l : List (Nat × List Word)) (ok : Nat → Bool) : State :=
  l.foldl (fun s e => if ok e.1 then { s with pairs := stSet [] s.pairs e.1 (e.2.take 4) } else s) s

/-- A port's reciprocity calibration has measured the pairs it belongs to, `taps` being the four taps by the other port (R118, log
entry 148). -/
def couplingMeasured (s : State) (p : Nat) (taps : List (Nat × List Word)) : State :=
  let band := portBand s p
  let l := taps.map fun e => (band * 2304 + (if portRole s p = 1 then 48 * e.1 + p else 48 * p + e.1), e.2)
  couplingRefresh (couplingStore s l ((couplingPairs s band).contains ·))

/-- After a transmission of `ports` the responses toward the receive-only ports are refined; `taps` gives port i, port j and the four
taps found (R118). -/
def couplingRefine (s : State) (band : Nat) (ports : List Nat) (taps : List (Nat × Nat × List Word)) : State :=
  let l := (taps.filter fun e => ports.contains e.1).map fun e => (band * 2304 + 48 * e.1 + e.2.1, e.2.2)
  couplingStore s l fun e => (couplingPairs s band).contains e && stGet [] s.pairs e != []

/-! ### Signatures (R129 to R131) -/

/-- Address of a signature record. -/
def sigAddr (n : Nat) : Nat := 0x02100000 + 64 * n

/-- A signature record is VALID. -/
def sigValid (s : State) (n : Nat) : Bool := bitOf (s.rd8 (sigAddr n + 2)).toNat 0

/-- Commit a signature record: GEN counts on and GEN_END follows it (R129). -/
def sigCommit (s : State) (n : Nat) (body : List Byte) : State :=
  let gen := (s.rdLe (sigAddr n) 2 + 1) % 65536
  s.wrN (sigAddr n) (leBytes 2 gen ++ body ++ leBytes 2 gen)

/-- The eight beams of a signature, largest magnitude first as `sigOf` leaves them, padded with zeros. -/
def sigPad (sig : List (Nat × Word)) : List (Nat × Word) := (sig ++ List.replicate 8 (0, 0)).take 8

/-- The record of node n is written VALID with a detection's signature (R130). -/
def sigWrite (s : State) (n : Nat) (d : Detection) (k : Nat) : State :=
  let flags := 1 + 2 * binBand k + 4 * (if binBand k = 1 then binGroup k else 0)
  let sig := sigPad d.sig
  sigCommit s n (leBytes 1 flags ++ leBytes 1 (binNo k) ++ leBytes 4 s.ms ++ leBytes 1 (wrapOf 8 d.snr)
    ++ leBytes 1 (s.fld SPX_BSET_TAG) ++ leBytes 2 0 ++ sig.flatMap (fun e => leBytes 1 e.1)
    ++ sig.flatMap (fun e => leBytes 4 e.2.toNat) ++ leBytes 10 0)

/-- VALID clears and GEN counts on, in a record that is VALID (R131). -/
def sigInvalidate (s : State) (n : Nat) : State :=
  if sigValid s n then
    sigCommit s n ((s.rdN (sigAddr n + 2) 60).set 0 (BitVec.ofNat 8 ((s.rd8 (sigAddr n + 2)).toNat / 2 * 2)))
  else s

/-- The indexes of records of 64 octets whose octet at `off` is not zero, in ascending order: every other record reads
zero there. -/
def listedRecords (s : State) (base stride count off : Nat) : List Nat :=
  s.mem.filterMap fun e =>
    if base ≤ e.1 && e.1 < base + stride * count && (e.1 - base) % stride = off then some ((e.1 - base) / stride) else none

/-- Invalidate every VALID record that meets a condition (R131). -/
def sigSweep (s : State) (cond : State → Nat → Bool) : State :=
  (listedRecords s 0x02100000 64 16384 2).foldl (fun s n => if sigValid s n && cond s n then sigInvalidate s n else s) s

/-- The age of a signature in ms. -/
def sigAge (s : State) (n : Nat) : Nat := (s.ms + 2 ^ 32 - s.rdLe (sigAddr n + 4) 4) % 2 ^ 32

/-! ### Steering and precoding (R132 to R134) -/

/-- The signature that steers a frame to node n on bin t, if R132 uses one. -/
def nodeSteer (s : State) (n t : Nat) : Option (List (Nat × Word)) :=
  let a := sigAddr n
  let flags := (s.rd8 (a + 2)).toNat
  let bin := (s.rd8 (a + 3)).toNat
  let maxofs := if binBand t = 0 then s.act SPX_SIGCTL_MAXOFS_A else s.act SPX_SIGCTL_MAXOFS_B
  let ofs := if binNo t ≤ bin then bin - binNo t else binNo t - bin
  if bitOf flags 0 && (s.rd8 (a + 9)).toNat = s.fld SPX_BSET_TAG && bitsOf flags 1 1 = binBand t
      && (binBand t = 0 || bitsOf flags 2 2 = binGroup t) && ofs ≤ maxofs
      && sigAge s n ≤ 1000 * s.act SPX_SIGCTL_AGE_LIMIT then
    some ((List.range 8).map fun i => ((s.rd8 (a + 12 + i)).toNat, BitVec.ofNat 32 (s.rdLe (a + 20 + 4 * i) 4)))
  else none

/-- A complex number of two signed 16-bit halves. -/
def cplx (w : Nat) : Int × Int := (signedOf 16 w, signedOf 16 (w / 65536))

def cmul (a b : Int × Int) : Int × Int := (a.1 * b.1 - a.2 * b.2, a.1 * b.2 + a.2 * b.1)

/-- Index of a transmit weight in SPX table 2 (R140). -/
def txWeightIx (k beam port : Nat) : Nat :=
  if binBand k = 0 then ((binNo k - 8) * 16 + beam) * 48 + port
  else 24576 + binGroup k * 7296 + (binNo k / 8 * 8 + beam) * 48 + port

/-- Index of a sector weight in SPX table 3 (R140). -/
def sectorIx (k port : Nat) : Nat :=
  if binBand k = 0 then (binNo k - 8) * 48 + port else 1536 + binGroup k * 912 + binNo k / 8 * 48 + port

/-- The product R_i · Σ conj(c_m) · B of u_i (R133), with the weights of plane `b` of region 4: a signature's combination or the sector
weight, times the port's reciprocity coefficient, or one where none is stored. -/
def portProduct (s : State) (b : Bool) (sig : Option (List (Nat × Word))) (k p : Nat) : Int × Int :=
  let v := match sig with
    | some l => l.foldl (fun acc e =>
        let c := cplx e.2.toNat
        let x := cmul (c.1, -c.2) (cplx (s.tableIn b 6 2 (txWeightIx k e.1 p)))
        (acc.1 + x.1, acc.2 + x.2)) (0, 0)
    | none => let c := cplx (s.tableIn b 6 3 (sectorIx k p)); (c.1 * 32768, c.2 * 32768)
  cmul v (match portCoef s p (binNo k) with | some w => cplx w.toNat | none => (32768, 0))

/-- The squared magnitude of u_i without E_i. -/
def portWeight2 (s : State) (b : Bool) (sig : Option (List (Nat × Word))) (k p : Nat) : Nat :=
  let u := portProduct s b sig k p
  (u.1 ^ 2 + u.2 ^ 2).toNat

/-- The phase of each port's u_i, which the lane applies (R134): that of the product, turned back by RFP_EXTPH.PHASE/4096 of a circle. -/
def portWeights (s : State) (b : Bool) (sig : Option (List (Nat × Word))) (k : Nat) (ports : List Nat) :
    List (Nat × (Int × Int) × Nat) :=
  ports.map fun p => (p, portProduct s b sig k p, s.act (RFP_EXTPH_PHASE p))

/-- The requested power of each port in quarter dBm (R134): P plus 20·log10 of its share of the largest weight, rounded
down; a port of weight zero gets none. -/
def portPowers (s : State) (b : Bool) (sig : Option (List (Nat × Word))) (k : Nat) (power : Int) (ports : List Nat) : List (Nat × Int) :=
  -- E_i enters as its gain of AMP tenths of a dB (R133), two twentieths each, squared
  let ws := ports.map fun p =>
    (p, portWeight2 s b sig k p * ampOf (4000 - 4 * signedOf 8 (s.act (RFP_EXTPH_AMP p))).toNat)
  let top := (ws.map (·.2)).foldl max 0
  ws.filterMap fun e =>
    if e.2 = 0 || top = 0 then none
    else
      -- 40·log10 of the squared ratio, rounded down, in quarter dB
      let u := ampLog (e.2 * 10 ^ 40 / top) 13 0
      some (e.1, power + ((u : Int) - 4000) / 10)

/-- The ports a transmission in a band may use (R79, R133): transmit-capable by role, settled in SYNTH or RX, not
excluded for calibration or a band override, and not held elsewhere by software; the rest of the transmit-capable ports, those in TX
among them, are counted in TXSKIP. -/
def txPorts (s : State) (band : Nat) : List Nat :=
  (allPorts s).filter fun p => 2 ≤ portRole s p && portMapBand s p = band && portBand s p = band
    && !s.flag (RFP_STAT_INTRANSIT p) && (portState s p = 2 || portState s p = 3)
    && 2 ≤ portWant s p && portWant s p ≤ 3 && (s.portx p).calRun = 0 && !(s.portx p).calEnded
    && !(s.portx p).muted

/-- Count TXSKIP for the transmit-capable ports of a band that a transmission leaves out (R79). -/
def countSkips (s : State) (band : Nat) (used : List Nat) : State :=
  (allPorts s).foldl (fun s p =>
    if 2 ≤ portRole s p && portMapBand s p = band && !used.contains p then s.bump (RFP_CNT0_TXSKIP p) else s) s

/-! ### Signatures out of the correlators (R119 to R121, R129) -/

/-- Beams of a detection bin (R119). -/
def beamCount (k : Nat) : Nat := if binBand k = 0 then 16 else 8

/-- A port's samples enter the beams of bin k: it receives in the bin's band and LO group, is in RX, not muted and not excluded (R75,
R119). -/
def beamPort (s : State) (k p : Nat) : Bool :=
  decide (p < s.part.ports) && (portRole s p == 1 || portRole s p == 3) && portBand s p == binBand k
    && (binBand k == 0 || portGroup s p == binGroup k) && portState s p == 3 && !(s.portx p).muted && !portExcluded s p

/-- The output of a correlator on each beam of bin k, from its outputs on the samples of the ports: the sum over SPX table 1 (R119,
R120). -/
def beamSums (s : State) (k : Nat) (outs : List (Nat × Int × Int)) : List (Nat × Int × Int) :=
  (List.range (beamCount k)).map fun m =>
    (m, (outs.filter fun e => beamPort s k e.1).foldl (fun acc e =>
      let x := cmul (cplx (s.table 6 1 (txWeightIx k m e.1))) e.2
      (acc.1 + x.1, acc.2 + x.2)) (0, 0))

/-- A vector without its part along an orthogonal set, but for its length. -/
def vecAway (basis : List (List (Nat × Int × Int))) (v : List (Nat × Int × Int)) : List (Nat × Int × Int) :=
  basis.foldl (fun v u => vecComb (vecDot u u).1 v (vecDot u v) u) v

/-- An orthogonal set that spans some signatures. -/
def vecBasis (l : List (List (Nat × Word))) : List (List (Nat × Int × Int)) :=
  l.foldl (fun b f =>
    let u := vecAway b (sigInts f)
    if u.all fun e => e.2 = (0, 0) then b else b ++ [u]) []

/-- The signatures that the residual of bin k does without: those of its open window groups and of the frames that run on it (R121). -/
def residualOf (s : State) (k : Nat) : List (List (Nat × Word)) :=
  ((s.binGroups k).filter (!·.closed)).flatMap (fun g => g.dets.map (·.sig))
    ++ (runLanes s k).filterMap fun n => (s.rxl n).map (·.det.sig)

/-- Squared magnitude. -/
def magSq (c : Int × Int) : Nat := (c.1 ^ 2 + c.2 ^ 2).toNat

/-- Insert a beam before those of smaller magnitude. -/
def magInsert (e : Nat × Int × Int) : List (Nat × Int × Int) → List (Nat × Int × Int)
  | [] => [e]
  | f :: l => if magSq e.2 < magSq f.2 then f :: magInsert e l else e :: f :: l

/-- The largest number whose square does not exceed `a`, below 2 ^ n above `lo`. -/
def rootOf (a : Nat) : Nat → Nat → Nat
  | 0, lo => lo
  | n + 1, lo => if (lo + 2 ^ n) ^ 2 ≤ a then rootOf a n (lo + 2 ^ n) else rootOf a n lo

/-- A coefficient part in Q1.15 of a vector of squared length `len`: the next multiple of 2⁻¹⁵ below its magnitude, or above where `up`
says so and the division leaves a rest (log entry 149); 1.0 becomes the largest value. -/
def q15 (len : Nat) (up : Bool) (x : Int) : Nat :=
  let a := x.natAbs ^ 2 * 2 ^ 30
  let m := rootOf (a / len) 16 0
  let m := if up && m ^ 2 * len ≠ a then m + 1 else m
  wrapOf 16 (x.sign * (min m 32767 : Nat))

/-- The signature of correlator outputs by beam (R120, R129): the eight largest in magnitude, largest first, at unit length; bit 2i and 2i + 1
of `r` round the parts of its place i. -/
def sigOf (r : Nat) (l : List (Nat × Int × Int)) : List (Nat × Word) :=
  let top := (l.foldr magInsert []).take 8
  let len := (top.map fun e => magSq e.2).sum
  top.mapIdx fun i e =>
    (e.1, if len = 0 then 0 else BitVec.ofNat 32 (q15 len (bitOf r (2 * i)) e.2.1 + 2 ^ 16 * q15 len (bitOf r (2 * i + 1)) e.2.2))

end Sys2Proof.Machine
end

