-- ==== Sys2Proof/Machine/Rtc.lean ====
section
/-! DEFINITION. Machine/Rtc.lean: the RTC, its alarm and the backup RAM (R375 to R383). -/

namespace Sys2Proof.Machine

/-- The main domain runs (R393). -/
def mainOn (s : State) : Bool := s.phase == .running

/-! ### The calendar (R375) -/

/-- A calendar time: year since 2000, month, day, hour, minute, second. -/
structure Calendar where
  year : Nat
  month : Nat
  day : Nat
  hour : Nat
  minute : Nat
  second : Nat
  deriving DecidableEq, Repr

/-- Years divisible by 4 are leap years, except 2100. -/
def leapYear (y : Nat) : Bool := y % 4 == 0 && y != 100

def monthDays (y m : Nat) : Nat :=
  match m with
  | 2 => if leapYear y then 29 else 28
  | 4 => 30
  | 6 => 30
  | 9 => 30
  | 11 => 30
  | _ => 31

/-- Days from 2000-01-01 to the start of year y: leap years before y come every fourth year, less 2100. -/
def daysToYear (y : Nat) : Nat := 365 * y + (y + 3) / 4 - (if 100 < y then 1 else 0)

/-- Days from 2000-01-01 to a date. -/
def dayNumber (y m d : Nat) : Nat := daysToYear y + ((List.range (m - 1)).map fun i => monthDays y (i + 1)).sum + (d - 1)

/-- Seconds since 2000-01-01 00:00:00. -/
def Calendar.secs (c : Calendar) : Nat := dayNumber c.year c.month c.day * 86400 + 3600 * c.hour + 60 * c.minute + c.second

/-- The weekday of a date, 0 for Monday; 2000-01-01 is a Saturday. -/
def weekday (c : Calendar) : Nat := (dayNumber c.year c.month c.day + 5) % 7

/-- The live calendar. -/
def rtcNow (s : State) : Calendar :=
  { year := s.fld RTC_YEAR_YEAR, month := s.fld RTC_MONTH_MONTH, day := s.fld RTC_DAY_DAY, hour := s.fld RTC_HOUR_HOUR
    minute := s.fld RTC_MIN_MIN, second := s.fld RTC_SEC_SEC }

/-- The calendar takes a time; weekday and seconds count follow on the same edge (R375, R378). -/
def rtcSet (s : State) (c : Calendar) : State :=
  { s with rtcSecAt := s.uptime }.setFlds [(RTC_SUBSEC_SUBSEC, 0), (RTC_SEC_SEC, c.second), (RTC_MIN_MIN, c.minute), (RTC_HOUR_HOUR, c.hour),
    (RTC_DAY_DAY, c.day), (RTC_DAY_WDAY, weekday c), (RTC_MONTH_MONTH, c.month), (RTC_YEAR_YEAR, c.year),
    (RTC_SECS_SECS, c.secs), (RTC_SECSH_SECS32, c.secs / 2 ^ 32)]

/-- The second after a time, and whether the calendar has rolled over after 2199-12-31 23:59:59 (R375). -/
def Calendar.next (c : Calendar) : Calendar × Bool :=
  if c.second < 59 then ({ c with second := c.second + 1 }, false)
  else if c.minute < 59 then ({ c with second := 0, minute := c.minute + 1 }, false)
  else if c.hour < 23 then ({ c with second := 0, minute := 0, hour := c.hour + 1 }, false)
  else
    let c := { c with second := 0, minute := 0, hour := 0 }
    if c.day < monthDays c.year c.month then ({ c with day := c.day + 1 }, false)
    else if c.month < 12 then ({ c with day := 1, month := c.month + 1 }, false)
    else if c.year < 199 then ({ c with day := 1, month := 1, year := c.year + 1 }, false)
    else ({ year := 0, month := 1, day := 1, hour := 0, minute := 0, second := 0 }, true)

/-- The 33-bit seconds count. -/
def rtcSecs (s : State) : Nat := s.fld RTC_SECS_SECS + 2 ^ 32 * s.fld RTC_SECSH_SECS32

/-- OSF is set; RTC_OSF, producer 545, fires while the main domain runs (R376, R381). -/
def osfSet (s : State) : State :=
  let s := s.setFld RTC_STAT_OSF 1
  if mainOn s then s.fire 545 0 else s

/-! ### Alarm (R380) -/

def alarmTime (s : State) : Nat := s.fld RTC_ALARM_SECS + 2 ^ 32 * s.fld RTC_ALARMH_SECS32

/-- The alarm fires: it disarms, and produces RTC_ALARM while the main domain runs; with WAKE_EN it is latched as a wake
source from the entry to DORMANT on (R380, R399). -/
def alarmFire (s : State) (late : Bool) : State :=
  let s := { s with rtcAlarmDue := false }.setFlds [(RTC_STAT_ALARM, 1), (RTC_STAT_ALARM_LATE, b2n late), (RTC_ALMCTL_ARMED, 0)]
  let s := if mainOn s then s.fire 544 (s.fld RTC_SECS_SECS) else s
  if s.wakeArmed && s.flag RTC_ALMCTL_WAKE_EN then { s with wakeLatch := s.wakeLatch ||| 2 } else s

/-- The alarm at a 32.768 kHz edge before which the seconds count was `old` (R380). -/
def alarmEdge (s : State) (old : Nat) : State :=
  if !s.flag RTC_ALMCTL_ARMED then s
  else if s.rtcAlarmDue then alarmFire s true
  else if old < alarmTime s && alarmTime s ≤ rtcSecs s then alarmFire s (alarmTime s != rtcSecs s) else s

/-- A write of RTC_ALMCTL (R380, R383): one that arms with the time already reached fires at the next edge, which comes at
once while the oscillator runs. -/
def almctlWrite (s : State) (v : Nat) : State :=
  let s := s.setFlds [(RTC_ALMCTL_ARMED, v % 2), (RTC_ALMCTL_WAKE_EN, bitsOf v 1 1)]
  let s := { s with rtcAlarmDue := v % 2 == 1 && decide (alarmTime s ≤ rtcSecs s) }
  if s.rtcAlarmDue && s.flag RTC_STAT_OSC_OK then alarmFire s true else s

/-! ### The read shadow (R377) -/

/-- The sub-second count now: 32.768 kHz edges since the last second edge (R375). -/
def rtcSubsec (s : State) : Nat :=
  if s.flag RTC_STAT_OSC_OK then min 32767 (s.fld RTC_SUBSEC_SUBSEC + (s.uptime - s.rtcSecAt) * 32768 / 10 ^ 9)
  else s.fld RTC_SUBSEC_SUBSEC

/-- The nine time registers, in order. -/
def rtcRegs : List Nat :=
  [RTC_SUBSEC, RTC_SEC, RTC_MIN, RTC_HOUR, RTC_DAY, RTC_MONTH, RTC_YEAR, RTC_SECS, RTC_SECSH]

def rtcTaken (s : State) : List Word := BitVec.ofNat 32 (rtcSubsec s) :: (rtcRegs.drop 1).map s.reg

/-- A read of time register i: it freezes the shadow where none is frozen and returns the shadow; RTC_YEAR releases it. -/
def rtcRead (s : State) (i : Nat) : Word × State :=
  let s := if s.flag RTC_STAT_FROZEN then s
    else { s with rtcShadow := rtcTaken s, rtcFrozenAt := s.uptime }.setFld RTC_STAT_FROZEN 1
  let v := s.rtcShadow.getD i 0
  if i = 6 then (v, { s with rtcShadow := [] }.setFld RTC_STAT_FROZEN 0) else (v, s)

/-! ### Setting the time (R378) -/

/-- The write shadow. -/
def rtcWritten (s : State) : Calendar :=
  let v (i : Nat) := s.fld (RTC_WSHADOW_VALUE i)
  { second := v 0, minute := v 1, hour := v 2, day := v 3, month := v 4, year := v 5 }

/-- The checks of R378. -/
def Calendar.valid (c : Calendar) : Bool :=
  decide (c.second < 60 && c.minute < 60 && c.hour < 24 && 1 ≤ c.month && c.month ≤ 12 && c.year < 200)
    && decide (1 ≤ c.day && c.day ≤ monthDays c.year c.month)

/-- The 32.768 kHz edge that serves a pending apply. -/
def applyEdge (s : State) : State :=
  if !s.flag RTC_STAT_APPLY_PEND || !s.flag RTC_STAT_OSC_OK then s else
  let s := s.setFld RTC_STAT_APPLY_PEND 0
  let c := rtcWritten s
  if c.valid then
    let old := rtcSecs s
    alarmEdge (rtcSet s c) old
  else s.setFld RTC_STAT_APPLY_ERR 1

/-- A write of 1 to RTC_STAT.OSF clears it unless the oscillator is failed (R376). -/
def osfClear (s : State) : State := if s.flag RTC_STAT_OSC_OK then s.setFld RTC_STAT_OSF 0 else s

/-! ### Backup RAM (R382) -/

/-- Write octets of backup RAM from an offset. -/
def bramPut (s : State) (off : Nat) : List Byte → State
  | [] => s
  | b :: bs =>
    let w := s.reg (RTC_BRAM (off / 4))
    bramPut (s.setReg (RTC_BRAM (off / 4)) (fieldSet w (8 * (off % 4)) 8 b.toNat)) (off + 1) bs

/-- The 64 octets of backup RAM. -/
def bram (s : State) : List Byte := (List.range 16).flatMap fun w => leBytes 4 (s.reg (RTC_BRAM w)).toNat

/-- What a TAMPER_N assertion does to backup RAM, on one edge: octets 0–31 clear, and time and count are recorded. -/
def tamperRecord (s : State) : State :=
  let count := min 255 (ofLe (((bram s).drop 36).take 1) + 1)
  bramPut s 0 (List.replicate 32 0 ++ leBytes 4 (rtcSecs s % 2 ^ 32) ++ leBytes 1 count)

/-! ### Commands -/

/-- The sub-second count wraps: the calendar advances one second, and the alarm is tested (R375, R380).  An apply that waits for its edge
takes this one, and a valid one overrides the rollover (R378). -/
def execRtcSecond (s : State) : Res :=
  if !s.flag RTC_STAT_OSC_OK || !s.backupOn then ok s
  else if s.flag RTC_STAT_APPLY_PEND && (rtcWritten s).valid then ok (applyEdge s) else
  let s := applyEdge s
  let old := rtcSecs s
  let (c, rolled) := (rtcNow s).next
  let s := rtcSet s c
  ok (alarmEdge (if rolled then osfSet s else s) old)

/-- 122 µs without an edge: the oscillator is declared failed (R376). -/
def execOscFail (s : State) : Res :=
  if !s.backupOn || !s.flag RTC_STAT_OSC_OK then ok s
  else ok (osfSet ((s.setFld RTC_SUBSEC_SUBSEC (rtcSubsec s)).setFld RTC_STAT_OSC_OK 0))

/-- Edges return: OSC_OK is set; what waited for an edge happens (R376, R378, R380). -/
def execOscRestore (s : State) : Res :=
  if !s.backupOn then ok s else
  let s := { s with rtcSecAt := s.uptime }.setFld RTC_STAT_OSC_OK 1
  ok (if s.rtcAlarmDue && s.flag RTC_ALMCTL_ARMED then alarmFire s true else s)

/-- A read of time register i by a master (R377): RTC_SUBSEC to RTC_SECSH in address order, RTC_YEAR under a command of its
own. -/
def execRtcTimeRead (register : Fin 9) (s : State) : Res :=
  let r := rtcRead s register
  ok { r.2 with busData := r.1, busResult := .ok }

/-- A read of RTC_YEAR returns the shadow and releases the freeze (R377). -/
def execRtcYearRead (s : State) : Res :=
  let r := rtcRead s 6
  ok { r.2 with busData := r.1, busResult := .ok }

/-- A freeze not released within 1 s lapses (R377). -/
def execFreezeLapse (s : State) : Res :=
  if !s.flag RTC_STAT_FROZEN then ok s else
  match s.reachUp (s.rtcFrozenAt + 1000000000) with
  | some s => ok ({ s with rtcShadow := [] }.setFlds [(RTC_STAT_FROZEN, 0), (RTC_STAT_FREEZE_LAPSED, 1)])
  | none => ok s

/-- An accepted write of RTC_CMD.APPLY (R378); one while APPLY_PEND = 1 changes nothing. -/
def execRtcApply (s : State) : Res := ok (s.setFld RTC_STAT_APPLY_PEND 1)

/-- The next 32.768 kHz edge after an apply (R378). -/
def execRtcApplyEdge (s : State) : Res := ok (applyEdge s)

/-- An accepted write of RTC_ALMCTL with ARMED = 1 (R380). -/
def execAlarmArm (wakeEn : Bool) (s : State) : Res := ok (almctlWrite s (1 + 2 * b2n wakeEn))

/-- A write of 1 to RTC_STAT.OSF (R376). -/
def execOsfClear (s : State) : Res := ok (osfClear s)

end Sys2Proof.Machine
end

