-- ==== Sys2Proof/Machine/HostRings.lean ====
section
/-! DEFINITION. Machine/HostRings.lean: buffer slots of the link controller, host rings, write-backs, moderation and
MSI-X, as shared operations (R198, R470 to R481). -/

namespace Sys2Proof.Machine

/-! ### Buffer slots (R198) -/

/-- LNK_BUFSTAT.FREE follows the slots. -/
def bufRefresh (s : State) : State :=
  let count := s.fld LNK_BUFCFG_COUNT
  s.setFld LNK_BUFSTAT_FREE (count - (s.bufUsed.filter (·.1 < count)).length)

/-- A buffer slot is returned; a free slot, or a number at or above COUNT, is ignored. -/
def slotFree (s : State) (n : Nat) : State :=
  if n < s.fld LNK_BUFCFG_COUNT then bufRefresh { s with bufUsed := stSet false s.bufUsed n false } else s

/-- The lowest-numbered free slot is taken. -/
def slotTake (s : State) : Option (Nat × State) :=
  match (List.range (s.fld LNK_BUFCFG_COUNT)).find? fun n => !stGet false s.bufUsed n with
  | some n => some (n, bufRefresh { s with bufUsed := stSet false s.bufUsed n true })
  | none => none

/-- Address of a buffer slot. -/
def slotAddr (s : State) (n : Nat) : Nat := s.fld LNK_BUFBASE_BASE + 2048 * n

/-! ### Places (R198, R472) -/

def rsvOf (s : State) (d : Nat) : Nat := stGet 0 s.rsv d

def rsvAdd (s : State) (d : Nat) : State := { s with rsv := stSet 0 s.rsv d (rsvOf s d + 1) }

def rsvSub (s : State) (d : Nat) : State := { s with rsv := stSet 0 s.rsv d (rsvOf s d - 1) }

/-- Requests may be issued toward host memory (R481). -/
def hostOpen (s : State) : Bool :=
  s.flag HIF_STAT_BME && !s.flag HIF_STAT_D3 && s.flag HIF_STAT_LINK_UP && !s.flag HIF_STAT_RESETTING

/-- Destination number of a DATA_DEST value: 0–11 engine queue, 16 + r host receive ring r, and 12 for an engine queue that does not exist
and has no place (R201). -/
def destOf (v : Nat) : Nat := if bitOf v 5 then 16 + v % 32 else min (v % 32) 12

/-- A destination has a free place (R198, R472). -/
def placeFree (s : State) (d : Nat) : Bool :=
  if d < 16 then
    let size := s.fld (LNK_EQSIZE_SIZE d)
    decide (ringUsed size (s.fld (LNK_EQHEAD_HEAD d)) (s.fld (LNK_EQTAIL_TAIL d)) + rsvOf s d + 1 < size)
  else
    let r := d - 16
    let size := s.fld (HIF_RXCFG_SIZE r)
    decide (ringUsed size (s.fld (HIF_RXHEAD_HEAD r)) (s.fld (HIF_RXTAIL_TAIL r)) + rsvOf s d + 1 < size)
      && s.flag HIF_CTL_EN && !s.flag HIF_STAT_RESETTING && s.flag HIF_STAT_BME && !s.flag HIF_STAT_D3

/-! ### MSI-X (R478, R479) -/

def State.vec (s : State) (v : Nat) : MsixEntry := stGet {} s.msix v

def State.setVec (s : State) (v : Nat) (e : MsixEntry) : State := { s with msix := stSet {} s.msix v e }

/-- A vector's message may go out now. -/
def vecOpen (s : State) (v : Nat) : Bool :=
  s.msixEnable && !s.msixMask && (s.vec v).unmasked && s.flag HIF_STAT_BME && !s.flag HIF_STAT_D3

/-- Send a vector's message. -/
def vecSend (s : State) (v : Nat) : State :=
  ((s.setVec v { s.vec v with pending := false }).emit .msix [v, (s.vec v).addr, (s.vec v).data]).bump HIF_MSIX_COUNT

/-- Signal a vector: its message goes out or is held pending (R479). -/
def signalVec (s : State) (v : Nat) : State :=
  if vecOpen s v then vecSend s v else s.setVec v { s.vec v with pending := true }

/-- Send every pending message that may go out, in ascending order of vector. -/
def sendPending (s : State) : State :=
  forBelow 64 (fun s v => if (s.vec v).pending && vecOpen s v then vecSend s v else s) s

/-- The moderation register of an interrupt source (R478). -/
def modReg (src : Nat) : Nat := if src < 32 then HIF_RXMOD src else if src < 64 then HIF_TXMOD (src - 32) else HIF_EVMOD

/-- An entry is counted at an interrupt source (R478). -/
def countEntry (s : State) (src : Nat) : State :=
  let w := (s.reg (modReg src)).toNat
  if !bitOf w 31 then s else
  let n := stGet 0 s.modCount src
  let s := if n = 0 then { s with modDue := stSet 0 s.modDue src (s.uptime + 1000 * bitsOf w 23 8) } else s
  if max (w % 256) 1 ≤ n + 1 then
    signalVec { s with modCount := stSet 0 s.modCount src 0, modDue := stSet 0 s.modDue src 0 } (bitsOf w 29 24)
  else { s with modCount := stSet 0 s.modCount src (n + 1) }

/-! ### Writes toward the host (R470, R473, R474, R476) -/

/-- A 64-bit host address from its two registers. -/
def hostAddr (s : State) (lo hi : Nat) : Nat := (s.reg lo).toNat + 2 ^ 32 * (s.reg hi).toNat

/-- A receive descriptor is written to its host ring: buffer copy, descriptor, write-back, interrupt (R470 to R474).  A frame
whose buffer cannot be read is dropped (R493). -/
def rxDescOut (s : State) (r slot : Nat) (desc : List Byte) : State :=
  let size := s.fld (HIF_RXCFG_SIZE r)
  let i := s.fld (HIF_RXHEAD_HEAD r)
  let s := rsvSub s (16 + r)
  let copy := s.flag (HIF_RXCFG_COPY r)
  let buf := ofLe (desc.take 4)
  let len := ofLe ((desc.drop 4).take 2) % 2048
  let (bad, s) := if copy then s.eccRead buf len else (false, s)
  if bad then slotFree (s.bump LNK_NORES_COUNT) slot else
  let s := if copy then
      slotFree (s.emit .hostWrite [hostAddr s (HIF_RXBUFL r) (HIF_RXBUFH r) + 2048 * i] (s.rdN buf len)) slot
    else s
  let s := s.emit .hostWrite [hostAddr s (HIF_RXBASEL r) (HIF_RXBASEH r) + 32 * i] desc
  let head := ringNext size i
  let s := (s.setFld (HIF_RXHEAD_HEAD r) head).bump HIF_RXDESC_COUNT
  let wb := hostAddr s (HIF_RXWBL r) (HIF_RXWBH r)
  let s := if wb = 0 then s else s.emit .hostWrite [wb] (leBytes 4 head)
  countEntry s r

/-- A report is written to its completion ring (R476). -/
def reportOut (s : State) (r : Nat) (rep : List Byte) : State :=
  let i := s.fld (HIF_TXCHEAD_CHEAD r)
  let s := s.emit .hostWrite [hostAddr s (HIF_TXCBASEL r) (HIF_TXCBASEH r) + 16 * i] rep
  let head := ringNext (s.fld (HIF_TXCCFG_CSIZE r)) i
  let s := s.setFld (HIF_TXCHEAD_CHEAD r) head
  let wb := hostAddr s (HIF_TXWBL r) (HIF_TXWBH r)
  let s := if wb = 0 then s else s.emit .hostWrite [wb] (leBytes 4 head ++ leBytes 4 (s.fld (HIF_TXTAIL_TAIL r)))
  countEntry s (32 + r)

/-- A record is written to interrupt ring 12, with its write-back (R351, R480). -/
def ring12Out (s : State) (rec : List Byte) : State :=
  let i := s.fld (IRQ_RHEAD_HEAD 12)
  let s := s.emit .hostWrite [hostAddr s (IRQ_RBASE 12) IRQ_HBASEH + 16 * i] rec
  let head := ringNext (s.fld (IRQ_RSIZE_SIZE 12)) i
  let s := s.setFld (IRQ_RHEAD_HEAD 12) head
  let wb := hostAddr s HIF_EVWBL HIF_EVWBH
  let s := if wb = 0 then s else s.emit .hostWrite [wb] (leBytes 4 head)
  countEntry s 64

/-- Issue a held write. -/
def heldOut (s : State) (h : HeldWrite) : State :=
  match h.kind with
  | 0 => rxDescOut s h.ring h.slot h.data
  | 1 => reportOut s h.ring h.data
  | _ => ring12Out s h.data

/-- A write toward the host that is due: issued now, or held in order while the host cannot be reached (R481). -/
def hostDue (s : State) (h : HeldWrite) : State :=
  if hostOpen s && s.held.isEmpty then heldOut s h else { s with held := s.held ++ [{ h with due := s.uptime }] }

/-- Everything held is written in order once the host can be reached (R481). -/
def heldFlush (s : State) : State :=
  if hostOpen s then s.held.foldl heldOut { s with held := [] } else s

end Sys2Proof.Machine
end

