-- ==== Sys2Proof/Machine/Crypto.lean ====
section
/-! DEFINITION. Machine/Crypto.lean: the published algorithms that the spec names: AES and its modes CMAC, CCM* and KW,
the counter-mode KDF of R428, SHA-256, ECDSA and ECDH on P-256, the cyclic redundancy checks and the PN9 whitening
sequence.  Octets are numbers below 256 inside the algorithms. -/

namespace Sys2Proof.Machine

/-- Octets as numbers. -/
def octNats (l : List Byte) : List Nat := l.map (·.toNat)

/-- Numbers as octets. -/
def natOcts (l : List Nat) : List Byte := l.map (BitVec.ofNat 8 ·)

/-- Exclusive-or of two octet strings. -/
def xorList (a b : List Nat) : List Nat := List.zipWith Nat.xor a b

/-- A string cut into pieces of `n`, with `fuel` pieces at most. -/
def chunks (n : Nat) : Nat → List Nat → List (List Nat)
  | 0, _ => []
  | fuel + 1, l => if l.isEmpty then [] else l.take n :: chunks n fuel (l.drop n)

/-- A string cut into pieces of `n`. -/
def blocksOf (n : Nat) (l : List Nat) : List (List Nat) := chunks n (l.length + 1) l

/-- A string padded with zeros to a multiple of 16. -/
def zeroPad16 (l : List Nat) : List Nat := l ++ List.replicate ((16 - l.length % 16) % 16) 0

/-! ### AES (FIPS 197) -/

/-- Doubling in GF(2⁸). -/
def gfDouble (a : Nat) : Nat := if a < 128 then 2 * a else Nat.xor (2 * a % 256) 0x1B

/-- The product in GF(2⁸), over the `n` low bits of `b`. -/
def gfMulN : Nat → Nat → Nat → Nat
  | 0, _, _ => 0
  | n + 1, a, b => Nat.xor (if b % 2 = 1 then a else 0) (gfMulN n (gfDouble a) (b / 2))

def gfMul (a b : Nat) : Nat := gfMulN 8 a b

/-- The inverse in GF(2⁸), with 0 for 0: the power 254. -/
def gfInv (a : Nat) : Nat :=
  let a2 := gfMul a a
  let a3 := gfMul a2 a
  let a6 := gfMul a3 a3
  let a12 := gfMul a6 a6
  let a15 := gfMul a12 a3
  let a30 := gfMul a15 a15
  let a60 := gfMul a30 a30
  let a120 := gfMul a60 a60
  let a126 := gfMul a120 a6
  let a127 := gfMul a126 a
  gfMul a127 a127

/-- Rotate an octet left by `n` bits. -/
def rotl8 (a n : Nat) : Nat := (a * 2 ^ n % 256) + a / 2 ^ (8 - n)

/-- The S-box. -/
def aesSbox (a : Nat) : Nat :=
  let b := gfInv a
  Nat.xor (Nat.xor (Nat.xor b (rotl8 b 1)) (Nat.xor (rotl8 b 2) (rotl8 b 3))) (Nat.xor (rotl8 b 4) 0x63)

/-- The inverse S-box. -/
def aesInvSbox (b : Nat) : Nat :=
  gfInv (Nat.xor (Nat.xor (rotl8 b 1) (rotl8 b 3)) (Nat.xor (rotl8 b 6) 0x05))

/-- The key schedule: words i up to `n` after a key of `nk` words, newest first in `acc`. -/
def aesExpand (nk : Nat) : Nat → Nat → Nat → List (List Nat) → List (List Nat)
  | 0, _, _, acc => acc
  | fuel + 1, i, rcon, acc =>
    let prev := acc.headD [0, 0, 0, 0]
    let back := acc.getD (nk - 1) [0, 0, 0, 0]
    let t :=
      if i % nk = 0 then
        let r := (prev.drop 1 ++ prev.take 1).map aesSbox
        xorList r [rcon, 0, 0, 0]
      else if nk = 8 && i % nk = 4 then prev.map aesSbox
      else prev
    aesExpand nk fuel (i + 1) (if i % nk = 0 then gfDouble rcon else rcon) (xorList back t :: acc)

/-- Round keys of 16 octets each, first to last, for a key of 16 or 32 octets. -/
def aesRoundKeys (key : List Nat) : List (List Nat) :=
  let nk := if key.length = 32 then 8 else 4
  let ws := (blocksOf 4 key).reverse
  blocksOf 16 ((aesExpand nk (4 * (nk + 7) - nk) nk 1 ws).reverse.flatten)

/-- ShiftRows, column by column. -/
def aesShiftRows (st : List Nat) : List Nat :=
  (List.range 16).map fun i => st.getD ((i + 4 * (i % 4)) % 16) 0

def aesInvShiftRows (st : List Nat) : List Nat :=
  (List.range 16).map fun i => st.getD ((i + 16 - 4 * (i % 4)) % 16) 0

/-- MixColumns with the given coefficients of the first row. -/
def aesMix (c : List Nat) (st : List Nat) : List Nat :=
  (List.range 16).map fun i =>
    (List.range 4).foldl (fun a j =>
      Nat.xor a (gfMul (st.getD (4 * (i / 4) + j) 0) (c.getD ((4 + j - i % 4) % 4) 0))) 0

/-- One block encrypted. -/
def aesEncryptBlock (key blk : List Nat) : List Nat :=
  match aesRoundKeys key with
  | [] => blk
  | k0 :: ks =>
    let last := ks.getLastD k0
    let st := ks.dropLast.foldl (fun st k => xorList (aesMix [2, 3, 1, 1] (aesShiftRows (st.map aesSbox))) k) (xorList blk k0)
    xorList (aesShiftRows (st.map aesSbox)) last

/-- One block decrypted. -/
def aesDecryptBlock (key blk : List Nat) : List Nat :=
  match (aesRoundKeys key).reverse with
  | [] => blk
  | k0 :: ks =>
    let last := ks.getLastD k0
    let st := ks.dropLast.foldl (fun st k =>
      aesMix [14, 11, 13, 9] (xorList ((aesInvShiftRows st).map aesInvSbox) k)) (xorList blk k0)
    xorList ((aesInvShiftRows st).map aesInvSbox) last

/-! ### CMAC (NIST SP 800-38B) and the KDF of R428 -/

/-- A 16-octet string as a number doubled in GF(2¹²⁸). -/
def cmacDouble (l : List Nat) : List Nat :=
  let v := l.foldl (fun a b => 256 * a + b) 0
  let w := 2 * v % 2 ^ 128
  let w := if v < 2 ^ 127 then w else Nat.xor w 0x87
  octNats (beBytes 16 w)

/-- Chain blocks through AES under CBC from `x`. -/
def cbcChain (key : List Nat) (x : List Nat) (bs : List (List Nat)) : List Nat :=
  bs.foldl (fun x b => aesEncryptBlock key (xorList x b)) x

def zero16 : List Nat := List.replicate 16 0

/-- AES-CMAC. -/
def aesCmac (key msg : List Nat) : List Nat :=
  let k1 := cmacDouble (aesEncryptBlock key zero16)
  let k2 := cmacDouble k1
  let bs := blocksOf 16 msg
  let last := bs.getLastD []
  let fin := if last.length = 16 then xorList last k1
    else xorList (last ++ 0x80 :: List.replicate (15 - last.length) 0) k2
  cbcChain key zero16 (bs.dropLast ++ [fin])

/-- The counter-mode KDF of R428: `bits` bits under key `key`, with a label of four octets and a context of 16. -/
def kdf (key : List Nat) (label : List Nat) (context : List Nat) (bits : Nat) : List Nat :=
  let n := (bits + 127) / 128
  ((List.range n).flatMap fun i =>
    aesCmac key (octNats (beBytes 4 (i + 1)) ++ label ++ [0] ++ context ++ octNats (beBytes 4 bits))).take (bits / 8)

/-- LABEL values of R428, in ASCII. -/
def labelTHID : List Nat := [0x54, 0x48, 0x49, 0x44]
def labelTHFK : List Nat := [0x54, 0x48, 0x46, 0x4B]
def labelTHSK : List Nat := [0x54, 0x48, 0x53, 0x4B]
def labelTHTK : List Nat := [0x54, 0x48, 0x54, 0x4B]
def labelTHNK : List Nat := [0x54, 0x48, 0x4E, 0x4B]

/-! ### CCM* (IEEE 802.15.4) with a 13-octet nonce -/

/-- The block A_i of counter mode. -/
def ccmCounter (nonce : List Nat) (i : Nat) : List Nat := [1] ++ nonce ++ octNats (beBytes 2 i)

/-- The counter-mode transform of the message. -/
def ccmCtr (key nonce msg : List Nat) : List Nat :=
  let bs := blocksOf 16 msg
  ((List.range bs.length).zip bs).flatMap fun e => xorList e.2 (aesEncryptBlock key (ccmCounter nonce (e.1 + 1)))

/-- The MIC of `m` octets over authenticated data and message, encrypted. -/
def ccmMic (key nonce auth msg : List Nat) (m : Nat) : List Nat :=
  if m = 0 then [] else
  let flags := (if auth.isEmpty then 0 else 64) + 8 * ((m - 2) / 2) + 1
  let b0 := [flags] ++ nonce ++ octNats (beBytes 2 msg.length)
  let a := if auth.isEmpty then [] else zeroPad16 (octNats (beBytes 2 auth.length) ++ auth)
  let t := cbcChain key zero16 ([b0] ++ blocksOf 16 a ++ blocksOf 16 (zeroPad16 msg))
  (xorList t (aesEncryptBlock key (ccmCounter nonce 0))).take m

/-- CCM* encryption: the transformed message and its MIC. -/
def ccmEnc (key nonce auth msg : List Nat) (m : Nat) : List Nat :=
  ccmCtr key nonce msg ++ ccmMic key nonce auth msg m

/-- CCM* decryption of a message with its MIC at the end; `none` where the MIC does not hold. -/
def ccmDec (key nonce auth ct : List Nat) (m : Nat) : Option (List Nat) :=
  let body := ct.take (ct.length - m)
  let msg := ccmCtr key nonce body
  if m ≤ ct.length && ccmMic key nonce auth msg m == ct.drop (ct.length - m) then some msg else none

/-! ### KW (NIST SP 800-38F) -/

/-- One pass of the wrapping function over the semiblocks, from step number `t`. -/
def kwPass (key : List Nat) (a : List Nat) : Nat → List (List Nat) → List Nat × List (List Nat)
  | _, [] => (a, [])
  | t, r :: rs =>
    let b := aesEncryptBlock key (a ++ r)
    let a' := xorList (b.take 8) (octNats (beBytes 8 t))
    let (x, l) := kwPass key a' (t + 1) rs
    (x, b.drop 8 :: l)

/-- `n` passes forward. -/
def kwPasses (key : List Nat) : Nat → Nat → List Nat × List (List Nat) → List Nat × List (List Nat)
  | 0, _, st => st
  | n + 1, t, (a, rs) => kwPasses key n (t + rs.length) (kwPass key a t rs)

/-- KW wrapping of a multiple of 8 octets. -/
def kwWrap (key plain : List Nat) : List Nat :=
  let (a, rs) := kwPasses key 6 1 (List.replicate 8 0xA6, blocksOf 8 plain)
  a ++ rs.flatten

/-- One pass of the unwrapping function, over the semiblocks last to first, from step number `t` down. -/
def kwUnpass (key : List Nat) (a : List Nat) : Nat → List (List Nat) → List Nat × List (List Nat)
  | _, [] => (a, [])
  | t, r :: rs =>
    let b := aesDecryptBlock key (xorList a (octNats (beBytes 8 t)) ++ r)
    let (x, l) := kwUnpass key (b.take 8) (t - 1) rs
    (x, b.drop 8 :: l)

/-- `n` passes backward, semiblocks last to first. -/
def kwUnpasses (key : List Nat) : Nat → Nat → List Nat × List (List Nat) → List Nat × List (List Nat)
  | 0, _, st => st
  | n + 1, t, (a, rs) => kwUnpasses key n (t - rs.length) (kwUnpass key a t rs)

/-- KW unwrapping; `none` where the integrity check fails. -/
def kwUnwrap (key ct : List Nat) : Option (List Nat) :=
  let rs := (blocksOf 8 (ct.drop 8)).reverse
  let (a, rs) := kwUnpasses key 6 (6 * rs.length) (ct.take 8, rs)
  if a == List.replicate 8 0xA6 then some rs.reverse.flatten else none

/-! ### SHA-256 (FIPS 180-4) -/

/-- Word `i` of `n` 32-bit words written side by side in one number, the first word most significant. -/
def packedWord (n x i : Nat) : Nat := x / 2 ^ (32 * (n - 1 - i)) % 2 ^ 32

/-- The 64 round constants, side by side. -/
def shaConstants : Nat :=
  0x428a2f9871374491b5c0fbcfe9b5dba53956c25b59f111f1923f82a4ab1c5ed5d807aa9812835b01243185be550c7dc372be5d7480deb1fe9bdc06a7c19bf174e49b69c1efbe47860fc19dc6240ca1cc2de92c6f4a7484aa5cb0a9dc76f988da983e5152a831c66db00327c8bf597fc7c6e00bf3d5a7914706ca63511429296727b70a852e1b21384d2c6dfc53380d13650a7354766a0abb81c2c92e92722c85a2bfe8a1a81a664bc24b8b70c76c51a3d192e819d6990624f40e3585106aa07019a4c1161e376c082748774c34b0bcb5391c0cb34ed8aa4a5b9cca4f682e6ff3748f82ee78a5636f84c878148cc7020890befffaa4506cebbef9a3f7c67178f2

/-- The eight words of the initial hash value, side by side. -/
def shaStart : Nat :=
  0x6a09e667bb67ae853c6ef372a54ff53a510e527f9b05688c1f83d9ab5be0cd19

def shaInit : List Nat := (List.range 8).map (packedWord 8 shaStart)

/-- Rotate a word right by `n`. -/
def rotr32 (a n : Nat) : Nat := a / 2 ^ n + a % 2 ^ n * 2 ^ (32 - n)

def xor3 (a b c : Nat) : Nat := Nat.xor (Nat.xor a b) c

/-- The message schedule, newest word first. -/
def shaSchedule : Nat → List Nat → List Nat
  | 0, w => w
  | n + 1, w =>
    let a := w.getD 14 0
    let b := w.getD 1 0
    let s0 := xor3 (rotr32 a 7) (rotr32 a 18) (a / 8)
    let s1 := xor3 (rotr32 b 17) (rotr32 b 19) (b / 1024)
    shaSchedule n ((w.getD 15 0 + s0 + w.getD 6 0 + s1) % 2 ^ 32 :: w)

/-- One round. -/
def shaRound (v : List Nat) (kw : Nat × Nat) : List Nat :=
  match v with
  | [a, b, c, d, e, f, g, h] =>
    let s1 := xor3 (rotr32 e 6) (rotr32 e 11) (rotr32 e 25)
    let ch := Nat.xor (Nat.land e f) (Nat.land (2 ^ 32 - 1 - e) g)
    let t1 := h + s1 + ch + kw.1 + kw.2
    let s0 := xor3 (rotr32 a 2) (rotr32 a 13) (rotr32 a 22)
    let mj := xor3 (Nat.land a b) (Nat.land a c) (Nat.land b c)
    [(t1 + s0 + mj) % 2 ^ 32, a, b, c, (d + t1) % 2 ^ 32, e, f, g]
  | _ => v

/-- One block of 64 octets. -/
def shaBlock (h blk : List Nat) : List Nat :=
  let w := ((blocksOf 4 blk).map fun b => b.foldl (fun a x => 256 * a + x) 0).reverse
  let ws := (shaSchedule 48 w).reverse
  let v := (((List.range 64).map (packedWord 64 shaConstants)).zip ws).foldl shaRound h
  List.zipWith (fun a b => (a + b) % 2 ^ 32) h v

/-- SHA-256 of an octet string. -/
def sha256 (msg : List Nat) : List Nat :=
  let pad := 0x80 :: List.replicate ((55 + 64 * (msg.length / 64 + 2) - msg.length) % 64) 0
  let h := (blocksOf 64 (msg ++ pad ++ octNats (beBytes 8 (8 * msg.length)))).foldl shaBlock shaInit
  h.flatMap fun w => octNats (beBytes 4 w)

/-! ### P-256 (FIPS 186-4, SEC 1) -/

def p256p : Nat := 0xffffffff00000001000000000000000000000000ffffffffffffffffffffffff
def p256n : Nat := 0xffffffff00000000ffffffffffffffffbce6faada7179e84f3b9cac2fc632551
def p256b : Nat := 0x5ac635d8aa3a93e7b3ebbd55769886bc651d06b0cc53b0f63bce3c3e27d2604b
def p256g : Nat × Nat :=
  (0x6b17d1f2e12c4247f8bce6e563a440f277037d812deb33a0f4a13945d898c296,
   0x4fe342e2fe1a7f9b8ee7eb4a7c0f9e162bce33576b315ececbb6406837bf51f5)

/-- `b ^ e` modulo `m`, over the low `n` bits of `e`. -/
def powModN (m : Nat) : Nat → Nat → Nat → Nat
  | 0, _, _ => 1
  | n + 1, b, e =>
    let r := powModN m n (b * b % m) (e / 2)
    if e % 2 = 1 then r * b % m else r

/-- The inverse modulo a prime below 2 ^ 256. -/
def invMod (m a : Nat) : Nat := powModN m 256 (a % m) (m - 2)

/-- The affine sum of two points of P-256; `none` is the point at infinity. -/
def ecAdd (P Q : Option (Nat × Nat)) : Option (Nat × Nat) :=
  match P, Q with
  | none, _ => Q
  | _, none => P
  | some (x1, y1), some (x2, y2) =>
    if x1 = x2 && (y1 + y2) % p256p = 0 then none
    else
      let l := if x1 = x2 then (3 * x1 * x1 + (p256p - 3)) * invMod p256p (2 * y1) % p256p
        else (y2 + p256p - y1) * invMod p256p (x2 + p256p - x1) % p256p
      let x3 := (l * l + 2 * p256p - x1 - x2) % p256p
      some (x3, (l * (x1 + p256p - x3) + p256p - y1) % p256p)

/-- `k · P` over the low `n` bits of `k`. -/
def ecMulN : Nat → Nat → Option (Nat × Nat) → Option (Nat × Nat)
  | 0, _, _ => none
  | n + 1, k, P =>
    let r := ecMulN n (k / 2) (ecAdd P P)
    if k % 2 = 1 then ecAdd r P else r

def ecMul (k : Nat) (P : Nat × Nat) : Option (Nat × Nat) := ecMulN 256 k (some P)

/-- A pair of coordinates is a point on P-256. -/
def onCurve (P : Nat × Nat) : Bool :=
  decide (P.1 < p256p) && decide (P.2 < p256p) &&
    P.2 * P.2 % p256p == (P.1 ^ 3 + (p256p - 3) * P.1 + p256b) % p256p

/-- Coordinates X ‖ Y of 64 big-endian octets. -/
def pointOf (l : List Nat) : Nat × Nat := (ofBe (natOcts (l.take 32)), ofBe (natOcts ((l.drop 32).take 32)))

/-- ECDSA verification of a 32-octet hash with (r, s) under public key X ‖ Y. -/
def ecdsaVerify (pub hash r s : List Nat) : Bool :=
  let q := pointOf pub
  let r := ofBe (natOcts r)
  let s := ofBe (natOcts s)
  let z := ofBe (natOcts hash)
  if onCurve q && 0 < r && r < p256n && 0 < s && s < p256n then
    let w := invMod p256n s
    match ecAdd (ecMul (z * w % p256n) p256g) (ecMul (r * w % p256n) q) with
    | some (x, _) => x % p256n == r
    | none => false
  else false

/-- The x-coordinate of d·PUB as 32 octets; `none` where PUB is not a point on P-256 (R437). -/
def ecdhX (d : Nat) (pub : List Nat) : Option (List Nat) :=
  if onCurve (pointOf pub) then (ecMul d (pointOf pub)).map fun q => octNats (beBytes 32 q.1) else none

/-! ### Cyclic redundancy checks -/

/-- `n` steps of a reflected check with polynomial `poly`. -/
def crcSteps (poly : Nat) : Nat → Nat → Nat
  | 0, c => c
  | n + 1, c => crcSteps poly n (if c % 2 = 1 then Nat.xor (c / 2) poly else c / 2)

/-- A reflected check over octets. -/
def crcRefl (poly : Nat) (c : Nat) (l : List Nat) : Nat := l.foldl (fun c b => crcSteps poly 8 (Nat.xor c b)) c

/-- CRC-32 of IEEE 802.3 (R50), also the 4-octet FCS of IEEE 802.15.4. -/
def crc32 (l : List Nat) : Nat := Nat.xor (crcRefl 0xEDB88320 0xFFFFFFFF l) 0xFFFFFFFF

/-- The 2-octet FCS of IEEE 802.15.4. -/
def crc16 (l : List Nat) : Nat := crcRefl 0x8408 0 l

/-- `n` steps of a check of `w` bits fed most significant bit first. -/
def crcStepsMsb (w poly : Nat) : Nat → Nat → Nat
  | 0, c => c
  | n + 1, c => crcStepsMsb w poly n (if 2 ^ (w - 1) ≤ c then Nat.xor (2 * c % 2 ^ w) poly else 2 * c)

/-- A check of `w` bits over octets, most significant bit first. -/
def crcMsb (w poly c : Nat) (l : List Nat) : Nat :=
  l.foldl (fun c b => crcStepsMsb w poly 8 (Nat.xor c (b * 2 ^ (w - 8)))) c

/-- The PEC of PMBus: CRC-8 with x⁸ + x² + x + 1. -/
def crc8 (l : List Nat) : Nat := crcMsb 8 0x07 0 l

/-! ### PN9 whitening (x⁹ + x⁵ + 1) -/

/-- `n` bits that PN9 produces from a register of nine bits, the first bit first (log entry 150). -/
def pn9Bits : Nat → Nat → List Nat
  | 0, _ => []
  | n + 1, r =>
    let b := Nat.xor (r % 2) (r / 32 % 2)
    b :: pn9Bits n (r / 2 + b * 256)

/-- Bits as octets, the first bit least significant. -/
def octetsOfBits (l : List Nat) : List Nat := (blocksOf 8 l).map fun b => b.foldr (fun x a => x + 2 * a) 0

end Sys2Proof.Machine
end

