-- ==== Sys2Proof/Machine/KeyStore.lean ====
section
/-! DEFINITION. Machine/KeyStore.lean: masters and worlds, key slots and node keys, stream pages (R298, R428, R434,
R445, R447). -/

namespace Sys2Proof.Machine

/-! ### Masters (R298) -/

/-- A master is in the SECURE world. -/
def masterSecure (s : State) (m : Nat) : Bool :=
  m == 0 || m == 13 || m == 15 || m == 16 || (decide (m < 12) && s.flag (SYS_ENGCTL_WORLD m))

/-! ### Key slots (R434) -/

def State.slot (s : State) (n : Nat) : KeySlot := stGet {} s.keySlots n

def State.setSlot (s : State) (n : Nat) (x : KeySlot) : State := { s with keySlots := stSet {} s.keySlots n x }

def attrUsage (a : Nat) : Nat := a % 8

/-- The slot holds a key and its LC mask has the present life-cycle state. -/
def slotUsable (s : State) (n : Nat) : Bool :=
  n != 0 && !(s.slot n).key.isEmpty && bitOf (s.slot n).attr (4 + s.priv.lc)

/-- A master may use slot n for a usage (R434). -/
def slotAllows (s : State) (n usage owner : Nat) : Bool :=
  slotUsable s n && attrUsage (s.slot n).attr == usage && bitOf (s.slot n).attr (15 + owner)
    && (!bitOf (s.slot n).attr 3 || masterSecure s owner)

/-- KEY_SLOTSTATn (R449). -/
def slotStat (s : State) (n : Nat) : Nat :=
  let x := s.slot n
  if x.key.isEmpty then 0 else
  1 + 2 * b2n (slotUsable s n) + 4 * (if x.key.length = 16 then 1 else if x.key.length = 32 then 2 else 3)
    + 16 * b2n x.icv + 32 * b2n x.resWait + 64 * b2n (x.txfc == 0xFFFFFFFF)

/-! ### Derived keys (R428) -/

/-- KSK, the storage wrapping key; empty while no device key is derived. -/
def storageKey (s : State) : List Nat :=
  match s.priv.root with
  | some r => if s.keysDerived then kdf (octNats r) labelTHSK zero16 256 else []
  | none => []

/-- The identity private scalar. -/
def identityScalar (s : State) : Nat :=
  match s.priv.root with
  | some r => if s.keysDerived then ofBe (natOcts (kdf (octNats r) labelTHID zero16 384)) % (p256n - 1) + 1 else 0
  | none => 0

/-- The device fingerprint as KEY_IDFP shows it. -/
def fingerprint (s : State) : List Byte := (List.range 8).flatMap fun i => leBytes 4 (s.reg (KEY_IDFP i)).toNat

/-- The device keys are derived from the root, and the public key and the fingerprint are shown (R428, R429). -/
def deriveDeviceKeys (s : State) : State :=
  if s.priv.root.isNone then s else
  let s := { s with keysDerived := true }
  match ecMul (identityScalar s) p256g with
  | none => s
  | some q =>
    let xy := octNats (beBytes 32 q.1) ++ octNats (beBytes 32 q.2)
    let fp := sha256 (4 :: xy)
    let put (s : State) (addr : Nat → Nat) (l : List Nat) (n : Nat) : State :=
      forBelow n (fun s i => s.setReg (addr i) (BitVec.ofNat 32 (ofLe (natOcts ((l.drop (4 * i)).take 4))))) s
    put (put s KEY_IDFP fp 8) KEY_IDPUB xy 16

/-- The node key of a DERIVE slot for an extended address in frame order. -/
def nodeKey (s : State) (n : Nat) (ext : List Byte) : List Nat :=
  kdf (octNats (s.slot n).key) labelTHNK (octNats ext ++ List.replicate 8 0) 128

/-- The key-store slot that LNK table 1 names for a key index, in the plane `b` of the link-policy region, if the entry
is VALID and the datapath may derive from the slot (R193, R203, R434). -/
def keyIndexSlot (s : State) (b : Bool) (ix : Nat) : Option Nat :=
  let w := (stGet 0 (s.plane b 7).tables (tableKey 8 1 ix)).toNat
  if bitOf w 8 && slotAllows s (w % 256) 4 16 then some (w % 256) else none

/-- LNK table 1 entry `ix` of the active plane is VALID (R210). -/
def keyIndexValid (s : State) (ix : Nat) : Bool := bitOf (s.table 8 1 ix) 8

/-! ### Cipher and stream pages (R445, R447) -/

/-- CPH table 0's word for a page. -/
def pageWord (s : State) (p : Nat) : Nat := if s.regionOn 10 then s.table 20 0 p else 0

/-- The stream pages in use. -/
def streamPages (s : State) : List Nat := (List.range 16).filter fun p => bitOf (pageWord s p) 6 && bitOf (pageWord s p) 5

/-- Open a stream context on the lowest stream page that has one free; without one, NOCTX of the lowest stream page
counts (R447). -/
def streamOpen (s : State) : State × Option Nat :=
  match (streamPages s).find? fun p => s.fld (CPH_STRCNT_INUSE p) < 128 with
  | some p => (s.setFld (CPH_STRCNT_INUSE p) (s.fld (CPH_STRCNT_INUSE p) + 1), some p)
  | none =>
    match (streamPages s).head? with
    | some p => (s.bump (CPH_STRCNT_NOCTX p), none)
    | none => (s, none)

/-- A stream context closes. -/
def streamClose (s : State) : Option Nat → State
  | some p => s.setFld (CPH_STRCNT_INUSE p) (s.fld (CPH_STRCNT_INUSE p) - 1)
  | none => s

/-! ### Transmit counters (R447) -/

/-- The transmit counter of slot n would reach a reservation that is still being written. -/
def slotWaits (s : State) (n : Nat) : Bool := (s.slot n).resWriting && decide ((s.slot n).res ≤ (s.slot n).txfc + 1)

/-- A secured transmission of slot n takes its frame counter.  `none` where it must wait for a reservation. -/
def txCounter (s : State) (n : Nat) : State × Option Nat :=
  let x := s.slot n
  if slotWaits s n then (s, none)
  else
    let x' := { x with txfc := min (x.txfc + 1) 0xFFFFFFFF }
    let x' := if x'.res ≤ x'.txfc + 32768 then { x' with resWriting := true } else x'
    (s.setSlot n x', some x.txfc)

/-- The private array's new reservation of slot n is written (R447). -/
def resWritten (s : State) (n : Nat) : State :=
  let x := s.slot n
  if !x.resWriting then s else
  let r := x.res + 65536
  let s := s.setSlot n { x with res := r, resWriting := decide (r ≤ x.txfc + 32768) }
  { s with priv := { s.priv with res := (n, r) :: s.priv.res.filter (·.1 ≠ n) } }

end Sys2Proof.Machine
end

