-- ==== Sys2Proof/Machine/Mac.lean ====
section
/-! DEFINITION. Machine/Mac.lean: the MAC header of IEEE 802.15.4 frame versions 0b00 to 0b10: addressing and PAN ID
compression, the auxiliary security header, information elements, and CCM* protection (R17, R180, R193, R446). -/

namespace Sys2Proof.Machine

/-- Octet `k` of a frame as a number. -/
def octAt (l : List Byte) (k : Nat) : Nat := (l.getD k 0).toNat

/-- `n` octets from `k` as a little-endian number. -/
def leAt (l : List Byte) (k n : Nat) : Nat := ofLe ((l.drop k).take n)

/-- What the frame control field says. -/
structure Fcf where
  type : Nat
  sec : Bool
  pend : Bool
  ar : Bool
  pic : Bool
  seqSup : Bool
  ie : Bool
  dstMode : Nat
  ver : Nat
  srcMode : Nat
  deriving DecidableEq, Repr

/-- The frame control field of a frame. -/
def fcfOf (l : List Byte) : Fcf :=
  let v := leAt l 0 2
  { type := v % 8, sec := bitOf v 3, pend := bitOf v 4, ar := bitOf v 5, pic := bitOf v 6
    seqSup := bitOf v 8 && bitsOf v 13 12 == 2, ie := bitOf v 9 && bitsOf v 13 12 == 2
    dstMode := bitsOf v 11 10, ver := bitsOf v 13 12, srcMode := bitsOf v 15 14 }

/-- Octets of an address of a mode. -/
def addrLen (mode : Nat) : Nat := match mode with | 2 => 2 | 3 => 8 | _ => 0

/-- The destination PAN ID field is present. -/
def Fcf.dstPan (f : Fcf) : Bool :=
  if f.ver ≠ 2 then f.dstMode ≠ 0
  else if f.dstMode = 0 && f.srcMode = 0 then f.pic
  else if f.dstMode = 0 then false
  else if f.srcMode = 0 then !f.pic
  else if f.dstMode = 3 && f.srcMode = 3 then !f.pic
  else true

/-- The source PAN ID field is present. -/
def Fcf.srcPan (f : Fcf) : Bool :=
  if f.srcMode = 0 then false
  else if f.ver ≠ 2 then f.dstMode = 0 || !f.pic
  else if f.dstMode = 0 then !f.pic
  else if f.dstMode = 3 && f.srcMode = 3 then false
  else !f.pic

def Fcf.seqLen (f : Fcf) : Nat := if f.seqSup then 0 else 1

/-- Offsets of the addressing fields and the octet after them. -/
def Fcf.dstPanAt (f : Fcf) : Nat := 2 + f.seqLen
def Fcf.dstAt (f : Fcf) : Nat := f.dstPanAt + (if f.dstPan then 2 else 0)
def Fcf.srcPanAt (f : Fcf) : Nat := f.dstAt + addrLen f.dstMode
def Fcf.srcAt (f : Fcf) : Nat := f.srcPanAt + (if f.srcPan then 2 else 0)
def Fcf.addrEnd (f : Fcf) : Nat := f.srcAt + addrLen f.srcMode

/-- Sequence number; 0 where it is suppressed. -/
def frameDsn (l : List Byte) : Nat := if (fcfOf l).seqSup then 0 else octAt l 2

/-- Destination and source addresses in frame order. -/
def frameDst (l : List Byte) : List Byte := (l.drop (fcfOf l).dstAt).take (addrLen (fcfOf l).dstMode)
def frameSrc (l : List Byte) : List Byte := (l.drop (fcfOf l).srcAt).take (addrLen (fcfOf l).srcMode)

/-- The PAN ID the source is on: explicit, or the destination's under compression; `none` where no field says. -/
def frameSrcPan (l : List Byte) : Option Nat :=
  let f := fcfOf l
  if f.srcPan then some (leAt l f.srcPanAt 2) else if f.dstPan then some (leAt l f.dstPanAt 2) else none

/-- The destination PAN ID, where the frame carries one. -/
def frameDstPan (l : List Byte) : Option Nat :=
  let f := fcfOf l
  if f.dstPan then some (leAt l f.dstPanAt 2) else none

/-! ### Auxiliary security header -/

/-- The auxiliary security header at the end of the addressing fields. -/
structure Aux where
  level : Nat
  kim : Nat
  hasFc : Bool
  fc : Nat
  keyIx : Nat
  /-- Offset of the first octet after it. -/
  stop : Nat
  deriving DecidableEq, Repr

def auxOf (l : List Byte) : Aux :=
  let at0 := (fcfOf l).addrEnd
  let c := octAt l at0
  let kim := bitsOf c 4 3
  let hasFc := !(bitOf c 5 && (fcfOf l).ver == 2)
  let fcLen := if hasFc then 4 else 0
  let kiLen := match kim with | 0 => 0 | 1 => 1 | 2 => 5 | _ => 9
  { level := c % 8, kim := kim, hasFc := hasFc, fc := if hasFc then leAt l (at0 + 1) 4 else 0
    keyIx := if kim = 0 then 0 else octAt l (at0 + fcLen + kiLen), stop := at0 + 1 + fcLen + kiLen }

/-- Octets of the MIC of a security level. -/
def micLen (level : Nat) : Nat := match level % 4 with | 0 => 0 | 1 => 4 | 2 => 8 | _ => 16

/-- The end of the header information elements from an offset, and whether payload elements follow; `fuel` elements at
most. -/
def headerIes (l : List Byte) : Nat → Nat → Nat × Bool
  | 0, k => (k, false)
  | fuel + 1, k =>
    if l.length < k + 2 then (k, false) else
    let v := leAt l k 2
    let id := bitsOf v 14 7
    if id = 0x7E then (k + 2, true)
    else if id = 0x7F then (k + 2, false)
    else headerIes l fuel (k + 2 + v % 128)

/-- The end of the payload information elements from an offset. -/
def payloadIes (l : List Byte) : Nat → Nat → Nat
  | 0, k => k
  | fuel + 1, k =>
    if l.length < k + 2 then k else
    let v := leAt l k 2
    let k' := k + 2 + v % 2048
    if bitsOf v 14 11 = 15 then k' else payloadIes l fuel k'

/-- Offset of the end of the MAC header: addressing, auxiliary security header, header information elements. -/
def mhrEnd (l : List Byte) : Nat × Bool :=
  let f := fcfOf l
  let a := if f.sec then (auxOf l).stop else f.addrEnd
  if f.ie then headerIes l 64 a else (a, false)

/-- Offset of the MAC payload in a frame that is not encrypted. -/
def payloadAt (l : List Byte) : Nat :=
  let (a, more) := mhrEnd l
  if more then payloadIes l 64 a else a

/-! ### CCM* protection (R193, R446) -/

/-- Octets of the payload that are authenticated but not encrypted: the command identifier of a MAC command of version
0b00 or 0b01 (log entry 12). -/
def openLen (l : List Byte) : Nat := if (fcfOf l).type = 3 && (fcfOf l).ver ≠ 2 then 1 else 0

/-- The CCM* nonce: source extended address and frame counter, most significant octet first, and the level. -/
def ccmNonce (ext : List Byte) (fc level : Nat) : List Nat :=
  octNats ext.reverse ++ octNats (beBytes 4 fc) ++ [level]

/-- A frame without FCS, protected: payload encrypted where the level says so, and the MIC at its end. -/
def protect (key : List Nat) (ext : List Byte) (l : List Byte) : List Byte :=
  let a := auxOf l
  let h := (mhrEnd l).1 + openLen l
  let nonce := ccmNonce ext a.fc a.level
  if 4 ≤ a.level then
    l.take h ++ natOcts (ccmEnc key nonce (octNats (l.take h)) (octNats (l.drop h)) (micLen a.level))
  else l ++ natOcts (ccmMic key nonce (octNats l) [] (micLen a.level) )

/-- A protected frame without FCS, checked and decrypted with its MIC left in place; the flag says whether the MIC
holds. -/
def unprotect (key : List Nat) (ext : List Byte) (l : List Byte) : List Byte × Bool :=
  let a := auxOf l
  let h := (mhrEnd l).1 + openLen l
  let m := micLen a.level
  let nonce := ccmNonce ext a.fc a.level
  let body := (l.drop h).take (l.length - h - m)
  let mic := l.drop (l.length - m)
  if l.length < h + m then (l, false)
  else if 4 ≤ a.level then
    match ccmDec key nonce (octNats (l.take h)) (octNats (l.drop h)) m with
    | some p => (l.take h ++ natOcts p ++ mic, true)
    | none => (l.take h ++ natOcts (ccmCtr key nonce (octNats body)) ++ mic, false)
  else (l, natOcts (ccmMic key nonce (octNats (l.take (l.length - m))) [] m) == mic)

/-! ### Frame check sequences (R146 to R148, R192) -/

/-- The FCS of octets: 2 or 4 octets, least significant first. -/
def fcsOf (fcs4 : Bool) (l : List Byte) : List Byte :=
  if fcs4 then leBytes 4 (crc32 (octNats l)) else leBytes 2 (crc16 (octNats l))

def fcsLen (fcs4 : Bool) : Nat := if fcs4 then 4 else 2

/-- A PSDU's FCS is good. -/
def fcsGood (fcs4 : Bool) (psdu : List Byte) : Bool :=
  decide (fcsLen fcs4 ≤ psdu.length) &&
    psdu.drop (psdu.length - fcsLen fcs4) == fcsOf fcs4 (psdu.take (psdu.length - fcsLen fcs4))

/-- The FCS hash of R192. -/
def fcsHash (fcs4 : Bool) (psdu : List Byte) : Nat :=
  let f := psdu.drop (psdu.length - fcsLen fcs4)
  Nat.xor (leAt f 0 2) (if fcs4 then leAt f 2 2 else 0)

end Sys2Proof.Machine
end

