-- ==== Sys2Proof/Machine/Nodes.lean ====
section
/-! DEFINITION. Machine/Nodes.lean: the node table, its lookups, its update port and its record images (R44, R45, R175 to
R178, R195, R214, R257, R265). -/

namespace Sys2Proof.Machine

/-! ### Stack cells (R265) -/

/-- The device is a member of a stack (R255). -/
def inStack (s : State) : Bool := s.part.stack && s.regionOn 12 && s.payloadLe 12 0 4 != 0

def stkMember (s : State) : Nat := s.payloadByte 12 4
def stkMembers (s : State) : Nat := s.payloadByte 12 5
def stkLeader (s : State) : Nat := s.payloadByte 12 6

/-- The ring ports that are enabled and up, as a mask. -/
def ringUp (s : State) : Nat := s.fld STK_STAT_RING0_UP + 2 * s.fld STK_STAT_RING1_UP

/-- A 64-octet cell with its header and CRC. -/
def cellOf (type src dst : Nat) (body : List Byte) : List Byte :=
  let body := (body ++ List.replicate 60 0).take 60
  leBytes 2 (type + 16 * src + 128 * dst) ++ leBytes 2 (crcMsb 16 0x1021 0xFFFF (octNats body)) ++ body

/-- Send a cell to a member, 15 for all, over the ring ports that are up: kind, destination, ports. -/
def cellSend (s : State) (type dst : Nat) (body : List Byte) : State :=
  if !inStack s || ringUp s = 0 then s
  else s.emit .stackCell [type, dst, ringUp s] (cellOf type (stkMember s) dst body)

/-! ### Joint lanes (R259 to R262) -/

/-- H, the members of half-stream 1. -/
def stkHalf (s : State) : Nat := stkMembers s / 2

/-- The stack latency in ns (R262). -/
def stkLatency (s : State) : Nat := 600 + 350 * stkHalf s

/-- Load units of a lane of a band (R261). -/
def stkUnits (band : Nat) : Nat := if band = 0 then 50 else 12

/-- A mode's verdict bound plus the stack latency falls by its freeze point (R186, R262). -/
def jointMode (s : State) (w : List Nat) : Bool :=
  let bound := if pwBand w = 0 then 4200 else 20200
  decide (bound + stkLatency s ≤ ackTurnNs w - ackFreezeNs w)

/-- One more joint lane stays within the load of both directions (R261). -/
def jointRoom (s : State) (band : Nat) : Bool :=
  let h := stkHalf s
  let g := stkMembers s - 1 - h
  decide (s.fld STK_LOAD_LOAD1 + stkUnits band ≤ 24000 / h)
    && (g == 0 || decide (s.fld STK_LOAD_LOAD0 + stkUnits band ≤ 24000 / g))

/-- LANE_TAG of one of this member's lanes (R265). -/
def laneTag (s : State) (n : Nat) : Nat := n + 512 * stkMember s

/-- A receive lane is released; a joint one tells the stack and gives its load back (R127, R261, R263). -/
def laneClose (s : State) (n reason : Nat) : State :=
  match s.rxl n with
  | none => s
  | some x =>
    let band := binBand (rxBin s n)
    let s := if x.joint then
        (cellSend s 4 15 (leBytes 2 (laneTag s n) ++ leBytes 1 reason)).setFlds
          [(STK_LOAD_LOAD0, s.fld STK_LOAD_LOAD0 - (if stkMembers s - 1 - stkHalf s = 0 then 0 else stkUnits band)),
           (STK_LOAD_LOAD1, s.fld STK_LOAD_LOAD1 - stkUnits band)]
      else s
    laneRelease { s with jointParts := stErase s.jointParts (laneTag s n) } n

/-! ### Records (R175, R227) -/

def recAddr (n : Nat) : Nat := 0x02000000 + 64 * n

/-- `k` octets of record n from an offset, as a number. -/
def recLe (s : State) (n off k : Nat) : Nat := s.rdLe (recAddr n + off) k

def recState (s : State) (n : Nat) : Nat := recLe s n 2 1
def recFlags (s : State) (n : Nat) : Nat := recLe s n 3 1
def recExt (s : State) (n : Nat) : List Byte := s.rdN (recAddr n + 4) 8
def recShort (s : State) (n : Nat) : Nat := recLe s n 12 2
def recClass (s : State) (n : Nat) : Nat := recLe s n 14 1
def recKeyIndex (s : State) (n : Nat) : Nat := recLe s n 15 1
def recPending (s : State) (n : Nat) : Nat := recLe s n 17 1
def recPersisted (s : State) (n : Nat) : Nat := recLe s n 24 4

/-- The records of STATE other than FREE, in ascending order. -/
def liveRecords (s : State) : List Nat := listedRecords s 0x02000000 64 16384 2

/-- The lowest of `l`'s missing numbers from `n` on, for a rising list. -/
def firstGap : List Nat → Nat → Nat
  | [], n => n
  | x :: l, n => if x = n then firstGap l (n + 1) else n

/-- A record a stack member may establish or allocate (R257). -/
def ownIndex (s : State) (n : Nat) : Bool := !inStack s || n % max (stkMembers s) 1 == stkMember s

/-- The lowest-numbered FREE record that this member may take (R177, R182, R257). -/
def freeRecord (s : State) : Option Nat :=
  if !inStack s then
    let n := firstGap (liveRecords s) 0
    if n < 16384 then some n else none
  else
    let live := liveRecords s
    (List.range 16384).find? fun n => n % max (stkMembers s) 1 == stkMember s && !live.contains n

/-- A record of STATE other than FREE that holds an extended address (R176). -/
def extRecord (s : State) (ext : List Byte) : Option Nat := (liveRecords s).find? fun n => recExt s n == ext

/-- The record of a short source under a block (R176). -/
def shortRecord (s : State) (base size short : Nat) : Option Nat :=
  if base ≤ short && short < base + size && short - base < 16384 then
    let n := short - base
    let st := recState s n
    if 2 ≤ st && st ≤ 4 && recShort s n = short then some n else none
  else none

/-- Write a record's octets from offset 2 and count its GEN on (R45). -/
def recPut (s : State) (n : Nat) (off : Nat) (l : List Byte) : State :=
  let gen := (recLe s n 0 2 + 1) % 65536
  (s.wrN (recAddr n + off) l).wrN (recAddr n) (leBytes 2 gen)

/-- The record image of octets 0–35 with PENDING zero, to all members of the stack; a member that is separated from its
leader remembers the record instead (R257, R264, R265). -/
def imageSend (s : State) (n : Nat) : State :=
  if !inStack s then s
  else if s.stk.apart && stkMember s ≠ stkLeader s then
    { s with stk := { s.stk with records := if s.stk.records.contains n then s.stk.records else s.stk.records ++ [n] } }
  else cellSend s 6 15 (leBytes 2 n ++ (s.rdN (recAddr n) 36).set 17 0)

/-- One commit of a record: some octets change, GEN counts on, and in a stack its image is sent (R44, R257). -/
def recCommit (s : State) (n off : Nat) (l : List Byte) : State := imageSend (recPut s n off l) n

/-! ### Requests to a node (R213, R214) -/

/-- Node of a request. -/
def reqNode (q : TxReq) : Nat := ofLe ((q.raw.drop 10).take 2)

/-- The requests to a node that are held or placed and not yet reported. -/
def pendCount (s : State) (n : Nat) : Nat :=
  min 255 (s.reqs.filter fun e => reqNode e.2 == n && e.2.phase != 1).length

/-- PENDING of a record follows the scheduler's count, on a commit of its own (R44, R214, R257; log entry 10). -/
def pendRefresh (s : State) (n : Nat) : State :=
  if 0x3FFF ≤ n || recPending s n = pendCount s n then s else recCommit s n 17 (leBytes 1 (pendCount s n))

/-! ### The update port (R177) -/

/-- The record image in LNK_UPDDATA0–15. -/
def updImage (s : State) : List Byte := (List.range 16).flatMap fun i => leBytes 4 (s.reg (LNK_UPDDATA i)).toNat

/-- The result of an update-port operation; it runs for at most 1 µs, how long is free (R177; log entry 153). -/
def updResult (s : State) (idx res : Nat) : State :=
  let (r, s) := s.draw
  { s with updTo := s.uptime + r % 1001 }.setFlds [(LNK_UPDSTAT_RESULT, res), (LNK_UPDSTAT_INDEX, idx)]

/-- The update port runs an operation: LNK_UPDSTAT.BUSY (R177). -/
def updBusy (s : State) : Bool := decide (s.uptime < s.updTo)

/-- Frames past their lookup point whose record an update-port commit touches before their own update of it (R178). -/
def markRace (s : State) (n : Nat) : State :=
  { s with frames := s.frames.map fun e =>
      if e.2.node = some n && !e.2.recDone then (e.1, { e.2 with race := true }) else e }

/-- Frames whose MIC result is awaited have been overtaken by the record update of a later verdict (R191). -/
def markOvertaken (s : State) (n : Nat) : State :=
  { s with frames := s.frames.map fun e =>
      if e.2.node = some n && e.2.outcome = 1 && e.2.secured && !e.2.micDone then (e.1, { e.2 with overtaken := true }) else e }

/-- Persistence of a record is answered, or the record is replaced (R194). -/
def persistClear (s : State) (n : Nat) : State := { s with persistOut := stSet false s.persistOut n false }

end Sys2Proof.Machine
end

