-- ==== Sys2Proof/Machine/Silt.lean ====
section
/-! DEFINITION. Machine/Silt.lean: the Silt cache and the flood header (R237 to R240). -/

namespace Sys2Proof.Machine

/-- Address of Silt entry i = 4·set + way. -/
def siltAddr (i : Nat) : Nat := 0x02200000 + 16 * i

/-- The set of a key. -/
def siltSet (orig : List Byte) (seq : Nat) : Nat := crcMsb 16 0x1021 0xFFFF (octNats (orig ++ leBytes 2 seq)) % 16384

def siltFlags (s : State) (i : Nat) : Nat := (s.rd8 (siltAddr i + 10)).toNat

def siltSource (s : State) (i : Nat) : Nat := bitsOf (siltFlags s i) 2 1

/-- The age of an entry in ms (R239). -/
def siltAge (s : State) (i : Nat) : Nat := (s.ms + 2 ^ 24 - s.rdLe (siltAddr i + 12) 3) % 2 ^ 24

/-- The entry is live under a HOLD in seconds (R239). -/
def siltLive (s : State) (hold i : Nat) : Bool := bitOf (siltFlags s i) 0 && decide (siltAge s i < 1000 * hold)

def siltKey (s : State) (i : Nat) (orig : List Byte) (seq : Nat) : Bool :=
  s.rdN (siltAddr i) 8 == orig && s.rdLe (siltAddr i + 8) 2 == seq

/-- Write an entry; GEN counts on (R238). -/
def siltWrite (s : State) (i : Nat) (body : List Byte) : State :=
  s.wrN (siltAddr i) (body ++ leBytes 1 (((s.rd8 (siltAddr i + 15)).toNat + 1) % 256))

/-- Change an entry's flags. -/
def siltSetFlags (s : State) (i f : Nat) : State :=
  siltWrite s i ((s.rdN (siltAddr i) 15).set 10 (BitVec.ofNat 8 f))

/-- The live entry that holds a key. -/
def siltFind (s : State) (hold : Nat) (orig : List Byte) (seq : Nat) : Option Nat :=
  ((List.range 4).map (4 * siltSet orig seq + ·)).find? fun i => siltLive s hold i && siltKey s i orig seq

/-- The way with the greatest age, the lowest one among equals. -/
def siltOldest (s : State) (set : Nat) : Nat :=
  (List.range 4).foldl (fun b w => if siltAge s (4 * set + b) < siltAge s (4 * set + w) then w else b) 0

/-- Lookup with insertion (R240): the entry hit, or none and the state with the key inserted. -/
def siltLookup (s : State) (hold : Nat) (orig : List Byte) (seq source ttl timeMs : Nat) (sched : Bool) : Option Nat × State :=
  match siltFind s hold orig seq with
  | some i => (some i, s)
  | none =>
    let set := siltSet orig seq
    let (i, s) := match (List.range 4).find? fun w => !siltLive s hold (4 * set + w) with
      | some w => (4 * set + w, s)
      | none => (4 * set + siltOldest s set, s.bump FLD_EVICT_COUNT)
    (none, siltWrite s i (orig ++ leBytes 2 seq ++ leBytes 1 (1 + 2 * source + 8 * b2n sched) ++ leBytes 1 ttl
      ++ leBytes 3 timeMs))

/-- The VALID entries, in ascending order: an entry with VALID set has an odd octet 10. -/
def siltValid (s : State) : List Nat :=
  s.mem.filterMap fun e =>
    if 0x02200000 ≤ e.1 && e.1 < 0x02300000 && e.1 % 16 = 10 && e.2.toNat % 2 = 1 then some ((e.1 - 0x02200000) / 16) else none

/-- VALID clears in an entry. -/
def siltClear (s : State) (i : Nat) : State := siltSetFlags s i (siltFlags s i / 2 * 2)

/-- RELAYQ follows the relay buffers in use. -/
def relayRefresh (s : State) : State := s.setFld FLD_STAT_RELAYQ s.relays.length

/-- A rebroadcast's report returns to Vetch with a status (R243, R244): its relay buffer is free again. -/
def relayDone (s : State) (num status : Nat) : State :=
  match s.relays.find? (·.1 = num) with
  | none => s
  | some (_, r) =>
    let s := relayRefresh { s with relays := stErase s.relays num }
    if r.suppressed then s.bump FLD_SUPPRESSED_COUNT
    else if status = 0 then
      let s := s.bump FLD_RELAYED_COUNT
      match siltFind s (s.act FLD_SILT_HOLD) r.orig r.seq with
      | some i => siltSetFlags s i (siltFlags s i ||| 16)
      | none => s
    else s.bump FLD_RELAYFAIL_COUNT

end Sys2Proof.Machine
end

