-- ==== Sys2Proof/Machine/Sched.lean ====
section
/-! DEFINITION. Machine/Sched.lean: the transmit scheduler: requests and reports, placement, lanes, duty-cycle and hop
accounting and the checks at the commit point, as shared operations (R205 to R235). -/

namespace Sys2Proof.Machine

/-! ### Fields of a request (R209) -/

def qLe (q : TxReq) (off n : Nat) : Nat := leAt q.raw off n
def qLen (q : TxReq) : Nat := qLe q 8 2 % 2048
def qProf (q : TxReq) : Nat := qLe q 12 1 % 16
/-- Bits of FLAGS: 0 AR, 1 SECURE, 2 FCS32, 3 HOP, 4 INDIRECT, 5 TIMED, 6 DEFPWR. -/
def qFlag (q : TxReq) (i : Nat) : Bool := bitOf (qLe q 13 1) i
def qBin (q : TxReq) : Nat := qLe q 14 2 % 512
def qForm (q : TxReq) : Nat := qLe q 17 1 % 4
def qRetries (q : TxReq) : Nat := bitsOf (qLe q 17 1) 4 2
def qRdvO (q : TxReq) : Nat := qLe q 18 2 % 2048
/-- The rendezvous unit in ns. -/
def qRdvU (q : TxReq) : Nat := if bitOf (qLe q 18 2) 11 then 100000 else 10000
def qWhen (q : TxReq) : Nat := qLe q 20 6
def qParam (q : TxReq) : Nat := qLe q 26 4
def qTag (q : TxReq) : Nat := qLe q 30 2

/-- The profile words of a request: those in force when its transmission was committed, until then the active ones (R42). -/
def qWords (s : State) (q : TxReq) : List Nat := if q.words.isEmpty then profWords s (qProf q) else q.words

/-- The frame's FCS has 4 octets; an O-QPSK frame's has 2 (R146; log entry 13). -/
def qFcs4 (s : State) (q : TxReq) : Bool := qFlag q 2 && pwMode (qWords s q) ≠ 0

/-- Octets of the PSDU: the staged frame once it is there, else LEN and the FCS. -/
def qPsdu (s : State) (q : TxReq) : Nat := if q.fetched then q.frame.length else qLen q + fcsLen (qFcs4 s q)

/-- A 48-bit venue time as the nearest whole venue time. -/
def venue48 (s : State) (w : Nat) : Nat :=
  let d := (w + 2 ^ 48 - s.venue % 2 ^ 48) % 2 ^ 48
  if d < 2 ^ 47 then s.venue + d else s.venue - (2 ^ 48 - d)

/-! ### The request store -/

def State.req (s : State) (num : Nat) : Option TxReq := (s.reqs.find? (·.1 = num)).map (·.2)

def State.setReq (s : State) (num : Nat) (q : TxReq) : State := { s with reqs := stInsert q s.reqs num }

/-- Entries of the pending store in use (R213). -/
def storeUsed (s : State) : Nat := (s.reqs.filter (·.2.phase = 0)).length

/-- No earlier request to the same node is unreported (R212). -/
def isHead (s : State) (num : Nat) (q : TxReq) : Bool :=
  reqNode q == 0x3FFF || !(s.reqs.any fun e => decide (e.1 < num) && reqNode e.2 == reqNode q)

/-- The node of a request is STALE (R231). -/
def nodeStale (s : State) (q : TxReq) : Bool := reqNode q != 0x3FFF && recState s (reqNode q) == 3

/-- The node has been STALE for 60 000 ms: its held and its new requests are reported STALE (R231). -/
def staleOut (s : State) (q : TxReq) : Bool :=
  nodeStale s q && decide (60000 ≤ (s.ms + 2 ^ 32 - recLe s (reqNode q) 52 4) % 2 ^ 32)

/-! ### Transmit lanes (R184, R215) -/

def State.txl (s : State) (n : Nat) : TxLane := stGet {} s.txLanes n

/-- PHY_STAT and TXS_STAT follow lanes and requests. -/
def txRefresh (s : State) : State :=
  s.setFlds [(PHY_STAT_TX_INUSE, s.txLanes.length), (TXS_STAT_PEND, storeUsed s),
    (TXS_STAT_SCHED, (s.txLanes.filter (·.2.owner = 2)).length)]

/-- A transmit lane takes a transmission; PHY_TXSTAT shows its state, bin, profile, form and strobes left. -/
def txLaneSet (s : State) (n : Nat) (l : TxLane) (state form left : Nat) : State :=
  txRefresh ({ s with txLanes := stInsert l s.txLanes n }.setFlds [(PHY_TXSTAT_STATE n, state), (PHY_TXSTAT_BIN n, l.bin),
    (PHY_TXSTAT_PROFILE n, l.prof), (PHY_TXSTAT_FORM n, form), (PHY_TXSTAT_STROBE_LEFT n, min 255 left)])

/-- A transmit lane changes without its status register. -/
def txLanePut (s : State) (n : Nat) (l : TxLane) : State := { s with txLanes := stInsert l s.txLanes n }

/-- A transmit lane is free again. -/
def txLaneFree (s : State) (n : Nat) : State :=
  txRefresh ({ s with txLanes := stErase s.txLanes n }.setReg (PHY_TXSTAT n) 0)

/-- The lowest free transmit lane. -/
def freeTx (s : State) : Option Nat := (List.range s.part.txLanes).find? fun n => !s.txLanes.any (·.1 = n)

/-- Lanes that scheduled work may hold at one time (R215). -/
def schedShare (s : State) : Nat := s.part.txLanes - s.act TXS_CTL_ACK_RSV

/-! ### Ends and reports (R211, R232, R476) -/

/-- Requests taken from a source and not yet reported. -/
def outOf (s : State) (src : Nat) : Nat := stGet 0 s.outs src

/-- Set OUT of a source; HIF_TXOUT shows a host ring's. -/
def outSet (s : State) (src v : Nat) : State :=
  let s := { s with outs := stSet 0 s.outs src v }
  if 12 ≤ src && src < 44 then s.setFld (HIF_TXOUT_OUT (src - 12)) v else s

/-- The delivery report of a request. -/
def reportOf (s : State) (q : TxReq) (status : Nat) : List Byte :=
  leBytes 2 (qTag q) ++ leBytes 1 status ++ leBytes 1 (min 15 q.attempts + 16 * b2n q.ackPend + 32 * b2n q.precoded)
    ++ leBytes 2 (qLe q 10 2) ++ leBytes 2 (if q.attempts = 0 then 0 else q.lane)
    ++ leBytes 6 ((if q.attempts = 0 then s.venue else q.lastAir) % 2 ^ 48) ++ leBytes 2 0

/-- A report goes to its engine's report ring, to its completion ring, or back to Vetch. -/
def reportPut (s : State) (num src status : Nat) (rep : List Byte) : State :=
  if src < 12 then
    let i := s.fld (TXS_RHEAD_HEAD src)
    let s := s.wrEntry (s.fld (TXS_RSIZE_SIZE src)) i (s.fld (TXS_RBASE_BASE src)) 16 rep
    outSet (s.setFld (TXS_RHEAD_HEAD src) (ringNext (s.fld (TXS_RSIZE_SIZE src)) i)) src (outOf s src - 1)
  else if src < 44 then
    outSet (hostDue s { kind := 1, ring := src - 12, data := rep }) src (outOf s src - 1)
  else if src = 100 then relayDone s num status
  else s.bump HIF_TXDISC_COUNT

/-- A request ends with a status (R211): its report is written, its lane is free, and PENDING of its node follows. -/
def reqEnd (s : State) (num status : Nat) : State :=
  match s.req num with
  | none => s
  | some q =>
    let status := if q.endAs ≠ 0 then q.endAs else status
    let s := { s with reqs := stErase s.reqs num }
    let s := if 4 ≤ q.phase && (s.txl q.lane).owner = 2 && (s.txl q.lane).ref = num then txLaneFree s q.lane else s
    let s := match status with
      | 1 => s.bump TXS_CNT_NOACK_COUNT
      | 2 => s.bump TXS_CNT_LATE_COUNT
      | 0x0A => s.bump (PHY_CNT3_ABORTED (qProf q))
      | 0x0B => s.bump (PHY_CNT3_ABORTED (qProf q))
      | 0x0D => s.bump TXS_CNT_STALE_COUNT
      | 0x0E => s.bump TXS_CNT_NOROOM_COUNT
      | _ => s
    txRefresh (pendRefresh (reportPut s num q.src status (reportOf s q status)) (reqNode q))

/-- Every request to a record ends FREED, one that is committed on air when that has completed (R214; log entry 136). -/
def reqsFreed (s : State) (n : Nat) : State :=
  (s.reqs.map (·.1)).foldl (fun s num =>
    match s.req num with
    | some q =>
      if reqNode q ≠ n || n = 0x3FFF then s
      else if q.phase = 5 || q.phase = 6 then s.setReq num { q with endAs := 0x0F } else reqEnd s num 0x0F
    | none => s) s

/-! ### Hopping (R225, R226, R234) -/

/-- Entries 0 to n − 1 of the hop sequence. -/
def hopEntries (s : State) (n : Nat) : List Nat := (List.range n).map fun i => s.table 9 1 i % 256

/-- The hop table holds no sequence. -/
def hopEmpty (s : State) : Bool := (List.range 128).all fun i => s.table 9 1 i = 0

/-- The length in force: the largest one up to LEN under which the entries are distinct. -/
def hopLen (s : State) : Nat :=
  let want := s.act TXS_HOPCTL_LEN
  (List.range (want + 1)).foldl (fun b n => if decide ((hopEntries s n).Nodup) then n else b) 0

/-- The hop position for an epoch. -/
def hopPos (s : State) (epoch : Nat) : Nat :=
  if hopEmpty s || s.act TXS_HOPCTL_DWELL = 0 || hopLen s = 0 then 0 else epoch / s.act TXS_HOPCTL_DWELL % hopLen s

/-- The unified bin of a hop entry. -/
def hopBin (s : State) (pos : Nat) : Nat := 198 + s.table 9 1 pos % 256

/-- Hopping governs a bin. -/
def hopGoverns (s : State) (k : Nat) : Bool :=
  s.part.bandB && s.act TXS_HOPCTL_EN == 1 && binBand k == 1 && binGroup k == 1
    && decide (902000 ≤ binCentre s k && binCentre s k ≤ 928000)

/-- A request takes its bin from the hop sequence (R226; log entry 137): a polled one where hopping governs its poll's bin. -/
def qHops (s : State) (q : TxReq) : Bool :=
  qFlag q 3 && (if q.polled then hopGoverns s q.bin
    else s.part.bandB && s.act TXS_HOPCTL_EN == 1 && pwBand (qWords s q) == 1)

/-- The bin of a request's transmission with air start `a`: the current hop bin of the period that contains it, or `bin` (R225, R226). -/
def airBin (s : State) (q : TxReq) (a bin : Nat) : Nat :=
  if qHops s q && !hopEmpty s then hopBin s (hopPos s (a / periodNs)) else bin

/-- The position of a bin among the entries in force. -/
def hopEntryOf (s : State) (k : Nat) : Option Nat :=
  if hopEmpty s then none else (List.range (hopLen s)).find? fun i => hopBin s i = k

/-- Occupied milliseconds of an entry. -/
def hopUsed (s : State) (pos : Nat) : Nat := (stGet [] s.hopOcc pos).sum

/-- Charge an entry's current bucket. -/
def hopCharge (s : State) (pos ms : Nat) : State :=
  let l := stGet [] s.hopOcc pos
  let l := if l.isEmpty then ms :: List.replicate 20 0 else (l.headD 0 + ms) :: l.drop 1
  { s with hopOcc := stSet [] s.hopOcc pos (if l.all (· = 0) then [] else l) }

/-! ### Duty-cycle accounts (R220, R221) -/

def dutyLo (s : State) (a : Nat) : Nat := 25 * (s.table 9 0 (2 * a) % 65536)
def dutyHi (s : State) (a : Nat) : Nat := 25 * (s.table 9 0 (2 * a) / 65536)
def dutyBudget (s : State) (a : Nat) : Nat := s.table 9 0 (2 * a + 1) % 2 ^ 20
def dutyCap (s : State) (a : Nat) : Nat :=
  let c := s.table 9 0 (2 * a + 1) / 2 ^ 20
  if c = 0 then 60000 else 16 * c

/-- The accounts that a transmission on bin k belongs to. -/
def dutyAccounts (s : State) (k : Nat) : List Nat :=
  (List.range 4).filter fun a =>
    dutyBudget s a ≠ 0 && decide (dutyLo s a ≤ binCentre s k && binCentre s k ≤ dutyHi s a)

/-- Whole milliseconds charged for an air time. -/
def dutyMs (a e : Nat) : Nat := (e - a + 999999) / 1000000

/-- The lowest account that refuses a transmission. -/
def dutyRefuses (s : State) (k ms : Nat) : Option Nat :=
  (dutyAccounts s k).find? fun a =>
    decide (dutyBudget s a < s.fld (TXS_DUTYACC_USED a) + ms) || decide (dutyCap s a < s.fld (TXS_DUTYMIN_CUR a) + ms)

/-- Charge a transmission to its accounts and its hop entry. -/
def dutyCharge (s : State) (k ms : Nat) : State :=
  let s := (dutyAccounts s k).foldl (fun s a =>
    s.setFlds [(TXS_DUTYACC_USED a, s.fld (TXS_DUTYACC_USED a) + ms), (TXS_DUTYMIN_CUR a, s.fld (TXS_DUTYMIN_CUR a) + ms)]) s
  if hopGoverns s k then
    match hopEntryOf s k with | some p => hopCharge s p ms | none => s
  else s

/-! ### The commit point (R187, R207, R208) -/

/-- The reference is in use: the root PLL is locked to it (R31, R34). -/
def refInUse (s : State) : Bool := s.flag SYS_CLKSTAT_ROOT_LOCK && !s.flag SYS_CLKSTAT_ON_FALLBACK

/-- The checks at a commit point, with the ports of the transmission and their requested powers: the status that refuses
it, or 0 with the charge made; and the ports and powers that remain. -/
def commitChecks (s : State) (k a e : Nat) (req : List (Nat × Int)) : Nat × List (Nat × Int) × State :=
  let ms := dutyMs a e
  if s.draining || s.flag SNP_TEST_DIRTY || s.fld PWR_STATE_CUR = 4 || (s.venue ≤ s.killUntil && s.killUntil ≠ 0) then (0x0C, [], s)
  else if !refInUse s then (8, [], s)
  else match dutyRefuses s k ms with
  | some i => (3, [], (s.bump (TXS_DUTYMIN_REFUSED i)).bump TXS_CNT_DUTY_COUNT)
  | none =>
    let hopBad := hopGoverns s k && (match hopEntryOf s k with
      | some p => decide (s.act TXS_HOPCTL_OCC_MAX < hopUsed s p + ms)
      | none => true)
    if hopBad then (4, [], s.bump TXS_CNT_HOP_COUNT)
    else
      let r := eirpCompute s (fun p => portRoom s (binBand k) p a e)
        (eirpEntry (binBand k) (if binBand k = 0 then 0 else binSegment s k)) req
      let s := eirpRecord s r
      if r.kept.isEmpty then (5, [], s) else (0, r.kept, dutyCharge s k ms)

/-! ### Placement (R205, R212, R215, R229) -/

/-- The next multiple of `g` at or after `t`. -/
def ceilTo (g t : Nat) : Nat := (t + g - 1) / g * g

def slotNs : Nat := 250000

/-- PREP in ns. -/
def prepNs (s : State) : Nat := 10000 * s.act TXS_CTL_PREP

/-- The spans in which placed requests hold or will hold a lane. -/
def laneSpans (s : State) (except : Nat) : List (Nat × Nat) :=
  s.reqs.filterMap fun e =>
    if e.1 ≠ except && 2 ≤ e.2.phase && e.2.phase ≤ 6 then some (e.2.airStart - 50000, e.2.airEnd + 3000) else none

/-- The scheduled share has a lane free for the whole of a transmission. -/
def laneRoom (s : State) (except a e : Nat) : Bool :=
  let sp := laneSpans s except
  let lo := a - 50000
  let hi := e + 3000
  let at_ (t : Nat) := (sp.filter fun x => x.1 ≤ t && t < x.2).length
  (lo :: ((sp.map (·.1)).filter fun t => lo < t && t < hi)).all fun t => at_ t < schedShare s

/-- The first slot start from `a`, below `limit`, at which the share has a lane for `span` ns. -/
def slotSearch (s : State) (except span limit : Nat) : Nat → Nat → Option Nat
  | 0, _ => none
  | fuel + 1, a =>
    if limit ≤ a then none
    else if laneRoom s except a (a + span) then some a
    else slotSearch s except span limit fuel (a + slotNs)

/-- The symbols of a long preamble; SUN-FSK rounds up to whole octets (R166). -/
def longSymbols (w : List Nat) (lpre : Nat) : Nat := if pwMode w = 1 then ceilTo 8 lpre else lpre

/-- The air time of one frame of a request in normal form. -/
def frameNs (s : State) (q : TxReq) : Nat :=
  let w := qWords s q
  airNs w (preSymbols w) (qPsdu s q)

/-- The span from the air start to the end of the data frame for a form. -/
def formSpan (s : State) (q : TxReq) (form lpre strobes interval : Nat) : Nat :=
  let w := qWords s q
  match form with
  | 1 => airNs w (longSymbols w lpre) (qPsdu s q)
  | 2 => strobes * interval + frameNs s q
  | _ => frameNs s q

/-- A form breaks R165 to R167 for a request. -/
def formBad (s : State) (q : TxReq) (form lpre strobes interval : Nat) : Bool :=
  let w := qWords s q
  match form with
  | 1 => decide (pwLongMax w = 0 || lpre < preSymbols w || pwLongMax w < lpre)
  | 2 =>
    let t := frameNs s q
    !pwStrobeOk w || decide (interval < t + 20000) || decide (1000000000 < strobes * interval)
      || decide (qPsdu s q ≤ qRdvO q + 1 + fcsLen (qFcs4 s q))
      || decide (strobes ≠ 0 && 65535 < (strobes * interval - t) / qRdvU q)
  | _ => false

/-- The instant from which no placed request holds a lane any more. -/
def laneHorizon (s : State) (except now : Nat) : Nat := ((laneSpans s except).map (·.2)).foldl max now + 50000

/-- Put a request into a place (R205, R213). -/
def placeAt (s : State) (num : Nat) (q : TxReq) (a bin form lpre strobes interval : Nat) : State :=
  txRefresh (s.setReq num { q with phase := if q.fetched then 3 else 2, airStart := a
                                   airEnd := a + formSpan s q form lpre strobes interval
                                   bin := airBin s q a bin, form := form, lpre := lpre, strobes := strobes, interval := interval
                                   strobe := 0 })

/-- The form a request of its own names: form, preamble, strobes, interval in ns. -/
def ownForm (q : TxReq) : Nat × Nat × Nat × Nat :=
  match qForm q with
  | 1 => (1, qParam q % 2 ^ 20, 0, 0)
  | 2 => (2, 0, qParam q % 256, 1000 * (qParam q / 256))
  | _ => (0, 0, 0, 0)

/-- A request waits: in the pending store, or, direct without a slot and without a turn to wait for, for the next slot
start. -/
def reqHold (s : State) (num : Nat) (q : TxReq) (store : Bool) : State :=
  txRefresh (s.setReq num { q with phase := if store || q.phase = 0 then 0 else 1 })

/-- Place a direct request, or a polled one on its poll's bin (R212, R230). -/
def placeDirect (s : State) (num : Nat) (q : TxReq) : State :=
  let now := max s.venue q.notBefore
  let due := if q.polled || qWhen q = 0 then 0 else venue48 s (qWhen q)
  let slot := ceilTo slotNs due
  if s.venue + 10000000 < slot - 50000 then reqHold s num q true else
  let (form, lpre, strobes, interval) := if q.polled then (0, 0, 0, 0) else ownForm q
  let span := formSpan s q form lpre strobes interval
  let first := ceilTo slotNs (max (now + prepNs s + 50000) due)
  match slotSearch s num span ((s.epoch + 2) * periodNs) 80 first with
  | some a => placeAt s num q a (if q.polled then q.bin else qBin q) form lpre strobes interval
  | none => reqHold s num { q with phase := if q.phase = 0 then 0 else 1 } false

/-- SAMPLE in ns. -/
def sampleTimeNs (s : State) : Nat := 10000 * s.act TXS_SLEEPY_SAMPLE

/-- The form that covers a span (R229): form, preamble, strobes, interval; `none` for a report FORM. -/
def coverForm (s : State) (q : TxReq) (cover : Nat) : Option (Nat × Nat × Nat × Nat) :=
  let w := qWords s q
  let t := frameNs s q
  let gap := 1000 * s.act TXS_STROBE_GAP
  let r :=
    if s.act TXS_SLEEPY_FORM_PREF = 1 && pwStrobeOk w && t + gap ≤ sampleTimeNs s then
      let i := ceilTo 1000 (t + gap)
      some (2, 0, (cover + i - 1) / i, i)
    else if pwLongMax w ≠ 0 then some (1, max (preSymbols w) ((3 * cover + symNs3 w - 1) / symNs3 w), 0, 0)
    else none
  r.filter fun f => !formBad s q f.1 f.2.1 f.2.2.1 f.2.2.2

/-- Place a TIMED request phase-timed at listen instant `l` or a later one, up to the first that has a lane (R229). -/
def placePhase (s : State) (num : Nat) (q : TxReq) (u wake : Nat) : Nat → Nat → State
  | 0, _ => reqHold s num q true
  | fuel + 1, l =>
    let a := (l - u) / slotNs * slotNs
    let cover := l + u + sampleTimeNs s - a
    match coverForm s q cover with
    | none => reqEnd s num 0x0B
    | some (form, lpre, strobes, interval) =>
      if laneRoom s num a (a + formSpan s q form lpre strobes interval) then
        placeAt s num q a (qBin q) form lpre strobes interval
      else placePhase s num q u wake fuel (l + wake)

/-- Place a TIMED request (R229); only a share of no lanes at all leaves it held. -/
def placeTimed (s : State) (num : Nat) (q : TxReq) : State :=
  let n := reqNode q
  let now := max s.venue q.notBefore
  let wake := 1000000 * recLe s n 42 2
  let learned := recLe s n 48 4
  let age := (s.ms + 2 ^ 32 - learned) % 2 ^ 32
  if learned = 0 || 1000 * s.act TXS_SLEEPY_PHASE_AGE < age then
    let s := if q.wakeCounted then s else s.bump TXS_CNT_FULLWAKE_COUNT
    let q := { q with wakeCounted := true }
    match coverForm s q (wake + sampleTimeNs s) with
    | none => reqEnd s num 0x0B
    | some (form, lpre, strobes, interval) =>
      let first := ceilTo slotNs (now + prepNs s + 50000)
      let fuel := (laneHorizon s num first - first) / slotNs + 2
      match slotSearch s num (formSpan s q form lpre strobes interval) (first + fuel * slotNs) fuel first with
      | some a => placeAt s num q a (qBin q) form lpre strobes interval
      | none => reqHold s num q true
  else
    let s := if q.wakeCounted then s else s.bump TXS_CNT_TIMEDWAKE_COUNT
    let q := { q with wakeCounted := true }
    let u := 1000 * ((age * (recLe s n 44 1 + 1) + 999) / 1000) + 1000 * s.act TXS_SLEEPY_GUARD
    let d := (s.venue % 2 ^ 48 + 2 ^ 48 - recLe s n 36 6) % 2 ^ 48
    let anchor := s.venue - d
    let least := now + prepNs s + u + 300000
    let j := if least ≤ anchor + wake then 1 else (least - anchor + wake - 1) / wake
    let l := anchor + j * wake
    placePhase s num q u wake ((laneHorizon s num l + u - l) / wake + 3) l

/-- Offer a waiting request for placement (R212, R213, R231): held while it is not its turn, while its node is STALE, or
while it waits for a poll. -/
def offer (s : State) (num : Nat) : State :=
  match s.req num with
  | none => s
  | some q =>
    if 2 ≤ q.phase then s
    else if s.act TXS_CTL_EN = 0 || s.fld PWR_STATE_CUR ≠ 0 || !isHead s num q || nodeStale s q then reqHold s num q true
    else if q.kind = 0 || q.polled then placeDirect s num q
    else if q.kind = 2 then placeTimed s num q
    else reqHold s num q true

/-! ### Intake (R210) -/

/-- The fields of a request marked zero are zero, and its values are possible. -/
def reqWellFormed (s : State) (q : TxReq) : Bool :=
  let w := qWords s q
  let node := qLe q 10 2
  let timed := qFlag q 5
  (decide (12 ≤ q.src) || qLe q 4 4 == 0)
    && qLe q 8 2 / 2048 == 0 && node / 16384 == 0 && qLe q 12 1 / 16 == 0 && !qFlag q 7 && qLe q 14 2 / 512 == 0
    && qLe q 17 1 / 32 == 0 && qLe q 18 2 / 4096 == 0
    && (timed || (match qForm q with | 1 => qParam q / 2 ^ 20 == 0 | 2 => true | _ => qParam q == 0))
    && qLen q != 0 && pwValid w && decide (qLen q + fcsLen (qFcs4 s q) ≤ pwMaxLen w)
    && (qHops s q || binPresent s (qBin q))
    && !((qFlag q 4 || timed) && node == 0x3FFF) && !(qFlag q 4 && timed) && (timed || qForm q != 3)

/-- A request is taken at intake (R210, R212, R213, R231): refused with a report, placed, or held.  A TIMED request that is placed does not
count in the store (DESIGN CHOICE, log entry 164). -/
def reqIntake (s : State) (src : Nat) (raw : List Byte) : State :=
  let num := s.reqNext
  let q : TxReq := { src := src, raw := raw, phase := 1 }
  let n := reqNode q
  let kind := if qFlag q 4 then 1
    else if qFlag q 5 then (if !bitOf (recFlags s n) 4 || recLe s n 42 2 = 0 then 1 else 2) else 0
  let q := { q with kind := kind }
  let full := decide (8192 ≤ storeUsed s)
  let s := outSet ({ s with reqNext := num + 1 }.setReq num q) src (outOf s src + (if src < 44 then 1 else 0))
  if !reqWellFormed s q then reqEnd s num 0x10
  else if !qHops s q && !onRaster (qWords s q) (qBin q) then reqEnd s num 0x0A
  else if !qFlag q 5 && formBad s q (ownForm q).1 (ownForm q).2.1 (ownForm q).2.2.1 (ownForm q).2.2.2 then reqEnd s num 0x0B
  else if staleOut s q then reqEnd s num 0x0D
  else
    let s := offer s num
    match s.req num with
    | some q' => if full && q'.phase = 0 then reqEnd s num 0x0E else pendRefresh s n
    | none => s

/-! ### The frame buffer (R210, R213, R447) -/

/-- The key index and the key slot of a secured request's frame. -/
def reqKey (s : State) (num : Nat) (q : TxReq) (l : List Byte) : Nat :=
  let a := auxOf l
  if a.kim = 1 then a.keyIx
  else match s.relays.find? (·.1 = num) with
    | some (_, r) => r.keyIx
    | none => recKeyIndex s (reqNode q)

/-- Secure a fetched frame and add its FCS; the request is then ready.  It waits while a reservation is being written,
while no stream context is free, or where its slot holds no usable key; an exhausted counter ends it ABORTED. -/
def reqSecure (s : State) (num : Nat) (q : TxReq) (l : List Byte) : State :=
  let stage (s : State) (l : List Byte) : State :=
    let f := l ++ fcsOf (qFcs4 s q) l
    let q := { q with frame := f, fetched := true, phase := 3 }
    s.setReq num { q with airEnd := q.airStart + formSpan s q q.form q.lpre q.strobes q.interval }
  if !qFlag q 1 then stage s l else
  match keyIndexSlot s (s.actB 7) (reqKey s num q l) with
  | none => s.setReq num { q with frame := l }
  | some slot =>
    if (s.slot slot).txfc = 0xFFFFFFFF then reqEnd s num 0x0C
    else if !((streamPages s).any fun p => s.fld (CPH_STRCNT_INUSE p) < 128) then s.setReq num { q with frame := l }
    else
      match txCounter s slot with
      | (s, none) => s.setReq num { q with frame := l }
      | (s, some fc) =>
        let at0 := (fcfOf l).addrEnd + 1
        let l := l.take at0 ++ leBytes 4 fc ++ l.drop (at0 + 4)
        let ext := leBytes 4 (s.act LNK_EXTL_EXT_LO) ++ leBytes 4 (s.act LNK_EXTH_EXT_HI)
        stage s (protect (nodeKey s slot ext) ext l)

/-- A request's frame buffer has arrived (R210): MIC length, key identifier mode and key index are tested. -/
def bufferArrived (s : State) (num : Nat) (l : List Byte) : State :=
  match s.req num with
  | none => s
  | some q =>
    if q.phase ≠ 2 || !q.frame.isEmpty then s else
    let a := auxOf l
    let mic := if qFlag q 1 then micLen a.level else 0
    let n := reqNode q
    let secBad := qFlag q 1 && (!(fcfOf l).sec || decide (l.length < a.stop) || decide (2 ≤ a.kim)
      || (a.kim == 0 && n == 0x3FFF && q.src != 100) || !keyIndexValid s (reqKey s num q l))
    if pwMaxLen (qWords s q) < qLen q + mic + fcsLen (qFcs4 s q) || secBad then reqEnd s num 0x10
    else if formBad s { q with frame := l ++ List.replicate (mic + fcsLen (qFcs4 s q)) 0, fetched := true }
        q.form q.lpre q.strobes q.interval then reqEnd s num 0x0B
    else reqSecure s num q l

/-- The frame a request's lane sends now: its strobe under way, with the rendezvous value and a fresh FCS, or its data
frame (R167). -/
def airFrame (s : State) (q : TxReq) : List Byte :=
  if q.form = 2 && q.strobe < q.strobes then
    let body := q.frame.take (q.frame.length - fcsLen (qFcs4 s q))
    let ad := q.strobes * q.interval
    let ej := q.strobe * q.interval + frameNs s q
    let body := body.take (qRdvO q) ++ leBytes 2 ((ad - ej) / qRdvU q) ++ body.drop (qRdvO q + 2)
    body ++ fcsOf (qFcs4 s q) body
  else q.frame

/-- Air start and end of the strobe or frame a request sends next. -/
def nextAir (s : State) (q : TxReq) : Nat × Nat :=
  if q.form = 2 then
    let a := q.airStart + q.strobe * q.interval
    (a, a + frameNs s q)
  else (q.airStart, q.airEnd)

/-- A request's requested power in quarter dBm. -/
def reqPower (s : State) (q : TxReq) : Int :=
  if qFlag q 6 then signedOf 8 (if binBand q.bin = 0 then s.act TXS_PWR_DEF_A else s.act TXS_PWR_DEF_B)
  else signedOf 8 (qLe q 16 1)

/-- The steering of a request's transmission (R132): the node's signature, or none for the sector beam. -/
def reqSteer (s : State) (q : TxReq) : Option (List (Nat × Word)) :=
  let f := fcfOf q.frame
  let bcast := f.dstMode = 2 && leAt q.frame f.dstAt 2 = 0xFFFF
  if s.act SPX_SIGCTL_AGE_LIMIT = 0 || q.src = 100 || reqNode q = 0x3FFF || bcast then none
  else nodeSteer s (reqNode q) q.bin

/-! ### Acknowledgement waits (R217) -/

/-- Air time of an acknowledgement on a profile: 3 octets of header, 2 where the sequence number is suppressed. -/
def ackAirNs (w : List Nat) (seqSup fcs4 : Bool) : Nat :=
  airNs w (preSymbols w) ((if seqSup then 2 else 3) + fcsLen fcs4)

/-- The end of the wait after a frame that ended at `e`. -/
def ackWaitEnd (s : State) (q : TxReq) (e : Nat) : Nat :=
  let w := qWords s q
  e + ackTurnNs w + ackAirNs w (fcfOf q.frame).seqSup (qFcs4 s q) + 64000

/-- A received acknowledgement matches the oldest attempt that awaits it (R199, R217); `dsn` is none where it carries none. -/
def ackMatch (s : State) (k : Nat) (dsn : Option Nat) (pend : Bool) (tEnd : Nat) : State :=
  match s.reqs.find? fun e => e.2.phase == 7 && e.2.bin == k && decide (tEnd ≤ e.2.waitEnd)
      && ((fcfOf e.2.frame).seqSup || some (frameDsn e.2.frame) == dsn) with
  | none => s
  | some (num, q) => reqEnd ((s.setReq num { q with ackPend := pend }).bump TXS_CNT_ACKED_COUNT) num 0

/-- A poll places the node's oldest held polled request on the bin of the received frame (R230). -/
def pollPlace (s : State) (n k : Nat) : State :=
  match s.reqs.find? fun e => reqNode e.2 == n with
  | some (num, q) =>
    if q.phase = 0 && q.kind = 1 && s.act TXS_CTL_EN = 1 && !nodeStale s q then
      placeDirect s num { q with polled := true, bin := k }
    else s
  | none => s

end Sys2Proof.Machine
end

