-- ==== Sys2Proof/Machine/Duty.lean ====
section
/-! DEFINITION. Machine/Duty.lean: the buckets, mirror and restore of the duty-cycle accounts, and the second boundary of
the hop occupancy (R221 to R226). -/

namespace Sys2Proof.Machine

def State.acc (s : State) (a : Nat) : DutyAcc := stGet {} s.duty a

def State.setAcc (s : State) (a : Nat) (x : DutyAcc) : State := { s with duty := stSet {} s.duty a x }

/-- The 60 buckets of an account, oldest first. -/
def accBuckets (s : State) (a : Nat) : List Nat :=
  if (s.acc a).buckets.isEmpty then List.replicate 60 0 else (s.acc a).buckets

/-- Buckets as they are kept: none listed where all are empty. -/
def packBuckets (l : List Nat) : List Nat := if l.all (· = 0) then [] else l

/-- An account's minute boundary (R221): the oldest bucket expires and the current one becomes the newest. -/
def accMinute (s : State) (a : Nat) : State :=
  let l := accBuckets s a
  let cur := s.fld (TXS_DUTYMIN_CUR a)
  let held := (s.acc a).heldFor - 1
  (s.setAcc a { buckets := packBuckets (l.drop 1 ++ [cur]), heldFor := held }).setFlds
    [(TXS_DUTYACC_USED a, s.fld (TXS_DUTYACC_USED a) - l.headD 0), (TXS_DUTYACC_HELD a, b2n (held ≠ 0)), (TXS_DUTYMIN_CUR a, 0)]

/-- TAG of an account: the low 12 bits of LO XOR HI, in the units of table 0 (R222). -/
def dutyTag (s : State) (a : Nat) : Nat :=
  Nat.xor (s.table 9 0 (2 * a) % 65536) (s.table 9 0 (2 * a) / 65536) % 4096

/-- The mirror is written into backup RAM (R222), once the restore has run. -/
def mirrorWrite (s : State) : State :=
  if !s.flag TXS_DUTYCTL_MIRROR_EN || !s.dutyRestored then s else
  let seq := (s.fld TXS_DUTYCTL_SEQ + 1) % 65536
  let body := leBytes 4 (s.fld RTC_SECS_SECS)
    ++ (List.range 4).flatMap (fun a => leBytes 4 (s.fld (TXS_DUTYACC_USED a) + 2 ^ 20 * dutyTag s a)) ++ leBytes 2 seq
  { bramPut s 40 (body ++ leBytes 2 (crcMsb 16 0x1021 0xFFFF (octNats body))) with mirrorAt := s.uptime + 1 }.setFld TXS_DUTYCTL_SEQ seq

/-- The mirror in backup RAM is good (R223). -/
def mirrorGood (s : State) : Bool :=
  let m := (bram s).drop 40
  !s.flag RTC_STAT_OSF && crcMsb 16 0x1021 0xFFFF (octNats (m.take 22)) == ofLe ((m.drop 22).take 2)
    && decide (ofLe (m.take 4) ≤ s.fld RTC_SECS_SECS)

/-- The charge that an account takes at the restore, and the minute boundaries it lasts (R223). -/
def restoreCharge (s : State) (a : Nat) : Nat × Nat :=
  let w := ofLe (((bram s).drop (44 + 4 * a)).take 4)
  let now := s.fld RTC_SECS_SECS
  let stamp := ofLe (((bram s).drop 40).take 4)
  if dutyBudget s a = 0 then (0, 0)
  else if !mirrorGood s || w / 2 ^ 20 ≠ dutyTag s a then (dutyBudget s a, 60)
  else if now - stamp < 3600 then (min (dutyBudget s a) (w % 2 ^ 20 + dutyCap s a), (stamp + 3600 - now + 59) / 60)
  else (0, 0)

/-- The restore when the regulatory-limits region first becomes active after a reset (R223). -/
def dutyRestore (s : State) : State :=
  if s.dutyRestored || !s.regionOn 8 then s else
  let good := mirrorGood s
  let s := forBelow 4 (fun s a =>
    let (charge, n) := restoreCharge s a
    if charge = 0 then s else
    (s.setAcc a { buckets := packBuckets ((List.replicate 60 0).set (n - 1) charge), heldFor := n }).setFlds
      [(TXS_DUTYACC_USED a, charge), (TXS_DUTYACC_HELD a, 1)]) s
  { s with dutyRestored := true }.setFlds [(TXS_DUTYCTL_RESTORED, b2n good), (TXS_DUTYCTL_INVALID, b2n !good)]

/-- A write of TXS_DUTYCTL.CLEAR (R224): every bucket empties in MANUFACTURE; elsewhere the write is refused. -/
def dutyClear (s : State) : State :=
  if s.priv.lc ≠ 0 then s.setFld TXS_DUTYCTL_CLEAR_REFUSED 1
  else forBelow 4 (fun s a => (s.setAcc a {}).setFlds
    [(TXS_DUTYACC_USED a, 0), (TXS_DUTYACC_HELD a, 0), (TXS_DUTYMIN_CUR a, 0)]) s

/-- A minute boundary of the millisecond count (R221, R222). -/
def execDutyMinuteBoundary (s : State) : Res := ok (mirrorWrite (forBelow 4 accMinute s))

/-- An accepted write of TXS_DUTYCTL.CLEAR (R224). -/
def execDutyClear (s : State) : Res := ok (dutyClear s)

/-- The buckets of an entry a second later: the oldest of 20 expires and an empty current one comes. -/
def hopRotate (l : List Nat) : List Nat := packBuckets ((0 :: l).take 21)

/-- The second boundary of the hop occupancy, for every entry (R226). -/
def execHopSecondBoundary (s : State) : Res :=
  ok { s with hopOcc := (s.hopOcc.map fun e => (e.1, hopRotate e.2)).filter fun e => !e.2.isEmpty }

end Sys2Proof.Machine
end

