-- ==== Sys2Proof/Machine/Flash.lean ====
section
/-! DEFINITION. Machine/Flash.lean: the memory map as masters see it, the flash die, its controller, unfinished erases and
Loam, as shared operations (R26, R27, R409 to R425). -/

namespace Sys2Proof.Machine

/-! ### Memory (R26, R27) -/

/-- The shared-view address of the memory octet that master `m` reaches at an address, where there is one. -/
def memAddr (m a : Nat) : Option Nat :=
  if m = 12 then (if 0x01000000 ≤ a && a < 0x01800000 then some a else none)
  else if a < 0x80000 then (if m < 12 then some (0x04000000 + 0x100000 * m + a) else none)
  else if 0x01000000 ≤ a && a < 0x01800000 then some a
  else if 0x02000000 ≤ a && a < 0x02300000 then some a
  else if 0x04000000 ≤ a && a < 0x04C00000 && a % 0x100000 < 0x80000 then some a
  else none

/-- The regions marked RO: node table, signature store, Silt. -/
def memRo (a : Nat) : Bool := decide (0x02000000 ≤ a ∧ a < 0x02300000)

/-- `n` octets that the spec leaves open. -/
def freeOctets (s : State) (n : Nat) : List Byte × State :=
  ((List.range n).map fun i => BitVec.ofNat 8 (Config.freeNat (s.free + i)), { s with free := s.free + n })

/-! ### Layout (R409, R410, R419) -/

def bitSector (s : State) (j : Nat) : Nat := (match s.part with | .thv4824 => 256 | _ => 512) + 64 * j
def loamBase (s : State) : Nat := match s.part with | .thv4824 => 384 | _ => 640
def loamCount (s : State) : Nat := match s.part with | .thv4824 => 104 | _ => 208
def loamMembers (s : State) : Nat := match s.part with | .thv4824 => 25 | _ => 50
def keySector (s : State) : Nat := loamBase s + loamCount s
def generalSector (s : State) : Nat := keySector s + 16
def imageSlots (s : State) : Nat := match s.part with | .thv4824 => 2 | _ => 4

def inLoam (s : State) (n : Nat) : Bool := decide (loamBase s ≤ n ∧ n < loamBase s + loamCount s)

/-! ### Reads (R411 to R413, R423, R427, R444) -/

/-- The estimate of R423 for a ring, in thousands of writes: a worn member counts at one tenth. -/
def ringForecast (s : State) (l : Nat) : Nat :=
  (((stGet [] s.loamRings l).map fun p =>
    let left := 2000000 - stGet 0 s.loamErases p
    if s.loamWorn.contains (loamBase s + p) then left / 10 else left).sum) / 1000

/-- FLC_FORECAST shows the logical sector with the least; the map rebuild sets it (R424, log entry 109). -/
def forecastSet (s : State) : State :=
  let l := (List.range 4).foldl (fun b l => if ringForecast s l < ringForecast s b then l else b) 0
  s.setFlds [(FLC_FORECAST_KWRITES, min (ringForecast s l) (2 ^ 24 - 1)), (FLC_FORECAST_LOGICAL, l)]

/-- A wear sign (R423). -/
def wearSign (s : State) (kind level sector : Nat) : State :=
  let s := s.setFlds [(FLC_WEAR_WEAR, 1), (FLC_WEAR_KIND, kind), (FLC_WEAR_SECTOR, sector)]
  let s := if kind = 1 then s.setFld FLC_WEAR_LEVEL level else s
  let s := s.fire 578 sector
  if inLoam s sector && kind ≠ 3 && !s.loamWorn.contains sector then { s with loamWorn := sector :: s.loamWorn } else s

/-- Page p of the die. -/
def State.fpage (s : State) (p : Nat) : FlashPage := stGet {} s.flash p

def State.setFpage (s : State) (p : Nat) (x : FlashPage) : State := { s with flash := stSet {} s.flash p x }

/-- The threshold level at which a codeword, pages 2i and 2i + 1, decodes; 8 where it does not. -/
def codeLevel (s : State) (p : Nat) : Nat × State :=
  let a := s.fpage p
  let b := s.fpage (p / 2 * 2 + (1 - p % 2))
  if a.known && b.known then (max a.level b.level, s) else
  let (r, s) := s.draw
  (r % 9, s)

/-- A page whose marker shows it erased: its read bypasses decryption and correction (R412). -/
def pageErased (s : State) (p : Nat) : Bool := let x := s.fpage p; x.known && !x.written

/-- The correction of a page's codeword (R413): none where it fails at every level, with the wear sign of a level that is reached; a
level-6 read outside Loam is reported (R423, log entry 139). -/
def codeCorrect (s : State) (p : Nat) : Bool × State :=
  let sector := p / 128
  let (lv, s) := codeLevel s p
  let s := if lv = 0 then s else s.bump FLC_RETRY_COUNT
  if 8 ≤ lv then (false, (s.bump FLC_UNCORR_COUNT).fire 580 sector)
  else
    let sign := if inLoam s sector then max 1 (s.fld FLC_CTL_WEAR_LEVEL) else 6
    let s := if sign ≤ lv then wearSign s 1 lv sector else s
    (true, if inLoam s sector && 6 ≤ lv && !s.loamMarked.contains sector then { s with loamMarked := sector :: s.loamMarked } else s)

/-- A read of one page: its 512 octets, or none where the codeword is uncorrectable.  `again` says that the same access has the codeword
already, by its first page. -/
def pageIn (s : State) (p : Nat) (again : Bool) : Option (List Byte) × State :=
  if 128 * s.part.flashSectors ≤ p then (some (List.replicate 512 0), s)
  else if s.flashDead then (none, s)
  else
    let x := s.fpage p
    if pageErased s p then (some (List.replicate 512 0xFF), s) else
    let (good, s) := if again then (true, s) else codeCorrect s p
    if !good || s.priv.root.isNone || !s.keysDerived then (none, s)
    else if x.known && x.root = s.priv.root.getD [] then (some x.data, s)
    else let (l, s) := freeOctets s 512; (some l, s)

/-- An access to one page alone. -/
def pageRead (s : State) (p : Nat) : Option (List Byte) × State := pageIn s p false

/-- Reads of pages in a row, in one access: `again` as in `pageIn`, for the first of them. -/
def pagesFrom (s : State) (p : Nat) (again : Bool) : Nat → Option (List Byte) × State
  | 0 => (some [], s)
  | n + 1 =>
    match pageIn s p again with
    | (none, s) => (none, s)
    | (some l, s) => match pagesFrom s (p + 1) (p % 2 == 0 && !pageErased s p) n with
      | (none, s) => (none, s)
      | (some r, s) => (some (l ++ r), s)

def pagesRead (s : State) (p n : Nat) : Option (List Byte) × State := pagesFrom s p false n

/-- `n` octets of flash from an offset, or none where a codeword is uncorrectable. -/
def flashRead (s : State) (off n : Nat) : Option (List Byte) × State :=
  match pagesRead s (off / 512) ((off + n + 511) / 512 - off / 512) with
  | (none, s) => (none, s)
  | (some l, s) => (some ((l.drop (off % 512)).take n), s)

/-- `n` octets that a master reads as the source of an operation; free where the source is no memory (log entry 19). -/
def sourceRead (s : State) (m a n : Nat) : List Byte × State :=
  if 0x10000000 ≤ a && a + n ≤ 0x14000000 then
    match flashRead s (a - 0x10000000) n with
    | (some l, s) => (l, s)
    | (none, s) => freeOctets s n
  else if (memAddr m a).isSome && (memAddr m (a + n - 1)).isSome then (s.rdN ((memAddr m a).getD 0) n, s)
  else freeOctets s n

/-! ### Channels (R414, R415) -/

/-- BUSY and QUEUED of FLC_STAT follow the work. -/
def flcRefresh (s : State) : State :=
  let chans := (s.flcQueue ++ (match s.flcRun with | some r => [r.1] | none => [])).map fun j => if j.who = 6 then 3 else j.who
  s.setFlds [(FLC_STAT_BUSY, b2n s.flcRun.isSome),
    (FLC_STAT_QUEUED, (List.range 4).foldl (fun m k => if chans.contains k then m + 2 ^ k else m) 0)]

/-- A channel's command ends (R424). -/
def chanEnd (s : State) (k result : Nat) : State :=
  if 4 ≤ k then s
  else (s.setFlds [(FLC_CSTAT_BUSY k, 0), (FLC_CSTAT_RESULT k, result)]).fire 576 (k + 16 * result)

/-- A region's bit of FLC_WPROT that covers a sector. -/
def wprotBit (s : State) (n : Nat) : Nat :=
  if n < 128 * imageSlots s then n / 128
  else if n < loamBase s then 4 + (n - bitSector s 0) / 64
  else if n < generalSector s then 6 else 7

/-- The refusals of R415: RESULT, or 0. -/
def flcRefuses (s : State) (m op sector page : Nat) : Nat :=
  if op < 1 || 6 < op then 2
  else if 4 ≤ op then (if 4 ≤ sector then 2 else 0)
  else if s.part.flashSectors ≤ sector || 127 < page then 2
  else if op = 3 then 0
  else if inLoam s sector then 3
  else if bitOf (s.reg FLC_WPROT).toNat (wprotBit s sector) then 3
  else if decide (keySector s ≤ sector ∧ sector < generalSector s) && m ≠ 13 && m ≠ 15 then 3
  else 0

/-! ### Loam (R419 to R421) -/

/-- CUR, PEND and PSECT of logical sector l as the map shows them. -/
def loamCur (s : State) (l : Nat) : Option Nat := if s.flag (FLC_LOAMMAP_VALID l) then some (s.fld (FLC_LOAMMAP_CUR l)) else none

/-- The ring member after the current copy. -/
def loamNext (s : State) (l : Nat) : Nat :=
  let ring := stGet [] s.loamRings l
  match loamCur s l with
  | none => ring.headD 0
  | some c =>
    let i := ring.findIdx (· == c - loamBase s)
    if i + 1 < ring.length then ring.getD (i + 1) 0 else ring.headD 0

/-- A ring member, by pool sector, is retired (R421): the spare that takes its place, where there is one.  A spare that is retired itself
is a spare no more (log entry 165). -/
def loamRetire (s : State) (p : Nat) : Option Nat × State :=
  if s.loamSpares.contains p then
    let rest := s.loamSpares.filter (· ≠ p)
    (none, wearSign ({ s with loamSpares := rest }.setFlds [(FLC_LOAMSTAT_SPARES_LEFT, rest.length),
      (FLC_LOAMSTAT_RETIRED, min 255 (s.fld FLC_LOAMSTAT_RETIRED + 1))]) 3 0 (loamBase s + p))
  else match s.loamSpares with
  | [] => (none, (s.setFld FLC_STAT_LOAM_DEGRADED 1).fire 579 0)
  | q :: rest =>
    let rings := s.loamRings.map fun e => (e.1, e.2.map fun x => if x = p then q else x)
    let s := { s with loamSpares := rest, loamRings := rings, loamMarked := s.loamMarked.filter (· ≠ loamBase s + p) }
    let s := s.setFlds [(FLC_LOAMSTAT_SPARES_LEFT, rest.length), (FLC_LOAMSTAT_RETIRED, min 255 (s.fld FLC_LOAMSTAT_RETIRED + 1))]
    (some q, wearSign s 3 0 (loamBase s + p))

/-- A page with its content from offset 0, the rest zero. -/
def pageOctets (l : List Byte) : List Byte := (l ++ List.replicate 512 0).take 512

/-- The header page of a copy of logical l in pool sector t (R420). -/
def loamHeader (s : State) (l t : Nat) : List Byte :=
  let ring := stGet [] s.loamRings l
  let payload := (List.range 126).flatMap fun i => (s.fpage (128 * (loamBase s + t) + i)).data
  let body := leBytes 4 0x48534854 ++ leBytes 1 l ++ leBytes 1 ring.length ++ leBytes 2 0
    ++ leBytes 4 (s.fld (FLC_LOAMVER_VERSION l) + 1) ++ leBytes 4 (crc32 (octNats payload))
    ++ (List.range 64).flatMap (fun i => leBytes 2 (ring.getD i 0xFFFF))
    ++ (List.range 64).flatMap (fun i => leBytes 4 (match ring[i]? with | some p => stGet 0 s.loamErases p | none => 0))
    ++ List.replicate 108 0
  body ++ leBytes 4 (crc32 (octNats body))

/-- The confirm page of a copy. -/
def loamConfirmPage (version : Nat) : List Byte := pageOctets (leBytes 4 0x46434854 ++ leBytes 4 version)

/-- FLC_LOAMSTAT.READY: the map is rebuilt and no torn Loam sector waits for its erase. -/
def loamReady (s : State) : Bool :=
  s.loamMapped && !(s.flcQueue.any (·.who = 4)) && !(match s.flcRun with | some r => r.1.who == 4 | none => false)

/-! ### The controller's work (R414, R421) -/

/-- An operation of the die starts for a piece of work; an erase sets its sector's cell (R418). -/
def primStart (s : State) (j : FlcJob) (p : FlcPrim) : State :=
  let s := { s with flcRun := some (j, p) }
  if p.kind = 2 then { s with flashCells := stSet false s.flashCells p.sector true } else s

/-- LWRITE programs page `i` of the payload, or the header after the last. -/
def lwritePage (s : State) (j : FlcJob) (i : Nat) : State :=
  let sector := loamBase s + j.target
  if i < 126 then
    let (l, s) := sourceRead s j.master (j.src + 512 * i) 512
    primStart s { j with stage := 2 + i } { kind := 1, sector := sector, page := i, data := l }
  else primStart s { j with stage := 128 } { kind := 1, sector := sector, page := 127, data := loamHeader s j.sector j.target }

/-- A piece of work is taken: its first operation starts, or it ends at once. -/
def jobStart (s : State) (j : FlcJob) : State :=
  if 4 ≤ j.who then primStart s j { kind := j.op, sector := j.sector, page := j.page, data := j.data } else
  let pend := s.flag (FLC_LOAMMAP_PEND j.sector)
  match j.op with
  | 1 =>
    let (l, s) := sourceRead s j.master j.src 512
    primStart s j { kind := 1, sector := j.sector, page := j.page, data := l }
  | 4 =>
    if s.flag FLC_STAT_LOAM_DEGRADED then chanEnd s j.who 6
    else if pend then chanEnd s j.who 7
    else
      let t := loamNext s j.sector
      primStart s { j with target := t } { kind := 3, sector := loamBase s + t }
  | 5 =>
    if !pend then chanEnd s j.who 8
    else primStart s j { kind := 1, sector := s.fld (FLC_LOAMMAP_PSECT j.sector), page := 126
                         data := loamConfirmPage (s.fld (FLC_LOAMVER_VERSION j.sector) + 1) }
  | 6 => if !pend then chanEnd s j.who 8 else primStart s j { kind := 2, sector := s.fld (FLC_LOAMMAP_PSECT j.sector) }
  | _ => primStart s j { kind := j.op, sector := j.sector }

/-- The controller takes work while it is idle and enabled: the oldest, but an LWRITE that is not refused waits for READY (R414, R417,
R418, R421). -/
def flcTake (s : State) : Nat → State
  | 0 => flcRefresh s
  | n + 1 =>
    if s.flcRun.isSome || !s.flag FLC_CTL_EN || s.flashDead || 2 ≤ s.dormStep then flcRefresh s else
    let can (j : FlcJob) : Bool := loamReady s || !(decide (j.who < 4) && j.op == 4) || s.flag FLC_STAT_LOAM_DEGRADED
      || s.flag (FLC_LOAMMAP_PEND j.sector)
    match s.flcQueue.findIdx? can with
    | none => flcRefresh s
    | some i =>
      match s.flcQueue[i]? with
      | none => flcRefresh s
      | some j => flcTake (jobStart { s with flcQueue := s.flcQueue.eraseIdx i } j) n

/-- Work is queued for the controller. -/
def flcQueueJob (s : State) (j : FlcJob) : State :=
  let s := { s with flcQueue := s.flcQueue ++ [j] }
  flcTake s (s.flcQueue.length + 1)

/-- A write of FLC_CMDk by a master (R414, R415); channel 3 is the update engine's while it is busy (R458). -/
def flcCmd (s : State) (m k w : Nat) : State :=
  if k = 3 && bitOf w 31 && s.flag UPD_STAT_BUSY then s.setFld (FLC_CSTAT_OVERRUN 3) 1
  else if s.flag (FLC_CSTAT_BUSY k) then (if bitOf w 31 then s.setFld (FLC_CSTAT_OVERRUN k) 1 else s.setReg (FLC_CMD k) (BitVec.ofNat 32 (w % 2 ^ 21)))
  else
    let s := s.setReg (FLC_CMD k) (BitVec.ofNat 32 (w % 2 ^ 21))
    if !bitOf w 31 then s else
    let op := w % 16
    let sector := bitsOf w 13 4
    let page := bitsOf w 20 14
    match flcRefuses s m op sector page with
    | 0 =>
      flcQueueJob (s.setFlds [(FLC_CSTAT_BUSY k, 1), (FLC_CSTAT_RESULT k, 0)])
        { who := k, op := op, sector := sector, page := page, src := s.fld (FLC_SRC_ADDR k), master := m }
    | r => chanEnd s k r

/-! ### The end of an operation -/

/-- Every page of a sector erased, or of unknown content. -/
def sectorFill (s : State) (sector : Nat) (x : FlashPage) : State :=
  forBelow 128 (fun s i => s.setFpage (128 * sector + i) x) s

/-- A slot's mark of FLC_SLOTINV clears when no torn sector of it is left (R418). -/
def slotInvRefresh (s : State) : State :=
  let cell (a n : Nat) : Bool := (List.range n).any fun i => stGet false s.flashCells (a + i)
  let img := (List.range (imageSlots s)).foldl (fun m i =>
    if bitOf (s.fld FLC_SLOTINV_IMAGE) i && cell (128 * i) 128 then m + 2 ^ i else m) 0
  let bst := (List.range 2).foldl (fun m j =>
    if bitOf (s.fld FLC_SLOTINV_BSTREAM) j && cell (bitSector s j) 64 then m + 2 ^ j else m) 0
  s.setFlds [(FLC_SLOTINV_IMAGE, img), (FLC_SLOTINV_BSTREAM, bst)]

/-- What an operation of the die leaves: `time` in 10 µs, an erase stopped at its maximum, a blank check that finds zero bits, and
the level at which a programmed page will decode.  Answers whether a blank check passed. -/
def primEffect (s : State) (p : FlcPrim) (time : Nat) (timeout dirty : Bool) (level : Nat) : Bool × State :=
  match p.kind with
  | 1 =>
    let n := 128 * p.sector + p.page
    let old := s.fpage n
    let x : FlashPage := { written := true, data := p.data, root := s.priv.root.getD [], level := level, known := !old.written && old.known }
    (true, (s.setFpage n x).bump FLC_PROG_COUNT)
  | 2 =>
    let s := if inLoam s p.sector then
        let q := p.sector - loamBase s
        { s with loamErases := stSet 0 s.loamErases q (stGet 0 s.loamErases q + 1) } else s
    let s := if 300 * max 1 (s.fld FLC_CTL_ERASE_NOM) < 2 * time then wearSign s 2 0 p.sector else s
    if timeout then (true, sectorFill s p.sector { written := true, known := false })
    else
      let s := { s with flashCells := stSet false s.flashCells p.sector false }
      (true, slotInvRefresh ((sectorFill s p.sector {}).bump FLC_ERASES_COUNT))
  | _ =>
    let clean := (List.range 128).all fun i => let x := s.fpage (128 * p.sector + i); !x.written && x.known
    let blank := clean && !dirty
    (blank, if blank then s else s.bump FLC_BLANKFAIL_COUNT)

/-- The Loam commands after one of their operations. -/
def loamStep (s : State) (j : FlcJob) (blank : Bool) : State :=
  let base := loamBase s
  match j.op with
  | 4 =>
    if j.stage = 1 then primStart s { j with stage := 0 } { kind := 3, sector := base + j.target }
    else if j.stage = 0 then
      if blank then lwritePage s j 0
      else if j.fails = 0 then primStart s { j with stage := 1, fails := 1 } { kind := 2, sector := base + j.target }
      else match loamRetire s j.target with
        | (none, s) => chanEnd s j.who 6
        | (some q, s) => primStart s { j with stage := 0, fails := 0, target := q } { kind := 3, sector := base + q }
    else if j.stage < 128 then lwritePage s j (j.stage - 1)
    else
      chanEnd ((s.setFlds [(FLC_LOAMMAP_PEND j.sector, 1), (FLC_LOAMMAP_PSECT j.sector, base + j.target)]).bump FLC_LWRITES_COUNT)
        j.who 1
  | 5 =>
    if j.stage = 1 then chanEnd s j.who 1 else
    let l := j.sector
    let old := loamCur s l
    let s := s.setFlds [(FLC_LOAMMAP_CUR l, s.fld (FLC_LOAMMAP_PSECT l)), (FLC_LOAMMAP_VALID l, 1),
      (FLC_LOAMVER_VERSION l, s.fld (FLC_LOAMVER_VERSION l) + 1), (FLC_LOAMMAP_PEND l, 0)]
    match old with
    | none => chanEnd s j.who 1
    | some o =>
      if s.loamMarked.contains o then chanEnd (loamRetire s (o - base)).2 j.who 1
      else primStart s { j with stage := 1 } { kind := 2, sector := o }
  | _ => chanEnd (s.setFld (FLC_LOAMMAP_PEND j.sector) 0) j.who 1

/-- The running operation ends (R414): its effect, and the work's next operation or its end.  Answers the work of the boot selection,
the update engine or the key-blob region whose operation has ended. -/
def flcPrimEnd (s : State) (time : Nat) (timeout dirty : Bool) (level : Nat) : Option (FlcJob × Bool) × State :=
  match s.flcRun with
  | none => (none, s)
  | some (j, p) =>
    let timeout := timeout && p.kind == 2
    let (blank, s) := primEffect { s with flcRun := none } p time timeout dirty level
    let s := if j.who < 4 then s.setFld (FLC_CSTAT_TIME j.who) (min time 65535) else s
    if j.who < 4 then
      if 4 ≤ j.op then (none, loamStep s j blank)
      else
        let s := if j.op = 3 then s.setFld (FLC_CSTAT_BLANK j.who) (b2n blank) else s
        (none, chanEnd s j.who (if timeout then 4 else 1))
    else if j.who = 4 then
      let s := if !timeout then s
        else if j.fails = 0 then { s with flcQueue := { j with fails := 1 } :: s.flcQueue }
        else (loamRetire s (j.sector - loamBase s)).2
      (none, s.setFld FLC_LOAMSTAT_READY (b2n (loamReady s)))
    else if j.who = 6 then
      let s := s.setFld (FLC_CSTAT_TIME 3) (min time 65535)
      let s := if j.op = 3 then s.setFld (FLC_CSTAT_BLANK 3) (b2n blank) else s
      (some (j, !timeout && blank), chanEnd s 3 (if timeout then 4 else 1))
    else (some (j, !timeout), s)

/-- A reset or the loss of a rail cuts the operation that runs (R417): a page half programmed, a sector half erased. -/
def flashCut (s : State) : State :=
  match s.flcRun with
  | some (_, p) =>
    if p.kind = 1 then { s with flcRun := none }.setFpage (128 * p.sector + p.page) { written := true, known := false }
    else if p.kind = 2 then sectorFill { s with flcRun := none } p.sector { written := true, known := false }
    else { s with flcRun := none }
  | none => s

/-! ### Start-up (R418, R422) -/

/-- Sorrel's scan of the unfinished-erase cells. -/
def tornScan (s : State) : State :=
  let torn := (List.range s.part.flashSectors).filter fun n => stGet false s.flashCells n
  let loam := torn.filter (inLoam s ·)
  let slots := torn.filter (· < loamBase s)
  let img := (List.range (imageSlots s)).foldl (fun m i => if slots.any fun n => n / 128 = i then m + 2 ^ i else m) 0
  let bst := (List.range 2).foldl (fun m j =>
    if slots.any fun n => decide (bitSector s j ≤ n ∧ n < bitSector s j + 64) then m + 2 ^ j else m) 0
  let s := s.setFlds [(FLC_TORN_COUNT, torn.length), (FLC_TORN_LOAM, b2n !loam.isEmpty), (FLC_TORN_SLOT, b2n !slots.isEmpty),
    (FLC_TORN_OTHER, b2n (torn.any fun n => decide (keySector s ≤ n))), (FLC_SLOTINV_IMAGE, img), (FLC_SLOTINV_BSTREAM, bst)]
  let s := forBelow 32 (fun s w => s.setFld (FLC_TORNMAP_MAP w)
    ((List.range 32).foldl (fun m j => if torn.contains (32 * w + j) then m + 2 ^ j else m) 0)) s
  let s := { s with flcQueue := s.flcQueue ++ loam.map fun n => ({ who := 4, op := 2, sector := n } : FlcJob) }
  s.fire 577 torn.length

/-- A good header of a Loam copy (R420): pool sector, logical sector, version, members, erase counts, and whether the confirm page
carries the same version. -/
structure LoamHdr where
  pool : Nat
  logical : Nat
  version : Nat
  members : List Nat
  erases : List Nat
  confirmed : Bool
  deriving DecidableEq, Repr

/-- The header of a pool sector, where it is good. -/
def loamRead (s : State) (p : Nat) : Option LoamHdr × State :=
  let base := 128 * (loamBase s + p)
  match pageRead s (base + 127) with
  | (none, s) => (none, s)
  | (some h, s) =>
    if ofLe (h.take 4) ≠ 0x48534854 || crc32 (octNats (h.take 508)) ≠ ofLe (h.drop 508) then (none, s) else
    let le (o n : Nat) := ofLe ((h.drop o).take n)
    let n := le 5 1
    let hdr : LoamHdr :=
      { pool := p, logical := le 4 1, version := le 8 4, members := (List.range n).map fun i => le (16 + 2 * i) 2
        erases := (List.range n).map fun i => le (144 + 4 * i) 4, confirmed := false }
    match pageRead s (base + 126) with
    | (none, s) => (some hdr, s)
    | (some c, s) =>
      (some { hdr with confirmed := ofLe (c.take 4) == 0x46434854 && ofLe ((c.drop 4).take 4) == hdr.version }, s)

/-- The good headers of `n` pool sectors from p. -/
def loamReads (s : State) (p : Nat) : Nat → List LoamHdr × State
  | 0 => ([], s)
  | n + 1 =>
    match loamRead s p with
    | (some h, s) => let (l, s) := loamReads s (p + 1) n; (h :: l, s)
    | (none, s) => loamReads s (p + 1) n

/-- The header of the highest version. -/
def loamBest (l : List LoamHdr) : Option LoamHdr :=
  l.foldl (fun b e => match b with | some x => if x.version < e.version then some e else b | none => some e) none

/-- The map of logical sector l from the good headers. -/
def loamMap (hs : List LoamHdr) (s : State) (l : Nat) : State :=
  let mine := hs.filter fun e => e.logical = l
  let s := match loamBest mine with
    | some h =>
      { s with loamRings := stInsert h.members s.loamRings l
               loamErases := (h.members.zip h.erases).foldl (fun m e => stSet 0 m e.1 e.2) s.loamErases }
    | none => { s with loamRings := stInsert ((List.range (loamMembers s)).map (loamMembers s * l + ·)) s.loamRings l }
  let cur := loamBest (mine.filter (·.confirmed))
  let ver := match cur with | some e => e.version | none => 0
  let pend := loamBest (mine.filter fun e => !e.confirmed && decide (ver < e.version))
  let sector (h : Option LoamHdr) : Nat := match h with | some e => loamBase s + e.pool | none => 0
  s.setFlds [(FLC_LOAMMAP_VALID l, b2n cur.isSome), (FLC_LOAMMAP_CUR l, sector cur), (FLC_LOAMVER_VERSION l, ver),
    (FLC_LOAMMAP_PEND l, b2n pend.isSome), (FLC_LOAMMAP_PSECT l, sector pend)]

/-- Sorrel rebuilds the Loam map (R422). -/
def loamRebuild (s : State) : State :=
  let s := { s with loamRings := [], loamErases := [], loamMarked := [], loamWorn := [] }.setFld FLC_STAT_LOAM_DEGRADED 0
  let (hs, s) := loamReads s 0 (loamCount s)
  let s := forBelow 4 (loamMap hs) s
  let spares := (List.range (loamCount s - 4 * loamMembers s)).map (4 * loamMembers s + ·)
  let free := spares.filter fun p => !(s.loamRings.any fun e => e.2.contains p)
  let s := { s with loamSpares := free, loamMapped := true }.setFlds [(FLC_LOAMSTAT_SPARES_LEFT, free.length), (FLC_LOAMSTAT_RETIRED, 0)]
  forecastSet (s.setFld FLC_LOAMSTAT_READY (b2n (loamReady s)))

/-! ### Commands -/

/-- A master writes FLC_CMDk with GO (R414, R415); a NORMAL-world master is refused. -/
def flcWrite (s : State) (m k op sector page : Nat) : State :=
  if masterSecure s m then flcCmd { s with busResult := .ok } m k (op + 16 * sector + 16384 * page + 2 ^ 31) else s.refuse

def execProgram (master : Master) (channel : Fin 4) (sector : Fin 1024) (page : Fin 128) (s : State) : Res :=
  ok (flcWrite s master channel 1 sector page)

def execErase (master : Master) (channel : Fin 4) (sector : Fin 1024) (s : State) : Res := ok (flcWrite s master channel 2 sector 0)

def execBlank (master : Master) (channel : Fin 4) (sector : Fin 1024) (s : State) : Res := ok (flcWrite s master channel 3 sector 0)

/-- LWRITE, LCONFIRM and LABANDON of a logical sector (R421). -/
def execLwrite (master : Master) (channel logical : Fin 4) (s : State) : Res := ok (flcWrite s master channel 4 logical 0)

def execLconfirm (master : Master) (channel logical : Fin 4) (s : State) : Res := ok (flcWrite s master channel 5 logical 0)

def execLabandon (master : Master) (channel logical : Fin 4) (s : State) : Res := ok (flcWrite s master channel 6 logical 0)

end Sys2Proof.Machine
end

