-- ==== Sys2Proof/Machine/Air.lean ====
section
/-! DEFINITION. Machine/Air.lean: the ports of a transmission, from the walk to the return to their base states, and the
ends a transmission can come to (R78, R79, R85, R99, R168). -/

namespace Sys2Proof.Machine

/-- Another transmission that walks, sends or ramps down on a port. -/
def otherUser (s : State) (lane p : Nat) : Option Nat :=
  (s.txLanes.find? fun e => e.1 ≠ lane && 2 ≤ e.2.stage && laneHas e.2 p).map (·.1)

/-- A port is in the PA window of some lane but this one, from step 2 of R85 to its ramp-down's end. -/
def otherPa (s : State) (lane p : Nat) : Bool :=
  s.txLanes.any fun e => e.1 ≠ lane && decide (3 ≤ e.2.stage) && e.2.cut == 0 && e.2.ports.any (·.1 == p)

/-- A port is let go by a transmission: PA off, and unless another one uses it, it heads for its held state (R78, R79): for its base
state where a committed transmission still has it in its set. -/
def portRelease (s : State) (lane p : Nat) : State :=
  match otherUser s lane p with
  | some m => s.setPortx p { s.portx p with txLane := m + 1, pa := otherPa s lane p }
  | none =>
    let x := s.portx p
    if commitHolds s p then
      (if x.txLane = 0 then s
       else (s.setPortx p { x with txLane := 0, pa := false, next := portHop 4 x.base }).setFlds
         [(RFP_STAT_TARGET p, x.base), (RFP_STAT_INTRANSIT p, 1)])
    else
      let old := portBand s p
      let lo := portAssign s p
      let s' := s.setPortx p { x with txLane := 0, pa := false, entry := none }
      -- a swap that came meanwhile acts now (R83): a band change through STANDBY, a move to the other LO group with a retune of it (R89)
      let s' := if portBand s' p = old then s' else s'.setPortx p { s'.portx p with bandDue := true }
      let s' := if portBand s' p = 1 && old = 1 && portAssign s' p ≠ lo
        then { s' with loWaiting := s'.loWaiting ||| 2 ^ portGroup s' p } else s'
      portAim (portRefresh (if x.txLane = 0 then s' else s'.setFld (RFP_STAT_INTRANSIT p) 0) p) p (portWant s' p)

/-- All ports of a lane's transmission are let go. -/
def portsRelease (s : State) (lane : Nat) : State :=
  let l := (s.txl lane).ports.map (·.1) ++ (s.txl lane).silent
  let s := { s with txLanes := s.txLanes.map fun e => if e.1 = lane then (e.1, { e.2 with ports := [], silent := [] }) else e }
  coxActRefresh (l.foldl (fun s p => portRelease s lane p) s)

/-- Step 1 of R85: a port starts its walk to TX; FEM_TR goes to its TX level and FEM_LNA to its off level (R78, R84). -/
def portWalk (s : State) (lane p : Nat) : State :=
  let x := s.portx p
  let s := s.setPortx p { x with next := 4, txLane := lane + 1, base := if x.txLane = 0 then portState s p else x.base }
  if x.txLane = 0 then
    portRefresh (s.setFlds [(RFP_STAT_STATE p, 4), (RFP_STAT_TARGET p, 4), (RFP_STAT_INTRANSIT p, 1)]) p
  else s

/-- Step 2 of R85: FEM_PA of a lane's ports turns on and COEX_ACT rises. -/
def paOn (s : State) (lane : Nat) : State :=
  coxActRefresh ((s.txl lane).ports.foldl (fun s e => s.setPortx e.1 { s.portx e.1 with pa := true }) s)

/-- COEX_REQ rises for a committed transmission of a governed band, and COEX_PRI with it where its class is selected
(R99). -/
def coxRise (s : State) (lane : Nat) : State :=
  let l := s.txl lane
  if l.committed && l.stage ≤ 4 && coxGoverns s l.band then
    s.setFlds [(COX_STAT_REQ, 1), (COX_STAT_PRI, b2n (s.flag COX_STAT_PRI || bitOf (s.fld COX_CTL_PRI_SRC) l.cls))]
  else s

/-- At a commit that falls later than REQ_LEAD before the air start, COEX_REQ rises at once (R99). -/
def coxAtCommit (s : State) (lane : Nat) : State :=
  if (s.txl lane).airStart ≤ s.venue + 1000 * s.fld COX_CTL_REQ_LEAD then coxRise s lane else s

/-- What follows a request's transmission when it has ramped down (R168, R211, R217): the next strobe, the wait for an
acknowledgement, or the report. -/
def reqSent (s : State) (num : Nat) (q : TxReq) (lane : Nat) (e : Nat) : State :=
  if q.form = 2 && q.strobe < q.strobes then
    let left := q.strobes - q.strobe - 1
    let s := s.setReq num { q with strobe := q.strobe + 1 }
    txLaneSet s lane { s.txl lane with stage := 0, ports := [], silent := [], weights := [], committed := false } 3 2 left
  else
    let s := txLaneFree s lane
    if qFlag q 0 && q.endAs = 0 then txRefresh (s.setReq num { q with phase := 7, waitEnd := ackWaitEnd s q e })
    else reqEnd (s.setReq num { q with phase := 7 }) num 0

/-- A transmission ends before or while it is on air with a status (R90, R99, R100, R170): its ports go back, its lane is
free, and its request is reported; an acknowledgement's frame record is told by its caller.  Its blanking ends 9 µs after the cut (DESIGN
CHOICE, log entry 161). -/
def laneCut (s : State) (lane status : Nat) : State :=
  let l := s.txl lane
  let s := portsRelease s lane
  let blanks := s.blanks.map fun b =>
    if b.lane = lane + 1 && s.venue + 9000 < b.stop then { b with stop := max b.start (s.venue + 9000) } else b
  let s := cancelFree { s with blanks := blanks } lane
  let s := if l.owner = 2 then reqEnd s l.ref status else s
  coxReqRefresh (if s.txLanes.any (·.1 = lane) then txLaneFree s lane else s)

end Sys2Proof.Machine
end

