-- ==== Sys2Proof/Machine/Link.lean ====
section
/-! DEFINITION. Machine/Link.lean: the link controller: filtering, lookup, reservations, security, verdicts,
acknowledgements, delivery and the update port, as shared operations (R175 to R204). -/

namespace Sys2Proof.Machine

/-! ### Frames in the link controller -/

def State.frame (s : State) (f : Nat) : Option RxFrame := (s.frames.find? (·.1 = f)).map (·.2)

def State.setFrame (s : State) (f : Nat) (x : RxFrame) : State := { s with frames := stInsert x s.frames f }

/-- The lowest unused frame number. -/
def freeFrame (s : State) : Nat := firstGap (s.frames.map (·.1)) 0

/-- A field of a kept policy word: 0 LNK_CTL, 1 PANID, 2 EXTL, 3 EXTH, 4 ABLK, 5 DELIV, 6 ACKPWR. -/
def polField (p : List Nat) (word hi lo : Nat) : Nat := bitsOf (p.getD word 0) hi lo

def polPan (p : List Nat) : Nat := polField p 1 15 0
def polCoord (p : List Nat) : Nat := polField p 1 31 16
def polExt (p : List Nat) : List Byte := leBytes 4 (p.getD 2 0) ++ leBytes 4 (p.getD 3 0)
def polBase (p : List Nat) : Nat := polField p 4 15 0
def polSize (p : List Nat) : Nat := polField p 4 30 16

/-- The profile of a frame whitens or checks under its mode. -/
def frameMode (x : RxFrame) : Nat := pwMode x.words

/-! ### Rejections (R180, R201) -/

/-- LNK_LASTREJ names the record and the failing test. -/
def lastRej (s : State) (node : Option Nat) (reason : Nat) : State :=
  s.setFlds [(LNK_LASTREJ_NODE, node.getD 0x3FFF), (LNK_LASTREJ_REASON, reason)]

/-! ### Blanking applied (R116, R153) -/

/-- The ports of an acknowledgement that is withdrawn go back; in case 1 of R114, after the walk has begun, the band is
deaf from A − 8 µs to A + 8 µs (R189). -/
def ackPortsBack (s : State) (lane : Nat) : State :=
  let l := s.txl lane
  let s :=
    if 2 ≤ l.stage && !rxOnlyInRx s l.band && !l.committed then
      addBlank s { band := l.band, scope := 0, start := l.airStart - 8000, stop := l.airStart + 8000 }
    else s
  coxReqRefresh (txLaneFree (cancelFree (portsRelease s lane) lane) lane)

/-- A prepared acknowledgement is withdrawn (R188): nothing goes on air, its lane is free and LNK_ACKWD counts. -/
def ackWithdraw (s : State) (f : Nat) : State :=
  match s.frame f with
  | none => s
  | some x =>
    match x.ackLane with
    | none => s
    | some lane =>
      let s := s.setFrame f { x with ack := 4, ackLane := none }
      (ackPortsBack s lane).bump LNK_ACKWD_COUNT

/-- The reservations of a frame's buffer slot and place are returned (R184, R198, R472). -/
def resReturn (s : State) (f : Nat) : State :=
  match s.frame f with
  | none => s
  | some x =>
    let s := match x.slot with | some n => slotFree s n | none => s
    let s := match x.dest with | some d => rsvSub s d | none => s
    s.setFrame f { x with slot := none, dest := none }

/-- A frame's lane delivers nothing more to the link controller. -/
def laneMute (s : State) (f : Nat) : State :=
  { s with rxLanes := s.rxLanes.map fun e => if e.2.frame = f + 1 then (e.1, { e.2 with frame := 0, dropped := true }) else e }

/-- A frame is dropped: its acknowledgement is withdrawn and everything it holds is returned (R180, R184, R188). -/
def frameDrop (s : State) (f : Nat) : State :=
  match s.frame f with
  | none => s
  | some x =>
    let s := if x.ack = 1 || x.ack = 2 then ackWithdraw s f else s
    let s := streamClose (resReturn s f) x.stream
    laneMute { s with frames := stErase s.frames f } f

/-- A frame leaves the link controller when nothing of it is outstanding: its acknowledgement has ended and it is
delivered or has nothing to deliver. -/
def frameGc (s : State) (f : Nat) : State :=
  match s.frame f with
  | none => s
  | some x =>
    if x.outcome ≠ 0 && x.ackLane.isNone && x.slot.isNone && !x.flood && (x.micDone || !x.secured || x.outcome = 2) then
      { s with frames := stErase s.frames f }
    else s

/-- A receive lane ends its frame early (R149, R160, R169, R116): the link controller withdraws what it has prepared, and
the lane is released. -/
def laneEndEarly (s : State) (n : Nat) : State :=
  match s.rxl n with
  | none => s
  | some x => laneClose (if x.frame = 0 then s else frameDrop s (x.frame - 1)) n 1

/-- A frame on a lane had ended at the ball by an instant. -/
def endedBy (x : RxLane) (t : Nat) : Bool := x.endAt ≠ 0 && decide (x.endAt ≤ t)

/-- The start of a blanking interval: lanes whose frame has not ended are aborted and counted in BLANKED, and open window
groups are discarded with their detections (R116, R153). -/
def blankApply (s : State) (b : Blank) : State :=
  let s := (busyRx s).foldl (fun s n =>
    match s.rxl n with
    | some x =>
      if laneBlanked s b (rxBin s n) && !endedBy x b.start then
        let k := rxBin s n
        laneEndEarly (s.bump (SPX_BIN1_BLANKED k)) n
      else s
    | none => s) s
  (s.groups.map (·.1)).foldl (fun s k =>
    if b.covers s k then s.setGroups k ((s.binGroups k).filter (·.closed)) else s) s

/-! ### Lookup point (R180 to R184) -/

/-- The record a source address names, if there is one (R176). -/
def sourceRecord (s : State) (p : List Nat) (l : List Byte) : Option Nat :=
  if (fcfOf l).srcMode = 2 then shortRecord s (polBase p) (polSize p) (leAt (frameSrc l) 0 2)
  else extRecord s (frameSrc l)

/-- The octets of a record that R182 establishes. -/
def newRecord (cls keyIx : Nat) (ext : List Byte) : List Byte :=
  leBytes 1 1 ++ leBytes 1 0 ++ ext ++ leBytes 2 0xFFFE ++ leBytes 1 cls ++ leBytes 1 keyIx ++ List.replicate 48 0

/-- Tests 5 to 7 of R180 and test 8 where it is made at the lookup point: the order of the first that fails, or 0; and
whether test 8 waits for the command identifier. -/
def addressTests (p : List Nat) (l : List Byte) : Nat × Bool :=
  let f := fcfOf l
  let dst := frameDst l
  let ok5 := match frameDstPan l with | some d => d == polPan p || d == 0xFFFF | none => true
  let ok6 := match f.dstMode with
    | 0 => (match frameSrcPan l with | some d => d == polPan p | none => true)
    | 2 => leAt dst 0 2 == polCoord p || leAt dst 0 2 == 0xFFFF
    | _ => dst == polExt p
  let srcPan := frameSrcPan l
  let ok8 := match srcPan with | some d => d == polPan p | none => true
  let later := !f.sec && f.type == 3 && srcPan == some 0xFFFF
  if !ok5 then (5, false) else if !ok6 then (6, false) else if f.srcMode = 0 then (7, false)
  else if ok8 then (0, false) else if later then (0, true) else (8, false)

/-- The frame of a lane enters the link controller. -/
def frameOpen (s : State) (n : Nat) (x : RxLane) (l : List Byte) : Nat × State :=
  let f := freeFrame s
  let fr : RxFrame := { lane := n, det := x.det, bin := rxBin s n, words := x.words, policy := x.policy, plane := x.plane
                        syncErr := s.fld (PHY_RXSTAT_SYNC_ERR n), octets := l, len := x.len, fcs4 := x.fcs4
                        endAt := x.endAt, syncTime := x.syncTime, white := x.white, beamPlane := x.beamPlane
                        fld := [(s.reg (FLD_CTL + 0x8000)).toNat, (s.reg (FLD_JIT + 0x8000)).toNat,
                                (s.reg (FLD_SILT + 0x8000)).toNat] }
  (f, (s.setFrame f fr).setRxl n { x with frame := f + 1 })

/-- The frame of a lane fails a test before it entered the link controller. -/
def laneReject (s : State) (n : Nat) (x : RxLane) (node : Option Nat) (reason : Nat) (cnt : Field) : State :=
  (lastRej (s.bump cnt) node reason).setRxl n { x with dropped := true }

/-- An acknowledgement is prepared: a transmit lane is reserved, or its lack counted (R184, R186). -/
def ackPrepare (s : State) (f : Nat) : State :=
  match s.frame f with
  | none => s
  | some x =>
    let h := fcfOf x.octets
    if polField x.policy 0 1 1 = 0 || !h.ar || x.bcast then s
    else match freeTx s with
      | none => s.bump LNK_NORES_COUNT
      | some t =>
        let s := s.setFrame f { x with ack := 1, ackLane := some t }
        txLaneSet s t { owner := 1, ref := f, band := binBand x.bin, bin := x.bin, prof := x.det.prof, cls := 0
                        airStart := x.endAt + ackTurnNs x.words
                        airEnd := x.endAt + ackTurnNs x.words + ackAirNs x.words h.seqSup x.fcs4 } 1 0 0

/-- Test 11: a buffer slot and a place are reserved for a destination, or `none` where one is lacking (R184, R472). -/
def reserve (s : State) (d : Nat) : Option (Nat × State) :=
  if placeFree s d then
    match slotTake s with
    | some (n, s) => some (n, rsvAdd s d)
    | none => none
  else none

/-- A lacking place on a host ring counts in NOPLACE (R472). -/
def noPlace (s : State) (d : Nat) : State :=
  if 16 ≤ d && !placeFree s d then s.bump (HIF_RXCNT_NOPLACE (d - 16)) else s

/-- Tests 10 to 12 at the lookup point for a frame whose record is found or established, and the preparation of its
acknowledgement, which tests 10 and 12 withdraw (R188). -/
def lookupRest (s : State) (n : Nat) (x : RxLane) (l : List Byte) (ri : Nat) (isNew later : Bool) : State :=
  let h := fcfOf l
  let bcast := h.dstMode == 2 && leAt (frameDst l) 0 2 == 0xFFFF
  if recState s ri = 4 then
    let prepared := polField x.policy 0 1 1 = 1 && h.ar && !bcast && (freeTx s).isSome
    laneReject (if prepared then s.bump LNK_ACKWD_COUNT else s) n x (some ri) 10 LNK_FILT_COUNT
  else
    let w := (stGet 0 (s.plane x.plane 7).tables (tableKey 8 0 (recClass s ri))).toNat
    let (dest, en) := if h.type = 1 then (destOf (w % 64), bitOf w 6) else (destOf (bitsOf w 13 8), bitOf w 14)
    match (if en then reserve s dest else none) with
    | none => laneReject (if en then noPlace s dest else s) n x (some ri) 11 LNK_NORES_COUNT
    | some (slot, s) =>
      let (f, s) := frameOpen s n x l
      match s.frame f with
      | none => s
      | some fr =>
        let s := s.setFrame f { fr with node := some ri, recRead := s.rdN (recAddr ri) 64, isNew := isNew, slot := some slot
                                        dest := some dest, test8 := later, secured := h.sec
                                        bcast := bcast }
        let s := ackPrepare s f
        if !h.sec && bitOf (recFlags s ri) 3 then frameDrop (lastRej (s.bump LNK_SECERR_COUNT) (some ri) 12) f else s

/-- The lookup point of the frame a lane receives, with the MAC octets delivered so far (R180, R182, R200). -/
def lookup (s : State) (n : Nat) (l : List Byte) : State :=
  match s.rxl n with
  | none => s
  | some x =>
    let h := fcfOf l
    if x.frame ≠ 0 || x.dropped || l.length < 2 then s
    else if s.act LNK_CTL_EN = 0 || s.fld PWR_STATE_CUR = 4 || 3 < h.type || h.dstMode = 1 || h.srcMode = 1 then laneReject s n x none 1 LNK_FILT_COUNT
    else if h.ver = 3 then laneReject s n x none 2 LNK_FILT_COUNT
    else if h.type = 0 || h.type = 2 then (frameOpen s n x l).2
    else if l.length < h.addrEnd then s
    else
      let (bad, later) := addressTests x.policy l
      if bad ≠ 0 then laneReject s n x none bad LNK_FILT_COUNT
      else match sourceRecord s x.policy l with
        | some ri =>
          let (bad, s) := s.eccRead (recAddr ri) 64
          if bad then laneReject s n x (some ri) 9 LNK_NORES_COUNT else lookupRest s n x l ri false later
        | none =>
          if h.srcMode = 2 then
            (laneReject s n x none 9 LNK_NOREC_COUNT).fire 257 (leAt (frameSrc l) 0 2)
          else if polField x.policy 0 3 3 = 0 then laneReject s n x none 9 LNK_NOREC_COUNT
          else match freeRecord s with
            | none => laneReject s n x none 9 LNK_NORES_COUNT
            | some ri =>
              let s := recCommit s ri 2 (newRecord (polField x.policy 5 13 8) 0 (frameSrc l))
              lookupRest s n x l ri true later

/-- Test 8 of an unsecured Association Request with source PAN ID 0xFFFF, made on its command identifier (R180). -/
def assocCheck (s : State) (f cmd : Nat) : State :=
  match s.frame f with
  | none => s
  | some x =>
    if !x.test8 then s
    else if cmd = 1 then s.setFrame f { x with test8 := false }
    else frameDrop (lastRej (s.bump LNK_FILT_COUNT) x.node 8) f

/-! ### Persistence of frame counters (R194) -/

/-- Post an entry to the persistence ring; a full or disabled ring takes none. -/
def persistPost (s : State) (n fc : Nat) : State × Bool :=
  let size := s.fld LNK_PRCFG_SIZE
  let head := s.fld LNK_PRHEAD_HEAD
  if size = 0 || ringNext size head = s.fld LNK_PRTAIL_TAIL then (s, false)
  else
    let s := s.wrN (s.fld LNK_PRBASE_BASE + 16 * head) (leBytes 4 n ++ leBytes 4 fc ++ recExt s n)
    let s := (s.setFld LNK_PRHEAD_HEAD (ringNext size head)).fire 256 n
    ({ s with persistOut := stSet false s.persistOut n true }, true)

/-! ### Security point (R180, R192 to R194, R447) -/

/-- The key index that a frame gives the record it has established, on a commit of its own once the auxiliary security header is there
(R182; log entry 152). -/
def keyIndexPut (s : State) (x : RxFrame) (ri : Nat) (a : Aux) : State :=
  if x.isNew && !x.race && a.kim = 1 && recKeyIndex s ri ≠ a.keyIx then recCommit s ri 15 (leBytes 1 a.keyIx) else s

/-- Tests 12 and 13 of a secured frame at its security point. -/
def securityTests (s : State) (f : Nat) (l : List Byte) : State :=
  match s.frame f with
  | none => s
  | some x =>
    let a := auxOf l
    let ri := x.node.getD 0
    if !x.secured || x.stream.isSome || l.length < a.stop then s else
    let s := keyIndexPut (s.setFrame f { x with octets := l }) x ri a
    let ki := if a.kim = 1 then a.keyIx else leAt x.recRead 15 1
    let levelOk := a.level % 4 ≠ 0 && a.kim < 2 && a.hasFc && a.fc ≠ 0xFFFFFFFF
    let slot := if levelOk then keyIndexSlot s x.plane ki else none
    let drop (s : State) (reason : Nat) (cnt : Field) := frameDrop (lastRej (s.bump cnt) (some ri) reason) f
    match slot with
    | none => drop s 12 LNK_SECERR_COUNT
    | some slot =>
      match streamOpen s with
      | (s, none) => drop s 12 LNK_SECERR_COUNT
      | (s, some page) =>
        let src := frameSrc l
        let ext := if src.length = 8 then src else (x.recRead.drop 4).take 8
        let s := s.setFrame f { x with octets := l, stream := some page, key := natOcts (nodeKey s slot ext), keyIx := ki }
        let fcValid := bitOf (leAt x.recRead 3 1) 1
        if a.fc < (if fcValid then leAt x.recRead 20 4 else leAt x.recRead 28 4) then drop s 13 LNK_REPLAY_COUNT
        else if leAt x.recRead 24 4 + 4096 ≤ a.fc &&
            !(s.flag FLC_STAT_LOAM_DEGRADED && polField x.policy 0 2 2 = 1) then
          drop (persistPost s ri a.fc).1 13 LNK_FCHOLD_COUNT
        else s

/-! ### Verdict (R190 to R194) -/

/-- The command identifier of an unsecured MAC command. -/
def commandId (l : List Byte) : Nat := octAt l (payloadAt l)

/-- The frame is an unsecured Association Request (R183). -/
def isAssoc (x : RxFrame) : Bool := !x.secured && (fcfOf x.octets).type == 3 && commandId x.octets == 1

/-- The device millisecond count at a venue time not later than now. -/
def msAt (s : State) (t : Nat) : Nat := (s.uptime - (s.venue - t)) / 1000000 % 2 ^ 32

/-- What R192 compares of a record: FC_VALID, LAST_FC, LAST_HASH, DSN_VALID, LAST_DSN, LAST_RX_MS, as it stands after the
verdicts before this one, a NEW verdict whose MIC result has not come yet included (R191). -/
structure SeqState where
  fcValid : Bool
  lastFc : Nat
  lastHash : Nat
  dsnValid : Bool
  lastDsn : Nat
  lastMs : Nat
  deriving DecidableEq, Repr

/-- The sequence state after a NEW verdict on a frame. -/
def seqAfter (s : State) (q : SeqState) (x : RxFrame) : SeqState :=
  let h := fcfOf x.octets
  { fcValid := q.fcValid || x.secured, lastFc := if x.secured then (auxOf x.octets).fc else q.lastFc
    lastHash := fcsHash x.fcs4 x.octets, dsnValid := !h.seqSup, lastDsn := frameDsn x.octets, lastMs := msAt s x.endAt }

/-- The sequence state that record n holds. -/
def recSeq (s : State) (n : Nat) : SeqState :=
  let fl := recFlags s n
  { fcValid := bitOf fl 1, lastFc := recLe s n 20 4, lastHash := recLe s n 18 2, dsnValid := bitOf fl 0
    lastDsn := recLe s n 16 1, lastMs := recLe s n 32 4 }

/-- The sequence state of record n at a verdict. -/
def seqOf (s : State) (n : Nat) : SeqState :=
  s.frames.foldl (fun q e =>
    if e.2.node = some n && e.2.outcome = 1 && e.2.secured && !e.2.micDone && !e.2.race then seqAfter s q e.2 else q) (recSeq s n)

/-- The decision of R192: 1 NEW, 2 DUPLICATE, 3 REPLAY. -/
def seqDecide (q : SeqState) (x : RxFrame) (now floor : Nat) : Nat :=
  let hash := fcsHash x.fcs4 x.octets
  if x.secured then
    let fc := (auxOf x.octets).fc
    if q.fcValid then
      if fc < q.lastFc then 3 else if fc = q.lastFc then (if hash = q.lastHash then 2 else 3) else 1
    else if fc < floor then 3 else 1
  else if q.dsnValid && !(fcfOf x.octets).seqSup && frameDsn x.octets = q.lastDsn && hash = q.lastHash
      && (now + 2 ^ 32 - q.lastMs) % 2 ^ 32 < 2000 then 2
  else 1

/-- The record update of a NEW frame, on one commit (R192, R194, R228, R231); a record that the update port has touched
since the lookup point keeps its content and the lost update is counted (R178).  A secured frame whose MIC result comes after the
update of a later verdict adds its frame counter alone (R191). -/
def newCommit (s : State) (x : RxFrame) : State :=
  match x.node with
  | none => s
  | some n =>
    if x.race then s.bump LNK_RECRACE_COUNT else
    let old := recSeq s n
    let q := if x.overtaken then { old with fcValid := true, lastFc := max old.lastFc (auxOf x.octets).fc } else seqAfter s old x
    let fl := recFlags s n
    let stale := recState s n = 3
    let st := if stale then (if recShort s n ≠ 0xFFFE then 2 else 1) else recState s n
    -- persistence entry before the commit that carries PERSIST_DUE
    let far := x.secured && recPersisted s n + 2048 ≤ q.lastFc && !stGet false s.persistOut n
    let (s, posted) := if far then persistPost s n q.lastFc else (s, false)
    let fl := (fl / 8 * 8) + b2n q.dsnValid + 2 * b2n q.fcValid + 4 * (if posted then 1 else bitsOf fl 2 2)
    let sleepy := bitOf fl 4 && recLe s n 42 2 ≠ 0 && !x.overtaken
    let old := s.rdN (recAddr n) 64
    let body := leBytes 1 st ++ leBytes 1 fl ++ (old.drop 4).take 12 ++ leBytes 1 q.lastDsn ++ (old.drop 17).take 1
      ++ leBytes 2 q.lastHash ++ leBytes 4 q.lastFc ++ (old.drop 24).take 8 ++ leBytes 4 q.lastMs
      ++ (if sleepy then leBytes 6 (x.det.start % 2 ^ 48) else (old.drop 36).take 6) ++ (old.drop 42).take 3
      ++ leBytes 1 0 ++ (old.drop 46).take 2
      ++ (if sleepy then leBytes 4 (if s.ms = 0 then 1 else s.ms) else (old.drop 48).take 4)
      ++ (if stale then leBytes 4 0 else (old.drop 52).take 4)
    recCommit s n 2 body

/-- A frame is accepted: its signature is written (R130). -/
def acceptSig (s : State) (x : RxFrame) : State :=
  match x.node with | some n => sigWrite s n x.det x.bin | none => s

/-- The payload octets of a frame: after the headers, before MIC and FCS. -/
def macPayload (x : RxFrame) : List Byte :=
  let mic := if x.secured then micLen (auxOf x.octets).level else 0
  (x.octets.take (x.octets.length - fcsLen x.fcs4 - mic)).drop (payloadAt x.octets)

/-- A NEW frame goes on to delivery: a flood waits for Vetch, a broadcast with a bad flood header counts in FLD_BADHDR
(R181, R236). -/
def goDeliver (s : State) (f : Nat) : State :=
  match s.frame f with
  | none => s
  | some x =>
    let ctl := x.fld.getD 0 0
    let p := macPayload x
    let disp := x.bcast && (fcfOf x.octets).type == 1 && !p.isEmpty && octAt p 0 == bitsOf ctl 15 8 && bitOf ctl 0
    let bad := disp && (decide (p.length < 13) || octAt p 12 / 64 != 0)
    let s := if bad then s.bump FLD_BADHDR_COUNT else s
    s.setFrame f { x with deliver := true, flood := disp && !bad }

/-- The poll that a frame makes which is accepted and whose acknowledgement went on air with the pending bit (R230). -/
def pollBy (s : State) (x : RxFrame) : State :=
  match x.node with | some n => if x.accepted && x.aired && x.pendBit then pollPlace s n x.bin else s | none => s

/-- The verdict on a frame whose octets are complete (R180 tests 14 and 15, R192).  The FCS of a beacon counts whatever BEACON_EN is (DESIGN
CHOICE, log entry 162). -/
def verdict (s : State) (f : Nat) : State :=
  match s.frame f with
  | none => s
  | some x =>
    if x.octets.length < x.len || x.len = 0 || x.outcome ≠ 0 then s
    else if !fcsGood x.fcs4 x.octets then frameDrop (lastRej (s.bump LNK_FCSERR_COUNT) x.node 14) f
    else match (fcfOf x.octets).type with
    | 0 =>
      if polField x.policy 5 6 6 = 0 then frameDrop s f
      else
        let d := destOf (polField x.policy 5 5 0)
        match reserve s d with
        | none => frameDrop (lastRej ((noPlace s d).bump LNK_NORES_COUNT) none 11) f
        | some (slot, s) => s.setFrame f { x with slot := some slot, dest := some d, outcome := 1, deliver := true, micDone := true }
    | 2 => frameDrop s f
    | _ =>
      match x.node with
      | none => frameDrop s f
      | some n =>
        match seqDecide (seqOf s n) x (msAt s x.endAt) (recLe s n 28 4) with
        | 3 => frameDrop (lastRej (s.bump LNK_REPLAY_COUNT) x.node 15) f
        | 2 =>
          let s := streamClose (acceptSig ((lastRej s x.node 15).bump LNK_DUP_COUNT) x) x.stream
          let x := { x with outcome := 2, stream := none, micDone := true, recDone := true, accepted := true }
          frameGc (resReturn (pollBy (s.setFrame f x) x) f) f
        | _ =>
          let x := { x with outcome := 1, assoc := isAssoc x }
          if x.secured then s.setFrame f x
          else
            let x := { x with micDone := true, recDone := true, accepted := true }
            goDeliver (pollBy (acceptSig (newCommit (markOvertaken (s.setFrame f x) n) x) x) x) f

/-- The MIC result of a NEW secured frame (R193). -/
def micResult (s : State) (f : Nat) : State :=
  match s.frame f with
  | none => s
  | some x =>
    if x.outcome ≠ 1 || !x.secured || x.micDone then s else
    let body := x.octets.take (x.octets.length - fcsLen x.fcs4)
    let fcs := x.octets.drop (x.octets.length - fcsLen x.fcs4)
    let src := frameSrc body
    let ext := if src.length = 8 then src else (x.recRead.drop 4).take 8
    let (plain, good) := unprotect (octNats x.key) ext body
    let s := streamClose s x.stream
    if good && !x.key.isEmpty then
      -- the record commits from the frame as it was received, whose hash and counter decide
      let s := newCommit (s.setFrame f { x with stream := none, micDone := true }) x
      let x' := { x with stream := none, micDone := true, recDone := true, accepted := true, octets := plain ++ fcs, race := x.race }
      goDeliver (pollBy (acceptSig (s.setFrame f x') x') x') f
    else
      let s := lastRej (s.bump LNK_SECERR_COUNT) x.node 16
      frameGc (resReturn (s.setFrame f { x with stream := none, micDone := true }) f) f

/-! ### Acknowledgement content (R185, R190) -/

/-- The octets of the acknowledgement of a frame, with its FCS. -/
def ackFrame (x : RxFrame) : List Byte :=
  let h := fcfOf x.octets
  let fc := 2 + 16 * b2n x.pendBit + 256 * b2n h.seqSup + 4096 * h.ver
  let body := leBytes 2 fc ++ (if h.seqSup then [] else leBytes 1 (frameDsn x.octets))
  body ++ fcsOf x.fcs4 body

/-! ### Delivery (R196, R197) -/

/-- The receive descriptor of a frame; what it carries of a beacon and of an implicit key is a DESIGN CHOICE (log entry 163). -/
def descriptorOf (s : State) (x : RxFrame) : List Byte :=
  let h := fcfOf x.octets
  let a := auxOf x.octets
  let n := x.node.getD 0x3FFF
  let acked := 1 ≤ x.ack && x.ack ≤ 3
  let prop := if x.assoc then
      (if n < polSize x.policy then polBase x.policy + n else 0xFFFF) else 0xFFFF
  let flags := b2n acked + 2 * b2n h.ar + 4 * b2n x.secured + 8 * b2n x.collided + 16 * b2n x.isNew + 32 * b2n x.assoc
    + 64 * b2n x.bcast + 128 * b2n x.fcs4 + 256 * b2n (acked && x.pendBit) + 512 * b2n x.race
  leBytes 4 (slotAddr s (x.slot.getD 0)) ++ leBytes 2 x.len ++ leBytes 2 n ++ leBytes 6 (x.endAt % 2 ^ 48)
    ++ leBytes 2 (x.bin + 512 * x.det.prof + 8192 * x.syncErr) ++ leBytes 1 (wrapOf 8 x.det.snr) ++ leBytes 1 x.det.beam
    ++ leBytes 2 x.cfo ++ leBytes 2 flags ++ leBytes 1 (if x.node.isSome then recClass s n else 0)
    ++ leBytes 1 (frameDsn x.octets) ++ leBytes 2 prop
    ++ leBytes 1 (if x.secured then a.level + 8 * a.kim else 0) ++ leBytes 1 (if x.secured then a.keyIx else 0)
    ++ leBytes 4 (if x.secured then a.fc else 0)

/-- The descriptor of an accepted frame is written to its engine queue or host ring (R196, R471); a beacon does not count in LNK_RXOK (DESIGN
CHOICE, log entry 163). -/
def describe (s : State) (f : Nat) : State :=
  match s.frame f with
  | none => s
  | some x =>
    match x.slot, x.dest with
    | some slot, some d =>
      if !x.deliver || x.flood then s else
      let s := s.wrEntry (s.fld LNK_BUFCFG_COUNT) slot (s.fld LNK_BUFBASE_BASE) 2048 x.octets
      let desc := descriptorOf s x
      let s := if (fcfOf x.octets).type = 0 then s else s.bump LNK_RXOK_COUNT
      let s := s.setFrame f { x with slot := none, dest := none, described := true }
      let s :=
        if d < 16 then
          let i := s.fld (LNK_EQHEAD_HEAD d)
          let s := s.wrEntry (s.fld (LNK_EQSIZE_SIZE d)) i (s.fld (LNK_EQBASE_BASE d)) 32 desc
          rsvSub (s.setFld (LNK_EQHEAD_HEAD d) (ringNext (s.fld (LNK_EQSIZE_SIZE d)) i)) d
        else hostDue s { kind := 0, ring := d - 16, data := desc, slot := slot }
      frameGc s f
    | _, _ => s

/-! ### Update port (R177, R178, R195, R214) -/

/-- The image with GEN and PENDING as the port sets them (R177, R214). -/
def updBody (s : State) (n : Nat) : List Byte :=
  ((updImage s).drop 2).set 15 (BitVec.ofNat 8 (pendCount s n))

/-- FREE commits a record: every field but GEN zero, and the requests to it end FREED; a signature
under another extended address clears (R131, R177, R214). -/
def recFree (s : State) (n : Nat) : State :=
  reqsFreed (sigInvalidate (recCommit (markRace s n) n 2 (List.replicate 62 0)) n) n

/-- WRITE of the image to record n: its refusals, or the commit (R177). -/
def recWrite (s : State) (n : Nat) : State :=
  let img := updImage s
  let ext := (img.drop 4).take 8
  let short := leAt img 12 2
  if leAt img 2 1 = 0 then
    if recState s n = 0 then updResult s n 3 else updResult (recFree s n) n 1
  else if (match extRecord s ext with | some m => m != n | none => false) then updResult s n 6
  else if short ≠ 0xFFFE && short ≠ s.act LNK_ABLK_BASE + n then updResult s n 7
  else
    let moved := recState s n ≠ 0 && recExt s n ≠ ext
    let s := markRace s n
    let s := if recExt s n ≠ ext then sigInvalidate s n else s
    let s := recCommit s n 2 (updBody s n)
    let s := if moved then reqsFreed s n else s
    updResult s n 1

/-- An update-port command (R177), ignored but for RESULT while one runs: OP 1 WRITE, 2 WRITE_IF, 3 FREE, 4 PERSIST, 5 ALLOC; anything else is BAD_OP. -/
def updCommand (s : State) (op n : Nat) : State :=
  if updBusy s then s.setFld LNK_UPDSTAT_RESULT 5 else
  match op with
  | 1 => recWrite s n
  | 2 => if recLe s n 0 2 ≠ s.fld LNK_UPDARG_ARG % 65536 then updResult s n 2 else recWrite s n
  | 3 => if recState s n = 0 then updResult s n 3 else updResult (recFree s n) n 1
  | 4 =>
    if recState s n = 0 then updResult s n 3
    else
      let v := max (recPersisted s n) (s.fld LNK_UPDARG_ARG)
      let fl := recFlags s n
      let fl := if recLe s n 20 4 ≤ v then fl - 4 * bitsOf fl 2 2 else fl
      let old := s.rdN (recAddr n) 64
      let s := recCommit s n 3 (leBytes 1 fl ++ (old.drop 4).take 20 ++ leBytes 4 v)
      updResult (persistClear s n) n 1
  | 5 =>
    if leAt (updImage s) 2 1 = 0 then updResult s n 3
    else match freeRecord s with
      | none => updResult s n 4
      | some m => recWrite s m
  | _ => updResult s n 5

end Sys2Proof.Machine
end

