-- ==== Sys2Proof/Machine/Fabric.lean ====
section
/-! DEFINITION. Machine/Fabric.lean: fabric frames and records, to devices and to stack members (R59, R266 to R268,
R275). -/

namespace Sys2Proof.Machine

/-! ### The fabric role (R59) -/

def venueId (s : State) : Nat := if s.regionOn 13 then s.payloadLe 13 0 4 else 0
def inVenue (s : State) : Bool := venueId s != 0
def myIndex (s : State) : Nat := s.payloadLe 13 4 2
def masterIndex (s : State) : Nat := s.payloadLe 13 6 2
def backupIndex (s : State) : Nat := s.payloadLe 13 8 2

/-- The fabric ports that are enabled and up (R59, R263). -/
def fabricUp (s : State) : List Nat :=
  (List.range s.part.fabricPorts).filter fun p =>
    bitOf (s.payloadByte 13 10) p && s.flag (if p = 0 then VFB_STAT_PORT0_UP else VFB_STAT_PORT1_UP)

/-- VFB_STAT.STATE: 0 STANDALONE, 1 ACQUIRE, 2 LOCKED, 3 HOLDOVER, 4 MASTER, 5 ACTING, 6 STACK (R272). -/
def vfbState (s : State) : Nat := s.fld VFB_STAT_STATE

/-! ### Frames (R266 to R268) -/

/-- One record: its header, with the body length in units of 4 octets (R267, R356), and its body. -/
def recordOf (rtype : Nat) (body : List Byte) : List Byte :=
  leBytes 1 rtype ++ leBytes 1 (body.length / 4) ++ leBytes 2 0 ++ body

/-- The MAC address of a device; all devices share a group address. -/
def macOf (s : State) (index : Nat) : List Byte :=
  let v := venueId s
  let d := if index = 0xFFFF then 0xFFFF else index
  beBytes 1 (if index = 0xFFFF then 3 else 2) ++ beBytes 3 v ++ beBytes 2 d

/-- A fabric frame from the destination address on, without the Ethernet FCS. -/
def frameOf (s : State) (dst count : Nat) (records : List Byte) : List Byte :=
  let tag := if s.flag VFB_CTL_VLAN_EN then beBytes 2 0x8100 ++ beBytes 2 (8192 * s.fld VFB_CTL_PCP + s.fld VFB_CTL_VID) else []
  macOf s dst ++ macOf s (myIndex s) ++ tag ++ beBytes 2 (s.payloadLe 13 12 2)
    ++ leBytes 1 1 ++ leBytes 1 0 ++ leBytes 4 (venueId s) ++ leBytes 2 (myIndex s) ++ leBytes 2 dst
    ++ leBytes 4 s.vfb.fseq ++ leBytes 1 count ++ leBytes 1 0 ++ records

/-- Send a frame of `count` records to a device, 0xFFFF for all, on every fabric port that is enabled and up. -/
def frameSend (s : State) (dst count : Nat) (records : List Byte) : State :=
  if !inVenue s || (fabricUp s).isEmpty then s else
  let l := frameOf s dst count records
  let s := (fabricUp s).foldl (fun s p => (s.emit .fabricFrame [p, dst] l).bump VFB_TXFRM_COUNT) s
  { s with vfb := { s.vfb with fseq := (s.vfb.fseq + 1) % 2 ^ 32 } }

/-- A FABRIC cell to a member, 15 for all, with the index its record is for (R265). -/
def fabricCell (s : State) (member dst : Nat) (record : List Byte) : State :=
  cellSend s 7 member (leBytes 2 dst ++ (record.drop 1).take 1 ++ leBytes 1 0 ++ record)

/-- A record goes to a device, or to all; a stack member without a fabric port of its own sends it through the leader
(R265). -/
def recordSend (s : State) (dst : Nat) (record : List Byte) : State :=
  if !(fabricUp s).isEmpty then frameSend s dst 1 record
  else if inStack s && s.payloadByte 13 10 = 0 && stkMember s ≠ stkLeader s then fabricCell s (stkLeader s) dst record
  else s

/-! ### Neighbours (R245, R253) -/

/-- The devices of FLD table 0. -/
def fldDevices (s : State) : List Nat :=
  (List.range 64).filterMap fun i => let w := s.table 10 0 i; if bitOf w 15 then some (w % 2048) else none

/-- The other members of the stack, as neighbours 4096 + m. -/
def stkOthers (s : State) : List Nat :=
  if inStack s then ((List.range (stkMembers s)).filter (· ≠ stkMember s)).map (4096 + ·) else []

/-- All neighbours of Vetch. -/
def neighbours (s : State) : List Nat := stkOthers s ++ (if inVenue s then fldDevices s else [])

/-- A record goes to a neighbour. -/
def neighbourSend (s : State) (n : Nat) (record : List Byte) : State :=
  if 4096 ≤ n then fabricCell s (n - 4096) 0xFFFE record else recordSend s n record

/-! ### The receive ring (R278) -/

/-- A record is put into the receive ring, or dropped where it is full or the record too long for an entry (log entry 25). -/
def ringPut (s : State) (sender : Nat) (record : List Byte) : State :=
  let size := s.fld VFB_RRSIZE_SIZE
  let head := s.fld VFB_RRHEAD_HEAD
  if size = 0 || 52 < record.length || ringNext size head = s.fld VFB_RRTAIL_TAIL then s.bump VFB_RRDROP_COUNT
  else
    let e := leBytes 2 sender ++ leBytes 2 0 ++ leBytes 6 s.stamp ++ leBytes 2 0 ++ record
    (s.wrN (s.fld VFB_RRBASE_BASE + 64 * head) ((e ++ List.replicate 64 0).take 64)).setFld VFB_RRHEAD_HEAD (ringNext size head)

/-! ### Persistence shadows (R275) -/

/-- A PERSIST of record n that was confirmed is told to every device of FLD table 0. -/
def pshadowSend (s : State) (n : Nat) : State :=
  let body := recExt s n ++ leBytes 4 (recPersisted s n)
  if inVenue s then (fldDevices s).foldl (fun s d => recordSend s d (recordOf 8 body)) s else s

/-- An update-port command, with the PSHADOW that a confirmed PERSIST sends (R177, R275). -/
def updPort (s : State) (op n : Nat) : State :=
  let t := updCommand s op n
  if op = 4 && t.fld LNK_UPDSTAT_RESULT = 1 then pshadowSend t n else t

/-- OP PERSIST of the update port (R177, R194, R275). -/
def execNodeRecordPersist (index : Fin 16384) (s : State) : Res := ok (updPort s 4 index)

end Sys2Proof.Machine
end

