-- ==== Sys2Proof/Machine/Mailbox.lean ====
section
/-! DEFINITION. Machine/Mailbox.lean: the mailbox pages, messages within the device, to stack members and to venue devices
(R352 to R357, R361). -/

namespace Sys2Proof.Machine

/-- A master may access page e (R352). -/
def pageMay (m : Master) (e : Nat) : Bool :=
  m.val == 13 || (m.val == e && decide (m.val < 15)) || (m.val == 0 && e == 14)

/-- The page of an EP code: engines 0 to 11, host, Sorrel, fabric agent. -/
def pageOf (ep : Nat) : Option Nat :=
  if ep < 12 then some ep else if 16 ≤ ep && ep ≤ 18 then some (ep - 4) else none

/-- The EP code of a page. -/
def epOf (page : Nat) : Nat := if page < 12 then page else page + 4

/-- A page whose endpoint is in its reset: an engine in RESETTING, Sorrel during its restart (R355). -/
def pageDown (s : State) (e : Nat) : Bool :=
  if e < 12 then s.fld (SYS_ENGSTAT_STATE e) == 4 else e == 13 && s.fld SYS_SRLSTAT_STATE == 0

/-! ### Delivery (R353) -/

/-- A doorbell bit is set; it fires MBX_DB where it was clear and is not masked. -/
def doorbell (s : State) (e bit : Nat) : State :=
  let db := s.fld (MBX_DB_DB e)
  if bitOf db bit then s
  else
    let s := s.setFld (MBX_DB_DB e) (db + 2 ^ bit)
    if bitOf (s.fld (MBX_DBMASK_MASK e)) bit then s.fire (480 + e) bit else s

/-- A write of MBX_DBMASK: a set doorbell that it unmasks fires MBX_DB. -/
def maskWrite (s : State) (e v : Nat) : State :=
  let old := s.fld (MBX_DBMASK_MASK e)
  forBelow 32 (fun s b =>
    if bitOf v b && !bitOf old b && bitOf (s.fld (MBX_DB_DB e)) b then s.fire (480 + e) b else s)
    (s.setFld (MBX_DBMASK_MASK e) v)

/-- The slot a message asks for: the named one where it is free, the lowest free one for 8. -/
def slotFor (s : State) (e code : Nat) : Option Nat :=
  let full := s.fld (MBX_FULL_FULL e)
  if code < 8 then (if bitOf full code then none else some code) else (List.range 8).find? fun i => !bitOf full i

/-- A message reaches page e: RESULT 1 with the slot written, or 2 FULL. -/
def mbxPut (s : State) (e code db : Nat) (dbEn : Bool) (octets : List Byte) (src tag mseq : Nat) : Nat × Nat × State :=
  if code = 9 then (1, 0, doorbell s e db)
  else match slotFor s e code with
  | none => (2, 0, s)
  | some i =>
    let s := forBelow 16 (fun s w => s.setReg (MBX_SLOT e (16 * i + w)) (BitVec.ofNat 32 (ofLe ((octets.drop (4 * w)).take 4)))) s
    let s := { s with evt := { s.evt with slotSeq := stSet 0 s.evt.slotSeq (8 * e + i) mseq } }.setReg (MBX_SRC e i) (BitVec.ofNat 32 src)
    let s := s.setFlds [(MBX_SRCTAG_TAG e i, tag), (MBX_FULL_FULL e, s.fld (MBX_FULL_FULL e) ||| 2 ^ i)]
    (1, i, if dbEn then doorbell s e db else s)

/-- An aborted notice reaches page e (R357). -/
def abortNotice (s : State) (e tag : Nat) : State :=
  let s := s.setFld (MBX_ABORT_TAG e) tag
  (s.bump (MBX_ABORT_COUNT e)).fire (496 + e) tag

/-! ### Sending (R354, R355) -/

/-- The RESULT of a send becomes final. -/
def sendFinal (s : State) (e result errKind slot : Nat) : State :=
  s.setFlds [(MBX_SENDSTAT_BUSY e, 0), (MBX_SENDSTAT_RESULT e, result), (MBX_SENDSTAT_ERRKIND e, errKind),
    (MBX_SENDSTAT_SLOT e, slot)]

/-- A MAILBOX record (R356). -/
def mbxRecord (kind part srcEp dstEp mseq slot db tag : Nat) (data : List Byte) : List Byte :=
  recordOf 9 (leBytes 1 kind ++ leBytes 1 part ++ leBytes 1 srcEp ++ leBytes 1 dstEp ++ leBytes 4 mseq ++ leBytes 1 slot
    ++ leBytes 1 db ++ leBytes 2 tag ++ data)

/-- A peer is a device, or 4096 + a member; its record travels as R356 says. -/
def peerSend (s : State) (peer : Nat) (record : List Byte) : State :=
  if 4096 ≤ peer then fabricCell s (peer - 4096) 0xFFFE record else recordSend s peer record

/-- Both parts of a message go to a peer, in one frame across a venue. -/
def peerMessage (s : State) (peer : Nat) (r0 r1 : List Byte) : State :=
  if 4096 ≤ peer || (fabricUp s).isEmpty then peerSend (peerSend s peer r0) peer r1 else frameSend s peer 2 (r0 ++ r1)

/-- The message of a page's staging buffer. -/
def staged (s : State) (e : Nat) : List Byte := (List.range 16).flatMap fun w => leBytes 4 (s.reg (MBX_STAGE e w)).toNat

/-- The checks of a send that the sender makes: RESULT and ERRKIND of the first that fails.  A stack member addressed from a part
without stack links is absent whatever the permission says (R9, R362). -/
def sendCheck (s : State) (e : Nat) (w : Nat) : Option (Nat × Nat) :=
  let ep := w % 32
  let scope := bitsOf w 6 5
  let member := bitsOf w 9 7
  let slot := bitsOf w 24 21
  let row := s.table 15 0 e
  let allowed := match scope with
    | 0 => match pageOf ep with | some d => bitOf row d | none => true
    | 1 => bitOf row 15
    | _ => bitOf row 16
  if scope = 3 || 9 < slot || (slot = 9 && !bitOf w 30) then some (6, 0)
  else if scope = 1 && !s.part.stack then some (3, 1)
  else if e ≠ 13 && !allowed then some (5, 0)
  else match pageOf ep with
  | none => some (3, 1)
  | some d =>
    if scope = 0 then (if pageDown s d then some (3, 3) else none)
    else if scope = 1 then
      if !inStack s || stkMembers s ≤ member || member = stkMember s then some (3, 1)
      else if !bitOf (s.fld STK_STAT_SEEN) member || !s.flag STK_STAT_LEADER_OK then some (3, 2) else none
    else if vfbState s = 0 then some (3, 4) else none

/-- A write of MBX_SEND on page e. -/
def mbxSendWrite (s : State) (e : Nat) (w : Nat) : State :=
  if s.flag (MBX_SENDSTAT_BUSY e) then s.setFld (MBX_SENDSTAT_OVERRUN e) 1 else
  let tag := s.fld (MBX_SENDTAG_TAG e)
  let s := s.setFlds [(MBX_SENDSTAT_TAG e, tag), (MBX_SENDSTAT_RESULT e, 0)]
  match sendCheck s e w with
  | some (r, k) => sendFinal s e r k 0
  | none =>
    let scope := bitsOf w 6 5
    let slot := bitsOf w 24 21
    let db := bitsOf w 29 25
    let dbEn := bitOf w 30
    let data := staged s e
    if scope = 0 then
      match pageOf (w % 32) with
      | none => s
      | some d =>
        let (r, i, s) := mbxPut s d slot db dbEn data (epOf e) tag 0
        sendFinal s e r 0 i
    else
      let peer := if scope = 1 then 4096 + bitsOf w 9 7 else bitsOf w 20 10
      let mseq := s.mbxSeq
      let rec_ (part : Nat) := mbxRecord 0 part (epOf e) (w % 32) mseq slot (db + 128 * b2n dbEn) tag ((data.drop (32 * part)).take 32)
      let s := { s with mbxSeq := (mseq + 1) % 2 ^ 32
                        mbxSends := stInsert { mseq := mseq, peer := peer, tag := tag, sentAt := s.uptime } s.mbxSends e }
      peerMessage (s.setFld (MBX_SENDSTAT_BUSY e) 1) peer (rec_ 0) (rec_ 1)

/-! ### Receiving (R356, R357) -/

/-- A whole message arrives from a peer; it is delivered and answered. -/
def messageIn (s : State) (peer : Nat) (b data : List Byte) : State :=
  let dst := octAt b 3
  let slot := octAt b 8
  let dbw := octAt b 9
  let tag := leAt b 10 2
  let reply (s : State) (kind part slot : Nat) : State :=
    peerSend s peer (mbxRecord kind part dst (octAt b 2) (leAt b 4 4) slot dbw tag [])
  match pageOf dst with
  | none => reply s 3 2 slot
  | some e =>
    if pageDown s e then reply s 3 6 slot
    else if !bitOf (s.table 15 1 e) (if 4096 ≤ peer then 0 else 1) then reply s 5 0 slot
    else
      let src := octAt b 2 % 32 + (if 4096 ≤ peer then 32 + 128 * (peer - 4096) else 64 + 1024 * peer)
      match mbxPut s e slot (dbw % 32) (bitOf dbw 7) data src tag (leAt b 4 4) with
      | (1, i, s) => reply s 1 0 i
      | (_, _, s) => reply s 2 0 slot

/-- A part of a message: it waits for the other part, or completes it. -/
def partIn (s : State) (peer : Nat) (b : List Byte) : State :=
  let other (f : MbxFrag) : Bool := f.peer == peer && leAt f.body 4 4 == leAt b 4 4 && octAt f.body 1 % 2 != octAt b 1 % 2
  match s.mbxFrags.find? other with
  | some f =>
    let s := { s with mbxFrags := s.mbxFrags.filter (!other ·) }
    messageIn s peer b (if octAt b 1 % 2 = 1 then (f.body.drop 12).take 32 ++ (b.drop 12).take 32
      else (b.drop 12).take 32 ++ (f.body.drop 12).take 32)
  | none => { s with mbxFrags := s.mbxFrags ++ [{ peer := peer, body := b, cameAt := s.uptime }] }

/-- A reply: it ends the send that it answers, or is late (R354). -/
def replyIn (s : State) (peer : Nat) (b : List Byte) : State :=
  match pageOf (octAt b 3) with
  | none => s
  | some e =>
    match s.mbxSends.find? fun x => x.1 == e && x.2.peer == peer && x.2.mseq == leAt b 4 4 with
    | some _ =>
      sendFinal { s with mbxSends := stErase s.mbxSends e } e (octAt b 0) (if octAt b 0 = 3 then bitsOf (octAt b 1) 3 1 else 0)
        (if octAt b 0 = 1 then octAt b 8 else 0)
    | none => s.bump (MBX_CNT_LATEREPLY e)

/-- A MAILBOX record arrives from a peer. -/
def mailboxRecord (s : State) (peer : Nat) (b : List Byte) : State :=
  match octAt b 0 with
  | 0 => partIn s peer b
  | 4 => match pageOf (octAt b 3) with | some e => abortNotice s e (leAt b 10 2) | none => s
  | 6 => (s.setFlds [(MBX_PEERRST_INDEX, peer), (MBX_PEERRST_FLAG, 1)]).fire 510 0xFFFF
  | 1 => replyIn s peer b
  | 2 => replyIn s peer b
  | 3 => replyIn s peer b
  | 5 => replyIn s peer b
  | _ => s.bump VFB_BADFRM_COUNT

/-! ### Page reset (R357) -/

/-- The endpoint of page e is reset: aborted notices go to the senders of its full slots, and the page is cleared of everything but the
notices that it was given itself (log entry 138). -/
def pageReset (s : State) (e : Nat) : State :=
  let full := s.fld (MBX_FULL_FULL e)
  let s := forBelow 8 (fun s i =>
    if !bitOf full i then s else
    let tag := s.fld (MBX_SRCTAG_TAG e i)
    let ep := s.fld (MBX_SRC_EP e i)
    match s.fld (MBX_SRC_SCOPE e i) with
    | 0 => match pageOf ep with | some d => abortNotice s d tag | none => s
    | scope =>
      let peer := if scope = 1 then 4096 + s.fld (MBX_SRC_MEMBER e i) else s.fld (MBX_SRC_DEVICE e i)
      peerSend s peer (mbxRecord 4 0 (epOf e) ep (stGet 0 s.evt.slotSeq (8 * e + i)) i 0 tag [])) s
  let s := forBelow 144 (fun s w => s.setReg (MBX_SLOT e w) 0) s
  let s := forBelow 8 (fun s i => (s.setReg (MBX_SRC e i) 0).setReg (MBX_SRCTAG e i) 0) s
  let s := s.setFlds [(MBX_FULL_FULL e, 0), (MBX_DB_DB e, 0), (MBX_DBMASK_MASK e, 0), (MBX_SENDTAG_TAG e, 0), (MBX_CNT_LATEREPLY e, 0),
    (MBX_CNT_FRAGDROP e, 0)]
  let s := s.setReg (MBX_SENDSTAT e) 0
  { s with mbxSends := stErase s.mbxSends e, evt := { s.evt with slotSeq := s.evt.slotSeq.filter fun x => x.1 / 8 ≠ e } }

/-- A device that joins the fabric after a power-on or wake reset says so to all (R357). -/
def restartSend (s : State) : State :=
  if s.restartDue && inVenue s then
    recordSend { s with restartDue := false } 0xFFFF (mbxRecord 6 0 0 0 0 0 0 0 [])
  else s

/-! ### Commands -/

/-- A write of MBX_SEND by a master (R352, R354). -/
def execMbxSend (master : Master) (page : Fin 15) (word : Word) (s : State) : Res :=
  if pageMay master page then ok (mbxSendWrite { s with busResult := .ok } page word.toNat) else ok s.refuse

/-- A MAILBOX record arrives; `peer` is the sending device, or 4096 + the sending member (R356). -/
def execMailboxRecordReceived (peer : Nat) (body : List Byte) (s : State) : Res := ok (mailboxRecord s peer body)

/-- No reply within MBX_CTL.TIMEOUT ms: the page's send ends TIMEOUT (R354). -/
def execMailboxTimeout (page : Fin 15) (s : State) : Res :=
  match s.mbxSends.find? (·.1 = page.val) with
  | none => ok s
  | some (_, x) =>
    match s.reachUp (x.sentAt + 1000000 * max 1 (s.fld MBX_CTL_TIMEOUT)) with
    | none => ok s
    | some s => ok (sendFinal { s with mbxSends := stErase s.mbxSends page } page 7 0 0)

/-- The oldest lone message part has waited for 1 ms (R356). -/
def execFragmentTimeout (s : State) : Res :=
  match s.mbxFrags with
  | [] => ok s
  | f :: rest =>
    match s.reachUp (f.cameAt + 1000000) with
    | none => ok s
    | some s =>
      let s := { s with mbxFrags := rest }
      ok (match pageOf (octAt f.body 3) with | some e => s.bump (MBX_CNT_FRAGDROP e) | none => s)

/-- A read of word 15 of a slot: the page's own master frees the slot (R353). -/
def slotRead (s : State) (m : Master) (e i : Nat) : State :=
  let w := s.reg (MBX_SLOT e (16 * i + 15))
  if m.val = e then (s.setFld (MBX_FULL_FULL e) (s.fld (MBX_FULL_FULL e) &&& (255 - 2 ^ i))).answer w else s.answer w

def execMbxSlotRead (master : Master) (page : Fin 15) (slot : Fin 8) (s : State) : Res :=
  if pageMay master page then ok (slotRead s master page slot) else ok s.refuse

/-- A write of MBX_DBMASK (R353). -/
def execDoorbellMaskWrite (master : Master) (page : Fin 15) (mask : Word) (s : State) : Res :=
  if pageMay master page then ok (maskWrite { s with busResult := .ok } page mask.toNat) else ok s.refuse

end Sys2Proof.Machine
end

