-- ==== Sys2Proof/Machine/Flood.lean ====
section
/-! DEFINITION. Machine/Flood.lean: Vetch: flood decisions, rebroadcasts, records, imports and marks (R236 to R254). -/

namespace Sys2Proof.Machine

/-- A member of the stack is cut off: both own ring ports are down, or one is and no cell of the member has come in the last period
(log entry 158). -/
def memberCut (s : State) (m : Nat) : Bool := ringUp s == 0 || (ringUp s != 3 && !bitOf (s.fld STK_STAT_SEEN) m)

/-- A SEEN record is handed to the fabric agent (R246), under the FLD_CTL word `ctl`. -/
def floodPublish (s : State) (ctl : Nat) (orig : List Byte) (seq ttl : Nat) : State :=
  let pub := bitOf ctl 1
  let members := stkOthers s
  let devices := if inVenue s then fldDevices s else []
  let away := vfbState s = 3 || vfbState s = 1
  let stackBar := !members.isEmpty && (!pub || members.any fun n => memberCut s (n - 4096))
  let fabricBar := !devices.isEmpty && (!pub || away)
  let rec24 := recordOf 4 (orig ++ leBytes 2 seq ++ leBytes 1 ttl ++ leBytes 1 0 ++ leBytes 6 s.stamp ++ leBytes 2 (myIndex s)
    ++ leBytes 4 0)
  let toStack := !members.isEmpty && pub && ringUp s != 0
  let toFabric := !devices.isEmpty && pub && !away
  let s := if toStack then fabricCell s 15 0xFFFE rec24 else s
  let s := if toFabric then devices.foldl (fun s d => recordSend s d rec24) s else s
  let s := if toStack || toFabric then s.bump FLD_PUB_COUNT else s
  if stackBar || fabricBar then s.bump FLD_PUBLOST_COUNT else s

/-- The relay window of a flood in slots (R237), under the FLD_JIT word `jit`. -/
def floodWindow (jit jwin : Nat) : Nat :=
  let w := if jwin = 0 then jit % 128 else 2 ^ (jwin - 1)
  max 1 (min w (bitsOf jit 14 8))

/-- The frame of a rebroadcast without MIC and FCS (R243). -/
def rebroadcast (s : State) (x : RxFrame) (payload : List Byte) : List Byte :=
  let h := fcfOf x.octets
  let a := auxOf x.octets
  let aux := if x.secured then
      leBytes 1 (a.level + 8 * a.kim) ++ leBytes 4 0 ++ (if a.kim = 1 then leBytes 1 a.keyIx else []) else []
  leBytes 2 (1 + 8 * b2n x.secured + 64 + 1024 * 2 + 4096 * h.ver + 16384 * 3) ++ leBytes 1 (s.fld FLD_STAT_DSN)
    ++ leBytes 2 (s.act LNK_PANID_PANID) ++ leBytes 2 0xFFFF
    ++ leBytes 4 (s.act LNK_EXTL_EXT_LO) ++ leBytes 4 (s.act LNK_EXTH_EXT_HI) ++ aux ++ payload

/-- A rebroadcast is scheduled (R242, R243): a relay buffer, a draw of the delay, and a direct request. -/
def relaySchedule (s : State) (x : RxFrame) (p : List Byte) (ttl : Nat) : State :=
  let payload := (p.set 1 (BitVec.ofNat 8 (ttl - 1))).set 12 (BitVec.ofNat 8 (octAt p 12 % 16 + octAt p 12 / 64 * 64))
  let l := rebroadcast s x payload
  let (r, s) := s.draw
  let w := floodWindow (x.fld.getD 1 0) (octAt p 12 % 8)
  let due := s.venue + 300000 + 250000 * (r % w)
  let flags := 2 * b2n x.secured + 4 * b2n x.fcs4 + 8 * b2n (hopGoverns s x.bin) + 64
  let raw := leBytes 8 0 ++ leBytes 2 l.length ++ leBytes 2 0x3FFF ++ leBytes 1 x.det.prof ++ leBytes 1 flags
    ++ leBytes 2 x.bin ++ leBytes 4 0 ++ leBytes 6 (due % 2 ^ 48) ++ leBytes 4 0 ++ leBytes 2 0
  let relay : Relay := { orig := (p.drop 4).take 8, seq := leAt p 2 2, frame := l, keyIx := x.keyIx }
  let s := s.setFld FLD_STAT_DSN (s.fld FLD_STAT_DSN + 1)
  reqIntake (relayRefresh { s with relays := stInsert relay s.relays s.reqNext }) 100 raw

/-- A hit counts toward the suppression of the entry's rebroadcast (R244). -/
def relayHear (s : State) (suppress : Nat) (orig : List Byte) (seq : Nat) : State :=
  match s.relays.find? fun e => e.2.orig == orig && e.2.seq == seq with
  | none => s
  | some (num, r) =>
    let r := { r with hears := r.hears + 1 }
    let early := match s.req num with | some q => decide (q.phase ≤ 3 && (q.phase < 2 || s.venue < q.airStart - 50000)) | none => false
    if suppress ≠ 0 && suppress ≤ r.hears && early then
      reqEnd { s with relays := stInsert { r with suppressed := true } s.relays num } num 0x0C
    else { s with relays := stInsert r s.relays num }

/-- The decision on a flood frame (R241). -/
def floodDecide (s : State) (f : Nat) : State :=
  match s.frame f with
  | none => s
  | some x =>
    if !x.flood then s else
    let ctl := x.fld.getD 0 0
    let p := macPayload x
    let orig := (p.drop 4).take 8
    let seq := leAt p 2 2
    let ttl := min (octAt p 1) (bitsOf ctl 23 16)
    let isLocal := bitOf (octAt p 12) 3
    let s := s.setFrame f { x with flood := false }
    let relay := decide (2 ≤ ttl)
    let room := decide (s.relays.length < 256)
    match siltLookup s (x.fld.getD 2 0 % 256) orig seq 0 (octAt p 1) (s.ms % 2 ^ 24) (relay && room) with
    | (none, s) =>
      let s := s.bump FLD_RXNEW_COUNT
      let s := if !relay then s.bump FLD_TTLEND_COUNT
        else if room then relaySchedule s x p ttl else s.bump FLD_RELAYDROP_COUNT
      if isLocal then s else floodPublish s ctl orig seq (octAt p 1)
    | (some i, s) =>
      let s := resReturn s f
      let s := match s.frame f with | some y => s.setFrame f { y with deliver := false } | none => s
      let src := siltSource s i
      let s := if src = 0 || src = 3 then
          let s := s.bump FLD_SEEN_COUNT
          if bitOf (siltFlags s i) 3 then relayHear s (bitsOf ctl 7 4) orig seq else s
        else s.bump FLD_SEEN_FAB_COUNT
      frameGc s f

/-- A SEEN or IMPORT_REPLY record is checked and inserted (R247). -/
def floodInsert (s : State) (sender : Nat) (b : List Byte) : State :=
  let kind := octAt b 11
  let age := (s.stamp + 2 ^ 48 - leAt b 12 6) % 2 ^ 48
  let hold := s.act FLD_SILT_HOLD
  if !(neighbours s).contains sender || 1 < kind || hold * 10 ^ 9 ≤ age then s.bump FLD_FABDROP_COUNT
  else
    match siltLookup s hold (b.take 8) (leAt b 8 2) (kind + 1) (octAt b 10) ((s.ms + 2 ^ 32 - age / 10 ^ 6) % 2 ^ 24) false with
    | (none, s) => s.bump (if kind = 0 then FLD_FABIN_COUNT else FLD_IMPORTED_COUNT)
    | (some _, s) => s

/-! ### Imports (R248) -/

/-- The record of an import request or end. -/
def importRecord (s : State) (kind : Nat) : List Byte :=
  recordOf 4 (leBytes 11 0 ++ leBytes 1 kind ++ leBytes 6 0 ++ leBytes 2 (myIndex s) ++ leBytes 4 0)

/-- The import ends with a state and FLD_IMPORT fires. -/
def importDone (s : State) (v : Nat) : State :=
  ({ s with importAsked := [], importEnds := [] }.setFld FLD_STAT_IMPORT v).fire 320 v

/-- An import starts, on join or on a write of FLD_CMD.IMPORT. -/
def importStart (s : State) : State :=
  if s.fld FLD_STAT_IMPORT = 1 || (!inVenue s && !inStack s) || s.act FLD_CTL_IMPORT_EN = 0 then s else
  let ns := neighbours s
  let s := { s with importAsked := ns, importEnds := [] }.setFld FLD_STAT_IMPORT 1
  if ns.isEmpty then importDone s 2 else ns.foldl (fun s n => neighbourSend s n (importRecord s 2)) s

/-- A neighbour's request; one that comes while an earlier one of the same sender is answered is ignored. -/
def importRequest (s : State) (sender : Nat) : State :=
  if !(neighbours s).contains sender || s.importAnswers.any (·.sender = sender) then s
  else { s with importAnswers := s.importAnswers ++ [{ sender := sender, atMs := s.ms }] }

/-- The answer to the oldest request: the live entries younger than 10 s at the request, and the end. -/
def importAnswer (s : State) : State :=
  match s.importAnswers with
  | [] => s
  | a :: rest =>
    let s := { s with importAnswers := rest }
    let past := (s.ms + 2 ^ 32 - a.atMs) % 2 ^ 32
    let l := (siltValid s).filter fun i => siltLive s (s.act FLD_SILT_HOLD) i && decide (siltAge s i < 10000 + past)
    let s := l.foldl (fun s i =>
      let seen := (s.venue - 10 ^ 6 * siltAge s i) % 2 ^ 48
      neighbourSend s a.sender (recordOf 4 (s.rdN (siltAddr i) 10 ++ s.rdN (siltAddr i + 11) 1 ++ leBytes 1 1
        ++ leBytes 6 seen ++ leBytes 2 (myIndex s) ++ leBytes 4 0))) s
    neighbourSend s a.sender (importRecord s 3)

/-- A neighbour has sent its end; the import completes with the last one. -/
def importEnd (s : State) (sender : Nat) : State :=
  if s.fld FLD_STAT_IMPORT ≠ 1 || !s.importAsked.contains sender then s else
  let ends := if s.importEnds.contains sender then s.importEnds else s.importEnds ++ [sender]
  let s := { s with importEnds := ends }
  if s.importAsked.all ends.contains then importDone s 2 else s

/-- A flood record that arrives (R245): by its KIND. -/
def floodRecord (s : State) (sender : Nat) (b : List Byte) : State :=
  match octAt b 11 with
  | 2 => importRequest s sender
  | 3 => importEnd s sender
  | _ => floodInsert s sender b

/-! ### Marks and the cache (R239, R250, R251) -/

/-- FLD_CMD.MARK. -/
def floodMark (s : State) : State :=
  let orig := leBytes 4 (s.fld FLD_MARKL_ORIG_LO) ++ leBytes 4 (s.fld FLD_MARKH_ORIG_HI)
  let seq := s.fld FLD_MARKSEQ_SEQ
  let ttl := s.fld FLD_MARKSEQ_TTL
  match siltLookup s (s.act FLD_SILT_HOLD) orig seq 3 ttl (s.ms % 2 ^ 24) false with
  | (none, s) => floodPublish s (s.reg (FLD_CTL + 0x8000)).toNat orig seq ttl
  | (some _, s) => s

/-- FLD_CMD.FLUSH: VALID clears in every entry. -/
def siltFlush (s : State) : State := (siltValid s).foldl siltClear s

/-- A write of FLD_CMD: FLUSH and MARK read 1 until done; a mark that meets a pending one is ignored (R250, R251). -/
def fldCmdWrite (s : State) (w : Nat) : State :=
  let s := if bitOf w 0 then s.setFld FLD_CMD_FLUSH 1 else s
  let s := if !bitOf w 2 then s else if s.flag FLD_CMD_MARK then s.setFld FLD_STAT_MARK_OVR 1 else s.setFld FLD_CMD_MARK 1
  if bitOf w 1 then importStart s else s

/-- The mark and the flush that FLD_CMD holds are done, the mark first (R250, R251; log entry 143). -/
def markDone (s : State) : State := (floodMark s).setFld FLD_CMD_MARK 0
def flushDone (s : State) : State := (siltFlush s).setFld FLD_CMD_FLUSH 0
def vetchSettle (s : State) : State :=
  let s := if s.flag FLD_CMD_MARK then markDone s else s
  if s.flag FLD_CMD_FLUSH then flushDone s else s

/-- Live entries, as FLD_OCC.LIVE shows them. -/
def siltOccupancy (s : State) : Nat := ((siltValid s).filter (siltLive s (s.act FLD_SILT_HOLD))).length

/-! ### Commands -/

def execFloodDecision (frame : Nat) (s : State) : Res := ok (floodDecide s frame)

def execFloodRecordReceived (sender : Nat) (body : List Byte) (s : State) : Res := ok (floodRecord s sender body)

/-- The sweep once per second clears every entry that is not live (R239). -/
def execSiltSweep (s : State) : Res :=
  ok ((siltValid s).foldl (fun s i => if siltLive s (s.act FLD_SILT_HOLD) i then s else siltClear s i) s)

/-- The flush of a write of FLD_CMD.FLUSH. -/
def execSiltFlush (s : State) : Res := ok (flushDone s)
def execImportCmd (s : State) : Res := ok (importStart s)
def execImportReqReceived (sender : Nat) (s : State) : Res := ok (importRequest s sender)
def execImportAnswer (s : State) : Res := ok (importAnswer s)
def execImportEndReceived (sender : Nat) (s : State) : Res := ok (importEnd s sender)

/-- 100 ms pass without every IMPORT_END (R248). -/
def execImportTimeout (s : State) : Res := if s.fld FLD_STAT_IMPORT = 1 then ok (importDone s 3) else ok s

/-- The mark of a write of FLD_CMD.MARK. -/
def execMark (s : State) : Res := ok (markDone s)

end Sys2Proof.Machine
end

