-- ==== Sys2Proof/Machine/Stack.lean ====
section
/-! DEFINITION. Machine/Stack.lean: the meanings of the ring-cell and stack commands (R255 to R265). -/

namespace Sys2Proof.Machine

/-- The device is the leader of its stack. -/
def isLeader (s : State) : Bool := inStack s && stkMember s == stkLeader s

/-- A cell of a member has come in this period (STK_STAT.SEEN). -/
def seenMark (s : State) (m : Nat) : State := { s with stk := { s.stk with seen := s.stk.seen ||| 2 ^ m } }

/-- A ring port is enabled (R255). -/
def ringEnabled (s : State) (p : Nat) : Bool := inStack s && bitOf (s.payloadByte 12 7) p

/-- Joint combining is in force: JOINT_EN, a stack, and the leader present (R259). -/
def jointRefresh (s : State) : State :=
  s.setFld STK_STAT_JOINT (b2n (inStack s && s.flag STK_CTL_JOINT_EN && s.flag STK_STAT_LEADER_OK))

/-- The leader's SYNC cell for the coming boundary, on both ring ports (R256). -/
def execSyncCellSend (s : State) : Res :=
  if isLeader s then ok (cellSend s 1 15 (leBytes 8 (s.epoch + 1))) else ok s

/-- A cell of another member arrives on a ring port: one that this member has taken already is discarded; a new one that is not for this
member alone goes on out of the other port (R265).  With it, whether the cell is new. -/
def cellTake (s : State) (port type src dst : Nat) (body : List Byte) : State × Bool :=
  if src = stkMember s then (s, false) else
  let s := seenMark s src
  let cell := cellOf type src dst body
  if s.stk.cells.contains cell || s.stk.cellsOld.contains cell then (s, false) else
  let s := { s with stk := { s.stk with cells := cell :: s.stk.cells } }
  let on := ringUp s &&& 2 ^ (1 - port)
  (if dst = stkMember s || on = 0 then s else s.emit .stackCell [type, dst, on] cell, true)

/-- A member receives a SYNC cell (R256, R264). -/
def execSyncCellReceived (cell : SyncCell) (s : State) : Res :=
  if !inStack s || isLeader s then ok s else
  let (s, new) := cellTake s cell.port 1 (stkLeader s) 15 (leBytes 8 cell.epoch)
  ok (if new then { s with stk := { s.stk with syncEpoch := cell.epoch, missedSync := 0 } } else s)

/-- The STACK_SYNC edge arrives `skew` CLK_DSP cycles after the local boundary (R256): a small difference is trimmed by one
cycle in each period, a larger one stepped at the next boundary. -/
def execStackSyncEdge (skew : Int) (s : State) : Res :=
  if !inStack s || isLeader s then ok s else
  let s := s.setFld STK_SKEW_SKEW (wrapOf 8 (max (-128) (min 127 skew)))
  let s := { s with stk := { s.stk with missedEdge := 0 } }
  if skew.natAbs ≤ 8 then ok { s with stk := { s.stk with trim := skew } }
  else ok { s with stk := { s.stk with trim := 0 }, vfb := { s.vfb with step := some (-(skew * 5) / 3, s.uptime) } }

/-- A record image of another member is applied, or discarded as stale (R258). -/
def execImageCellReceived (sender : CellFrom) (node : Fin 16384) (octets : List Byte) (s : State) : Res :=
  let n : Nat := node
  if !inStack s || octets.length ≠ 36 then ok s else
  let (s, new) := cellTake s sender.port 6 sender.sender 15 (leBytes 2 n ++ octets)
  if !new then ok s else
  let gi := leAt octets 0 2
  let d := (gi + 65536 - recLe s n 0 2) % 65536
  let mine := (s.rdN (recAddr n + 2) 34).set 15 0
  let its := (octets.drop 2).set 15 0
  if (1 ≤ d && d ≤ 32767) || (d = 0 && mine ≠ its && sender.sender.val < stkMember s) then
    let pend := BitVec.ofNat 8 (recPending s n)
    ok (((s.wrN (recAddr n + 2) (its.set 15 pend)).wrN (recAddr n) (leBytes 2 gi)).bump STK_RECAPPLY_COUNT)
  else ok (s.bump STK_RECSTALE_COUNT)

/-- A DETECT cell of another member is kept for grouping at separation (R259). -/
def execDetectCellReceived (sender : CellFrom) (bin : Fin 348) (prof : Fin 16) (snr : Int) (start : CellMoment) (s : State) : Res :=
  if !inStack s then ok s else
  let (s, new) := cellTake s sender.port 2 sender.sender 15 (leBytes 2 bin ++ leBytes 1 prof ++ leBytes 1 (wrapOf 8 snr)
    ++ leBytes 4 start.start ++ leBytes 4 start.peak ++ leBytes 2 start.epoch)
  let d : RemoteDet := { member := sender.sender, bin := bin, prof := prof, snr := snr, start := start.start,
                          epoch := start.epoch % 65536 }
  ok (if new then { s with remoteDets := s.remoteDets ++ [d] } else s)

/-! ### Half-streams (R260, R261, R263) -/

/-- Where this member stands in the lanes of an owner: d of R261. -/
def halfPlace (s : State) (owner : Nat) : Nat := (stkMember s + stkMembers s - owner) % max (stkMembers s) 1

/-- The direction of the half-stream that this member belongs to (R261). -/
def halfDir (s : State) (owner : Nat) : Nat := if halfPlace s owner ≤ stkHalf s then 1 else 0

/-- This member is the origin of its half-stream (R261). -/
def halfOrigin (s : State) (owner : Nat) : Bool := halfPlace s owner == stkHalf s || halfPlace s owner == stkHalf s + 1

/-- A SUMS cell leaves out of the ring port of its direction, where that is up (R260, R261). -/
def sumsCell (s : State) (tag dir first : Nat) (words : List Word) : State :=
  if bitOf (ringUp s) dir then
    s.emit .stackCell [5, tag / 512, 2 ^ dir] (cellOf 5 (stkMember s) (tag / 512) (leBytes 2 tag ++ leBytes 4 (first % 2 ^ 20)
      ++ leBytes 1 words.length ++ leBytes 1 0 ++ words.flatMap fun w => leBytes 4 w.toNat))
  else s

/-- The partial sums of a lane from a sample on leave in cells of 13 words, of 4 samples of three bins in band B (log entry 159). -/
def sumsSend (s : State) (tag dir band first : Nat) (words : List Word) : State :=
  let per := if band = 0 then 13 else 12
  (List.range ((words.length + per - 1) / per)).foldl (fun s i =>
    sumsCell s tag dir (first + (if band = 0 then 13 else 4) * i) ((words.drop (per * i)).take per)) s

/-- This member's own partial sums: zero where it does not contribute (R260). -/
def ownSums (p : JointPart) (own : List Word) : List Word := if p.part.isSome then own else own.map fun _ => 0

/-- A LANE_OPEN cell: this member takes part in the lane, with its partial sums where it kept the frame as a contribution; `tag.own` are those
of its samples, which the origin of a half-stream sends (R260, R261). -/
def execLaneOpenReceived (tag : OpenLane) (bin : Fin 348) (prof : Fin 16) (start : CellMoment) (s : State) : Res :=
  let owner := tag.tag.val / 512
  if !inStack s then ok s else
  let (s, new) := cellTake s tag.port 3 owner 15 (leBytes 2 tag.tag ++ leBytes 2 bin ++ leBytes 1 prof ++ leBytes 1 0
    ++ leBytes 2 start.epoch ++ leBytes 4 start.start ++ leBytes 4 start.peak)
  if !new then ok s else
  let band := binBand bin
  let hit (c : Contribution) : Bool := c.bin == bin.val && c.prof == prof.val && startsMeet band c.epoch c.start start.epoch start.start
  let p : JointPart := { bin := bin, peak := start.peak, part := s.contribs.find? hit }
  let s := { s with contribs := s.contribs.filter (!hit ·), jointParts := stInsert p s.jointParts tag.tag }
  let s := if p.part.isSome then s.bump STK_CONTRIB_COUNT else s
  ok (if halfOrigin s owner then sumsSend s tag.tag (halfDir s owner) band 0 (ownSums p tag.own) else s)

/-- A saturated sum of two signed halves. -/
def satAdd16 (a b : Nat) : Nat := wrapOf 16 (max (-32768) (min 32767 (signedOf 16 a + signedOf 16 b)))

/-- The sum of two partial-sum words (R260). -/
def sumWord (a b : Word) : Word :=
  BitVec.ofNat 32 (satAdd16 a.toNat b.toNat + 65536 * satAdd16 (a.toNat / 65536) (b.toNat / 65536))

/-- A SUMS cell: a member of the half-stream adds its own partial sums and forwards the cell, toward the owner, in its direction; the
owner's lane takes the sums (R260, R261). -/
def execSumsCellReceived (tag : Fin 4096) (direction : Fin 2) (first : Nat) (words own : List Word) (s : State) : Res :=
  let owner := tag.val / 512
  if !inStack s then ok s else
  let s := seenMark s ((stkMember s + (if direction.val = 1 then 1 else stkMembers s - 1)) % max (stkMembers s) 1)
  let words := words.take 13
  if owner = stkMember s then
    match s.rxl (tag.val % 512) with
    | some x => ok (if x.joint then s.setRxl (tag.val % 512) { x with sums := x.sums ++ [(direction.val, first % 2 ^ 20, words)] } else s)
    | none => ok s
  else match s.jointParts.find? (·.1 = tag.val) with
  | none => ok s
  | some (_, p) =>
    if direction.val ≠ halfDir s owner then ok s
    else ok (sumsCell s tag direction first (List.zipWith sumWord words (ownSums p own ++ List.replicate 13 0)))

/-- LANE_CLOSE ends this member's part of a lane (R263). -/
def execLaneCloseReceived (tag : CloseLane) (s : State) : Res :=
  if !inStack s then ok s else
  let (s, new) := cellTake s tag.port 4 (tag.tag.val / 512) 15 (leBytes 2 tag.tag ++ leBytes 1 tag.reason)
  ok (if new then { s with jointParts := stErase s.jointParts tag.tag } else s)

/-- 2 µs without cells for a lane (R263): the first member after a break originates its half from sample `tag.first` on with its own partial
sums, and the owner goes on without it; the lane counts once as degraded. -/
def execHalfStreamTimeout (tag : HalfStream) (s : State) : Res :=
  let owner := tag.tag.val / 512
  let open_ := match s.rxl (tag.tag.val % 512) with | some x => x.joint | none => false
  match s.jointParts.find? (·.1 = tag.tag.val) with
  | some (_, p) =>
    let s := if p.origin then s
      else { s with jointParts := stInsert { p with origin := true } s.jointParts tag.tag }.bump STK_DEGRADED_COUNT
    ok (if !inStack s || owner = stkMember s then s else sumsSend s tag.tag (halfDir s owner) (binBand p.bin) tag.first
      (ownSums p tag.own))
  | none =>
    if inStack s && decide (owner = stkMember s) && open_ then
      ok ({ s with jointParts := stInsert { origin := true } s.jointParts tag.tag }.bump STK_DEGRADED_COUNT)
    else ok s

/-- 1 µs without block lock: a ring port's link is down (R263). -/
def execRingLinkDown (port : Fin 2) (s : State) : Res :=
  ok (s.setFld (if port.val = 0 then STK_STAT_RING0_UP else STK_STAT_RING1_UP) 0)

/-- A powered ring port has block lock again (R255, R263). -/
def execRingLinkUp (port : Fin 2) (s : State) : Res :=
  if ringEnabled s port then ok (s.setFld (if port.val = 0 then STK_STAT_RING0_UP else STK_STAT_RING1_UP) 1) else ok s

/-- Three SYNC cells or three STACK_SYNC edges missed: the leader is lost (R264 step 1). -/
def execLeaderLost (s : State) : Res :=
  if inStack s && !isLeader s && s.flag STK_STAT_LEADER_OK && (3 ≤ s.stk.missedSync || 3 ≤ s.stk.missedEdge) then
    let s := { s with stk := { s.stk with endJoint := true, rejoinPeriods := 0, records := [] } }
    ok (((s.setFlds [(STK_STAT_LEADER_OK, 0), (STK_STAT_LEADERLOST, 1)]).bump STK_LEADERLOSTS_COUNT).fire 352 0)
  else ok s

/-- SYNC cells came for 100 periods in a row: the leader is back at the next boundary (R264). -/
def execLeaderRejoin (s : State) : Res :=
  if inStack s && !isLeader s && !s.flag STK_STAT_LEADER_OK && 100 ≤ s.stk.rejoinPeriods then
    ok { s with stk := { s.stk with rejoin := true } }
  else ok s

/-- One CLK_DSP cycle of a trim makes the ended period longer or shorter in the device's own time (R256). -/
def trimTake (s : State) : State :=
  let c := s.stk.trim.sign
  let n := s.stk.trimThirds + 5 * c
  { s with uptime := ((s.uptime : Int) + n / 3).toNat, stk := { s.stk with trim := s.stk.trim - c, trimThirds := n % 3 } }

/-- LEADER_OK rises; the first time after a reset, a member of a stack without a venue joins (R248). -/
def leaderRise (s : State) : State :=
  let first := !s.stk.joined
  let s := { s with stk := { s.stk with joined := true, apart := false } }.setFld STK_STAT_LEADER_OK 1
  if first && !inVenue s then importStart s else s

/-- What cells of this period and the last one leave at a boundary: cells and detections of older ones go (R259, R265, R276). -/
def cellsAge (s : State) : State :=
  let recent (e : Nat) : Bool := e == s.epoch % 65536 || (e + 1) % 65536 == s.epoch % 65536
  { s.setFld STK_STAT_SEEN s.stk.seen with
    remoteDets := s.remoteDets.filter fun d => recent d.epoch
    contribs := s.contribs.filter fun c => recent c.epoch
    stk := { s.stk with seen := 0, cells := [], cellsOld := s.stk.cells } }

/-- What an epoch boundary does in a stack (R256, R263, R264): missed cells and edges are counted, SEEN is renewed, joint
combining ends after a loss, and with the leader back the images of records committed meanwhile are sent. -/
def stackBoundary (s : State) : State :=
  if !inStack s then s.setFlds [(STK_STAT_SEEN, 0), (STK_STAT_JOINT, 0), (STK_STAT_LEADER_OK, 0)] else
  let s := cellsAge s
  if isLeader s then
    let s := if s.flag STK_STAT_LEADER_OK then s else leaderRise s
    jointRefresh (s.emit .pulse [0, if s.epoch % 100 = 0 then 300 else 100])
  else
    let s := trimTake s
    let x := s.stk
    let missed := x.syncEpoch ≠ s.epoch
    let lost := !s.flag STK_STAT_LEADER_OK
    let s := { s with stk := { x with endJoint := false, rejoin := false, apart := lost
                                      missedSync := if missed then x.missedSync + 1 else 0
                                      missedEdge := x.missedEdge + 1
                                      rejoinPeriods := if missed || !lost then 0 else x.rejoinPeriods + 1 } }
    if x.rejoin then
      let s := jointRefresh (leaderRise s)
      x.records.foldl imageSend { s with stk := { s.stk with records := [], missedSync := 0, missedEdge := 0 } }
    else jointRefresh s

end Sys2Proof.Machine
end

