-- ==== Sys2Proof/Machine/Swap.lean ====
section
/-! DEFINITION. Machine/Swap.lean: swap requests and venue orders up to their cut (R67, R70, R71). -/

namespace Sys2Proof.Machine

/-- Regions of a mask, in ascending order. -/
def maskRegions (mask : Nat) : List Nat := (List.range 14).filter fun n => decide (0 < n) && bitOf mask n

/-- State field of a region's inactive plane. -/
def inactState (s : State) (r : Nat) : Field := planeState (!s.actB r) r

/-- The regions that a running load makes ARMED in place of LOADED. -/
def loadArms (s : State) (mask : Nat) : State :=
  { s with cfg := { s.cfg with load := s.cfg.load.map fun r => if r.begun then { r with armed := mask } else r } }

/-- The inactive planes of the named regions become ARMED; one that a load fills keeps LOADING (R67). -/
def armPlanes (s : State) (mask : Nat) : State :=
  (maskRegions mask).foldl (fun s r => if s.fld (inactState s r) = 2 then s.setFld (inactState s r) 3 else s) (loadArms s mask)

/-- ARMED planes of the named regions return to LOADED, and one that a load still fills is to become LOADED. -/
def disarmPlanes (s : State) (mask : Nat) : State :=
  (maskRegions mask).foldl (fun s r => if s.fld (inactState s r) = 3 then s.setFld (inactState s r) 2 else s) (loadArms s 0)

/-- The cut of the next boundary has passed: 20 µs before it (R39, R68). -/
def cutPassed (s : State) : Bool := s.cut.done || decide (s.nextBoundary ≤ s.venue + 20000)

/-- The first epoch whose cut follows now. -/
def nextCutEpoch (s : State) : Nat := if cutPassed s then s.epoch + 2 else s.epoch + 1

/-- The final STATE of a venue order is reported to the system master (R70, R269). -/
def swapReport (s : State) (q : SwapReq) (st fail : Nat) : State :=
  if q.venue && inVenue s && myIndex s ≠ masterIndex s then
    recordSend s (masterIndex s) (recordOf 3 (leBytes 4 q.seq ++ leBytes 1 st ++ leBytes 1 fail ++ leBytes 2 0 ++ leBytes 8 s.epoch))
  else s

/-- A request ends with a STATE. -/
def swapEnd (s : State) (q : SwapReq) (st fail : Nat) : State :=
  let s := { s with swapReq := none, swapCut := 0, swapFail := 0 }
  swapReport (s.setFlds [(CFG_SWAPSTAT_STATE, st), (CFG_SWAPSTAT_FAILREGION, fail), (CFG_SWAPCTL_ARM, 0)]) q st fail

/-- A request is held, or skipped as late (R67, R71). -/
def swapHold (s : State) (q : SwapReq) : State :=
  let late := decide (q.target < nextCutEpoch s)
  let s := s.setFlds [(CFG_SWAPSTAT_VENUE, b2n q.venue), (CFG_SWAPSTAT_FAILREGION, 0)]
  if late && !s.flag CFG_SWAPCTL_LATE_POLICY then swapEnd s q 4 0
  else
    let q := if late then { q with target := nextCutEpoch s, late := true } else q
    armPlanes ({ s with swapReq := some q, swapCut := 0, swapFail := 0 }.setFlds
      [(CFG_SWAPSTAT_STATE, 1), (CFG_SWAPCTL_ARM, 1)]) q.mask

/-- A local write of CFG_SWAPCTL.ARM (R67). -/
def swapArm (s : State) : State :=
  if s.swapReq.isSome then s.setFld CFG_SWAPSTAT_REFUSED 1
  else swapHold s
    { mask := s.fld CFG_SWAPMASK_REGIONS, build := s.fld CFG_SWAPBLDL_BUILD_LO + 2 ^ 32 * s.fld CFG_SWAPBLDH_BUILD_HI
      target := if s.flag CFG_SWAPCTL_NEXT then nextCutEpoch s
        else s.fld CFG_SWAPEPL_EPOCH_LO + 2 ^ 32 * s.fld CFG_SWAPEPH_EPOCH_HI }

/-- The cut of the held request's boundary has passed (R67, R70). -/
def requestCut (s : State) : Bool :=
  s.swapCut != 0 || (match s.swapReq with | some q => decide (q.target ≤ s.epoch + 1) && cutPassed s | none => false)

/-- A write of CFG_SWAPCTL.CANCEL: before the cut the held request ends CANCELLED (R67, R73). -/
def swapCancel (s : State) : State :=
  match s.swapReq with
  | some q => if !requestCut s then swapEnd (disarmPlanes s q.mask) q 8 0 else s
  | none => s

/-- A venue order becomes the held request, or is refused as FAR (R70). -/
def orderHold (s : State) (q : SwapReq) : State :=
  let s := s.setFld CFG_SWAPMASK_REGIONS (q.mask % 16384 / 2 * 2)
  if s.epoch + 6000 < q.target then
    swapReport (s.setFlds [(CFG_SWAPSTAT_STATE, 10), (CFG_SWAPSTAT_VENUE, 1), (CFG_SWAPSTAT_FAILREGION, 0)]) q 10 0
  else swapHold s q

/-- A venue order is taken up where it is newer (R70): it waits for the end of a request past its cut, or replaces a held one. -/
def orderTake (s : State) (o : Order) : State :=
  let newer := match s.lastOrder with
    | none => true
    | some l => let d := (o.seq + 2 ^ 32 - l) % 2 ^ 32; decide (1 ≤ d && d < 2 ^ 31)
  if !newer then s else
  let q : SwapReq := { mask := o.mask, build := o.build, target := o.epoch, venue := true, seq := o.seq }
  let s := { s with lastOrder := some o.seq }.setFld CFG_SWAPSTAT_ORDER_SEQ o.seq
  if s.swapReq.isSome && requestCut s then
    let s := match s.swapWait with | some w => swapReport s w 9 0 | none => s
    { s with swapWait := some q }
  else
    orderHold (match s.swapReq with
      | some h => swapEnd (disarmPlanes s h.mask) h 9 0
      | none => s) q

/-- A stack leader forwards an order to its members over the ring links (R70). -/
def orderForward (s : State) (body : List Byte) : State :=
  if inStack s && stkMember s = stkLeader s then fabricCell s 15 0xFFFE (recordOf 2 body) else s

/-- An order as it comes in a record (R269). -/
def orderOf (b : List Byte) : Order := { seq := leAt b 0 4, mask := leAt b 4 4, build := leAt b 8 8, epoch := leAt b 16 8 }

/-- The body of an order. -/
def orderBody (o : Order) : List Byte := leBytes 4 o.seq ++ leBytes 4 o.mask ++ leBytes 8 o.build ++ leBytes 8 o.epoch

/-- An order arrives in a beacon or a cell: it is forwarded in a stack and taken up. -/
def orderArrives (s : State) (b : List Byte) : State := orderTake (orderForward s b) (orderOf b)

/-! ### Commands -/

/-- An accepted write of CFG_SWAPCTL.ARM (R67). -/
def execSwapArm (s : State) : Res := ok (swapArm s)

/-- An accepted write of CFG_SWAPCTL.CANCEL (R67). -/
def execSwapCancel (s : State) : Res := ok (swapCancel s)

/-- A venue order arrives (R70, R71). -/
def execVenueOrder (seq mask : Word) (build epoch : Nat) (s : State) : Res :=
  ok (orderArrives s (orderBody { seq := seq.toNat, mask := mask.toNat, build := build % 2 ^ 64, epoch := epoch % 2 ^ 64 }))

end Sys2Proof.Machine
end

