-- ==== Sys2Proof/Machine/Venue.lean ====
section
/-! DEFINITION. Machine/Venue.lean: venue time over the fabric: time transfer, beacons, the states of the fabric agent,
steps and orders (R271 to R274, R278). -/

namespace Sys2Proof.Machine

/-! ### States (R264, R272) -/

/-- An uptime lies within the last 385 ms, where it is stored plus one and 0 means never. -/
def heardLately (s : State) (at1 : Nat) : Bool := at1 != 0 && decide (s.uptime < at1 - 1 + 385000000)

/-- VFB_STAT.STATE changes; a device that leaves HOLDOVER for a state with venue time joins the fabric again (R248). -/
def vfbEnter (s : State) (st : Nat) : State :=
  let old := vfbState s
  if old = st then s else
  let s := s.setFld VFB_STAT_STATE st
  let s := if old = 3 then s.setFld VFB_HOLDOVER_ACTIVE 0 else s
  let s := if st = 5 then s.bump VFB_TAKEOVER_COUNT else s
  let s := s.setFld VFB_STAT_NORD (if st = 4 || st = 5 then s.vfb.orders.length else 0)
  let s := if st = 1 || st = 3 then
      { s with vfb := { s.vfb with acquireAt := s.uptime, beaconSeen := false, syncRun := 0 } } else s
  let s := if st = 2 then { s with vfb := { s.vfb with wasLocked := true } } else s
  let s := if old = 3 && 2 ≤ st && inVenue s then importStart s else s
  if st = 3 then ((s.setFlds [(VFB_HOLDOVER_HOLD, 1), (VFB_HOLDOVER_ACTIVE, 1)]).bump VFB_HOLDOVER_COUNT).fire 384 0 else s

/-- The fabric-role region has become active: STANDALONE without a venue, ACQUIRE in one. -/
def vfbRole (s : State) : State :=
  if !inVenue s then vfbEnter s 0
  else if vfbState s = 0 then vfbEnter s 1
  else if vfbState s = 1 && s.vfb.acquireAt = 0 then { s with vfb := { s.vfb with acquireAt := s.uptime } } else s

/-- The boundary in a stack: a member takes its time from the leader while it is present. -/
def vfbStack (s : State) : State :=
  if inStack s && !isLeader s && s.flag STK_STAT_LEADER_OK then vfbEnter s 6
  else if vfbState s ≠ 6 then s
  else if inVenue s && !(fabricUp s).isEmpty && heardLately s s.vfb.beaconAt then vfbEnter s 1
  else if inStack s then vfbEnter s 3
  else vfbEnter s (if inVenue s then 1 else 0)

/-- The device is master on its ports: the system master or the acting backup (R271). -/
def ptpMaster (s : State) : Bool := vfbState s == 4 || vfbState s == 5

/-- The device takes its time from the fabric. -/
def ptpSlave (s : State) : Bool := vfbState s == 1 || vfbState s == 2 || vfbState s == 3

/-- Time transfer runs on a port. -/
def ptpOn (s : State) (p : Nat) : Bool := s.flag VFB_CTL_PTP_EN && inVenue s && (fabricUp s).contains p

/-- The timing port: port 0 while it receives Sync, else port 1 (R271).  A port that is down, or has missed three of the Syncs that come 16
times a second, receives none (log entry 17). -/
def timingPort (s : State) : Nat :=
  if (fabricUp s).contains 0 && s.vfb.sync0At ≠ 0 && s.uptime < s.vfb.sync0At - 1 + 187500000 then 0 else 1

/-! ### Time transfer (R271, R273) -/

/-- A signed number held in a 32-bit register, saturated. -/
def sat32 (e : Int) : Nat := wrapOf 32 (max (-(2 ^ 31)) (min (2 ^ 31 - 1) e))

/-- A measured offset: it is slewed out, or a step is due; 4 small ones in a row after a valid beacon lock the device. -/
def offsetTake (s : State) (e : Int) : State :=
  let s := s.setFld VFB_OFFSET_NS (sat32 e)
  let s := if e.natAbs ≤ 1000 then { s with vfb := { s.vfb with slew := e } }
    else { s with vfb := { s.vfb with slew := 0, step := some (e, s.uptime) } }
  let run := if e.natAbs ≤ 50 then s.vfb.syncRun + 1 else 0
  let s := { s with vfb := { s.vfb with syncRun := run } }
  if (vfbState s = 1 || vfbState s = 3) && s.vfb.beaconSeen && 4 ≤ run then
    vfbEnter s 2
  else s

/-! ### Orders and beacons (R269, R272, R274) -/

/-- The orders still carried at venue time `t`: until 250 ms after their target boundary. -/
def ordersAt (s : State) (t : Nat) : List Order := s.vfb.orders.filter fun o => decide (t ≤ o.epoch * periodNs + 250000000)

/-- The orders held change. -/
def setOrders (s : State) (l : List Order) : State :=
  let s := { s with vfb := { s.vfb with orders := l } }
  if ptpMaster s then s.setFld VFB_STAT_NORD l.length else s

/-- The first beacon time at or after `t`. -/
def beaconTime (t : Nat) : Nat := (t + 122999999) / 125000000 * 125000000 + 2000000

/-- A valid beacon (R272). -/
def beaconIn (s : State) (b : List Byte) : State :=
  let seq := leAt b 0 4
  let sender := leAt b 4 2
  let fromMaster := sender = masterIndex s
  let newer := match s.vfb.lastBseq with
    | none => true
    | some l => let d := (seq + 2 ^ 32 - l) % 2 ^ 32; decide (1 ≤ d && d < 2 ^ 31)
  let valid := newer && (fromMaster || (sender == backupIndex s && octAt b 6 % 2 == 1 && !heardLately s s.vfb.masterAt))
  if !inVenue s || vfbState s = 4 || !valid then s else
  let first := s.vfb.lastBseq.isNone
  let orders := (List.range (min 4 (octAt b 7))).map fun i => (b.drop (16 + 24 * i)).take 24
  let now := s.uptime + 1
  let s := { s with vfb := { s.vfb with lastBseq := some seq
                                        bseq := seq
                                        beaconAt := now
                                        masterAt := if fromMaster then now else s.vfb.masterAt
                                        syncRun := if s.vfb.beaconSeen then s.vfb.syncRun else 0
                                        beaconSeen := true } }
  let s := s.setFld VFB_BCN_BSEQ seq
  let s := if fromMaster && myIndex s = backupIndex s then
      let new := orders.map orderOf
      setOrders s ((new ++ (ordersAt s s.venue).filter fun o => !new.any (·.seq = o.seq)).take 4)
    else s
  let s := if fromMaster && vfbState s = 5 then vfbEnter s 2 else s
  let s := orders.foldl orderArrives s
  if first then importStart (restartSend s) else s

/-- A write of VFB_CMD.ORDER_GO (R70, R274): the order of a master, or of a standalone stack's leader, is issued and taken up, or refused. -/
def orderGo (s : State) : State :=
  let target := s.fld VFB_OEPL_EPOCH_LO + 2 ^ 32 * s.fld VFB_OEPH_EPOCH_HI
  let carried := ordersAt s s.venue
  let may := ptpMaster s || (!inVenue s && isLeader s)
  if !may || target < s.epoch + 25 || 4 ≤ carried.length then s.setFld VFB_STAT_ORDER_REFUSED 1
  else
    let o : Order :=
      { seq := (match s.lastOrder with | some l => l + 1 | none => 1) % 2 ^ 32, mask := s.fld VFB_OMASK_REGIONS
        build := s.fld VFB_OBLDL_BUILD_LO + 2 ^ 32 * s.fld VFB_OBLDH_BUILD_HI, epoch := target }
    orderArrives ((setOrders s (carried ++ [o])).setFld VFB_OSEQ_SEQ o.seq) (orderBody o)

/-! ### Steps of venue time (R273) -/

/-- An instant on the stepped time, which counts modulo 2 ^ 64 (R16). -/
def shiftT (e : Int) (t : Nat) : Nat := ((t + e) % (venueEnd : Int)).toNat

/-- An instant on the stepped time, where 0 means that there is none. -/
def shiftT0 (e : Int) (t : Nat) : Nat := if t = 0 then 0 else shiftT e t

def Detection.shift (e : Int) (d : Detection) : Detection := { d with start := shiftT e d.start }

def RxLane.shift (e : Int) (x : RxLane) : RxLane :=
  { x with det := x.det.shift e, syncTime := shiftT0 e x.syncTime, endAt := shiftT0 e x.endAt }

def Group.shift (e : Int) (g : Group) : Group :=
  { g with start := shiftT e g.start, closeAt := shiftT e g.closeAt, dets := g.dets.map (Detection.shift e) }

def Blank.shift (e : Int) (b : Blank) : Blank := { b with start := shiftT e b.start, stop := shiftT0 e b.stop }

def TxReq.shift (e : Int) (q : TxReq) : TxReq :=
  if q.phase < 4 && q.phase ≠ 1 then q
  else { q with airStart := shiftT0 e q.airStart, airEnd := shiftT0 e q.airEnd, notBefore := shiftT0 e q.notBefore
                waitEnd := shiftT0 e q.waitEnd, lastAir := shiftT0 e q.lastAir }

/-- The switch samples of a compensator, numbered on the stepped time (R106, R111). -/
def PortX.shift (e : Int) (band : Nat) (x : PortX) : PortX :=
  { x with testCut := x.testCut.map (shiftT e)
           compAt := x.compAt.map fun c => ((c.1 + e * 3 / (if band = 0 then 25 else 100) : Int).toNat, c.2) }

/-- Everything that happens at an instant already fixed keeps that instant on the stepped time. -/
def shiftAll (s : State) (e : Int) : State :=
  { s with groups := s.groups.map fun g => (g.1, g.2.map (Group.shift e))
           kept := s.kept.map fun d => (d.1, d.2.shift e)
           ports := s.ports.map fun x => (x.1, x.2.shift e (portBand s x.1))
           blanks := s.blanks.map (Blank.shift e)
           cancels := s.cancels.map fun c => { c with start := shiftT e c.start, stop := shiftT e c.stop }
           rxLanes := s.rxLanes.map fun x => (x.1, x.2.shift e)
           frames := s.frames.map fun x => (x.1, { x.2 with det := x.2.det.shift e, syncTime := shiftT0 e x.2.syncTime, endAt := shiftT0 e x.2.endAt })
           txLanes := s.txLanes.map fun x => (x.1, { x.2 with airStart := shiftT e x.2.airStart, airEnd := shiftT e x.2.airEnd })
           reqs := s.reqs.map fun x => (x.1, x.2.shift e)
           gainAt := s.gainAt.map fun x => (x.1, shiftT0 e x.2)
           killUntil := shiftT0 e s.killUntil
           deafTo := shiftT e s.deafTo }

/-- LEARNED_MS clears in every record that holds one, each on a commit of its own (R44, R228). -/
def learnedClear (s : State) : State :=
  (liveRecords s).foldl (fun s n => if recLe s n 48 4 = 0 then s else recCommit s n 48 (leBytes 4 0)) s

/-- A request placed for a slot of the period that begins at the step ends LATE (R273, R206). -/
def placedLate (s : State) : State :=
  (s.reqs.map (·.1)).foldl (fun s num =>
    match s.req num with
    | some q => if (q.phase = 2 || q.phase = 3) && decide (q.airStart / periodNs = s.epoch) then reqEnd s num 2 else s
    | none => s) s

/-- Venue time steps by e at a boundary. -/
def venueStep (s : State) (e : Int) : State :=
  let s := placedLate (deafSettle s)
  let s := shiftAll s e
  let s := { s with venue := shiftT e s.venue, thirds := 0, vfb := { s.vfb with step := none, slew := 0 } }
  let s := (s.setFld VFB_STEP_NS (sat32 e)).bump VFB_STEPS_COUNT
  if 1000 < e.natAbs then learnedClear s else s

/-! ### Commands -/

/-- The master sends a two-step Sync and its Follow_Up on each fabric port: port, message 0 or 8, domain, origin time
(R271). -/
def execPtpSyncSend (s : State) : Res :=
  if !ptpMaster s then ok s
  else ok ((List.range 2).foldl (fun s p =>
    if ptpOn s p then (s.emit .ptp [p, 0, s.fld VFB_CTL_DOMAIN]).emit .ptp [p, 8, s.fld VFB_CTL_DOMAIN, s.venue] else s) s)

/-- A slave receives a Sync with its origin time and correction, at the local time `arrival` (R271, R273). -/
def execPtpSyncReceived (port : Fin 2) (origin : Nat) (correction : Int) (arrival : Nat) (s : State) : Res :=
  let s := s.advance arrival
  if !ptpSlave s || !ptpOn s port then ok s else
  let s := if port.val = 0 then { s with vfb := { s.vfb with sync0At := s.uptime + 1 } } else s
  if timingPort s ≠ port.val then ok s else
  let diff : Int := (min arrival s.venue : Nat) - origin - correction
  let s := { s with vfb := { s.vfb with syncDiff := diff } }.setFld VFB_STAT_TPORT port
  ok (offsetTake s (s.vfb.delay - diff))

/-- A slave sends a Delay_Req on its timing port (R271). -/
def execPtpDelayReqSend (s : State) : Res :=
  let p := timingPort s
  if ptpSlave s && ptpOn s p then
    ok ({ s with vfb := { s.vfb with reqSent := s.venue } }.emit .ptp [p, 1, s.fld VFB_CTL_DOMAIN])
  else ok s

/-- The master answers a Delay_Req that arrived at `arrival` (R271). -/
def execPtpDelayReqReceived (port : Fin 2) (requester arrival : Nat) (s : State) : Res :=
  let s := s.advance arrival
  if ptpMaster s && ptpOn s port then ok (s.emit .ptp [port, 9, s.fld VFB_CTL_DOMAIN, min arrival s.venue, requester]) else ok s

/-- A slave receives the Delay_Resp to its Delay_Req: the path delay is half the sum of both one-way differences (R271). -/
def execPtpDelayRespReceived (port : Fin 2) (received : Nat) (correction : Int) (s : State) : Res :=
  if ptpSlave s && ptpOn s port && timingPort s = port.val then
    let back : Int := received - s.vfb.reqSent - correction
    ok { s with vfb := { s.vfb with delay := (s.vfb.syncDiff + back) / 2 } }
  else ok s

/-- The master or the acting backup sends a BEACON at the next beacon time (R272, R274). -/
def execBeaconSend (s : State) : Res :=
  let t := beaconTime s.venue
  let t := if t = s.vfb.sentAt then t + 125000000 else t
  if !ptpMaster s || s.nextBoundary ≤ t then ok s else
  let s := s.passTo t
  let s := setOrders s (ordersAt s t)
  let l := s.vfb.orders.take 4
  let seq := (s.vfb.bseq + 1) % 2 ^ 32
  let s := { s with vfb := { s.vfb with bseq := seq, sentAt := t } }
  ok (recordSend s 0xFFFF (recordOf 1 (leBytes 4 seq ++ leBytes 2 (myIndex s) ++ leBytes 1 (b2n (vfbState s == 5))
    ++ leBytes 1 l.length ++ leBytes 8 t ++ l.flatMap orderBody)))

/-- A BEACON arrives (R272). -/
def execBeaconReceived (body : List Byte) (s : State) : Res := ok (beaconIn s body)

/-- 385 ms since the last valid beacon arrived: a LOCKED device goes to HOLDOVER (R272). -/
def execBeaconTimeout (s : State) : Res :=
  if vfbState s ≠ 2 then ok s else
  match s.reachUp (s.vfb.beaconAt - 1 + 385000000) with
  | some s => ok (vfbEnter s 3)
  | none => ok s

/-- A slave passes a beacon time without a valid beacon (R279). -/
def execBeaconTimeMissed (s : State) : Res :=
  let since := s.venue - (beaconTime s.venue - 125000000)
  if (ptpSlave s || vfbState s = 6) && s.vfb.beaconAt + since ≤ s.uptime then ok (s.bump VFB_BCNMISS_COUNT) else ok s

/-- The backup, 2 s since the last master beacon, becomes ACTING (R272). -/
def execBackupTakeover (s : State) : Res :=
  if !(vfbState s = 1 || vfbState s = 3) || myIndex s ≠ backupIndex s then ok s else
  match s.reachUp ((if s.vfb.masterAt = 0 then s.vfb.acquireAt else s.vfb.masterAt - 1) + 2000000000) with
  | some s => ok (vfbEnter (setOrders s (ordersAt s s.venue)) 5)
  | none => ok s

/-- An accepted write of VFB_CMD.ORDER_GO (R274). -/
def execOrderGo (s : State) : Res := ok (orderGo s)

/-- The key of a master's latch of EPOCH_HI (R37), and of TIME_HI (R278). -/
def epochLatch (m : Nat) : Nat := m
def timeLatch (m : Nat) : Nat := 32 + m

/-- A read of VFB_TIMEL by a master (R278). -/
def timeRead (s : State) (m : Nat) : State :=
  (s.setLatch (timeLatch m) (BitVec.ofNat 32 (s.venue / 2 ^ 32))).answer (BitVec.ofNat 32 s.venue)

def execVenueTimeRead (master : Master) (s : State) : Res := ok (timeRead s master)

/-- A fabric port's link goes down (R278); timing moves to the other port. -/
def execFabricPortDown (port : Fin 2) (s : State) : Res :=
  ok (s.setFld (if port.val = 0 then VFB_STAT_PORT0_UP else VFB_STAT_PORT1_UP) 0)

/-- A fabric port's link is up; the THV4824 has no port 1 (R278, R280). -/
def execFabricPortUp (port : Fin 2) (s : State) : Res :=
  if port.val < s.part.fabricPorts then
    ok (s.setFld (if port.val = 0 then VFB_STAT_PORT0_UP else VFB_STAT_PORT1_UP) 1)
  else ok s

end Sys2Proof.Machine
end

