-- ==== Sys2Proof/Machine/Power.lean ====
section
/-! DEFINITION. Machine/Power.lean: supplies, the regulator, power states, resets and the start-up steps (R384 to R408,
R506). -/

namespace Sys2Proof.Machine

/-! ### Resets (R402 to R404, R407) -/

/-- Registers that a reset of the main domain leaves: those of the backup domain, but for the RTC's write shadow (R378), the rail status,
and where only steps 5 to 9 run the clock status and the record of the earlier steps. -/
def regSurvives (soft : Bool) (a : Nat) : Bool :=
  (decide (0x20110000 ≤ a ∧ a < 0x20120000) && !decide (RTC_WSHADOW 0 ≤ a ∧ a ≤ RTC_WSHADOW 5)) || a == PWR_PMBCFG || a == PWR_WAKECFG || a == PWR_RAILSTAT
    || (soft && (a == SYS_CLKSTAT || a == PWR_STEPTO || decide (PWR_STEPTIME 0 ≤ a ∧ a ≤ PWR_STEPTIME 4)))

/-- A life-cycle reset wipes the VERIFY keys, the reservations and the key-blob region (R433). -/
def lcWipe (s : State) : State :=
  forBelow 16 (fun s i => sectorFill s (keySector s + i) {}) { s with priv := { s.priv with verify := [], res := [] } }

/-- The main domain is reset: everything but the backup domain, flash and the private array goes to its reset value (R396, R402).
`soft` is a reset that runs steps 5 to 9 alone. -/
def mainReset (s : State) (soft : Bool) : State :=
  let s := flashCut s
  let s := if s.draining && bitOf s.cause 6 then lcWipe s else s
  let t := State.resetOf s.part
  let sub := rtcSubsec s
  let r : State := { t with
    pending := s.pending
    out := s.out
    free := s.free
    busData := s.busData
    busResult := s.busResult
    regs := s.regs.filter fun e => regSurvives soft e.1
    rtcAlarmDue := s.rtcAlarmDue
    backupOn := s.backupOn
    cause := s.cause
    resetCount := s.resetCount
    wakeArmed := s.wakeArmed
    wakeLatch := s.wakeLatch
    hotFired := s.hotFired
    hotNow := s.hotNow
    delays := if soft then s.delays else []
    avsDead := soft && s.avsDead
    priv := s.priv
    flash := s.flash
    flashCells := s.flashCells
    flashDead := soft && s.flashDead
    ref := if soft then { s.ref with startCal := false } else {}
    restartDue := !soft || s.restartDue }
  -- of RTC_STAT, OSF and the alarm are kept, and OSC_OK follows the oscillator (R383, log entry 169)
  let r := r.setFlds [(RTC_SUBSEC_SUBSEC, sub), (RTC_STAT_FROZEN, 0), (RTC_STAT_FREEZE_LAPSED, 0), (RTC_STAT_APPLY_PEND, 0),
    (RTC_STAT_APPLY_ERR, 0)]
  if soft then
    r.setFlds [(PWR_AVSSTAT_SET, s.fld PWR_AVSSTAT_SET), (SYS_CLKSTAT_SYN_A_LOCK, 0), (SYS_CLKSTAT_SYN_B_LOCK, 0),
      (PWR_STEPTO_TIMEOUT, s.fld PWR_STEPTO_TIMEOUT % 32)]
  else r

/-- A reset is counted. -/
def countReset (s : State) : State := { s with resetCount := min 255 (s.resetCount + 1) }

/-- Start-up begins at a step. -/
def startAt (s : State) (step : Nat) : State := { s with phase := .starting, startStep := step, stepRetry := false, draining := false }

/-- A PERST, watchdog, software or life-cycle reset is triggered (R403), by its bit of SYS_RSTCAUSE; one that comes while another of
these runs merges with it (R404), where a power-on or wake reset takes no such trigger. -/
def resetTrigger (s : State) (bit : Nat) : State :=
  if s.phase ≠ .running then (if s.phase = .starting && 5 ≤ s.startStep && !bitOf s.cause 0 && !bitOf s.cause 2 then { s with cause := s.cause ||| 2 ^ bit } else s)
  else if s.draining then { s with cause := s.cause ||| 2 ^ bit }
  else countReset { s with draining := true, cause := 2 ^ bit }

/-- A transmission is on air or ramps down. -/
def onAir (s : State) : Bool := s.txLanes.any fun e => decide (2 ≤ e.2.stage)

/-- Every prepared acknowledgement is withdrawn (R188, R398). -/
def acksWithdraw (s : State) : State :=
  (s.frames.map (·.1)).foldl (fun s f =>
    match s.frame f with
    | some x => if x.ack = 1 || x.ack = 2 then ackWithdraw s f else s
    | none => s) s

/-- The main supplies go within the 2 µs of a write of the duty-cycle mirror: its CHK fails; what else of it has been written shows nowhere
(R222; log entry 155). -/
def mirrorTorn (s : State) : State :=
  if s.mirrorAt = 0 || s.mirrorAt - 1 + 2000 ≤ s.uptime then s else
  let (r, s) := s.draw
  let chk := ofLe (((bram s).drop 62).take 2)
  bramPut s 62 (leBytes 2 (Nat.xor chk (1 + r % 65535)))

/-- A brown-out (R387), or an over-temperature shutdown with no rail lost (R506): the main domain is held in reset. -/
def brownOut (s : State) (rails : Nat) : State :=
  { countReset (mainReset (mirrorTorn s) false) with phase := .held, cause := 1 + 2 + 4096 * rails }

/-! ### Regulator (R389 to R392) -/

/-- A voltage request: PAGE, then VOUT_COMMAND: page, code, value in mV. -/
def voltRequest (s : State) (value why : Nat) : State :=
  if s.voltReq.isSome || s.avsDead then s
  else { s with voltReq := some { value := value, why := why } }.emit .pmbus [s.fld PWR_PMBCFG_CORE_PAGE, 0x21, 5 * value]

/-- The value VDD_CORE is asked for: the target, lower by QUIET_OFS in QUIET, never below FLOOR (R391). -/
def avsValue (s : State) (quiet : Bool) : Nat :=
  if quiet then max (s.fld PWR_AVS_FLOOR) (s.avsTarget - s.fld PWR_AVS_QUIET_OFS) else s.avsTarget

def avsOn (s : State) : Bool := s.flag PWR_AVS_EN && !s.avsDead

/-- A PWR_STATE change, told by producer 65 (R408). -/
def pwrEnter (s : State) (st : Nat) : State :=
  if s.fld PWR_STATE_CUR = st then s else (s.setFld PWR_STATE_CUR st).fire 65 st

/-- The datapath is ungated and the ports head for their held states (R397). -/
def ungate (s : State) : State :=
  let s := { s with gated := false }
  pwrEnter ((allPorts s).foldl (fun s p => if portRole s p = 0 then s else portAim s p (portWant s p)) s) 0

/-- The AVS loop at a period start, with the critical-path margin in ps (R391); a raise that failed is tried again (R390). -/
def avsBoundary (s : State) (margin : Int) : State :=
  let s := if s.fld PWR_STATE_CUR = 3 && s.gated && s.voltReq.isNone then voltRequest s (avsValue s false) 1 else s
  if !avsOn s then { s with avsTarget := if s.gated then s.avsTarget else s.fld PWR_AVSSTAT_SET, avsCalm := 0 } else
  let s := s.setFld PWR_AVSSTAT_MARGIN (wrapOf 8 (max (-128) (min 127 (margin / 4))))
  let calm := if 120 < margin then s.avsCalm + 1 else 0
  let s :=
    if margin < 40 then { s with avsTarget := min (s.avsTarget + 2) (s.fld PWR_AVS_CEIL), avsCalm := 0 }
    else if 10 ≤ calm then { s with avsTarget := max (s.avsTarget - 1) (s.fld PWR_AVS_FLOOR), avsCalm := 0 }
    else { s with avsCalm := calm }
  let v := avsValue s s.gated
  if v = s.fld PWR_AVSSTAT_SET || s.fld PWR_STATE_CUR = 3 then s else voltRequest s v 0

/-- A write of PWR_PMBCMD with GO (R392). -/
def pmbusGo (s : State) (w : Nat) : State :=
  let s := s.setReg PWR_PMBCMD (BitVec.ofNat 32 (w % 2 ^ 14))
  if s.flag PWR_PMBSTAT_BUSY then s.setFld PWR_PMBSTAT_OVERRUN 1
  else (s.setFlds [(PWR_PMBSTAT_BUSY, 1), (PWR_PMBSTAT_RESULT, 0)]).emit .pmbus
    [bitsOf w 10 8, w % 256, s.fld PWR_PMBDATA_DATA, bitsOf w 12 11, bitsOf w 13 13]

/-! ### Power states (R396 to R399) -/

/-- The entry to DORMANT is left before its transmissions have ended; later the rails are being turned off (log entry 18). -/
def dormantLeave (s : State) : State := { s with dormStep := 0, wakeArmed := false, wakeLatch := 0 }

/-- A write of PWR_STATECTL with REQ 1. -/
def quietRequest (s : State) : State :=
  match s.fld PWR_STATE_CUR with
  | 0 => pwrEnter s 2
  | 3 => pwrEnter ({ s with voltReq := none }.setFld PWR_AVSSTAT_HELD 0) 2
  | 4 => if s.dormStep ≤ 1 then pwrEnter (dormantLeave s) 2 else s
  | _ => s

/-- The datapath is to be ungated: first VDD_CORE is raised (R390), also where AVS was turned off after it had been lowered. -/
def raiseFirst (s : State) : State :=
  let s := pwrEnter s 3
  if !s.avsDead && (s.flag PWR_AVS_EN || s.fld PWR_AVSSTAT_SET < s.avsTarget) then voltRequest s (avsValue s false) 1 else ungate s

/-- A write of PWR_STATECTL with REQ 0. -/
def activeRequest (s : State) : State :=
  match s.fld PWR_STATE_CUR with
  | 1 => raiseFirst s
  | 2 => if s.gated then raiseFirst s else pwrEnter s 0
  | 4 => if 1 < s.dormStep then s else if s.gated then raiseFirst (dormantLeave s) else pwrEnter (dormantLeave s) 0
  | _ => s

/-- A write of PWR_STATECTL with REQ 2: step 1 of R398, or refused without its key. -/
def dormantRequest (s : State) (key : Nat) : State :=
  if key ≠ 0x5D then s.setFld PWR_STATE_REFUSED 1
  else if s.fld PWR_STATE_CUR = 4 then s
  else
    let s := pwrEnter { s with wakeArmed := true, wakeLatch := 0, dormStep := 1 } 4
    (s.reqs.map (·.1)).foldl (fun s num =>
      match s.req num with
      | some q => if q.phase < 5 then reqEnd s num 0x0C else s
      | none => s) (acksWithdraw s)

/-- A write of PWR_STATECTL (R396). -/
def stateCtl (s : State) (w : Nat) : State :=
  match w % 4 with
  | 0 => activeRequest s
  | 1 => quietRequest s
  | 2 => dormantRequest s (bitsOf w 15 8)
  | _ => s.setFld PWR_STATE_REFUSED 1

/-- REG_EN is driven low (R398 step 4). -/
def regEnLow (s : State) : State := { s with dormStep := 4, hwPmbus := 0 }.setFld PWR_RAILSTAT_REG_EN 0

/-- Every engine that runs stops and is HELD (R398 step 2). -/
def enginesStop (s : State) : State :=
  forBelow 12 (fun s n =>
    if s.fld (SYS_ENGSTAT_STATE n) = 1 || s.fld (SYS_ENGSTAT_STATE n) = 3 then
      s.setFlds [(SYS_ENGSTAT_STATE n, 0), (SYS_ENGCTL_RUN n, 0)] else s) s

/-- Steps 3 and 4 of R398: the rails are turned off page by page, then REG_EN. -/
def railsOff (s : State) : State :=
  if s.flag PWR_PMBCFG_OFF_AT_DORMANT then
    let n := s.fld PWR_PMBCFG_PAGES
    forBelow n (fun s p => (s.emit .pmbus [p, 0x00]).emit .pmbus [p, 0x01, 0x00]) { s with dormStep := 3, hwPmbus := 2 * n }
  else regEnLow s

/-- The wake source of the highest code among those latched (R382): 1 wake port, 2 RTC alarm, 3 TAMPER_N. -/
def wakeCode (latch : Nat) : Nat := if bitOf latch 2 then 3 else if bitOf latch 1 then 2 else if bitOf latch 0 then 1 else 0

/-! ### Start-up (R51, R52, R393) -/

/-- The ROM's DELAY entries for steps 0 to 9, MAX_WAIT in µs; all with USE_READY. -/
def romWaits : List Nat := [20000, 5000, 10000, 100, 500, 1500, 2000, 50, 1000, 100000]

/-- The delay entry in force for a step: MAX_WAIT and USE_READY. -/
def delayEntry (s : State) (i : Nat) : Nat × Bool :=
  let w := s.delays.getD i 0
  if s.delays.isEmpty || w / 2 ^ 25 ≠ 0 then (romWaits.getD i 0, true)
  else (if w % 2 ^ 24 = 0 then romWaits.getD i 0 else w % 2 ^ 24, bitOf w 24)

/-- The edge that ends step 7 (R393, R404): the blocks run, venue time starts, and the cause of the reset shows. -/
def logicRelease (s : State) : State :=
  { s with phase := .running, venue := 0, thirds := 0, uptime := 0, rtcSecAt := 0, startStep := 8 }.setReg SYS_RSTCAUSE
    (BitVec.ofNat 32 (s.cause + 2 ^ 24 * s.resetCount))

/-- The next step begins. -/
def stepNext (s : State) : State :=
  if s.startStep = 7 then logicRelease s else { s with startStep := s.startStep + 1, stepRetry := false }

/-- The duration of the running step. -/
def stepTime (s : State) (us : Nat) : State := s.setFld (PWR_STEPTIME_US s.startStep) (min us (2 ^ 24 - 1))

/-- A step runs: in start-up, or beside Sorrel's work. -/
def stepRuns (s : State) : Bool :=
  (s.phase == .starting && decide (s.startStep ≤ 7)) || (s.phase == .running && (s.startStep == 8 || s.startStep == 9))

/-- Every main rail is present. -/
def railsAll (s : State) : Bool := s.fld PWR_RAILSTAT_PRESENT == 127

/-! ### Commands: supplies -/

/-- The backup domain powers up (R376, R386, R402): its registers are reset, OSF is set, REG_EN goes high and power-on start-up
begins. -/
def execBackupPowerUp (vbat : Bool) (s : State) : Res :=
  let s := mainReset s false
  let s := { s with regs := s.regs.filter fun e => e.1 == PWR_RAILSTAT
                    rtcShadow := []
                    rtcAlarmDue := false
                    backupOn := true
                    cause := 1
                    resetCount := 0
                    wakeArmed := false
                    wakeLatch := 0 }
  ok (startAt (osfSet (s.setFlds [(PWR_RAILSTAT_VBAT_OK, b2n vbat), (PWR_RAILSTAT_REG_EN, 1)])) 0)

/-- VBAT and VDD_IO are both absent (R386): the backup domain and, VDD_IO being a main rail, the main domain lose power. -/
def execBackupPowerLost (s : State) : Res :=
  let s := mainReset s false
  ok ({ s with backupOn := false, phase := .held }.setFlds
    [(PWR_RAILSTAT_VBAT_OK, 0), (PWR_RAILSTAT_PRESENT, s.fld PWR_RAILSTAT_PRESENT &&& 0x5F), (PWR_RAILSTAT_PGOOD, 0)])

/-- Main rails are lost (R387); in the entry to DORMANT, in DORMANT and in the pulse of REG_EN they are turned off on purpose. -/
def execRailLost (rails : Fin 128) (s : State) : Res :=
  if rails.val = 0 then ok s else
  let left := s.fld PWR_RAILSTAT_PRESENT &&& (127 - rails.val)
  let s := s.setFlds [(PWR_RAILSTAT_PRESENT, left), (PWR_RAILSTAT_PGOOD, 0)]
  match s.phase with
  | .running => if 4 ≤ s.dormStep then ok s else ok (brownOut s rails)
  | .starting => ok { mainReset s false with phase := .held, cause := s.cause ||| 1 }
  | _ => ok s

/-- Every main rail is present again (R385, R387, R394): power-on start-up begins, or step 0 that waited goes on. -/
def execRailsPresent (s : State) : Res :=
  let s := s.setFld PWR_RAILSTAT_PRESENT 127
  match s.phase with
  | .held => if s.backupOn then ok (startAt s 0) else ok s
  | .starting => if s.startStep = 0 && bitOf (s.fld PWR_STEPTO_TIMEOUT) 0 && !s.hotNow then ok (stepNext s) else ok s
  | _ => ok s

/-- PWR_GOOD falls while every rail is present (R387, R408). -/
def execPgoodLow (s : State) : Res :=
  if mainOn s && railsAll s then ok ((s.setFld PWR_RAILSTAT_PGOOD 0).fire 68 0) else ok s

/-! ### Commands: start-up steps -/

/-- A start-up step ends by its ready signal, or where the delay table says so by its wait alone (R51, R393). -/
def execStartupStepDone (us : Nat) (ready : Bool) (s : State) : Res :=
  let d := delayEntry s s.startStep
  if !stepRuns s || (if d.2 then !ready else decide (us < d.1)) then ok s else
  match s.startStep with
  | 0 =>
    if s.hotNow then ok s else
    let s := stepTime s us
    if ready then ok (stepNext (s.setFlds [(PWR_RAILSTAT_PRESENT, 127), (PWR_RAILSTAT_PGOOD, 1)]))
    else if railsAll s then ok (stepNext s) else ok (s.setFld PWR_STEPTO_TIMEOUT (s.fld PWR_STEPTO_TIMEOUT ||| 1))
  | 1 => ok (stepNext { stepTime s us with avsDead := !ready })
  | 2 => ok (stepNext ((stepTime s us).setFld SYS_CLKSTAT_REF_VALID (b2n ready)))
  | 3 => ok (stepNext ((stepTime s us).setFlds
      [(SYS_CLKSTAT_ROOT_LOCK, b2n ready), (SYS_CLKSTAT_ON_FALLBACK, b2n !(ready && s.flag SYS_CLKSTAT_REF_VALID))]))
  | _ => ok (stepNext (stepTime s us))

/-- The 1 s low pulse of REG_EN ends and start-up begins again at step 0 (R394). -/
def execRegEnPulseEnd (s : State) : Res :=
  if s.phase = .pulse then ok (startAt (s.setFld PWR_RAILSTAT_REG_EN 1) 0) else ok s

/-! ### Commands: regulator -/

/-- The regulator has acknowledged a voltage request (R389, R390, R397). -/
def execVoltageAck (s : State) : Res :=
  match s.voltReq with
  | none => ok s
  | some v =>
    let s := { s with voltReq := none }.setFlds [(PWR_AVSSTAT_SET, v.value), (PWR_RAILSTAT_PGOOD, 1)]
    if s.fld PWR_STATE_CUR = 3 && s.gated then
      if v.why = 1 then ok (ungate (s.setFld PWR_AVSSTAT_HELD 0)) else ok (voltRequest s (avsValue s false) 1)
    else ok s

/-- A voltage request has not been acknowledged in its wait (R389, R390). -/
def execVoltageRequestFail (s : State) : Res :=
  match s.voltReq with
  | none => ok s
  | some v =>
    let s := { s with voltReq := none }.setFld PWR_PMBSTAT_RESULT 5
    let s := (s.bump PWR_AVSSTAT_FAILS).fire 66 5
    ok (if v.why = 1 then s.setFld PWR_AVSSTAT_HELD 1 else s)

/-- An accepted write of PWR_PMBCMD with GO (R392). -/
def execPmbusTransaction (word : Word) (s : State) : Res := ok (pmbusGo s word.toNat)

/-- A PMBus transaction ends with a result, 1 to 4, and the data read: the firmware's, or one of the entry to DORMANT (R392,
R398). -/
def execPmbusTransactionDone (result : Fin 8) (data : Word) (s : State) : Res :=
  if s.flag PWR_PMBSTAT_BUSY then
    let s := s.setFlds [(PWR_PMBSTAT_BUSY, 0), (PWR_PMBSTAT_RESULT, result)]
    ok (if s.flag PWR_PMBCMD_READ && result.val = 1 then s.setFld PWR_PMBDATA_DATA data.toNat else s)
  else if s.dormStep = 3 then
    if s.hwPmbus ≤ 1 then ok (regEnLow s) else ok { s with hwPmbus := s.hwPmbus - 1 }
  else ok s

/-- PMB_ALERT_N falls: the agent reads STATUS_WORD of every page and keeps the first that is not zero (R392). -/
def execPmbusAlert (words : List Word) (s : State) : Res :=
  let s := s.setFld PWR_PMBSTAT_ALERT 1
  match (words.take (s.fld PWR_PMBCFG_PAGES)).find? fun w => w.toNat % 65536 ≠ 0 with
  | some w => ok (s.setFld PWR_PMBSTAT_STATUS w.toNat)
  | none => ok s

/-! ### Commands: power states -/

/-- A write of PWR_STATECTL with REQ 1 (R396, R397). -/
def execQuietRequest (s : State) : Res := ok (quietRequest s)

/-- The last lane and the last transmission have ended (R397): ports go to STANDBY, the datapath is gated and VDD_CORE lowered. -/
def execQuietDrainDone (s : State) : Res :=
  if s.fld PWR_STATE_CUR ≠ 2 || !(s.detOff || s.gated) || !s.rxLanes.isEmpty || onAir s then ok s else
  let s := (allPorts s).foldl (fun s p => if portRole s p = 0 || portState s p = 0 then s else portAim s p 1) { s with gated := true }
  let s := pwrEnter (deafSettle s) 1
  ok (if avsOn s then voltRequest s (avsValue s true) 2 else s)

/-- A write of PWR_STATECTL with REQ 0 (R396, R397). -/
def execActiveRequest (s : State) : Res := ok (activeRequest s)

/-- A write of PWR_STATECTL with REQ 2 and a key (R396, R398). -/
def execDormantRequest (key : Byte) (s : State) : Res := ok (dormantRequest s key.toNat)

/-- The last transmission on air has ramped down (R398 steps 2 to 4); a flash operation that runs is awaited. -/
def execDormantDrainDone (s : State) : Res :=
  if s.dormStep ≠ 1 || onAir s then ok s else
  let s := { mirrorWrite (enginesStop s) with dormStep := 2 }
  ok (if s.flcRun.isSome then s else railsOff s)

/-- DORMANT is reached with every rail lost, or is declared after 100 ms (R398 step 5). -/
def execDormantReached (confirmed : Bool) (s : State) : Res :=
  if s.dormStep ≠ 4 then ok s else
  let s := mainReset s false
  let s := if confirmed then s.setFlds [(PWR_RAILSTAT_PRESENT, 0), (PWR_RAILSTAT_PGOOD, 0)] else s
  ok { s with phase := .dormant, cause := if confirmed then 0 else 2048 }

/-- A latched wake source raises REG_EN on a 32.768 kHz edge in DORMANT (R399). -/
def execWake (s : State) : Res :=
  if s.phase ≠ .dormant || s.wakeLatch = 0 then ok s else
  let s := bramPut s 37 (leBytes 1 (wakeCode s.wakeLatch))
  let s := countReset { s with cause := (s.cause &&& 2048) + 4 + 256 * (s.wakeLatch % 8), wakeArmed := false, wakeLatch := 0 }
  ok (startAt (s.setFld PWR_RAILSTAT_REG_EN 1) 0)

/-- The wake port sees its address: it acknowledges from the entry to DORMANT on, or awake where ACK_AWAKE says so (R400). -/
def execWakePortMatch (address : Fin 128) (s : State) : Res :=
  if s.fld PWR_WAKECFG_ADDR ≠ address.val then ok s
  else if s.wakeArmed then ok (if s.flag PWR_WAKECFG_EN then { s with wakeLatch := s.wakeLatch ||| 1 }.emit .wakeAck [] else s)
  else if mainOn s && s.flag PWR_WAKECFG_ACK_AWAKE then
    ok ((((s.setFld PWR_WAKESTAT_MATCHED 1).bump PWR_WAKESTAT_COUNT).fire 67 0).emit .wakeAck [])
  else ok s

/-! ### Commands: resets -/

/-- A write of PWR_RSTCMD (R402, R406). -/
def softReset (s : State) (key : Nat) : State := if key = 0xD5 then resetTrigger s 5 else s

def execSoftwareDeviceReset (key : Byte) (s : State) : Res := ok (softReset s key.toNat)

/-- The device watchdog expires (R405); during a reload of the lead engine Sorrel kicks it. -/
def execDeviceWatchdogExpiry (s : State) : Res :=
  if s.fld PWR_WDT_LIMIT = 0 || !mainOn s then ok s
  else if s.fld SYS_SRLSTAT_STATE = 3 then ok { s with wdtAt := s.uptime } else
  match s.reachUp (s.wdtAt + 1000000 * s.fld PWR_WDT_LIMIT) with
  | some s => ok (resetTrigger { s with wdtAt := s.uptime } 4)
  | none => ok s

/-- A write of PWR_WDTKICK by a SECURE-world master (R405, R406). -/
def execDeviceWatchdogKick (master : Master) (s : State) : Res :=
  if masterSecure s master then ok { s with wdtAt := s.uptime, busResult := .ok } else ok s.refuse

/-- Transmissions and notices have drained (R403): the mailbox pages are reset, and the main domain is reset from step 5. -/
def execResetDrainDone (s : State) : Res :=
  if !s.draining || onAir s then ok s else
  let s := forBelow 15 pageReset s
  ok (startAt (mainReset s true) 5)

/-! ### Commands: temperature (R506) -/

/-- A sensor reads 110 °C or above. -/
def execHotSensor (celsius : Nat) (s : State) : Res :=
  if celsius < 110 then ok s
  else if s.hotFired then ok { s with hotNow := true }
  else ok ({ s with hotFired := true, hotNow := true }.fire 69 celsius)

/-- Every sensor reads below 105 °C. -/
def execHotClear (s : State) : Res := ok { s with hotFired := false, hotNow := false }

/-- A sensor reads 125 °C or above for 10 µs: as on a lost rail, with RAILS zero; every rail being present, start-up begins and
waits in step 0 (R387, R506). -/
def execOverTemperatureShutdown (s : State) : Res :=
  match s.phase with
  | .running => ok (startAt { brownOut s 0 with hotNow := true, hotFired := true } 0)
  | .starting => ok (startAt { mainReset s false with cause := s.cause ||| 1, hotNow := true, hotFired := true } 0)
  | _ => ok s

end Sys2Proof.Machine
end

