-- ==== Sys2Proof/Machine/Spatial.lean ====
section
/-! DEFINITION. Machine/Spatial.lean: the meanings of the analog gain, detection, separation, blanking and signature
commands (R106 to R140). -/

namespace Sys2Proof.Machine

/-! ### Blanking intervals that have started (R116, R187, R189) -/

/-- Act on every blanking interval that has started and has not acted yet; a withdrawal may add another one, so the
search goes on for `fuel` intervals. -/
def blankDue : Nat → State → State
  | 0, s => s
  | fuel + 1, s =>
    match s.blanks.find? fun b => b.blanks && !b.applied && decide (b.start ≤ s.venue) with
    | none => s
    | some b =>
      blankDue fuel (blankApply { s with blanks := s.blanks.map fun c => if c = b then { c with applied := true } else c } b)

/-- All blanking that is due. -/
def blankSettle (s : State) : State := blankDue (2 * s.blanks.length + 8) s

/-! ### Analog gain (R110 to R112) -/

/-- The gain loop of a port may step at `t`: it runs, its alignment is measured, the port is in RX and 2 µs have passed
since its last step. -/
def gainLoop (s : State) (p t : Nat) : Bool :=
  decide (p < s.part.ports) && s.act CAP_CTL_AAGC_EN == 1 && s.flag (CAP_PALIGN_VALID p) && portState s p == 3
    && (stGet 0 s.gainAt p == 0 || decide (stGet 0 s.gainAt p + 2000 ≤ t + 1))

/-- The number of the converter sample at an instant (R106). -/
def convSample (band t : Nat) : Nat := if band = 0 then t * 3 / 25 else t * 3 / 100

/-- The gain index that a port's compensator uses at a converter sample (R111). -/
def compIndex (s : State) (p n : Nat) : Nat :=
  (((s.portx p).compAt.filter fun e => e.1 ≤ n).getLast?.map (·.2)).getD (s.portx p).compOld

/-- The factor C[idx] by which the compensator multiplies a converter sample, where it is measured (R111). -/
def compFactor (s : State) (p n : Nat) : Option Word :=
  ((s.portx p).dcs.find? (·.1 = 32 * portBand s p + compIndex s p n)).map (·.2.2)

/-- One analog step of a port to an index, decided on the converter sample at `t`: the compensator takes the new index ALIGN samples later
(R111). -/
def gainStep (s : State) (p idx t : Nat) : State :=
  let n := convSample (portBand s p) t
  let x := s.portx p
  let s := s.setPortx p { x with compOld := compIndex s p n
                                 compAt := (x.compAt.filter fun e => n < e.1) ++ [(n + s.fld (CAP_PALIGN_ALIGN p), idx)] }
  (({ s with gainAt := stSet 0 s.gainAt p (t + 1) }).setFld (CAP_PGAIN_IDX p) idx).bump (CAP_PCNT_STEPS p)

/-- A 2 µs window closes at `t` with its peak `below` half-dB steps below full scale, or with a clipped sample: the loop
steps down one index, never beyond 20 (R110). -/
def execAagcStepDown (port : Fin 48) (below : Nat) (clipped : Bool) (t : Nat) (s : State) : Res :=
  let s := s.advance t
  let s := if clipped && portState s port == 3 then s.bump (CAP_PCNT_CLIPS port) else s
  if gainLoop s port t && (clipped || decide (below ≤ s.act CAP_AAGC_HI_THR)) && s.fld (CAP_PGAIN_IDX port) < 20 then
    ok (gainStep s port (s.fld (CAP_PGAIN_IDX port) + 1) t)
  else ok s

/-- The peak has stayed `below` half-dB steps below full scale for `held` µs: the loop steps up one index, never beyond 0
(R110). -/
def execAagcStepUp (port : Fin 48) (below held : Nat) (t : Nat) (s : State) : Res :=
  let s := s.advance t
  if gainLoop s port t && s.act CAP_AAGC_LO_THR < below && s.act CAP_AAGC_HOLD_UP ≤ held
      && 0 < s.fld (CAP_PGAIN_IDX port) then
    ok (gainStep s port (s.fld (CAP_PGAIN_IDX port) - 1) t)
  else ok s

/-! ### Detection and window groups (R119 to R122) -/

/-- The number of a bin sample in its period (R256). -/
def sampleIndex (band t : Nat) : Nat := t % periodNs / sampleNs band

/-- A detection cell of this member (R259, R265). -/
def detectCell (k : Nat) (d : Detection) (peak : Nat) : List Byte :=
  leBytes 2 k ++ leBytes 1 d.prof ++ leBytes 1 (wrapOf 8 d.snr) ++ leBytes 4 (sampleIndex (binBand k) d.start)
    ++ leBytes 4 (sampleIndex (binBand k) peak) ++ leBytes 2 (epoch16 d.start)

/-- A correlator of bin k for a profile crosses its threshold, with metric `rho` in 1/256, start sample `start` in ns at the ball, SNR in
quarter dB, and the correlator's complex outputs `outs` on the samples of the ports `ports` at the peak (R119 to R122): their beams, without the signatures
that the residual leaves out, make the detection's signature.  Where the bin carries no such correlator, or is blanked, there is no
detection. -/
def execDetection (bin : Fin 348) (prof : Fin 16) (rho start : Nat) (snr : Int) (ports : List Nat) (outs : List (Int × Int))
    (s : State) : Res :=
  let k : Nat := bin
  let peak := start + detWinNs (profWords s prof)
  let s := s.advance peak
  if !s.detOff && binPresent s k && binDet s k && detOn s k && (binProfs s k).contains prof.val && pwValid (profWords s prof)
      && decide (groupThr s k start ≤ rho) && !blankedAt s k peak then
    let (r, s) := s.draw
    let sig := sigOf r (vecAway (vecBasis (residualOf s k)) (beamSums s k (ports.zip outs)))
    let d : Detection := { prof := prof, start := start, snr := snr, beam := (sig.headD (0, 0)).1, sig := sig }
    let s := groupAdd (s.bump (SPX_BIN0_DETECT k)) k d
    ok (if s.flag STK_STAT_JOINT && s.flag STK_STAT_LEADER_OK then cellSend s 2 15 (detectCell k d peak) else s)
  else ok s

/-- The open group of a bin that closes first. -/
def groupDue (l : List Group) : Option Group :=
  (l.filter (!·.closed)).foldl (fun b g => match b with | none => some g | some h => if g.closeAt < h.closeAt then some g else b) none

/-- The open window group of a bin that is due first closes: no further detection in it can be declared (R122). -/
def execWindowGroupClose (bin : Fin 348) (s : State) : Res :=
  let k : Nat := bin
  match groupDue (s.binGroups k) with
  | none => ok s
  | some g =>
    let s := s.advance g.closeAt
    ok (s.setGroups k ((s.binGroups k).map fun h => if h = g then { h with closed := true } else h))

/-! ### Separation and lanes (R123 to R126, R154, R259 to R262) -/

/-- The member that owns a frame: the highest SNR among this member's detection and the DETECT cells of the same bin and
profile within ±2 bin samples, the lower member index among equals (R259). -/
def detOwner (s : State) (k : Nat) (d : Detection) : Nat :=
  let at_ := sampleIndex (binBand k) d.start
  (s.remoteDets.foldl (fun (b : Nat × Int) r =>
    if r.bin = k && r.prof = d.prof && startsMeet (binBand k) r.epoch r.start (epoch16 d.start) at_
        && (b.2 < r.snr || (b.2 = r.snr && r.member < b.1)) then (r.member, r.snr) else b) (stkMember s, d.snr)).1

/-- A kept frame of this member gets its lane with its weights; a joint one is announced to the stack (R125, R259 to R262). -/
def laneGrant (s : State) (k : Nat) (w : List (Nat × Int × Int) × Int) (d : Detection) : State :=
  let pw := profWords s d.prof
  let on := s.flag STK_STAT_JOINT && s.flag STK_STAT_LEADER_OK
  let joint := on && jointMode s pw && jointRoom s (binBand k)
  match laneAllocate s k d w joint with
  | (s, none) => s
  | (s, some n) =>
    if joint then
      let g := stkMembers s - 1 - stkHalf s
      let s := (s.bump STK_JOINT_COUNT).setFlds
        [(STK_LOAD_LOAD1, s.fld STK_LOAD_LOAD1 + stkUnits (binBand k)),
         (STK_LOAD_LOAD0, s.fld STK_LOAD_LOAD0 + (if g = 0 then 0 else stkUnits (binBand k)))]
      cellSend s 3 15 (leBytes 2 (laneTag s n) ++ leBytes 2 k ++ leBytes 1 d.prof ++ leBytes 1 0
        ++ leBytes 2 (epoch16 d.start) ++ leBytes 4 (sampleIndex (binBand k) d.start)
        ++ leBytes 4 (sampleIndex (binBand k) (d.start + detWinNs pw)))
    else if on then s.bump STK_LOCALONLY_COUNT else s

/-- A kept frame is a neighbour image, a contribution to another member's frame, or gets a lane; `all` are the signatures of the kept and
running frames (R123). -/
def keptFrame (s : State) (k : Nat) (g : Group) (all : List (List (Nat × Word))) (d : Detection) : State :=
  if neighbourImage s k g d then s.bump (PHY_CNT3_IMAGE d.prof) else
  let s := keptPut s k d
  let w := combWeights all d
  if s.flag STK_STAT_JOINT && detOwner s k d ≠ stkMember s then
    let c : Contribution := { bin := k, prof := d.prof, start := sampleIndex (binBand k) d.start, epoch := epoch16 d.start
                              weights := w.1, weightDen := w.2 }
    { s with contribs := s.contribs ++ [c] }
  else laneGrant s k w d

/-- The detections of a closed group are kept or reported, and lanes are allocated in the order of the group (R123, R126). -/
def separateGroup (s : State) (k : Nat) (g : Group) : State :=
  let s := s.setGroups k ((s.binGroups k).filter (· ≠ g))
  let (s, kept) := separateLoop k g (detSort g.dets) s []
  let all := kept.map (·.sig) ++ (runLanes s k).filterMap fun n => (s.rxl n).map (·.det.sig)
  kept.foldl (fun s d => keptFrame s k g all d) s

/-- Groups of lower bins that closed on the same edge as a group (R126, R154). -/
def groupsBefore (s : State) (k : Nat) (g : Group) : List (Nat × Group) :=
  s.groups.filterMap fun e => if e.1 < k then (e.2.find? fun h => h.closeAt = g.closeAt).map fun h => (e.1, h) else none

/-- 1 µs after a group's close separation is decided (R122, R123); in joint combining the decision falls the stack latency later (R259).
Groups that closed on the same edge are taken in ascending bin order, band A first (R126). -/
def execSeparation (bin : Fin 348) (s : State) : Res :=
  let k : Nat := bin
  match (s.binGroups k).find? (·.closed) with
  | none => ok s
  | some g =>
    let s := s.advance (g.closeAt + 1000 + if s.flag STK_STAT_JOINT then stkLatency s else 0)
    ok ((groupsBefore s k g ++ [(k, g)]).foldl (fun s e => separateGroup s e.1 e.2) s)

/-- The blanking interval of a transmission starts: unfinished lanes on its bins are aborted and open window groups
discarded (R116, R153). -/
def execBlankingStart (lane : Fin 96) (s : State) : Res :=
  match s.blanks.find? fun b => b.lane == lane.val + 1 && b.blanks && !b.applied with
  | none => ok s
  | some b => ok (blankSettle (s.advance b.start))

/-! ### Signatures (R131) -/

/-- A write of SPX_SIGINV.NODE. -/
def execSignatureInvalidate (node : Fin 16384) (s : State) : Res := ok (sigInvalidate s node)

/-- A write of SPX_SIGINV.ALL. -/
def execSignatureInvalidateAll (s : State) : Res := ok { sigSweep s (fun _ _ => true) with sigAll := false }

/-- The sweep once per second: records more than AGE_LIMIT seconds old. -/
def execSignatureSweep (s : State) : Res :=
  ok (sigSweep s fun s n => decide (1000 * s.act SPX_SIGCTL_AGE_LIMIT < sigAge s n))

/-- The sweep after a beam-set swap: records whose BSET differs from the new tag. -/
def execSignatureBsetSweep (s : State) : Res :=
  ok { sigSweep s (fun s n => (s.rd8 (sigAddr n + 9)).toNat ≠ s.fld SPX_BSET_TAG) with bsetSweep := false }

end Sys2Proof.Machine
end

