-- ==== Sys2Proof/Machine/Transmit.lean ====
section
/-! DEFINITION. Machine/Transmit.lean: the meanings of the transmit scheduler's commands but for duty-cycle accounting
(R205 to R231). -/

namespace Sys2Proof.Machine

/-- The requests that wait for a place, in intake order, each offered once (R212, R213; log entry 11). -/
def offerAll (s : State) : State :=
  ((s.reqs.filter (·.2.phase ≤ 1)).map (·.1)).foldl (fun s num =>
    let s := offer s num
    match s.req num with | some q => pendRefresh s (reqNode q) | none => s) s

/-- The next slot start comes, and the waiting requests are offered again; the first slot of a period starts with its
epoch boundary (R205, R212). -/
def execSlotStart (s : State) : Res :=
  let t := ceilTo slotNs s.venue
  if s.nextBoundary ≤ t then ok s else ok (offerAll (s.advance t))

/-- A request may be taken from engine queue n: it holds one, and its report ring has room for every report that is owed
(R232). -/
def intakeOpen (s : State) (n : Nat) : Bool :=
  let rsize := s.fld (TXS_RSIZE_SIZE n)
  s.fld PWR_STATE_CUR == 0 && s.fld (TXS_QSIZE_SIZE n) != 0 && s.fld (TXS_QHEAD_HEAD n) != s.fld (TXS_QTAIL_TAIL n)
    && decide (ringUsed rsize (s.fld (TXS_RHEAD_HEAD n)) (s.fld (TXS_RTAIL_TAIL n)) + outOf s n + 1 < rsize)

/-- The scheduler takes the next request of engine queue n (R209 to R213, R232); the requests of the host rings come
with HOST_TX_REQUEST_FETCH. -/
def execTxRequestIntake (queue : Fin 12) (s : State) : Res :=
  let n : Nat := queue
  if !intakeOpen s n then ok s else
  let i := s.fld (TXS_QTAIL_TAIL n)
  let a := s.fld (TXS_QBASE_BASE n) + 32 * i
  let (bad, s) := s.eccRead a 32
  let raw := s.rdN a 32
  let s := s.setFld (TXS_QTAIL_TAIL n) (ringNext (s.fld (TXS_QSIZE_SIZE n)) i)
  ok (if bad then s.bump TXS_CNT_NOROOM_COUNT else reqIntake s n raw)

/-- A waiting request is offered for placement, with its form computed where it is TIMED (R212, R229). -/
def execTxPlace (request : Nat) (s : State) : Res :=
  let s := offer s request
  match s.req request with | some q => ok (pendRefresh s (reqNode q)) | none => ok s

/-- The frame buffer of a placed request arrives from shared SRAM, or from its relay buffer for a rebroadcast (R210,
R213, R243); the buffers of host requests come with HOST_BUFFER_READ_DONE. -/
def execTxBufferFetched (request : Nat) (s : State) : Res :=
  match s.req request with
  | none => ok s
  | some q =>
    if q.src < 12 then
      let (bad, s) := s.eccRead (qLe q 0 4) (qLen q)
      ok (if bad then reqEnd s request 0x0E else bufferArrived s request (s.rdN (qLe q 0 4) (qLen q)))
    else match s.relays.find? (·.1 = request) with
      | some (_, r) => ok (bufferArrived s request r.frame)
      | none => ok s

/-- A fetched frame that waited to be secured is offered to its stream page again (R447). -/
def secureAgain (s : State) (num : Nat) : State :=
  match s.req num with
  | some q => if q.phase = 2 && !q.frame.isEmpty then reqSecure s num q q.frame else s
  | none => s

/-- Lanes that scheduled work holds. -/
def schedHeld (s : State) : Nat := (s.txLanes.filter (·.2.owner = 2)).length

/-- A request that ends LATE while it waits for a reservation sets RESWAIT of its key slot (R447). -/
def lateWait (s : State) (q : TxReq) (num : Nat) : State :=
  if q.phase ≠ 2 || q.frame.isEmpty then s else
  match keyIndexSlot s (s.actB 7) (reqKey s num q q.frame) with
  | some k => if slotWaits s k then s.setSlot k { s.slot k with resWait := true } else s
  | none => s

/-- The deadline D of a placed request (R206, R215): ready and with a lane of the scheduled share, it holds the lane;
otherwise it ends LATE. -/
def execTxDeadline (request : Nat) (s : State) : Res :=
  match s.req request with
  | none => ok s
  | some q =>
    if q.phase ≠ 2 && q.phase ≠ 3 then ok s else
    let s := secureAgain (s.advance (q.airStart - 50000)) request
    match s.req request with
    | none => ok s
    | some q =>
      match (if q.phase = 3 && schedHeld s < schedShare s then freeTx s else none) with
      | none => ok (reqEnd (lateWait s q request) request 2)
      | some n =>
        let s := s.setReq request { q with phase := 4, lane := n }
        ok (txLaneSet s n { owner := 2, ref := request, band := binBand q.bin, bin := q.bin, prof := qProf q
                            airStart := (nextAir s q).1, airEnd := (nextAir s q).2 } 1 q.form q.strobes)

/-- The class of a request's next transmission for COEX_PRI: 1 wake preamble, 2 flood rebroadcast, 3 other (R104). -/
def reqClass (q : TxReq) : Nat :=
  if q.form = 1 || (q.form = 2 && q.strobe < q.strobes) then 1 else if q.src = 100 then 2 else 3

/-- The checks at a request's commit point (R207); one that hops where no hop sequence is active is refused with HOP (R234). -/
def requestChecks (s : State) (q : TxReq) (a e : Nat) (req : List (Nat × Int)) : Nat × List (Nat × Int) × State :=
  let r := commitChecks s q.bin a e req
  if qHops s q && hopEmpty s && decide (r.1 < 8) then (4, [], s.bump TXS_CNT_HOP_COUNT) else r

/-- The switched ports of a band that leave RX with a transmission of `kept` and radiate nothing (R75). -/
def silentPorts (s : State) (band : Nat) (kept : List (Nat × Int)) : List Nat :=
  (txPorts s band).filter fun p => portRole s p = 3 && portState s p = 3 && !kept.any (·.1 = p)

/-- The commit point C of a held request, or of one strobe of its series (R168, R207, R208, R132 to R134): the checks,
and with them passed the steering, the ports and powers, blanking and the coexistence request. -/
def execTxCommit (request : Nat) (s : State) : Res :=
  match s.req request with
  | none => ok s
  | some q =>
    let n := q.lane
    let l := s.txl n
    if q.phase < 4 || l.owner ≠ 2 || l.ref ≠ request || l.stage ≠ 0 || l.committed then ok s else
    let (a, e) := nextAir s q
    let s := s.advance (a - 30000)
    let q := { q with bin := airBin s q a q.bin }
    let band := binBand q.bin
    let steer := reqSteer s q
    let q := if q.strobe = 0 then { q with words := profWords s (qProf q) } else q
    let req := portPowers s (s.actB 4) steer q.bin (reqPower s q) (txPorts s band)
    match requestChecks s q a e req with
    | (0, kept, s) =>
      let s := countSkips s band (txPorts s band)
      let s := s.bump (if steer.isSome then SPX_SIGCNT_PRECODED else SPX_SIGCNT_SECTOR)
      let first := q.strobe = 0
      let q' := { q with phase := 5, precoded := steer.isSome
                         attempts := if first then q.attempts + 1 else q.attempts
                         lastAir := if first then a else q.lastAir }
      let s := if first then s.bump TXS_CNT_SENT_COUNT else s
      let s := s.setReq request q'
      let s := txLaneSet s n { l with bin := q.bin, airStart := a, airEnd := e, cls := reqClass q, ports := kept, frame := airFrame s q
                                      silent := silentPorts s band kept, committed := true
                                      weights := portWeights s (s.actB 4) steer q.bin (kept.map (·.1))
                                      words := q.words, fcs4 := qFcs4 s q, wake := q.form = 2 && q.strobe < q.strobes
                                      pre := if q.form = 1 then longSymbols q.words q.lpre else preSymbols q.words }
        1 q.form (q.strobes - q.strobe)
      ok (blankSettle (coxAtCommit (blankDecide s n q.bin a e) n))
    | (status, _, s) => ok (reqEnd s request status)

/-- An attempt's acknowledgement wait ends unmatched (R217): with attempts left the request is placed again, or waits for
the next poll, or ends STALE where its node has been STALE for 60 000 ms (R231); otherwise it ends NOACK. -/
def execAckWaitExpiry (request : Nat) (s : State) : Res :=
  match s.req request with
  | none => ok s
  | some q =>
    if q.phase ≠ 7 then ok s else
    let s := s.advance q.waitEnd
    if q.attempts < qRetries q + 1 && q.endAs = 0 then
      if staleOut s q then reqEnd s request 0x0D |> ok else
      let s := s.bump TXS_CNT_RETRY_COUNT
      let s := offer (s.setReq request { q with phase := if q.kind = 0 then 1 else 0, polled := false, strobe := 0
                                                words := [], wakeCounted := false
                                                notBefore := q.waitEnd }) request
      ok (pendRefresh s (reqNode q))
    else ok (reqEnd s request 1)

/-- The keep-alive test of record n at millisecond count `now` (R231). -/
def keepAlive (s : State) (n : Nat) : State :=
  let st := recState s n
  let every := recLe s n 46 2
  if every = 0 || (st ≠ 1 && st ≠ 2) then s else
  let missed := recLe s n 45 1
  let due := recLe s n 32 4 + (missed + 1) * 1000 * every
  if s.ms < due then s else
  let old := s.rdN (recAddr n) 64
  let gone := missed + 1 = 3
  let body := leBytes 1 (if gone then 3 else st) ++ (old.drop 3).take 42 ++ leBytes 1 (missed + 1) ++ (old.drop 46).take 6
    ++ (if gone then leBytes 4 s.ms else (old.drop 52).take 4)
  let s := recCommit s n 2 body
  if gone then s.fire 289 n else s

/-- The scheduler visits every record once per second (R231). -/
def execKeepaliveSweep (s : State) : Res := ok ((liveRecords s).foldl keepAlive s)

/-- 60 000 ms after a record went STALE, its held requests are reported STALE (R231). -/
def execStaleExpiry (node : Fin 16384) (s : State) : Res :=
  let n : Nat := node
  if recState s n ≠ 3 || (s.ms + 2 ^ 32 - recLe s n 52 4) % 2 ^ 32 < 60000 then ok s else
  ok ((s.reqs.map (·.1)).foldl (fun s num =>
    match s.req num with
    | some q => if reqNode q = n && q.phase ≤ 1 then reqEnd s num 0x0D else s
    | none => s) s)

end Sys2Proof.Machine
end

