-- ==== Sys2Proof/Machine/Keys.lean ====
section
/-! DEFINITION. Machine/Keys.lean: root secret, counters, life cycle, key-update messages, the key-blob region, tamper and
zeroization (R426 to R444, R448, R449). -/

namespace Sys2Proof.Machine

/-! ### Counters (R430, R431) -/

/-- A counter advance is written to the private array; it never lowers the counter. -/
def counterAdvance (s : State) (which value : Nat) : State :=
  { s with counterWrites := stInsert (max value (stGet 0 s.counterWrites which)) s.counterWrites which }

/-- The BSVN floor follows the smallest BSVN of the active planes (R431). -/
def bsvnRaise (s : State) : State :=
  let l := ((List.range 14).filter fun r => r ≠ 0 && s.regionOn r).map fun r => (s.active r).bsvn
  match l with
  | [] => s
  | a :: l =>
    let m := l.foldl min a
    if s.priv.bsvn < m then counterAdvance s 1 m else s

/-! ### Attribute words (R434, R435) -/

/-- A word of the Iceveto IV form as a native word; none where it is refused. -/
def iceNative (w : Nat) : Option Nat :=
  let cls := bitsOf w 10 8
  let id := w % 16
  if w / 2 ^ 11 ≠ 0 || cls < 1 || 4 < cls then none
  else
    let masters := if id = 15 then 2 ^ 17 - 1 else 2 ^ id ||| (if cls = 4 then 2 ^ 16 else 0)
    some (cls + 8 * bitsOf w 4 4 + 16 * (3 * bitsOf w 5 5 + 4 * bitsOf w 6 6 + 8 * bitsOf w 7 7) + 2 ^ 15 * masters)

/-- A native word is valid for a key of an AES slot, or for a VERIFY key. -/
def attrValid (w : Nat) (verify : Bool) : Bool :=
  (if verify then attrUsage w == 5 else decide (1 ≤ attrUsage w ∧ attrUsage w ≤ 4) && bitsOf w 10 9 == 0)
    && !bitOf w 8 && bitsOf w 14 11 == 0

/-- The native attribute word of a message (R435); none where check 7 refuses it. -/
def msgAttr (op form w : Nat) : Option Nat :=
  let native := if form = 1 then (if op = 2 then none else iceNative w) else some w
  native.filter fun a => attrValid a (op == 2)

/-! ### The life cycle (R432, R433) -/

/-- A key-update operation is accepted in the present life-cycle state. -/
def opAccepted (s : State) (op : Nat) : Bool :=
  !s.flag KEY_STAT_ZEROIZING &&
  match s.priv.lc with
  | 1 => op == 4 || op == 5
  | 2 => op == 1 || op == 2 || op == 3 || op == 4 || op == 6
  | _ => false

/-- ROM keys sign in the present state (R432). -/
def romSigns (s : State) : Bool := s.priv.lc ≠ 2 || s.priv.vendor

/-- A ROM public key, X ‖ Y: 1 the image key, 2 the bitstream key (log entry 20). -/
def romKey (which : Nat) : List Nat := (List.range 64).map fun i => Config.romKey (64 * (which - 1) + i) % 256

/-- The public key that a SIGNER_ID names for an image (`image`) or a bitstream; none where it is not accepted (R448). -/
def signerKey (s : State) (id : Nat) (image : Bool) : Option (List Nat) :=
  if id = 0xFFFFFF01 then (if image && romSigns s then some (romKey 1) else none)
  else if id = 0xFFFFFF02 then (if !image && romSigns s then some (romKey 2) else none)
  else if 1 ≤ id && id ≤ 255 && s.priv.lc = 2 && slotAllows s id 5 13 && bitOf (s.slot id).attr (if image then 9 else 10) then
    some (octNats (s.slot id).key)
  else none

/-! ### The key-blob region (R410, R441 to R443) -/

/-- First page of half A, or B. -/
def keyHalf (s : State) (b : Bool) : Nat := 128 * (keySector s + if b then 8 else 0)

/-- The pages of a half that are programmed. -/
def halfPages (s : State) (b : Bool) : List (Nat × FlashPage) :=
  s.flash.filter fun e => decide (keyHalf s b ≤ e.1 ∧ e.1 < keyHalf s b + 1024)

/-- Half B is the active one: it alone holds programmed pages. -/
def halfB (s : State) : Bool := (halfPages s false).isEmpty && !(halfPages s true).isEmpty

/-- ATTR ‖ SLOT ‖ FLAGS ‖ KEYLEN ‖ key padded with zeros to 64 octets. -/
def keyBody (slot flags attr : Nat) (key : List Byte) : List Byte :=
  leBytes 4 attr ++ leBytes 1 slot ++ leBytes 1 flags ++ leBytes 2 key.length ++ (key ++ List.replicate 64 0).take 64

/-- A storage record of 128 octets (R441). -/
def keyRecord (s : State) (slot flags counter attr : Nat) (key : List Byte) : List Byte :=
  let body := leBytes 4 0x424B4854 ++ leBytes 1 slot ++ leBytes 1 flags ++ leBytes 2 key.length ++ leBytes 4 counter ++ leBytes 4 attr
    ++ natOcts (kwWrap (storageKey s) (octNats (keyBody slot flags attr key))) ++ List.replicate 28 0
  body ++ leBytes 4 (crc32 (octNats body))

/-- A record that is good: slot, tombstone, ICV, COUNTER, ATTR and key. -/
structure KeyRec where
  slot : Nat
  tomb : Bool
  icv : Bool
  counter : Nat
  attr : Nat
  key : List Byte
  sector : Nat
  deriving DecidableEq, Repr

/-- The record of a page, where it is good (R443 step 2). -/
def keyRecordOf (s : State) (sector : Nat) (l : List Byte) : Option KeyRec :=
  let le (o n : Nat) := ofLe ((l.drop o).take n)
  if le 0 4 ≠ 0x424B4854 || crc32 (octNats (l.take 124)) ≠ le 124 4 then none
  else
    match kwUnwrap (storageKey s) (octNats ((l.drop 16).take 80)) with
    | none => none
    | some w =>
      let w := natOcts w
      if w.take 4 = (l.drop 12).take 4 && (w.drop 4).take 4 = (l.drop 4).take 4 then
        some { slot := le 4 1, tomb := bitOf (le 5 1) 0, icv := bitOf (le 5 1) 1, counter := le 8 4, attr := le 12 4
               key := (w.drop 8).take (le 6 2), sector := sector }
      else none

/-- The records of programmed pages, and how many pages are ignored. -/
def recordsOf (s : State) : List (Nat × FlashPage) → List KeyRec × Nat × State
  | [] => ([], 0, s)
  | e :: l =>
    match pageRead s e.1 with
    | (none, s) => let (r, n, s) := recordsOf s l; (r, n + 1, s)
    | (some o, s) =>
      match keyRecordOf s (e.1 / 128) o with
      | some x => let (r, n, s) := recordsOf s l; (x :: r, n, s)
      | none => let (r, n, s) := recordsOf s l; (r, n + 1, s)

/-- The newest record of a slot. -/
def newestOf (l : List KeyRec) (slot : Nat) : Option KeyRec :=
  (l.filter fun r => r.slot = slot).foldl (fun b r => match b with | some x => if x.counter < r.counter then some r else b | none => some r) none

/-- A page is programmed with a record, the rest of the page 0xFF. -/
def pagePut (s : State) (p : Nat) (l : List Byte) : State :=
  (s.setFpage p { written := true, data := (l ++ List.replicate 512 0xFF).take 512, root := s.priv.root.getD [] }).bump FLC_PROG_COUNT

/-- Records programmed into pages in a row. -/
def pagesPut (s : State) (p : Nat) : List KeyRec → State
  | [] => s
  | r :: l => pagesPut (pagePut s p (keyRecord s r.slot (2 * b2n r.icv) r.counter r.attr r.key)) (p + 1) l

/-- A half is erased. -/
def halfErase (s : State) (b : Bool) : State :=
  forBelow 8 (fun s i => (sectorFill s (keyHalf s b / 128 + i) {}).bump FLC_ERASES_COUNT) s

/-- The next erased page of the active half; none where it is full. -/
def nextPage (s : State) : Option Nat :=
  ((List.range 1024).map (keyHalf s (halfB s) + ·)).find? fun p => let x := s.fpage p; !x.written && x.known

/-- Compaction (R442), without its time. -/
def keyCompact (s : State) : State :=
  let b := halfB s
  let s := halfErase s (!b)
  let (l, _, s) := recordsOf s (halfPages s b)
  let keep := (List.range 256).filterMap fun n => (newestOf l n).filter fun r => !r.tomb
  halfErase (pagesPut s (keyHalf s (!b)) keep) b

/-- FLC_WPROT covers the key-blob region: the controller refuses Sorrel's record too (R415, log entry 167). -/
def keyProtected (s : State) : Bool := s.flag FLC_WPROT_KEYBLOB

/-- A record is written to the next erased page of the active half, after compaction where it is full; `stored` says that it reads
back equal (R441, R442). -/
def keyStore (s : State) (record : List Byte) (stored : Bool) : State :=
  if keyProtected s then s else
  let s := if (nextPage s).isNone then keyCompact s else s
  match nextPage s with
  | none => s
  | some p => if stored then pagePut s p record else s.setFpage p { written := true, known := false }

/-- A slot's transmit counter starts at its reservation, and the next reservation is written (R447). -/
def slotLoad (s : State) (n attr : Nat) (icv : Bool) (key : List Byte) (res : Nat) : State :=
  s.setSlot n { attr := attr, key := key, icv := icv, txfc := min res 0xFFFFFFFF, res := res, resWriting := attrUsage attr == 4 }

/-- The AES slots are loaded from the key-blob region (R443); KU is raised like any counter (R430). -/
def keyLoad (s : State) : State :=
  let (l, bad, s) := recordsOf s (halfPages s false ++ halfPages s true)
  let best := (List.range 256).filterMap fun n => (newestOf l n).filter fun r => !r.tomb && r.slot ≠ 0
  let s := best.foldl (fun s r => slotLoad s r.slot r.attr r.icv r.key (match s.priv.res.find? (·.1 = r.slot) with | some e => e.2 | none => 0)) s
  let top := (l.map (·.counter)).foldl max 0
  let s := if s.priv.ku < top then counterAdvance s 0 top else s
  let torn := ((List.range 16).map (keySector s + ·)).filter fun n => stGet false s.flashCells n && !(best.any fun r => r.sector = n)
  let s := torn.foldl (fun s n => flcQueueJob s { who := 7, op := 2, sector := n }) s
  ((s.bumpBy (KEY_CNT_COUNT 2) best.length).bumpBy (KEY_CNT_COUNT 3) bad).setFld KEY_STAT_LOADED 1

/-- The key store at a start (R427, R429, R444): a zeroization that was cut short is completed, a root is generated where there is
none, the device keys are derived, and the VERIFY slots are loaded. -/
def keyStart (s : State) (entropyFail : Bool) : State :=
  let s := if s.priv.zeroPending then { s with priv := { lc := 4 } }.fire 608 0 else s
  let s :=
    if s.priv.root.isSome then s
    else if entropyFail then (s.setFld KEY_STAT_ENTROPY_FAIL 1).fire 610 0
    else let (r, s) := freeOctets s 32; { s with priv := { s.priv with root := some r } }
  s.priv.verify.foldl (fun s e => slotLoad s e.1 e.2.1 e.2.2.1 e.2.2.2 0) (deriveDeviceKeys s)

/-! ### Tamper and zeroization (R444) -/

/-- A frame in a stream context loses its key. -/
def frameUnkey (s : State) (f : Nat) : State :=
  match s.frame f with
  | some x => if x.stream.isSome then s.setFrame f { x with key := [] } else s
  | none => s

/-- A secured request that waits for its deadline is no longer ready. -/
def reqUnkey (s : State) (num : Nat) : State :=
  match s.req num with
  | some q => if q.phase = 3 && qFlag q 1 then s.setReq num { q with phase := 2 } else s
  | none => s

/-- Steps 1 and 2 of zeroization. -/
def zeroize (s : State) : State :=
  let s := s.cphRuns.foldl (fun s e =>
    (s.setFlds [(CPH_STAT_BUSY e.1, 0), (CPH_STAT_RESULT e.1, 6), (CPH_STAT_OUTLEN e.1, 0)]).fire (640 + e.1) 6) s
  let s := if s.keyUpd.isSome then ((s.setFlds [(KEY_UPDSTAT_BUSY, 0), (KEY_UPDSTAT_RESULT, 4)]).bump (KEY_CNT_COUNT 1)).fire 609
      (4 + 256 * s.fld KEY_UPDSTAT_SLOT) else s
  let s := forBelow 16 (fun s p => s.setFld (CPH_STRCNT_INUSE p) 0) s
  let s := (s.frames.map (·.1)).foldl frameUnkey s
  let s := (s.reqs.map (·.1)).foldl reqUnkey s
  { s with cphRuns := [], keyUpd := none, counterWrites := [], keySlots := [], keysDerived := false
           priv := { s.priv with zeroPending := true } }.setFlds [(KEY_STAT_ZEROIZING, 1), (KEY_STAT_KEYLOST, 1)]

/-- TAMPER_N is asserted (R382, R399, R401, R444). -/
def execTamperAssert (s : State) : Res :=
  if !s.backupOn then ok s else
  let s := tamperRecord s
  let s := if s.wakeArmed || !mainOn s then { s with wakeLatch := s.wakeLatch ||| 4 } else s
  ok (if mainOn s then zeroize s else s)

/-- Step 3 of zeroization; step 4, the erase of the key-blob region, begins. -/
def zeroizeErased (s : State) : State :=
  let s := ({ s with priv := { lc := 4 } }.setFld KEY_STAT_ZEROIZING 0).fire 608 0
  forBelow 16 (fun s i => flcQueueJob s { who := 7, op := 2, sector := keySector s + i }) s

def execZeroizeEraseDone (s : State) : Res :=
  ok (if s.flag KEY_STAT_ZEROIZING then zeroizeErased s else s)

/-! ### KEY_LCCMD (R433) -/

/-- A write of KEY_LCCMD. -/
def lcCmd (s : State) (m target key : Nat) : State :=
  if !masterSecure s m then s.refuse else
  let s := { s with busResult := .ok }
  if (m ≠ 0 && m ≠ 13) || key ≠ 0xC3 then s.setFld KEY_STAT_LC_REFUSED 1
  else if target = 4 then zeroize s
  else if target = 1 && (s.priv.lc = 0 || (s.priv.lc = 4 && s.priv.root.isSome)) && !s.flag KEY_STAT_ZEROIZING then
    resetTrigger { s with priv := { s.priv with lc := 1 } } 6
  else s.setFld KEY_STAT_LC_REFUSED 1

def execLcProvision (master : Master) (key : Byte) (s : State) : Res := ok (lcCmd s master 1 key.toNat)

def execLcZeroize (master : Master) (key : Byte) (s : State) : Res := ok (lcCmd s master 4 key.toNat)

/-! ### Key-update messages (R436 to R440) -/

/-- A write of KEY_UPDCMD with GO by the lead engine or Sorrel. -/
def keyGo (s : State) : State :=
  if s.flag KEY_UPDSTAT_BUSY then s.setFld KEY_UPDSTAT_OVERRUN 1 else s.setFld KEY_UPDSTAT_BUSY 1

/-- Check 1: the form of a message. -/
def msgForm (l : List Byte) : Bool :=
  let le (o n : Nat) := ofLe ((l.drop o).take n)
  let zero (o n : Nat) : Bool := ((l.drop o).take n).all (· == 0)
  let op := le 6 1
  le 0 4 == 0x554B4854 && le 4 2 == 1 && decide (1 ≤ op ∧ op ≤ 6)
    && (if op ≤ 3 then le 7 1 ≠ 0 else zero 7 1)
    && (if op ≤ 2 then true else if op = 5 then decide (le 44 4 ≤ 1) else zero 44 4)
    && (if op = 1 then le 48 2 == 16 || le 48 2 == 32 else if op = 2 || op = 4 then le 48 2 == 64 else zero 48 2)
    && (if op ≤ 2 then decide (le 50 1 ≤ 1) else zero 50 1)
    && zero 51 1
    && (op = 1 || op = 2 || op = 4 || zero 52 64)
    && (op = 1 || zero 116 72)
    && zero 188 4

/-- The key an INSTALL carries, under the transport key; none where check 6 fails (R437). -/
def msgUnwrap (s : State) (l : List Byte) : Option (List Byte) :=
  match ecdhX (identityScalar s) (octNats ((l.drop 52).take 64)) with
  | none => none
  | some z =>
    let tk := kdf z labelTHTK (octNats ((fingerprint s).take 16)) 256
    (kwUnwrap tk (octNats ((l.drop 116).take 72))).map fun k => (natOcts k).take (ofLe ((l.drop 48).take 2))

/-- Checks 5 to 7, and the update that passes them. -/
def msgLate (s : State) (l : List Byte) : Except Nat KeyUpd :=
  let le (o n : Nat) := ofLe ((l.drop o).take n)
  let op := le 6 1
  let pub := (l.drop 52).take 64
  let auth := match s.priv.auth with | some a => a | none => if op = 4 then pub else []
  if !ecdsaVerify (octNats auth) (sha256 (octNats (l.take 192))) (octNats ((l.drop 192).take 32)) (octNats ((l.drop 224).take 32)) then
    .error 6
  else
    let u : KeyUpd := { op := op, slot := le 7 1, counter := le 40 4, attr := 0, icv := le 50 1 == 1, key := pub, vendor := le 44 4 == 1 }
    match op with
    | 1 =>
      match msgUnwrap s l, msgAttr 1 (le 50 1) (le 44 4) with
      | none, _ => .error 7
      | some _, none => .error 8
      | some k, some a => .ok { u with attr := a, key := k }
    | 2 =>
      match msgAttr 2 (le 50 1) (le 44 4) with
      | none => .error 8
      | some a => .ok { u with attr := a }
    | _ => .ok u

/-- Checks 1 to 7 of a message. -/
def msgCheck (s : State) (l : List Byte) : Except Nat KeyUpd :=
  let le (o n : Nat) := ofLe ((l.drop o).take n)
  if !msgForm l then .error 2
  else if (l.drop 8).take 32 ≠ fingerprint s then .error 3
  else if !opAccepted s (le 6 1) then .error 4
  else if le 40 4 ≤ s.priv.ku then .error 5
  else msgLate s l

/-- A message ends with a result. -/
def keyEnd (s : State) (slot result : Nat) : State :=
  let s := s.setFlds [(KEY_UPDSTAT_BUSY, 0), (KEY_UPDSTAT_RESULT, result), (KEY_UPDSTAT_SLOT, slot)]
  (s.bump (KEY_CNT_COUNT (if result = 1 then 0 else 1))).fire 609 (result + 256 * slot)

/-- The update writes a storage record: AES slots go to the key-blob region, the rest to the private array (R441). -/
def keyRecorded (s : State) (u : KeyUpd) : Bool :=
  u.op = 1 || u.op = 3 || (u.op = 2 && !(s.slot u.slot).key.isEmpty && attrUsage (s.slot u.slot).attr ≠ 5)

/-- Check 8 and the KU write. -/
def keyCommit (s : State) (u : KeyUpd) (stored : Bool) : State :=
  let good := stored && !s.flashDead && !(keyRecorded s u && keyProtected s)
  let s :=
    if u.op = 1 then keyStore s (keyRecord s u.slot (2 * b2n u.icv) u.counter u.attr u.key) stored
    else if keyRecorded s u then keyStore s (keyRecord s u.slot 1 u.counter 0 []) stored
    else s
  if good then counterAdvance { (s.setFld KEY_UPDSTAT_SLOT u.slot) with keyUpd := some u } 0 u.counter
  else keyEnd s u.slot 9

/-- Sorrel takes the message at KEY_UPDADDR (R438), where it carries operation `op` or, for INSTALL, none; the last check succeeds where
`stored` says so. -/
def keyMessage (s : State) (op : Nat) (stored : Bool) : State :=
  if !s.flag KEY_UPDSTAT_BUSY || s.keyUpd.isSome || s.flag SYS_SRLSTAT_LEAD_DOWN then s else
  let (l, s') := sourceRead s 13 (s.fld KEY_UPDADDR_ADDR / 32 * 32) 256
  let mop := ofLe ((l.drop 6).take 1)
  if mop ≠ op && !(op = 1 && (mop = 0 || 6 < mop)) then s else
  match msgCheck s' l with
  | .error r => keyEnd s' (ofLe ((l.drop 7).take 1)) r
  | .ok u => keyCommit s' u stored

/-- The accepted operation takes effect after the KU write (R438 to R440). -/
def keyApply (s : State) (u : KeyUpd) : State :=
  let verify := s.priv.verify.filter (·.1 ≠ u.slot)
  let s := match u.op with
    | 1 =>
      let s := { s with priv := { s.priv with verify := verify, res := s.priv.res.filter (·.1 ≠ u.slot) } }
      slotLoad s u.slot u.attr u.icv u.key 0
    | 2 =>
      let s := { s with priv := { s.priv with verify := verify ++ [(u.slot, u.attr, u.icv, u.key)] } }
      slotLoad s u.slot u.attr u.icv u.key 0
    | 3 => ({ s with priv := { s.priv with verify := verify } }).setSlot u.slot {}
    | 4 => { s with priv := { s.priv with auth := some u.key } }
    | 5 => resetTrigger { s with priv := { s.priv with lc := 2, vendor := u.vendor } } 6
    | _ => resetTrigger { s with priv := { s.priv with lc := 3, auth := none } } 6
  keyEnd s u.slot 1

def execInstall (stored : Bool) (s : State) : Res := ok (keyMessage s 1 stored)

def execInstallPub (stored : Bool) (s : State) : Res := ok (keyMessage s 2 stored)

def execDelete (stored : Bool) (s : State) : Res := ok (keyMessage s 3 stored)

def execInstallAuthority (stored : Bool) (s : State) : Res := ok (keyMessage s 4 stored)

def execLcDeploy (stored : Bool) (s : State) : Res := ok (keyMessage s 5 stored)

def execLcReturn (stored : Bool) (s : State) : Res := ok (keyMessage s 6 stored)

/-! ### Writes of the private array -/

/-- A counter advance is complete: 0 KU, 1 the BSVN floor, 2 the ISVN floor (R430). -/
def execCounterWriteDone (which : Fin 3) (s : State) : Res :=
  let v := stGet 0 s.counterWrites which
  if v = 0 then ok s else
  let s := { s with counterWrites := stErase s.counterWrites which }
  match which.val with
  | 0 =>
    let s := { s with priv := { s.priv with ku := max s.priv.ku v } }
    match s.keyUpd with
    | some u => ok (keyApply { s with keyUpd := none } u)
    | none => ok s
  | 1 => ok { s with priv := { s.priv with bsvn := max s.priv.bsvn v } }
  | _ => ok { s with priv := { s.priv with isvn := max s.priv.isvn v } }

/-- A write of KEY_ISVNADV (R430). -/
def isvnAdvance (s : State) (m value : Nat) : State :=
  if m ≠ 13 && m ≠ 15 then s.refuse
  else
    let s := { s with busResult := .ok }
    if s.priv.isvn < value then counterAdvance s 2 value else s

def execIsvnAdvance (master : Master) (value : Word) (s : State) : Res := ok (isvnAdvance s master value.toNat)

/-- A transmit-counter reservation is written: waiting secured transmissions go on (R447). -/
def execReservationWriteDone (slot : Fin 256) (s : State) : Res :=
  if !(s.slot slot).resWriting then ok s
  else ok ((s.reqs.map (·.1)).foldl secureAgain (resWritten s slot))

end Sys2Proof.Machine
end

