-- ==== Sys2Proof/Machine/Cipher.lean ====
section
/-! DEFINITION. Machine/Cipher.lean: the cipher pages and their operations (R445, R446, R450). -/

namespace Sys2Proof.Machine

/-! ### Access of an operation to memory -/

/-- Octets from `a` to `a + n − 1` are memory that a master reaches as one run. -/
def memRun (m a n : Nat) : Bool :=
  match memAddr m a, memAddr m (a + n - 1) with
  | some x, some y => y == x + n - 1
  | _, _ => false

/-- `n` octets that an operation reads with an identity; none where the read ends in an error (R26, R300). -/
def opRead (s : State) (m a n : Nat) : Option (List Byte) × State :=
  if n = 0 then (some [], s)
  else if 0x10000000 ≤ a && a + n ≤ 0x14000000 && m ≠ 12 then
    let off := a - 0x10000000
    if !masterSecure s m && decide (65536 * keySector s < off + n ∧ off < 65536 * generalSector s) then (none, s)
    else flashRead s off n
  else if memRun m a n then (some (s.rdN ((memAddr m a).getD 0) n), s)
  else (none, s)

/-- An operation may write `n` octets from `a`. -/
def opWritable (m a n : Nat) : Bool := n == 0 || (memRun m a n && !memRo a)

/-! ### Pages (R445) -/

/-- The owner of a page, where it is in use. -/
def pageOwner (s : State) (p : Nat) : Option Nat := if bitOf (pageWord s p) 6 then some (pageWord s p % 32) else none

/-- A master may access a page's registers. -/
def pageMayUse (s : State) (p m : Nat) : Bool := m == 13 || pageOwner s p == some m

/-- Operations that run have their results discarded: an ownership swap, or CPH_CTL.EN = 0 (R445, R446). -/
def cphDiscard (s : State) : State :=
  { s with cphRuns := s.cphRuns.map fun e => (e.1, { e.2 with result := 7, data := [], outlen := 0 }) }

/-! ### Operations (R446) -/

/-- The key of a slot for a usage by a page's owner. -/
def opKey (s : State) (slot usage owner : Nat) : Option (List Nat) :=
  if slotAllows s slot usage owner then some (octNats (s.slot slot).key) else none

/-- What an operation leaves: its result, and the octets for DST. -/
abbrev OpEnd := Nat × List Byte

/-- CCM* over a source whose leading `alen` octets are authenticated only. -/
def ccmRun (key : List Nat) (dec : Bool) (nonce src : List Nat) (m alen : Nat) : OpEnd :=
  let auth := src.take alen
  let msg := src.drop alen
  if dec then
    match ccmDec key nonce auth msg m with
    | some p => (1, natOcts (auth ++ p))
    | none => (4, List.replicate (src.length - m) 0)
  else (1, natOcts (auth ++ ccmEnc key nonce auth msg m))

/-- KW; a ciphertext of fewer than three semiblocks fails (NIST SP 800-38F). -/
def kwRun (key : List Nat) (unwrap : Bool) (src : List Nat) : OpEnd :=
  if unwrap then
    match (if src.length < 24 then none else kwUnwrap key src) with
    | some p => (1, natOcts p)
    | none => (4, [])
  else (1, natOcts (kwWrap key src))

/-- CCM_ENC and CCM_DEC of a page's registers. -/
def ccmOp (s : State) (p slot owner : Nat) (dec : Bool) : OpEnd × State :=
  match opRead s owner (s.fld (CPH_PARAM_ADDR p)) 16 with
  | (none, s) => ((5, []), s)
  | (some prm, s) =>
    let len := s.fld (CPH_LEN_LEN p)
    let m := ofLe ((prm.drop 13).take 1)
    let alen := ofLe ((prm.drop 14).take 2)
    if (m ≠ 0 && m ≠ 4 && m ≠ 8 && m ≠ 16) || len < alen + (if dec then m else 0) then ((2, []), s)
    else
      match opKey s slot (if dec then 2 else 1) owner with
      | none => ((3, []), s)
      | some k =>
        match opRead s owner (s.fld (CPH_SRC_ADDR p)) len with
        | (none, s) => ((5, []), s)
        | (some src, s) => (ccmRun k dec (octNats (prm.take 13)) (octNats src) m alen, s)

/-- KW_WRAP and KW_UNWRAP of a page's registers. -/
def kwOp (s : State) (p slot owner : Nat) (unwrap : Bool) : OpEnd × State :=
  let len := s.fld (CPH_LEN_LEN p)
  if len % 8 ≠ 0 || len < 16 then ((2, []), s)
  else
    match opKey s slot 3 owner with
    | none => ((3, []), s)
    | some k =>
      match opRead s owner (s.fld (CPH_SRC_ADDR p)) len with
      | (none, s) => ((5, []), s)
      | (some src, s) => (kwRun k unwrap (octNats src), s)

/-- SHA256 of a page's registers. -/
def shaOp (s : State) (p owner : Nat) : OpEnd × State :=
  match opRead s owner (s.fld (CPH_SRC_ADDR p)) (s.fld (CPH_LEN_LEN p)) with
  | (none, s) => ((5, []), s)
  | (some src, s) => ((1, natOcts (sha256 (octNats src))), s)

/-- ECDSA_VERIFY of a page's registers. -/
def ecdsaOp (s : State) (p slot owner : Nat) (rom : Bool) : OpEnd × State :=
  let key := if rom then (if slot = 1 || slot = 2 then some (romKey slot) else none) else opKey s slot 5 owner
  match key with
  | none => ((3, []), s)
  | some k =>
    match opRead s owner (s.fld (CPH_PARAM_ADDR p)) 96 with
    | (none, s) => ((5, []), s)
    | (some prm, s) =>
      let l := octNats prm
      ((if ecdsaVerify k (l.take 32) ((l.drop 32).take 32) (l.drop 64) then 1 else 4, []), s)

/-- The operation of a page: an OP that names none, or a stream page, is BADARG. -/
def cphOp (s : State) (p op slot owner : Nat) (rom : Bool) : OpEnd × State :=
  if bitOf (pageWord s p) 5 then ((2, []), s) else
  match op with
  | 1 => ccmOp s p slot owner false
  | 2 => ccmOp s p slot owner true
  | 3 => kwOp s p slot owner false
  | 4 => kwOp s p slot owner true
  | 5 => shaOp s p owner
  | 6 => ecdsaOp s p slot owner rom
  | _ => ((2, []), s)

/-- OUTLEN; a length that the field cannot hold reads as an open value. -/
def outLen (s : State) (n : Nat) : Nat × State :=
  if n < 65536 then (n, s) else let (r, s) := s.draw; (r % 65536, s)

/-- GO: the operation starts (R446). -/
def cphStart (s : State) (p op slot : Nat) (rom : Bool) : State :=
  let owner := (pageOwner s p).getD 13
  let ((r, data), s) := cphOp s p op slot owner rom
  let dst := s.fld (CPH_DST_ADDR p)
  let (r, data) := if opWritable owner dst data.length then (r, data) else (5, [])
  let (n, s) := outLen s data.length
  let run : CphRun := { dst := (memAddr owner dst).getD 0, data := data, result := r, outlen := n }
  { s with cphRuns := stInsert run s.cphRuns p }.setFlds [(CPH_STAT_BUSY p, 1), (CPH_STAT_RESULT p, 0)]

/-- An accepted write of CPH_CMDp. -/
def cphCmd (s : State) (p w : Nat) : State :=
  let go := bitOf w 31
  if go && s.flag (CPH_STAT_BUSY p) then s.setFld (CPH_STAT_OVERRUN p) 1
  else
    let s := s.setFlds [(CPH_CMD_OP p, w), (CPH_CMD_KEYSLOT p, bitsOf w 15 8), (CPH_CMD_ROM p, bitsOf w 16 16)]
    if go && s.flag CPH_CTL_EN then cphStart s p (w % 16) (bitsOf w 15 8) (bitOf w 16) else s

/-- A write of CPH_CTL, by Sorrel or the lead engine. -/
def cphCtlWrite (s : State) (m w : Nat) : State :=
  if m ≠ 0 && m ≠ 13 then s.refuse
  else
    let s := { s with busResult := .ok }.setFld CPH_CTL_EN w
    if s.flag CPH_CTL_EN then s else cphDiscard s

/-- A write of CPH_CMDp by a master; the place of page 15's is CPH_CTL (log entry 21). -/
def cphWrite (s : State) (m p w : Nat) : State :=
  if p = 15 then cphCtlWrite s m w
  else if pageMayUse s p m then cphCmd { s with busResult := .ok } p w else s.refuse

/-- The command word of an operation. -/
def cphWord (op slot : Nat) (rom : Bool) : Nat := op + 256 * slot + 65536 * b2n rom + 2 ^ 31

def execCcmEnc (master : Master) (page : Fin 16) (keyslot : Byte) (s : State) : Res :=
  ok (cphWrite s master page (cphWord 1 keyslot.toNat false))

def execCcmDec (master : Master) (page : Fin 16) (keyslot : Byte) (s : State) : Res :=
  ok (cphWrite s master page (cphWord 2 keyslot.toNat false))

def execKwWrap (master : Master) (page : Fin 16) (keyslot : Byte) (s : State) : Res :=
  ok (cphWrite s master page (cphWord 3 keyslot.toNat false))

def execKwUnwrap (master : Master) (page : Fin 16) (keyslot : Byte) (s : State) : Res :=
  ok (cphWrite s master page (cphWord 4 keyslot.toNat false))

def execSha256 (master : Master) (page : Fin 16) (s : State) : Res := ok (cphWrite s master page (cphWord 5 0 false))

def execEcdsaVerify (master : Master) (page : Fin 16) (keyslot : Byte) (rom : Bool) (s : State) : Res :=
  ok (cphWrite s master page (cphWord 6 keyslot.toNat rom))

/-- A general operation ends: its octets are written, RESULT is set, and its producer fires. -/
def execCipherOperationDone (page : Fin 16) (s : State) : Res :=
  let p : Nat := page
  match s.cphRuns.find? (·.1 = p) with
  | none => ok s
  | some (_, r) =>
    let s := { s with cphRuns := stErase s.cphRuns p }.wrN r.dst r.data
    ok ((s.setFlds [(CPH_STAT_BUSY p, 0), (CPH_STAT_RESULT p, r.result), (CPH_STAT_OUTLEN p, r.outlen)]).fire (640 + p) r.result)

end Sys2Proof.Machine
end

