-- ==== Sys2Proof/Machine/Clamp.lean ====
section
/-! DEFINITION. Machine/Clamp.lean: what a register stores of a word written to it: limits of its fields, and bits of absent
units (R7, R8, R88, R138, R139, R172, R232, R235, R251, R359, R361, R391, R406, R424). -/

namespace Sys2Proof.Machine

/-- A field of a word. -/
def wGet (w : Word) (f : Field) : Nat := fieldGet w f.lo f.width

/-- A word with a field put. -/
def wPut (w : Word) (f : Field) (v : Nat) : Word := fieldSet w f.lo f.width v

/-- A field raised to at least `lo`. -/
def wMin (w : Word) (f : Field) (lo : Nat) : Word := wPut w f (max lo (wGet w f))

/-- A field kept at or below `hi`. -/
def wMax (w : Word) (f : Field) (hi : Nat) : Word := wPut w f (min hi (wGet w f))

/-- A field kept within limits. -/
def wIn (w : Word) (f : Field) (lo hi : Nat) : Word := wPut w f (max lo (min hi (wGet w f)))

/-- `a` is one of `n` registers at stride `stride` from `base`. -/
def among (a base stride n : Nat) : Bool := decide (base ≤ a) && (a - base) % stride == 0 && decide ((a - base) / stride < n)

/-- Bits of band B that a THV4824 has not (R7, R8, R139, R235). -/
def bandBMask (a : Nat) : Nat :=
  if a = CAP_CLEAR then 0x21F00 else if a = SPX_CTL then 2 else if a = SPX_DETTHR then 0xFF00
  else if a = SPX_SIGCTL then 0xFF000000 else if a = LNK_ACKPWR || a = TXS_PWR then 0xFF00
  else if a = TXS_HOPCTL || a = SYN_LOB0 || a = SYN_LOB1 then 0xFFFFFFFF
  else if a = COX_CTL then 4
  else 0

/-- The bits of a register that the part has. -/
def partMask (part : Part) (a : Nat) : Word :=
  if part.bandB then 0xFFFFFFFF else BitVec.ofNat 32 (2 ^ 32 - 1 - bandBMask a - (if a = FLC_WPROT then 12 else 0))

/-- Limits of the shadowed registers. -/
def clampShadow (s : State) (a : Nat) (old w : Word) : Word :=
  if among a (RFP_TXPMAX 0) 0x100 48 then wPut w (RFP_TXPMAX_MAXQ 0) (txpmaxClamp s ((a - 0x20030000) / 0x100) (wGet w (RFP_TXPMAX_MAXQ 0)))
  else if a = SYN_LOB0 then (if lobOk 0 (w.toNat % 2 ^ 20) then w else old)
  else if a = SYN_LOB1 then (if lobOk 1 (w.toNat % 2 ^ 20) then w else old)
  else if a = CAP_CTL then wMax w CAP_CTL_FIX_IDX 20
  else if a = CAP_AAGC then
    (if wGet w CAP_AAGC_LO_THR < wGet w CAP_AAGC_HI_THR + 8 then old else wMin w CAP_AAGC_HOLD_UP 2)
  else if a = CAP_CLEAR then wMin (wMin w CAP_CLEAR_CLEAR_A 6) CAP_CLEAR_CLEAR_B 10
  else if a = SPX_CTL then wIn w SPX_CTL_DEPTH 1 s.part.spatial
  else if a = SPX_DETTHR then wMin (wMin w SPX_DETTHR_THR_A 64) SPX_DETTHR_THR_B 64
  else if a = SPX_SEPCTL then wIn w SPX_SEPCTL_CORR_MAX 10 70
  else if a = SPX_SIGCTL then wMax (wMax w SPX_SIGCTL_MAXOFS_A 31) SPX_SIGCTL_MAXOFS_B 149
  else if among a (PHY_SYNC 0) 16 16 then wMax w (PHY_SYNC_SYNC_TOL 0) 4
  else if among a (PHY_TRK 0) 16 16 then wMin (wMax (wMax w (PHY_TRK_FBW 0) 11) (PHY_TRK_TBW 0) 11) (PHY_TRK_LOCK_THR 0) 16
  else if a = LNK_ABLK then wMax w LNK_ABLK_SIZE (min 16384 (0xFFFE - wGet w LNK_ABLK_BASE))
  else if a = TXS_CTL then wMax w TXS_CTL_ACK_RSV s.part.txLanes
  else if a = TXS_STROBE then wMin w TXS_STROBE_GAP 20
  else if a = TXS_HOPCTL then wIn (wIn w TXS_HOPCTL_LEN 50 128) TXS_HOPCTL_DWELL 1 40
  else if a = FLD_CTL then wMin w FLD_CTL_TTL_MAX 1
  else if a = FLD_JIT then wMin (wIn w FLD_JIT_MAX_WIN 1 64) FLD_JIT_DEF_WIN 1
  else if a = FLD_SILT then wMin w FLD_SILT_HOLD 1
  else w

/-- Limits of the other registers. -/
def clampPlain (a : Nat) (old w : Word) : Word :=
  if a = LNK_BUFCFG then wMax w LNK_BUFCFG_COUNT 4096
  else if among a (EVT_RELAY 0) 4 16 then wMin w (EVT_RELAY_DELAY 0) 1
  else if a = EVT_PCFG then w &&& 0xFFFFFEFF
  else if a = MBX_CTL then wMin w MBX_CTL_TIMEOUT 1
  else if a = PWR_PMBCFG then wIn w PWR_PMBCFG_PAGES 1 8
  else if a = PWR_AVS then wIn (wIn w PWR_AVS_FLOOR 130 170) PWR_AVS_CEIL 130 170
  else if a = FLC_CTL then wMin (wMin w FLC_CTL_WEAR_LEVEL 1) FLC_CTL_ERASE_NOM 1
  else if a = CFG_SWAPMASK || a = CFG_LOADMASK || a = VFB_OMASK then w &&& 0x3FFE
  else if among a (SYS_ENGREC 0) 0x40 12 then (if 12288 ≤ wGet w (SYS_ENGREC_WORD 0) then old else w)
  else w

/-- The word a register stores when `w` is written over `old`. -/
def clampWord (s : State) (a : Nat) (old w : Word) : Word :=
  clampPlain a old (clampShadow s a old w) &&& partMask s.part a

end Sys2Proof.Machine
end

