-- ==== Sys2Proof/Machine/Bitstream.lean ====
section
/-! DEFINITION. Machine/Bitstream.lean: the bitstream's format, its regions, and the checks of R61 and R68 (R48 to R61, R68, with the
table rules of R102, R108, R125, R140, R144, R157, R166, R173, R203, R234, R253, R341, R362 and R445). -/

namespace Sys2Proof.Machine

/-! ### Regions (R55, R57) -/

/-- Largest payload of a region. -/
def regionLimit (r : Nat) : Nat :=
  match r with
  | 1 => 192 | 3 | 7 => 65536 | 4 => 524288 | 6 | 9 => 16384 | 8 => 32768 | 12 | 13 => 32 | _ => 4096

/-- A region of fixed layout. -/
def regionFixed (r : Nat) : Bool := r == 1 || r == 12 || r == 13

/-- Blocks a region reaches. -/
def regionBlocks (r : Nat) : List Nat :=
  match r with
  | 1 => [3, 5] | 2 => [4, 5] | 3 => [5] | 4 => [6] | 5 => [6, 7] | 6 => [7] | 7 => [8, 9, 10] | 8 => [9, 6, 3] | 9 => [13, 14]
  | 10 => [20, 13, 15, 22] | 11 => [15] | 12 => [11] | 13 => [12, 0] | _ => []

/-- The region that carries a configuration register; none for every other address. -/
def configRegion (a : Nat) : Option Nat :=
  if among a (RFP_TXPMAX 0) 0x100 48 then some 8
  else if a = SYN_LOB0 || a = SYN_LOB1 then some 2
  else if among a (PHY_SYNC 0) 16 16 || among a (PHY_TRK 0) 16 16 then some 6
  else if a = LNK_PANID || a = LNK_EXTL || a = LNK_EXTH || a = LNK_ABLK || a = LNK_DELIV || a = LNK_ACKPWR then some 7
  else if a = TXS_CTL || a = TXS_PWR || a = TXS_SLEEPY || a = TXS_STROBE then some 7
  else if a = FLD_CTL || a = FLD_JIT || a = FLD_SILT then some 7
  else if a = TXS_HOPCTL then some 8
  else if a = EVT_KILLHOLD || a = EVT_PCFG || among a (EVT_PMAT 0 0) 4 128 || among a (EVT_RELAY 0) 4 16 || among a (EVT_PROD 0) 4 800
      || among a (EVT_TASK 0) 4 400 || a = IRQ_PINCFG0 || a = IRQ_PINCFG1 || among a (IRQ_SRC 0) 4 256 then some 9
  else none

/-- Every configuration register of a region. -/
def configRegs (r : Nat) : List Nat :=
  match r with
  | 2 => [SYN_LOB0, SYN_LOB1]
  | 6 => (List.range 16).flatMap fun n => [PHY_SYNC n, PHY_TRK n]
  | 7 => [LNK_PANID, LNK_EXTL, LNK_EXTH, LNK_ABLK, LNK_DELIV, LNK_ACKPWR, TXS_CTL, TXS_PWR, TXS_SLEEPY, TXS_STROBE, FLD_CTL, FLD_JIT, FLD_SILT]
  | 8 => TXS_HOPCTL :: (List.range 48).map RFP_TXPMAX
  | 9 => [EVT_KILLHOLD, EVT_PCFG, IRQ_PINCFG0, IRQ_PINCFG1] ++ (List.range 128).map (fun i => EVT_PMAT 0 0 + 4 * i)
      ++ (List.range 16).map EVT_RELAY ++ (List.range 800).map EVT_PROD ++ (List.range 400).map EVT_TASK ++ (List.range 256).map IRQ_SRC
  | _ => []

/-- Words of a table, by block and number; 0 where there is none. -/
def tableWords (block table : Nat) : Nat :=
  match block, table with
  | 3, 0 => 16 | 3, 1 => 4 | 5, 0 => 348 | 5, 1 => 192 | 5, 2 => 600 | 6, 0 => 48 | 6, 1 => 39168 | 6, 2 => 39168 | 6, 3 => 3360
  | 6, 4 => 348 | 7, 0 => 64 | 8, 0 => 64 | 8, 1 => 256 | 9, 0 => 8 | 9, 1 => 128 | 10, 0 => 64 | 13, 0 => 256 | 15, 0 => 15 | 15, 1 => 15
  | 20, 0 => 16 | _, _ => 0

/-- Bits that a table's word may hold. -/
def tableMask (block table ix : Nat) : Nat :=
  match block, table with
  | 3, 0 => 0x00FFFF1F | 3, 1 => 0x1FFFFFFF | 5, 0 => 0x3FF | 5, 1 => 0x3FFFF | 5, 2 => 0x3FFFF | 6, 0 => 0x3FFFFFFF | 6, 4 => 0x1FF
  | 7, 0 => (match ix % 4 with | 0 => 0x3FFBFF | 2 => 0xFFFFFF | 3 => 0xFFFFF | _ => 0xFFFFFFFF)
  | 8, 0 => 0x7F7F | 8, 1 => 0x1FF | 9, 1 => 0xFF | 10, 0 => 0x87FF | 13, 0 => 0x3F | 15, 0 => 0x1FFFF | 15, 1 => 3 | 20, 0 => 0x7F
  | _, _ => 0xFFFFFFFF

/-! ### Runs (R57) -/

/-- A run. -/
structure BsRun where
  kind : Nat
  block : Nat
  tid : Nat
  zero : Nat
  start : Nat
  words : List Nat
  deriving DecidableEq, Repr

/-- The little-endian number of `n` octets at `o`. -/
def leOf (l : List Byte) (o n : Nat) : Nat := ofLe ((l.drop o).take n)

/-- The runs of a payload, and whether they fill it exactly. -/
def parseRuns : Nat → List Byte → List BsRun × Bool
  | 0, l => ([], l.isEmpty)
  | fuel + 1, l =>
    if l.isEmpty then ([], true)
    else
      let count := leOf l 8 4
      if l.length < 12 + 4 * count || count = 0 then ([], false)
      else
        let run : BsRun :=
          { kind := leOf l 0 1, block := leOf l 1 1, tid := leOf l 2 1, zero := leOf l 3 1, start := leOf l 4 4
            words := (List.range count).map fun i => leOf l (12 + 4 * i) 4 }
        let (r, e) := parseRuns fuel (l.drop (12 + 4 * count))
        (run :: r, e)

def runsOf (l : List Byte) : List BsRun × Bool := parseRuns (l.length + 1) l

/-- The address of word `k` of a register run. -/
def runAddr (r : BsRun) (k : Nat) : Nat := 0x20000000 + 0x10000 * r.block + r.start + 4 * k

/-- A FEM profile as it is stored: PA_LEAD and PA_LAG at most at their limits (R102). -/
def femStored (w : Nat) : Nat := w % 256 + 256 * min 250 (bitsOf w 15 8) + 65536 * min 200 (bitsOf w 23 16) + 2 ^ 24 * (w / 2 ^ 24)

/-- A run's words with their places: addresses, or table keys. -/
def runCells (r : BsRun) : List (Nat × Nat) :=
  ((List.range r.words.length).zip r.words).map fun e =>
    (if r.kind = 0 then runAddr r e.1 else tableKey r.block r.tid (r.start + e.1),
      if r.kind = 1 && r.block = 3 && r.tid = 0 then femStored e.2 else e.2)

/-- The plane that a payload makes (R57, R102: PA_LEAD and PA_LAG are stored at most at their limits). -/
def planeOf (region : Nat) (payload : List Byte) (build bsvn : Nat) : Plane :=
  if regionFixed region then { build := build, bsvn := bsvn, payload := payload } else
  let runs := (runsOf payload).1
  let put (kind : Nat) : List (Nat × Nat) := (runs.filter fun r => r.kind = kind).flatMap runCells
  let insert (m : List (Nat × Word)) (e : Nat × Nat) : List (Nat × Word) := stInsert (BitVec.ofNat 32 e.2) m e.1
  let set (m : List (Nat × Word)) (e : Nat × Nat) : List (Nat × Word) := stSet 0 m e.1 (BitVec.ofNat 32 e.2)
  { build := build, bsvn := bsvn, regs := (put 0).foldl insert [], tables := (put 1).foldl set [] }

/-- A plane's word of a table. -/
def planeTab (p : Plane) (block table ix : Nat) : Nat := (stGet 0 p.tables (tableKey block table ix)).toNat

/-- A plane's value of a configuration register: its reset word where no run carries it (log entry 22). -/
def planeReg (p : Plane) (a : Nat) : Nat := (stGet (resetWord a) p.regs a).toNat

/-- A plane's listed words of a table, by index. -/
def planeRow (p : Plane) (block table : Nat) : List (Nat × Nat) :=
  (p.tables.filter fun e => e.1 / 65536 = block * 256 + table).map fun e => (e.1 % 65536, e.2.toNat)

/-- A number in a plane's fixed payload. -/
def planeLe (p : Plane) (o n : Nat) : Nat := leOf p.payload o n

/-! ### Rules over planes -/

/-- The planes that a rule reads, by region. -/
abbrev Planes := Nat → Plane

/-- Four words of a profile slot. -/
def slotWords (p : Plane) (n : Nat) : List Nat := (List.range 4).map fun i => planeTab p 7 0 (4 * n + i)

/-- Profile slots that a word of CAP table 0 names. -/
def mapSlots (w : Nat) : List Nat := if !bitOf w 0 then [] else if bitOf w 1 then [bitsOf w 5 2, bitsOf w 9 6] else [bitsOf w 5 2]

/-- Centre of a band-B bin in kHz under a band plan. -/
def planCentre (p : Plane) (k : Nat) : Nat := planeReg p (if binGroup k = 0 then SYN_LOB0 else SYN_LOB1) + 200 * binNo k - 15000

/-- The detection-bin map breaks a limit of R108: the first bin that does. -/
def detMapBad (p : Plane) : Option Nat :=
  let dets := (planeRow p 5 0).filter fun e => bitOf e.2 0
  let a := dets.filter fun e => e.1 < 48
  let b := dets.filter fun e => 48 ≤ e.1
  let out (e : Nat × Nat) : Bool :=
    let f := planCentre p e.1
    if binGroup e.1 = 0 then decide (f < 863000 ∨ 876000 < f) else decide (f < 902000 ∨ 928000 < f)
  match a.find? fun e => e.1 < 8 || 39 < e.1 with
  | some e => some e.1
  | none =>
    match a.drop 32 ++ b.drop 176 with
    | e :: _ => some e.1
    | [] => (b.find? out).map (·.1)

/-- The band (0 A, 1 B), LO group and port of a weight's index in SPX table 1, 2 or 3 (R140). -/
def weightPort (table ix : Nat) : Nat × Nat × Nat :=
  let split := if table = 3 then 1536 else 24576
  let per := if table = 3 then 912 else 7296
  if ix < split then (0, 0, ix % 48) else (1, (ix - split) / per, (ix - split) % 48)

/-- A weight stands for a port that the port map does not give to its band and LO group (R140). -/
def weightBad (map : Plane) (table ix : Nat) : Bool :=
  let (band, group, port) := weightPort table ix
  let e := planeLe map (4 * port) 4
  e % 4 == 0 || bitsOf e 2 2 != band || (band == 1 && (if bitsOf e 4 3 = 2 then 1 else 0) != group)

/-- The first bad weight: table and index. -/
def weightsBad (map p : Plane) : Option (Nat × Nat) :=
  [1, 2, 3].findSome? fun t => ((planeRow p 6 t).find? fun e => weightBad map t e.1).map fun e => (t, e.1)

/-- Floors, after others that sum to `sum`, break R125: the first bin with a floor and no DET, or at which they exceed the lanes. -/
def floorsFrom (plan : Plane) (lanes : Nat) : List (Nat × Nat) → Nat → Option Nat
  | [], _ => none
  | e :: l, sum =>
    if e.2 ≠ 0 && !bitOf (planeTab plan 5 0 e.1) 0 then some e.1
    else if lanes < sum + e.2 then some e.1
    else floorsFrom plan lanes l (sum + e.2)

/-- The floors of a lane-pool plane break R125. -/
def floorsBad (plan p : Plane) (lanes : Nat) : Option Nat := floorsFrom plan lanes (planeRow p 6 4) 0

/-- Ones in a 32-bit word. -/
def ones32 (w : Nat) : Nat := ((List.range 32).filter (bitOf w ·)).length

/-- The four words of a profile slot break R173 or a rule it names. -/
def slotBad (w : List Nat) : Bool :=
  let w0 := w.getD 0 0
  let w1 := w.getD 1 0
  let mode := pwMode w
  let rate := pwRate w
  let pre := pwPreLen w
  if !pwValid w then w.any (· ≠ 0)
  else if 2 < mode || (mode = 0 && pwBand w = 1) || (mode = 1 && pwBand w = 0) then true
  else if mode = 1 && rate = 3 then true
  else if mode ≠ 1 && bitsOf w0 9 5 ≠ 0 then true
  else if pwMaxLen w = 0 || (mode = 0 && 127 < pwMaxLen w) then true
  else if mode = 2 && (ones32 (w1 ^^^ 0x55555555) < 9 || ones32 (w1 ^^^ 0xAAAAAAAA) < 9) then true
  else if mode ≠ 2 && w1 ≠ 0 then true
  else if (mode = 0 && pre ≠ 0) || (mode = 1 && (pre < 4 || 255 < pre)) || (mode = 2 && pre < 16) then true
  else if pwDetWin w < 2 || preSymbols w < pwDetWin w then true
  else if (if pwBand w = 0 then 256000 else 640000) < detWinNs w + 64 * sampleNs (pwBand w) + 1000 then true
  else
    let lim := match mode with
      | 0 => 62500
      | 1 => 50000 * (rate + 1)
      | _ => if pwBand w = 0 then 500000 else 100000
    decide (lim < pwLongMax w)

/-- A hop table breaks R234 under a plane's TXS_HOPCTL: the first bad position.  Every word of a table that is not all zero lies in its
range; the first LEN are distinct. -/
def hopBad (plan p : Plane) : Option Nat :=
  let ctl := planeReg p TXS_HOPCTL
  let row := planeRow p 9 1
  if row.isEmpty then (if bitOf ctl 0 then some 0 else none)
  else
    let len := max 50 (min 128 (bitsOf ctl 8 1))
    let at1 (i : Nat) : Nat := planeTab p 9 1 i
    let bad (i : Nat) : Bool :=
      let f := planeReg plan SYN_LOB1 + 200 * at1 i - 15000
      decide (149 < at1 i ∨ f < 902000 ∨ 928000 < f) || (decide (i < len) && (List.range i).any fun j => at1 j == at1 i)
    (List.range 128).find? bad

/-- A neighbour list breaks R253: the first bad entry. -/
def neighboursBad (role p : Plane) : Option Nat :=
  let bad (e : Nat × Nat) : Bool :=
    if !bitOf e.2 15 then true
    else decide (1999 < e.2 % 2048) || e.2 % 2048 == planeLe role 4 2
      || (planeRow p 10 0).any fun f => decide (f.1 < e.1) && f.2 % 2048 == e.2 % 2048
  ((planeRow p 10 0).find? bad).map (·.1)

/-- Rows of EVT_PMAT that only SECURE channels may enter (R341). -/
def secureRow (k : Nat) : Bool := k == 2 || k == 3 || k == 5 || k == 6 || k == 7

/-- The owner and the world of a channel (R345). -/
def chanOwner (s : State) (c : Nat) : Nat := s.table 13 0 c % 32
def chanSecure (s : State) (c : Nat) : Bool := bitOf (s.table 13 0 c) 5

/-- A matrix word of row `k` as it counts: the bits of NORMAL channels are clear in a SECURE row (R341). -/
def matrixWord (s : State) (k j w : Nat) : Nat :=
  if secureRow k then (List.range 32).foldl (fun v i => v + 2 ^ i * b2n (bitOf w i && chanSecure s (32 * j + i))) 0 else w

/-- Word `j` of matrix row `k` as it reads and acts under the owners in force (R341). -/
def matrixRead (s : State) (k j : Nat) : Nat := matrixWord s k j (s.fld (EVT_PMAT_EN k j))

/-- A matrix word of a SECURE row has the bit of a NORMAL channel (R341). -/
def matrixBad (own : Plane) (a w : Nat) : Bool :=
  among a (EVT_PMAT 0 0) 4 128 &&
    let i := (a - EVT_PMAT 0 0) / 4
    secureRow (i / 8) && (List.range 32).any fun j => bitOf w j && !bitOf (planeTab own 13 0 (32 * (i % 8) + j)) 5

/-- The first bad index of a table's content, after the masks: table by block and number. -/
def tableBad (P : Planes) (p : Plane) (lanes : Nat) (block table : Nat) : Option Nat :=
  let row := planeRow p block table
  match block, table with
  | 5, 0 => detMapBad p
  | 6, 1 | 6, 2 | 6, 3 => (row.find? fun e => weightBad (P 1) table e.1).map (·.1)
  | 6, 4 => floorsBad (P 2) p lanes
  | 7, 0 => ((List.range 16).find? fun n => slotBad (slotWords p n)).map (4 * ·)
  | 8, 0 => (row.find? fun e => [e.2 % 64, bitsOf e.2 13 8].any fun d => decide (d < 32 ∧ 11 < d)).map (·.1)
  | 8, 1 => if planeTab p 8 1 0 = 0 then none else some 0
  | 9, 0 =>
    ((List.range 8).find? fun i =>
      let w := planeTab p 9 0 i
      if i % 2 = 0 then decide (w / 65536 < w % 65536) else decide (3600000 < w % 2 ^ 20))
  | 9, 1 => hopBad (P 2) p
  | 10, 0 => neighboursBad (P 13) p
  | 13, 0 => (row.find? fun e => 16 < e.2 % 32).map (·.1)
  | 20, 0 => (row.find? fun e => 16 < e.2 % 32 || (bitOf e.2 5 && e.2 % 32 ≠ 16)).map (·.1)
  | _, _ => none

/-! ### Checks 14 and 15 of a region -/

/-- A failure: code, entry or run index, kind and number of an absent unit. -/
structure BsFail where
  code : Nat
  entry : Nat := 0
  kind : Nat := 0
  number : Nat := 0
  deriving DecidableEq, Repr

/-- An absent unit that a word of a run names: kind and number (R7, R10, R174, R235, R362).  A word that is zero names none. -/
def absentWord (part : Part) (r : BsRun) (k w : Nat) : Option (Nat × Nat) :=
  let ix := r.start + k
  let noB := !part.bandB
  if r.kind = 0 then
    let a := runAddr r k
    if among a (RFP_TXPMAX 0) 0x100 48 then
      (if part.ports ≤ (a - RFP_TXPMAX 0) / 0x100 then some (1, (a - RFP_TXPMAX 0) / 0x100) else none)
    else if noB && (a = SYN_LOB0 || a = SYN_LOB1 || (a = TXS_HOPCTL && bitOf w 0)) then some (2, 0)
    else none
  else if w = 0 then none
  else
    match r.block, r.tid with
    | 6, 1 | 6, 2 | 6, 3 =>
      let (band, _, port) := weightPort r.tid ix
      if part.ports ≤ port then some (1, port) else if noB && band = 1 then some (2, 0) else none
    | 5, 0 | 6, 4 => if noB && 48 ≤ ix then some (8, ix) else none
    | 5, 2 => if noB then some (2, 0) else none
    | 3, 1 => if noB && 1 ≤ ix then some (2, 0) else none
    | 6, 0 => if part.ports ≤ ix then some (1, ix) else none
    | 7, 0 => if noB && ix % 4 = 0 && bitOf w 4 then some (2, 0) else none
    | 9, 0 => if noB && ix % 2 = 0 && 25 * (w % 65536) < 1000000 then some (2, 0) else none
    | 9, 1 => if noB then some (2, 0) else none
    | 15, 0 => if !part.stack && bitOf w 15 then some (6, 0) else none
    | _, _ => none

/-- The first of a list for which `f` answers, with its place. -/
def firstAt {α β : Type} (f : α → Option β) : Nat → List α → Option (Nat × β)
  | _, [] => none
  | i, x :: l => match f x with | some b => some (i, b) | none => firstAt f (i + 1) l

/-- Check 14 of a region. -/
def regionAbsent (part : Part) (region : Nat) (payload : List Byte) : Option BsFail :=
  match region with
  | 1 =>
    (List.range 48).findSome? fun p =>
      let e := leOf payload (4 * p) 4
      if e % 4 = 0 then none
      else if part.ports ≤ p then some { code := 0x0A, entry := p, kind := 1, number := p }
      else if bitOf e 2 && !part.bandB then some { code := 0x0A, entry := p, kind := 2 }
      else none
  | 12 => if leOf payload 0 4 ≠ 0 && !part.stack then some { code := 0x0A, kind := 6 } else none
  | 13 =>
    if part.fabricPorts < 2 && (bitOf (leOf payload 10 1) 1 || leOf payload 14 1 % 4 = 2) then some { code := 0x0A, kind := 5, number := 1 }
    else none
  | _ =>
    (firstAt (fun r => (firstAt (fun e : Nat × Nat => absentWord part r e.1 e.2) 0 ((List.range r.words.length).zip r.words)).map (·.2)) 0
      (runsOf payload).1).map fun e => { code := 0x0A, entry := e.1, kind := e.2.1, number := e.2.2 }

/-- A run breaks the limits of R57, or a field of it is out of range. -/
def runBad (region : Nat) (own : Plane) (r : BsRun) : Bool :=
  if 1 < r.kind || r.zero ≠ 0 || !(regionBlocks region).contains r.block then true
  else if r.kind = 0 then
    r.tid ≠ 0 || r.start % 4 ≠ 0 || 0x8000 < r.start + 4 * r.words.length ||
      ((runCells r).any fun e =>
        configRegion e.1 ≠ some region
          || (match regRow e.1 with | some row => e.2 &&& (0xFFFFFFFF - row.rw) ≠ 0 | none => true)
          || (e.1 == SYN_LOB0 && !lobOk 0 e.2) || (e.1 == SYN_LOB1 && !lobOk 1 e.2)
          || matrixBad own e.1 e.2)
  else
    tableWords r.block r.tid < r.start + r.words.length || tableRegion r.block r.tid ≠ region ||
      ((List.range r.words.length).zip r.words).any fun e =>
        e.2 &&& (0xFFFFFFFF - tableMask r.block r.tid (r.start + e.1)) ≠ 0

/-- The last run that carries a word of a table; 0 where none does. -/
def runOfWord (runs : List BsRun) (block table ix : Nat) : Nat :=
  (((List.range runs.length).zip runs).foldl (fun b e =>
    if e.2.kind = 1 && e.2.block = block && e.2.tid = table && e.2.start ≤ ix && ix < e.2.start + e.2.words.length then e.1 else b) 0)

/-- The first profile slot that a map of the same load names on a bin off its raster (R144). -/
def rasterBad (plan p : Plane) : Option Nat :=
  (planeRow plan 5 0).findSome? fun e =>
    (mapSlots e.2).find? fun n => let w := slotWords p n; pwValid w && !onRaster w e.1

/-- Check 15 of a port map: the first bad entry (R56). -/
def portMapBad (payload : List Byte) : Option Nat :=
  (List.range 48).find? fun p =>
    let e := leOf payload (4 * p) 4
    e &&& 0xFFF000E0 ≠ 0 || (e % 4 = 0 && e ≠ 0) || (!bitOf e 2 && bitsOf e 4 3 ≠ 0) || bitsOf e 4 3 = 3

/-- Check 15 of a stack role (R58).  MEMBER and LEADER index members, so each must lie below MEMBERS (log entry 145). -/
def stackRoleBad (l : List Byte) : Bool :=
  if leOf l 0 4 = 0 then l.any (· ≠ 0)
  else
    let m := leOf l 5 1
    m < 2 || 8 < m || m ≤ leOf l 4 1 || m ≤ leOf l 6 1 || 3 < leOf l 7 1 || (l.drop 8).any (· ≠ 0)

/-- Check 15 of a fabric role (R59), beside the stack role judged. -/
def fabricRoleBad (stackId : Nat) (l : List Byte) : Bool :=
  let master := leOf l 6 2
  let backup := leOf l 8 2
  decide (1999 < leOf l 4 2) || decide (3 < leOf l 10 1) || leOf l 11 1 ≠ 0 || decide (2 < leOf l 14 1) || (l.drop 15).any (· ≠ 0)
    || (leOf l 0 4 ≠ 0 && (decide (1999 < master) || decide (1999 < backup) || master == backup))
    || (stackId ≠ 0 && leOf l 14 1 ≠ 0)

/-- Check 15 of a region: the entry or run of the first failure.  `P` gives the planes of the same load, or the active ones; `both` says
that the band plan is of the same load (R144). -/
def regionRange (part : Part) (P : Planes) (both : Bool) (region : Nat) (payload : List Byte) (p : Plane) : Option Nat :=
  if payload.length < regionLimit region && regionFixed region then some 0 else
  match region with
  | 1 => portMapBad payload
  | 12 => if stackRoleBad payload then some 0 else none
  | 13 => if fabricRoleBad (planeLe (P 12) 0 4) payload then some 0 else none
  | _ =>
    let (runs, full) := runsOf payload
    match runs.findIdx? (runBad region (P 10) ·) with
    | some i => some i
    | none =>
      if !full then some runs.length
      else
        let tabs := (runs.filter fun r => r.kind = 1).map fun r => (r.block, r.tid)
        let tabs := if region = 8 then (9, 1) :: tabs else tabs
        match tabs.findSome? fun t => (tableBad P p part.rxLanes t.1 t.2).map fun i => runOfWord runs t.1 t.2 i with
        | some i => some i
        | none =>
          if region = 6 && both then (rasterBad (P 2) p).map fun n => runOfWord runs 7 0 (4 * n) else none

/-- Checks 14 and 15 of a region. -/
def regionCheck (part : Part) (P : Planes) (both : Bool) (region : Nat) (payload : List Byte) (p : Plane) : Option BsFail :=
  match regionAbsent part region payload with
  | some f => some f
  | none => (regionRange part P both region payload p).map fun i => { code := 0x0B, entry := i }

/-! ### Check 3 of R68 -/

/-- A profile slot named by the map is not defined, or is off its raster. -/
def profilesBad (plan prof : Plane) : Bool :=
  (planeRow plan 5 0).any fun e => (mapSlots e.2).any fun n => let w := slotWords prof n; !pwValid w || !onRaster w e.1

/-- The regions of the planes that will be active whose references do not resolve. -/
def xrefBad (part : Part) (P : Planes) : List Nat :=
  let when (b : Bool) (r : Nat) : List Nat := if b then [r] else []
  when (profilesBad (P 2) (P 6)) 2 ++ when (weightsBad (P 1) (P 4)).isSome 4 ++ when (floorsBad (P 2) (P 5) part.rxLanes).isSome 5
    ++ when (part.bandB && (hopBad (P 2) (P 8)).isSome) 8 ++ when ((P 9).regs.any fun e => matrixBad (P 10) e.1 e.2.toNat) 9
    ++ when (planeLe (P 12) 0 4 ≠ 0 && planeLe (P 13) 14 1 % 4 ≠ 0) 13

/-! ### Header (R50, R53, R61 checks 1 to 8) -/

/-- The offset in flash of a slot. -/
def slotBase (s : State) (slot : Nat) : Nat := 65536 * bitSector s slot

/-- `n` octets of a slot from an offset. -/
def slotRead2 (s : State) (slot o n : Nat) : Option (List Byte) × State := flashRead s (slotBase s slot + o) n

/-- Spans that overlap. -/
def overlaps (a b : BsDir) : Bool := decide (a.off < b.off + b.len ∧ b.off < a.off + a.len)

/-- No two payloads overlap. -/
def dirsApart : List BsDir → Bool
  | [] => true
  | d :: l => !(l.any (overlaps d)) && dirsApart l

/-- The directory of a bitstream is well placed (R49, R53). -/
def dirGood (total : Nat) (raw : List Byte) (dirs : List BsDir) : Bool :=
  let n := dirs.length
  let lo := 256 + 16 * n
  ((List.range n).all fun i => leOf raw (16 * i + 1) 1 == 1 && leOf raw (16 * i + 2) 2 == 0)
    && (dirs.all fun d => d.off % 16 == 0 && decide (lo ≤ d.off ∧ d.off + d.len + 80 ≤ total)) && dirsApart dirs

/-- The entries of a directory. -/
def dirsOf (raw : List Byte) (n : Nat) : List BsDir :=
  (List.range n).map fun i =>
    { id := leOf raw (16 * i) 1, off := leOf raw (16 * i + 4) 4, len := leOf raw (16 * i + 8) 4, crc := leOf raw (16 * i + 12) 4 }

/-- Check 7: the first absent unit the NEED fields name. -/
def needBad (part : Part) (h : List Byte) : Option (Nat × Nat) :=
  let ports := leOf h 0x28 1
  let flags := leOf h 0x29 1
  let depth := leOf h 0x2A 1
  let tx := leOf h 0x2B 1
  let rx := leOf h 0x2C 2
  if part.ports < ports then some (1, ports - 1)
  else if bitOf flags 0 && !part.bandB then some (2, 0)
  else if bitOf flags 1 && !part.stack then some (6, 0)
  else if bitOf flags 2 && part.fabricPorts < 2 then some (5, 1)
  else if part.spatial < depth then some (7, depth)
  else if part.txLanes < tx then some (4, tx - 1)
  else if part.rxLanes < rx then some (3, rx - 1)
  else none

/-- Checks 2 to 8 over a header and a directory that have been read. -/
def headerBad (s : State) (h dir : List Byte) : Option BsFail :=
  let total := leOf h 8 4
  let n := leOf h 12 1
  let zero (o k : Nat) : Bool := ((h.drop o).take k).all (· == 0)
  if leOf h 0 4 ≠ 0x53424854 then some { code := 1 }
  else if s.fld CFG_VERSION_FMT_MAX < leOf h 4 2 || leOf h 6 2 ≠ 0x100 || leOf h 16 8 = 0 || !zero 0x0D 3 || !zero 0x2E 18 || !zero 0x80 124 then
    some { code := 2 }
  else if crc32 (octNats (h.take 252)) ≠ leOf h 0xFC 4 then some { code := 3 }
  else if total % 16 ≠ 0 || 0x3F0000 < total || n = 0 || 13 < n || dir.length < 16 * n || !dirGood total dir (dirsOf dir n) then
    some { code := 4 }
  else if leOf h 0x20 8 ≠ 0 && leOf h 0x20 8 ≠ ofLe ((fingerprint s).take 8) then some { code := 8 }
  else
    match needBad s.part h with
    | some (k, m) => some { code := 0x0A, kind := k, number := m }
    | none => if (signerKey s (leOf h 0x1C 4) false).isNone then some { code := 6 } else none

/-- The header and the directory of a slot; a header that cannot be read fails check 2, a directory check 5 (log entry 23). -/
def headerRead (s : State) (slot : Nat) : List Byte × List Byte × State :=
  match slotRead2 s slot 0 256 with
  | (none, s) => ([], [], s)
  | (some h, s) =>
    match slotRead2 s slot 256 (16 * min 13 (leOf h 12 1)) with
    | (none, s) => (h, [], s)
    | (some d, s) => (h, d, s)

/-- Check 9: the signature over octets 0 to TOTAL_LEN − 65 (R54). -/
def signatureGood (key : Option (List Nat)) (l : List Byte) (total : Nat) : Bool :=
  match key with
  | none => false
  | some k =>
    let b := l.drop (total - 80)
    leOf b 0 4 == 0x47534854 && leOf b 4 2 == 1 && ((b.drop 6).take 10).all (· == 0)
      && ecdsaVerify k (sha256 (octNats (l.take (total - 64)))) (octNats ((b.drop 16).take 32)) (octNats ((b.drop 48).take 32))

end Sys2Proof.Machine
end

