-- ==== Sys2Proof/Machine/Activate.lean ====
section
/-! DEFINITION. Machine/Activate.lean: what follows when planes become active, LO retunes and mutes, and the calibration of a start-up
(R65, R69, R81 to R83, R87, R89, R93). -/

namespace Sys2Proof.Machine

/-! ### Mutes (R31, R89, R90, R218) -/

/-- The assignment code of the LO that a bin needs (R103). -/
def binCode (k : Nat) : Nat := if binBand k = 0 then 1 else 2 + binGroup k

/-- Frames in flight on the bins of some LOs are lost (R31, R89, R90): each port in RX that hears one counts it, and their lanes end. -/
def framesLost (s : State) (codes ports : List Nat) : State :=
  (busyRx s).foldl (fun s n =>
    match s.rxl n with
    | some x =>
      let c := binCode (rxBin s n)
      if !codes.contains c || endedBy x s.venue then s
      else
        laneEndEarly (ports.foldl (fun s p =>
          if portState s p = 3 && !(s.portx p).muted && portAssign s p = c then s.bump (RFP_CNT1_LOST p) else s) s) n
    | none => s) s

/-- The bins of an LO are deaf from now on, and its open window groups are discarded (R116, R218). -/
def loDeaf (s : State) (code : Nat) : State :=
  blankSettle (addBlank s { band := if code = 1 then 0 else 1, scope := if code = 1 then 0 else code, start := s.venue, stop := 0 })

/-- The deafness of a muted LO ends `after` ns from now. -/
def loHears (s : State) (code after : Nat) : State :=
  let s := deafSettle s
  let scope := if code = 1 then 0 else code
  { s with blanks := s.blanks.map fun b =>
      if b.stop = 0 && b.centre = 0 && b.scope = scope && b.band = (if code = 1 then 0 else 1) then { b with stop := s.venue + after } else b }

/-- Ports fall to STANDBY and hold there, muted (R90). -/
def portsMute (s : State) (l : List Nat) : State :=
  l.foldl (fun s p =>
    let s := s.setPortx p { s.portx p with muted := true, pa := false }
    if 1 < portState s p then portRefresh (s.setFlds [(RFP_STAT_STATE p, 1), (RFP_STAT_INTRANSIT p, 0)]) p else s) s

/-- Muted ports re-enter SYNTH in phase and head for their held states (R81, R90). -/
def portsUnmute (s : State) (l : List Nat) : State :=
  portsBack (l.foldl (fun s p => if portState s p = 1 && 2 ≤ portWant s p then s.setFld (RFP_STAT_STATE p) 2 else s) s) l

/-! ### LO retune (R89) -/

/-- A transmission on an LO walks, sends or ramps down. -/
def loOnAir (s : State) (code : Nat) : Bool := s.txLanes.any fun e => decide (2 ≤ e.2.stage) && binCode e.2.bin == code

/-- The retune of LO group g starts: its ports are muted, frames in flight are lost, and each port's calibrations per channel fall due. -/
def retuneStart (s : State) (g : Nat) : State :=
  let l := synPorts s (2 + g)
  if l.isEmpty then s else
  let s := framesLost { s with loRetune := s.loRetune ||| 2 ^ g } [2 + g] l
  loDeaf (l.foldl (fun s p => calDue (s.setPortx p { s.portx p with muted := true }) p 12) s) (2 + g)

/-- A retune is due at a boundary: at once, or at the end of a ramp-down where a transmission is on air. -/
def retuneDue (s : State) (g : Nat) : State :=
  if loOnAir s (2 + g) then { s with loWaiting := s.loWaiting ||| 2 ^ g } else retuneStart s g

/-- Retunes that waited for a ramp-down start. -/
def retuneWaiting (s : State) : State :=
  forBelow 2 (fun s g =>
    if bitOf s.loWaiting g && !loOnAir s (2 + g) then retuneStart { s with loWaiting := s.loWaiting &&& (3 - 2 ^ g) } g else s) s

/-! ### Start-up calibration (R82, R93) -/

/-- Ports that are not off, in ascending order. -/
def portsOn (s : State) : List Nat := (allPorts s).filter fun p => portRole s p ≠ 0

/-- Each present synthesizer calibrates fully at its LO, the spare at each LO it may serve; none is locked meanwhile, and
every port that is not off awaits its calibration. -/
def startCalBegin (s : State) : State :=
  let s := synAssign s
  let s := forBelow 3 (fun s k =>
    if synPresent s k then (s.setSyn k { s.syn k with calibrating := true }).setFld (SYN_STAT_LOCK k) 0 else s) s
  let s := (portsOn s).foldl (fun s p => s.setPortx p { s.portx p with firstCal := true }) s
  synRefresh { s with ref := { s.ref with startCal := true } }

/-- The calibration of a start-up ends when no port runs or awaits its own: Sorrel requests each port's base state. -/
def startCalEnd (s : State) : State :=
  if !s.ref.startCal || (portsOn s).any (fun p => (s.portx p).firstCal) then s else
  let s := couplingRefresh { s with ref := { s.ref with startCal := false } }
  calPortRefresh ((portsOn s).foldl (fun s p =>
    let s := s.setPortx p { s.portx p with calEnded := false, backTo := none }
    let s := s.setFlds [(RFP_CTL_REQ p, roleBase (portRole s p)), (RFP_STAT_STATE p, 1), (RFP_STAT_INTRANSIT p, 0)]
    portAim (portRefresh s p) p (portWant s p)) s)

/-- With the synthesizers calibrated, every port that is not off enters CAL, whatever state software has requested meanwhile (R93
step 2). -/
def startCalPorts (s : State) : State :=
  if !s.ref.startCal || synsBusy s then s else
  startCalEnd (calPortRefresh ((portsOn s).foldl (fun s p =>
    if (s.portx p).firstCal && (s.portx p).calRun = 0 then calEnter s p 15 else s) s))

/-! ### Planes become active (R69) -/

/-- A commit of a register's block has been captured at the cut (R39, R41). -/
def blockCaptured (s : State) (a : Nat) : Bool :=
  let b := (a - 0x20000000) / 0x10000
  decide (3 ≤ b ∧ b < 11) && bitOf s.cut.mask (b - 3)

/-- Each configuration register of a region takes its plane's value, in the shadow and the active value alike; in a block whose commit
was captured the shadows keep what software wrote (R69). -/
def planeRegs (s : State) (r : Nat) : State :=
  (configRegs r).foldl (fun s a =>
    let w := clampWord s a (resetWord a) (BitVec.ofNat 32 (planeReg (s.active r) a))
    match regRow a with
    | some row => if row.shadowed then (if blockCaptured s a then s else s.setReg a w).setReg (a + 0x8000) w else s.setReg a w
    | none => s.setReg a w) s

/-- Region r's inactive plane becomes active; both read LOADED. -/
def planeFlip (s : State) (r : Nat) : State :=
  s.setFlds [(CFG_RGN_ACT r, b2n !s.actB r), (CFG_RGN_STATE_A r, if s.fld (CFG_RGN_STATE_A r) = 0 then 0 else 2),
    (CFG_RGN_STATE_B r, if s.fld (CFG_RGN_STATE_B r) = 0 then 0 else 2)]

/-- What region r brings about when its new plane is active. -/
def regionTake (s : State) (r : Nat) : State :=
  let s := planeRegs s r
  match r with
  | 4 => { s with bsetSweep := true }.setFld SPX_BSET_TAG (s.fld SPX_BSET_TAG + 1)
  | 5 => floorsApply s
  | 8 => dutyRestore s
  | 10 => cphDiscard s
  | 12 => forBelow 2 (fun s p => if ringEnabled s p then s else s.setFld (if p = 0 then STK_STAT_RING0_UP else STK_STAT_RING1_UP) 0) s
  | 13 => vfbRole (s.setFld SYS_CLKCTL_REF_SRC (s.payloadByte 13 14 % 4))
  | _ => s

/-- Port p takes over its entry of a new port map (R83): at once from its present state, through STANDBY where the band changes, and at
the end of a ramp-down where a transmission holds it or has it in its set. -/
def portMapTake (old : Nat → Nat) (s : State) (p : Nat) : State :=
  let e := old p
  let n := s.payloadLe 1 (4 * p) 4
  let x := s.portx p
  if e = n then s
  else if x.txLane ≠ 0 || commitHolds s p then s.setPortx p { x with entry := some (x.entry.getD e) }
  else
    let s := if (bitOf e 2 != bitOf n 2) && e % 4 ≠ 0 && n % 4 ≠ 0 then s.setPortx p { x with bandDue := true } else s
    portAim (portRefresh s p) p (portWant s p)

/-- The LO groups whose frequency changed, or that a port moved into (R89). -/
def retuneGroups (s t : State) : List Nat :=
  (List.range 2).filter fun g =>
    s.act (if g = 0 then SYN_LOB0_FREQ else SYN_LOB1_FREQ) ≠ t.act (if g = 0 then SYN_LOB0_FREQ else SYN_LOB1_FREQ)
      || (allPorts s).any fun p => portRole s p != 0 && portRole t p != 0 && portBand s p == 1 && portAssign s p != portAssign t p
           && portAssign t p == 2 + g

/-- The planes of the regions named become active on one edge, with all that follows: the inactive ones, or the ones a start-up has
loaded where they lie. -/
def planesApply (s : State) (mask : Nat) (flip : Bool) : State :=
  let old (p : Nat) : Nat := if flip then s.payloadLe 1 (4 * p) 4 else 0
  let rs := maskRegions mask
  let t := rs.foldl regionTake (if flip then rs.foldl planeFlip s else s)
  let t := if rs.contains 1 then couplingRefresh ((allPorts t).foldl (portMapTake old) t) else t
  if (rs.contains 1 || rs.contains 2) && !t.ref.startCal then (allPorts t).foldl portHead (synAssign t) else t

/-- The structure becomes active without a swap, at start-up or out of the no-structure state (R65, R93); SPX_BSET.TAG counts swaps
alone. -/
def structureUp (s : State) (flip : Bool) : State :=
  let t := planesApply { s with ref := { s.ref with startCal := true } } 0x3FFE flip
  startCalPorts (startCalBegin ({ t with bsetSweep := s.bsetSweep }.setFld SPX_BSET_TAG (s.fld SPX_BSET_TAG)))

end Sys2Proof.Machine
end

