-- ==== Sys2Proof/Machine/Commit.lean ====
section
/-! DEFINITION. Machine/Commit.lean: shadows, SYS_COMMIT and the staging cut (R38 to R41, R68). -/

namespace Sys2Proof.Machine

/-! ### Shadows (R38, R39) -/

/-- The addresses of a row of the register map. -/
def rowAddrs (r : RegRow) : List Nat :=
  (List.range r.n1).flatMap fun i => (List.range r.n2).map fun j => r.base + r.s1 * i + r.s2 * j

/-- The shadowed registers of block 3 + b, for bit b of SYS_COMMIT (R41). -/
def shadowRegs (b : Nat) : List Nat := ((regRows (3 + b)).filter (·.shadowed)).flatMap rowAddrs

/-- The shadows of the blocks of a mask, by mirror address. -/
def shadowWords (s : State) (mask : Nat) : List (Nat × Word) :=
  (List.range 8).flatMap fun b => if bitOf mask b then (shadowRegs b).map fun a => (a + 0x8000, s.reg a) else []

/-! ### The staging cut (R39, R68) -/

/-- The planes that will be active after a swap of the regions of a mask. -/
def swapPlanes (s : State) (mask : Nat) : Planes := fun r => s.plane (s.actB r != bitOf mask r) r

/-- The checks of a request at its cut: the final STATE of the first that fails and its region, or 1 where it passes. -/
def swapCheck (s : State) (q : SwapReq) : Nat × Nat :=
  let rs := maskRegions q.mask
  match rs.find? fun r => s.fld (inactState s r) ≠ 3 with
  | some r => (5, r)
  | none =>
    match rs.find? fun r => q.build != 0 && (s.plane (!s.actB r) r).build != q.build with
    | some r => (6, r)
    | none =>
      match xrefBad s.part (swapPlanes s q.mask) with
      | r :: _ => (7, r)
      | [] => (1, 0)

/-- The cut before the next boundary: the shadows of armed blocks are captured, and a held request that is due is checked. -/
def stagingCut (s : State) : State :=
  let arm := s.fld SYS_COMMIT_ARM
  let s := { s with cut := { done := true, words := shadowWords s arm, mask := arm } }
  match s.swapReq with
  | some q =>
    if q.target ≤ s.epoch + 1 then
      let c := swapCheck s q
      { s with swapCut := c.1, swapFail := c.2 }
    else s
  | none => s

/-- The cut is made where its instant has passed. -/
def cutSettle (s : State) : State := if cutPassed s && !s.cut.done then stagingCut s else s

/-! ### SYS_COMMIT (R39, R41) -/

/-- Blocks are armed and cancelled by one write: a block with both bits is cancelled, and after the cut a cancel is ignored. -/
def commitWrite (s : State) (arm cancel : Nat) : State :=
  let s := cutSettle s
  let old := s.fld SYS_COMMIT_ARM
  s.setFld SYS_COMMIT_ARM ((List.range 8).foldl (fun v b =>
    let on := if bitOf cancel b then bitOf old b && s.cut.done else bitOf old b || bitOf arm b
    v + 2 ^ b * b2n on) 0)

/-! ### Commands -/

/-- An accepted write of SYS_COMMIT.ARM. -/
def execCommitArm (blocks : Byte) (s : State) : Res := ok (commitWrite s blocks.toNat 0)

/-- An accepted write of SYS_COMMIT.CANCEL. -/
def execCommitCancel (blocks : Byte) (s : State) : Res := ok (commitWrite s 0 blocks.toNat)

/-- The staging cut comes, 20 µs before the boundary; a period has one. -/
def execStagingCut (s : State) : Res :=
  if s.cut.done then ok s else ok (stagingCut (s.advance (s.nextBoundary - 20000)))

end Sys2Proof.Machine
end

