-- ==== Sys2Proof/Machine/Engines.lean ====
section
/-! DEFINITION. Machine/Engines.lean: control of the engines and of Sorrel: run, stop, reset, watchdogs and the lead-engine
reload (R298 to R312). -/

namespace Sys2Proof.Machine

def State.eng (s : State) (n : Nat) : EngX := stGet {} s.engs n

def State.setEng (s : State) (n : Nat) (x : EngX) : State := { s with engs := stSet {} s.engs n x }

/-- SYS_ENGSTATn.STATE: 0 HELD, 1 RUNNING, 2 FAULTED, 3 RECOVERY, 4 RESETTING. -/
def engState (s : State) (n : Nat) : Nat := s.fld (SYS_ENGSTAT_STATE n)

/-- A master may write an engine's control registers, or its vector and kick registers (R301). -/
def engMay (m : Master) (n : Nat) (own : Bool) : Bool :=
  m.val == 13 || (m.val == 0 && (own || n != 0)) || (own && m.val == n)

/-- An engine goes to FAULTED and ENG_FAULT, producer 1, fires (R297, R305, R337). -/
def engFaulted (s : State) (n : Nat) : State :=
  let s := s.setEng n { s.eng n with waiting := false, eiHold := false, stopping := false }
  (s.setFlds [(SYS_ENGSTAT_STATE n, 2), (SYS_ENGCTL_RUN n, 0)]).fire 1 n

/-- What a fault writes (R296). -/
def faultRecord (s : State) (n cause addr pc : Nat) : State :=
  (s.setFlds [(SYS_ENGFAULT_CAUSE n, cause), (SYS_ENGFADDR_ADDR n, addr), (SYS_ENGFPC_PC n, pc)]).bump (SYS_ENGFAULT_COUNT n)

/-- An engine-local reset (R303, R357). -/
def engReset (s : State) (n : Nat) : State :=
  let s := pageReset s n
  let s := s.setEng n {}
  s.setFlds [(SYS_ENGSTAT_STATE n, 4), (SYS_ENGSTAT_INT_EN n, 0), (SYS_ENGSTAT_IN_HANDLER n, 0), (SYS_ENGCTL_RUN n, 0),
    (SYS_ENGCTL_MODE n, 0)]

/-- An engine that is HELD runs (R302, R304, R305). -/
def engRun (s : State) (n : Nat) : State :=
  let x := s.eng n
  let s := s.setFld (SYS_ENGCTL_RUN n) 1
  if s.flag (SYS_ENGCTL_MODE n) then
    (s.setEng n { x with stopping := false, waiting := false }).setFlds
      [(SYS_ENGSTAT_STATE n, 3), (SYS_ENGPC_PC n, s.fld (SYS_ENGREC_WORD n))]
  else if x.fresh then
    ((s.setEng n { x with fresh := false, stopping := false, waiting := false, kickAt := s.uptime, wdHeld := 0, stale := [] }).setFlds
      [(SYS_ENGSTAT_STATE n, 1), (SYS_ENGPC_PC n, s.fld (SYS_ENGENTRY_ADDR n)), (SYS_ENGFAULT_DOUBLE n, 0)]).bump
        (SYS_ENGSTAT_STARTS n)
  else (s.setEng n { x with stopping := false, kickAt := s.uptime - x.wdHeld, wdHeld := 0 }).setFld (SYS_ENGSTAT_STATE n) 1

/-- An engine that was asked to stop is HELD; its next instruction stands in SYS_ENGPCn (R302). -/
def engHeld (s : State) (n : Nat) : State :=
  let x := s.eng n
  if !x.stopping then s
  else
    -- the watchdog counts only while the engine is RUNNING (R305)
    let counted := if engState s n = 1 then s.uptime - x.kickAt else x.wdHeld
    (s.setEng n { x with stopping := false, waiting := false, wdHeld := counted }).setFld (SYS_ENGSTAT_STATE n) 0

/-- A write of SYS_ENGCTLn by a master that may (R299, R302, R303). -/
def engCtlWrite (s : State) (n w : Nat) : State :=
  if bitOf w 1 then engReset s n else
  let run := s.flag (SYS_ENGCTL_RUN n)
  let s := if run then s else s.setFld (SYS_ENGCTL_MODE n) (bitsOf w 2 2)
  let s := if n = 0 || s.flag SYS_ENGLOCK_WORLD_LOCK then s
    else s.setFlds [(SYS_ENGCTL_WORLD n, bitsOf w 3 3), (SYS_ENGSTAT_WORLD n, bitsOf w 3 3)]
  if bitOf w 0 then
    if engState s n = 0 then engRun s n else s
  else if engState s n = 1 || engState s n = 3 then (s.setEng n { s.eng n with stopping := true }).setFld (SYS_ENGCTL_RUN n) 0
  else s

/-- The lead engine is stopped and reset, and its reload begins (R309 steps 1 and 2). -/
def leadReload (s : State) : State :=
  { engReset s 0 with reloadAt := s.uptime, upd := { s.upd with reloadSlot := s.fld SYS_SRLCMD_SLOT } }.setFlds [(SYS_SRLSTAT_LEAD_DOWN, 1), (SYS_SRLSTAT_STATE, 3)]

/-- A request for a reload, ignored with REFUSED set while Sorrel is not IDLE (R309). -/
def reloadRequest (s : State) : State :=
  if s.fld SYS_SRLSTAT_STATE = 1 then leadReload s else s.setFld SYS_SRLSTAT_REFUSED 1

/-- The slot of a reload runs (R461 step 3). -/
def slotRuns (s : State) : State :=
  let old := s.fld UPD_STAT_RUNSLOT
  let new := s.upd.reloadSlot
  if old = new then s
  else s.setFlds [(UPD_SLOTSTAT_STATE old, 2), (UPD_SLOTSTAT_STATE new, 4), (UPD_STAT_RUNSLOT, new)]

/-- Engine 0 writes LEAD_READY (R309 step 5). -/
def leadReady (s : State) : State :=
  if s.fld SYS_SRLSTAT_STATE = 3 && s.flag SYS_SRLSTAT_LEAD_DOWN then
    -- until now Sorrel has kicked the device watchdog (R405)
    { slotRuns s with wdtAt := s.uptime }.setFlds [(SYS_SRLSTAT_LEAD_DOWN, 0), (SYS_SRLSTAT_STATE, 1), (SYS_SRLSTAT_LAST_DOWN, min 65535 ((s.uptime - s.reloadAt) / 10000))]
  else s

/-! ### Commands -/

/-- An engine's watchdog expires (R305); Sorrel reloads the lead engine. -/
def execWatchdogExpiry (engine : Fin 12) (s : State) : Res :=
  let n : Nat := engine
  if engState s n ≠ 1 || s.fld (SYS_ENGWDT_LIMIT n) = 0 then ok s else
  match s.reachUp ((s.eng n).kickAt + 1000 * s.fld (SYS_ENGWDT_LIMIT n)) with
  | none => ok s
  | some s =>
    let s := engFaulted (faultRecord s n 6 0 (s.fld (SYS_ENGPC_PC n))) n
    ok (if n = 0 then leadReload s else s)

/-- The watchdog of an engine restarts. -/
def engKick (s : State) (n : Nat) : State := s.setEng n { s.eng n with kickAt := s.uptime, wdHeld := 0 }

/-- A write of SYS_ENGKICKn by a master (R301, R305). -/
def execWatchdogKick (master : Master) (engine : Fin 12) (s : State) : Res :=
  if engMay master engine true then ok (engKick { s with busResult := .ok } engine) else ok s.refuse

/-- A write of SYS_ENGCTLn with RUN = 1, in normal or recovery mode (R302). -/
def execEngineRun (master : Master) (engine : Fin 12) (recovery : Bool) (s : State) : Res :=
  if engMay master engine false then
    ok (engCtlWrite { s with busResult := .ok } engine (1 + 4 * b2n recovery + 8 * s.fld (SYS_ENGCTL_WORLD engine)))
  else ok s.refuse

/-- A write of SYS_ENGCTLn with RUN = 0 (R302). -/
def execEngineStop (master : Master) (engine : Fin 12) (s : State) : Res :=
  if engMay master engine false then
    ok (engCtlWrite { s with busResult := .ok } engine
      (4 * s.fld (SYS_ENGCTL_MODE engine) + 8 * s.fld (SYS_ENGCTL_WORLD engine)))
  else ok s.refuse

/-- A stopping engine reaches HELD at its commit boundary (R302). -/
def execEngineHeld (engine : Fin 12) (s : State) : Res := ok (engHeld s engine)

/-- A write of SYS_ENGCTLn.RESET (R303). -/
def execEngineReset (master : Master) (engine : Fin 12) (s : State) : Res :=
  if engMay master engine false then ok (engCtlWrite { s with busResult := .ok } engine 2) else ok s.refuse

/-- An engine-local reset is done (R302). -/
def execEngineResetDone (engine : Fin 12) (s : State) : Res :=
  if engState s engine = 4 then ok (s.setFld (SYS_ENGSTAT_STATE engine) 0) else ok s

/-- A master is Sorrel or the lead engine. -/
def leadOrSorrel (m : Master) : Bool := m.val == 0 || m.val == 13

/-- A write of SYS_ENGLOCK.WORLD_LOCK (R299, R312). -/
def execWorldLock (master : Master) (s : State) : Res :=
  if leadOrSorrel master then ok ({ s with busResult := .ok }.setFld SYS_ENGLOCK_WORLD_LOCK 1) else ok s.refuse

/-- A write of SYS_SRLCMD.LEAD_RELOAD with a slot, by the host or the lead engine (R309, R312). -/
def execLeadReload (master : Master) (slot : Fin 4) (s : State) : Res :=
  if master.val = 12 || master.val = 0 then
    ok (reloadRequest ({ s with busResult := .ok }.setFld SYS_SRLCMD_SLOT slot))
  else ok s.refuse

/-- A write of SYS_SRLCMD.LEAD_READY, which is engine 0's alone: the host, whom R312 names for the register, writes without effect, and any
other master is refused (R309, R312; log entry 34). -/
def execLeadReady (master : Master) (s : State) : Res :=
  if master.val = 0 then ok (leadReady { s with busResult := .ok })
  else if master.val = 12 then ok { s with busData := 0, busResult := .ok }
  else ok s.refuse

/-- 50 ms after a reload began without LEAD_READY, once in each reload (R310). -/
def execAutonomyOver (s : State) : Res :=
  if !s.flag SYS_SRLSTAT_LEAD_DOWN || (s.eng 0).late then ok s else
  match s.reachUp (s.reloadAt + 50000000) with
  | some s => ok (((s.setEng 0 { s.eng 0 with late := true }).setFld SYS_SRLSTAT_AUTONOMY_OVER 1).fire 2 0)
  | none => ok s

end Sys2Proof.Machine
end

