-- ==== Sys2Proof/Machine/Load.lean ====
section
/-! DEFINITION. Machine/Load.lean: bitstream loads, the load of a start-up, and the preferred slot (R48 to R65, R72). -/

namespace Sys2Proof.Machine

/-! ### Ends of a load (R62 to R64) -/

/-- A load ends: BUSY clears, Sorrel goes back to where it was, and CFG_LOAD fires. -/
def loadEnd (s : State) (r : LoadRun) (fail : Bool) (code : Nat) : State :=
  let s := if r.begun && s.fld SYS_SRLSTAT_STATE = 2 then s.setFld SYS_SRLSTAT_STATE r.back else s
  ({ s with cfg := { s.cfg with load := none } }.setFlds [(CFG_LOADSTAT_BUSY, 0), (if fail then CFG_LOADSTAT_FAIL else CFG_LOADSTAT_DONE, 1),
    (CFG_LOADSTAT_PHASE, 0), (CFG_LOADSTAT_REGION, 0)]).fire 32 code

/-- The plane of a region that a load fills. -/
def loadsB (s : State) (r : LoadRun) (region : Nat) : Bool := if r.boot then false else !s.actB region

/-- Planes that a load is filling become EMPTY.  SLOT of CFG_RGNn and CFG_RGNTAGn keep what they show, which the spec leaves open for an
EMPTY plane (log entry 146). -/
def loadEmpty (s : State) : State :=
  (List.range 14).foldl (fun s n =>
    [false, true].foldl (fun s b =>
      if n ≠ 0 && s.fld (planeState b n) = 1 then (s.setPlane b n {}).setFld (planeState b n) 0 else s) s) s

/-- A failure as CFG_REJECT and CFG_REJUNIT report it (R61). -/
def rejectShow (s : State) (region : Nat) (f : BsFail) : State :=
  s.setFlds [(CFG_REJECT_CODE, f.code), (CFG_REJECT_REGION, region), (CFG_REJECT_ENTRY, f.entry), (CFG_REJUNIT_KIND, f.kind),
    (CFG_REJUNIT_NUMBER, f.number)]

/-- A load is rejected (R61, R62). -/
def loadReject (s : State) (r : LoadRun) (region : Nat) (f : BsFail) : State :=
  loadEnd (rejectShow (loadEmpty s) region f) r true f.code

/-! ### Checks -/

/-- The regions a mask selects, given the directory's IDs; a mask of zero selects what the directory lists. -/
def loadSelected (mask : Nat) (ids : List Nat) : List Nat :=
  if mask = 0 then (List.range 14).filter fun n => n ≠ 0 && ids.contains n else maskRegions mask

/-- Check 16: the lowest selected region whose inactive plane is ARMED. -/
def loadArmed (s : State) (l : List Nat) : Option Nat := l.find? fun n => s.fld (inactState s n) = 3

/-- Checks 1 to 8, with check 16 first where the mask is zero: the first failure with its region, what the header gave, and the
header itself. -/
def loadHeader (s : State) (r : LoadRun) : Option (Nat × BsFail) × LoadRun × List Byte × State :=
  if bitOf (s.fld FLC_SLOTINV_BSTREAM) r.slot then (some (0, { code := 0x10 }), r, [], s) else
  let (h, dir, s) := headerRead s r.slot
  let dirs := dirsOf dir (min 13 (leOf h 12 1))
  let r' := { r with total := leOf h 8 4, build := leOf h 16 8, bsvn := leOf h 24 4, signer := leOf h 28 4, dirs := dirs }
  let armed := if r.mask = 0 && !r.boot && !dir.isEmpty then loadArmed s (loadSelected 0 (dirs.map (·.id))) else none
  match armed with
  | some n => (some (n, { code := 0x0E }), r', h, s)
  | none => ((headerBad s h dir).map fun f => (0, f), r', h, s)

/-- Checks 9 and 10. -/
def loadSignature (s : State) (r : LoadRun) : Option BsFail × State :=
  match slotRead2 s r.slot 0 r.total with
  | (none, s) => (some { code := 5 }, s)
  | (some l, s) =>
    if !signatureGood (signerKey s r.signer false) l r.total then (some { code := 5 }, s)
    else if r.bsvn < s.priv.bsvn then (some { code := 7 }, s)
    else (none, s)

/-- The regions still to be checked, in ascending order: the selected ones and IDs that are not known. -/
def loadLeft (r : LoadRun) : List Nat :=
  let ids := r.dirs.map (·.id)
  (List.range 256).filter fun n => (loadSelected r.mask ids).contains n || (ids.contains n && (n = 0 || 13 < n))

/-- Check 11 of one region. -/
def loadPresent (r : LoadRun) (region : Nat) : Option BsFail :=
  if region = 0 || 13 < region then some { code := 0x0D }
  else if r.dirs.any (·.id = region) then none else some { code := 0x12 }

/-- The start-up load, and a load in the no-structure state, need all thirteen regions (R65): the first failure of check 11. -/
def loadWhole (r : LoadRun) : Option (Nat × BsFail) :=
  let ids := r.dirs.map (·.id)
  (List.range 256).findSome? fun n =>
    if ids.contains n && (n = 0 || 13 < n) then some (n, { code := 0x0D })
    else if n ≠ 0 && n < 14 && (!ids.contains n || (r.mask ≠ 0 && !bitOf r.mask n)) then some (n, { code := 0x12 })
    else none

/-- A region's plane as the directory places it; an empty one where it cannot be read. -/
def readAhead (s : State) (r : LoadRun) (region : Nat) : Plane × State :=
  match r.dirs.find? (·.id = region) with
  | none => ({}, s)
  | some d =>
    match slotRead2 s r.slot d.off (min d.len (regionLimit region)) with
    | (none, s) => ({}, s)
    | (some l, s) => (planeOf region l r.build r.bsvn, s)

/-- The planes a region is judged beside: those of the same load, or the active ones (R140, R144, R253, R341). -/
def loadPlanes (s : State) (r : LoadRun) (region : Nat) (p10 p13 : Plane) : Planes := fun q =>
  let sel := loadSelected r.mask (r.dirs.map (·.id))
  if !sel.contains q then s.active q
  else if q < region then s.plane (loadsB s r q) q
  else if q = 10 then p10
  else if q = 13 then p13
  else s.active q

/-- Checks 12 to 15 of a region that is present: the failure, and the plane it makes. -/
def loadRegion (s : State) (r : LoadRun) (region : Nat) (d : BsDir) : Option BsFail × Plane × State :=
  match slotRead2 s r.slot d.off d.len with
  | (none, s) => (some { code := 9 }, {}, s)
  | (some l, s) =>
    if crc32 (octNats l) ≠ d.crc then (some { code := 9 }, {}, s)
    else if 1 < (r.dirs.filter (·.id = region)).length then (some { code := 0x0F }, {}, s)
    else if regionLimit region < d.len then (some { code := 0x0C }, {}, s)
    else
      let p := planeOf region l r.build r.bsvn
      let (p10, s) := if region = 9 then readAhead s r 10 else ({}, s)
      let (p13, s) := if region = 7 then readAhead s r 13 else ({}, s)
      let both := (loadSelected r.mask (r.dirs.map (·.id))).contains 2
      (regionCheck s.part (loadPlanes s r region p10 p13) both region l p, p, s)

/-- A plane is completely written and LOADED, or ARMED where a request that was armed while this load ran names it (R67). -/
def loadStore (s : State) (r : LoadRun) (region : Nat) (p : Plane) : State :=
  let b := loadsB s r region
  let armed := !r.boot && bitOf r.armed region
  (s.setPlane b region p).setFlds [(planeState b region, if armed then 3 else 2),
    (if b then CFG_RGN_SLOT_B region else CFG_RGN_SLOT_A region, r.slot),
    (if b then CFG_RGNTAG_TAG_B region else CFG_RGNTAG_TAG_A region, r.build)]

/-- The next region's plane starts to fill; one whose region is missing keeps its content. -/
def loadNext (s : State) (r : LoadRun) : State :=
  let s := { s with cfg := { s.cfg with load := some r } }
  match r.left with
  | [] => s
  | n :: _ =>
    let s := s.setFld CFG_LOADSTAT_REGION n
    if (loadPresent r n).isNone then s.setFld (inactState s n) 1 else s

/-- A load whose regions have all passed ends (R64); in the no-structure state it becomes active directly (R65) and raises no BSVN
floor (R62). -/
def loadFinish (s : State) (r : LoadRun) : State :=
  let s := if s.flag CFG_BOOTSTAT_NOSTRUCT then structureUp (s.setFld CFG_BOOTSTAT_NOSTRUCT 0) true else s
  loadEnd s r false 0

/-! ### Start-up (R52, R65, R72) -/

/-- The first `n` commit pages of a sector with a good CP_MAGIC and CP_CRC: COMMIT_COUNT and BUILD_ID (R72, R462). -/
def commitPages (s : State) (magic sector : Nat) : Nat → List (Nat × Nat) × State
  | 0 => ([], s)
  | n + 1 =>
    let (l, s) := commitPages s magic sector n
    match pageRead s (128 * sector + n) with
    | (none, s) => (l, s)
    | (some o, s) =>
      if leOf o 0 4 = magic && crc32 (octNats (o.take 16)) = leOf o 16 4 then (l ++ [(leOf o 4 4, leOf o 8 8)], s) else (l, s)

/-- CP_MAGIC of a bitstream's commit page, and of an image's (R72, R462). -/
def magicThcp : Nat := 0x50434854
def magicThic : Nat := 0x43494854

/-- The commit pages of a bitstream slot. -/
def slotPages (s : State) (slot : Nat) : List (Nat × Nat) × State := commitPages s magicThcp (bitSector s slot + 63) 128

/-- BUILD_ID of a slot's bitstream. -/
def slotBuild (s : State) (slot : Nat) : Nat × State :=
  match slotRead2 s slot 16 8 with
  | (none, s) => (0, s)
  | (some l, s) => (ofLe l, s)

/-- The highest COMMIT_COUNT of a slot's accepted pages, plus one; 0 where it has none. -/
def slotAccepted (s : State) (slot : Nat) : Nat × State :=
  let (l, s) := slotPages s slot
  let (b, s) := slotBuild s slot
  (((l.filter (·.2 = b)).map (·.1 + 1)).foldl max 0, s)

/-- Load regions in order into plane A: the region and the failure of the first one that fails. -/
def bootRegions (r : LoadRun) : List Nat → State → Option (Nat × BsFail) × State
  | [], s => (none, s)
  | n :: l, s =>
    match r.dirs.find? (·.id = n) with
    | none => (some (n, { code := 0x12 }), s)
    | some d =>
      match loadRegion s r n d with
      | (some f, _, s) => (some (n, f), s)
      | (none, p, s) => bootRegions r l (loadStore s r n p)

/-- Sorrel tries a slot (R65): the failure with its region, none where every check passes and plane A of every region is loaded; and the
header.  Check 11 is made of all regions before any later check of one (log entry 45). -/
def bootTry (s : State) (slot : Nat) : Option (Nat × BsFail) × List Byte × State :=
  match loadHeader s { slot := slot, mask := 0, begun := true, boot := true } with
  | (some f, _, _, s) => (some f, [], s)
  | (none, r, h, s) =>
    match loadSignature s r with
    | (some f, s) => (some (0, f), [], s)
    | (none, s) =>
      match loadWhole r with
      | some f => (some f, [], s)
      | none =>
        match bootRegions r ((List.range 14).drop 1) s with
        | (none, s) => (none, h, s)
        | (some f, s) =>
          (some f, [], (List.range 14).foldl (fun s n => (s.setPlane false n {}).setReg (CFG_RGN n) 0 |>.setReg (CFG_RGNTAG n) 0) s)

/-- The delay table of a header that has been read (R51, R52). -/
def bootDelays (s : State) (h : List Byte) : State :=
  let l := (List.range 16).map fun i => leOf h (64 + 4 * i) 4
  let bad := (l.take 10).any (fun w => w / 2 ^ 25 ≠ 0) || (l.drop 10).any (· ≠ 0)
  { s with delays := l }.setFld CFG_BOOTSTAT_DELAY_DEFAULTED (b2n bad)

/-- A slot has been tried; its failure shows as a reject too (R61). -/
def bootMark (s : State) (slot : Nat) (f : Option (Nat × BsFail)) : State :=
  let code := match f with | some x => x.2.code | none => 0
  let s := match f with | some x => rejectShow s x.1 x.2 | none => s
  if slot = 0 then s.setFlds [(CFG_BOOTSTAT_SLOT0_OK, b2n (code == 0)), (CFG_BOOTSTAT_SLOT0_CODE, code)]
  else s.setFlds [(CFG_BOOTSTAT_SLOT1_OK, b2n (code == 0)), (CFG_BOOTSTAT_SLOT1_CODE, code)]

/-- The load of a start-up (R65): the slot of the highest accepted page first, then the other; with neither the device has no
structure. -/
def bootLoad (s : State) : State :=
  let (a0, s) := slotAccepted s 0
  let (a1, s) := slotAccepted s 1
  let first := if a0 < a1 then 1 else 0
  let up (s : State) (slot : Nat) (h : List Byte) : State :=
    bsvnRaise (structureUp ((bootDelays s h).setFld CFG_BOOTSTAT_START_SLOT slot) false)
  match bootTry s first with
  | (none, h, s) => up (bootMark s first none) first h
  | (some f, _, s) =>
    match bootTry (bootMark s first (some f)) (1 - first) with
    | (none, h, s) => up (bootMark s (1 - first) none) (1 - first) h
    | (some f, _, s) => (bootMark s (1 - first) (some f)).setFld CFG_BOOTSTAT_NOSTRUCT 1

/-! ### Commands -/

/-- A write of CFG_LOADCTL.START (R60). -/
def loadStart (s : State) (slot : Nat) : State :=
  if s.flag CFG_LOADSTAT_BUSY then s.setFld CFG_LOADSTAT_OVERRUN 1
  else { s with cfg := { s.cfg with load := some { slot := slot, mask := s.fld CFG_LOADMASK_REGIONS } } }.setFld CFG_LOADSTAT_BUSY 1

def execLoadStart (slot : Fin 2) (s : State) : Res := ok (loadStart (s.setFld CFG_LOADCTL_SLOT slot) slot)

/-- A load begins, and check 16 is made where the mask names regions (R60, R61). -/
def execLoadBegin (s : State) : Res :=
  match s.cfg.load with
  | none => ok s
  | some r =>
    if r.begun || s.fld SYS_SRLSTAT_STATE = 3 || s.fld SYS_SRLSTAT_STATE = 0 then ok s else
    let r := { r with begun := true, back := s.fld SYS_SRLSTAT_STATE }
    match if r.mask = 0 then none else loadArmed s (maskRegions r.mask) with
    | some n => ok (loadReject s r n { code := 0x0E })
    | none => ok ({ s with cfg := { s.cfg with load := some r } }.setFlds [(SYS_SRLSTAT_STATE, 2), (CFG_LOADSTAT_PHASE, 1)])

/-- The header has been read: checks 1 to 8 (R61). -/
def execLoadHeaderChecked (s : State) : Res :=
  match s.cfg.load with
  | none => ok s
  | some r =>
    if s.fld CFG_LOADSTAT_PHASE ≠ 1 then ok s else
    match loadHeader s r with
    | (some (n, f), r, _, s) => ok (loadReject s r n f)
    | (none, r, _, s) => ok ({ s with cfg := { s.cfg with load := some r } }.setFld CFG_LOADSTAT_PHASE 2)

/-- The signed octets have been hashed (R64 step 2). -/
def execLoadHashDone (s : State) : Res :=
  ok (if s.fld CFG_LOADSTAT_PHASE = 2 then s.setFld CFG_LOADSTAT_PHASE 3 else s)

/-- The signature is verified: checks 9 and 10, and the first region begins (R61, R64). -/
def execLoadSignatureVerified (s : State) : Res :=
  match s.cfg.load with
  | none => ok s
  | some r =>
    if s.fld CFG_LOADSTAT_PHASE ≠ 3 then ok s else
    match loadSignature s r with
    | (some f, s) => ok (loadReject s r 0 f)
    | (none, s) =>
      match if s.flag CFG_BOOTSTAT_NOSTRUCT then loadWhole r else none with
      | some (n, f) => ok (loadReject s r n f)
      | none => ok (loadNext (s.setFld CFG_LOADSTAT_PHASE 4) { r with left := loadLeft r })

/-- One region has been checked under checks 11 to 15 and its plane written (R61, R64). -/
def execLoadRegionChecked (s : State) : Res :=
  match s.cfg.load with
  | none => ok s
  | some r =>
    if s.fld CFG_LOADSTAT_PHASE ≠ 4 then ok s else
    match r.left with
    | [] => ok (loadFinish s r)
    | n :: rest =>
      match loadPresent r n, r.dirs.find? (·.id = n) with
      | none, some d =>
        match loadRegion s r n d with
        | (some f, _, s) => ok (loadReject s r n f)
        | (none, p, s) =>
          let s := loadStore s r n p
          if rest.isEmpty then ok (loadFinish s { r with left := [] }) else ok (loadNext s { r with left := rest })
      | some f, _ => ok (loadReject s r n f)
      | none, none => ok (loadReject s r n { code := 0x12 })

/-- A write of CFG_LOADCTL.ABORT (R63). -/
def loadAbort (s : State) : State :=
  match s.cfg.load with
  | none => s
  | some r => loadReject s r 0 { code := 0x13 }

def execLoadAbort (s : State) : Res := ok (loadAbort s)

/-- A commit page of R72 or R462. -/
def commitPage (magic count build : Nat) : List Byte :=
  let b := leBytes 4 magic ++ leBytes 4 count ++ leBytes 8 build
  b ++ leBytes 4 (crc32 (octNats b)) ++ List.replicate 492 0xFF

/-- The next erased page of a sector. -/
def erasedPage (s : State) (sector : Nat) : Option Nat :=
  (List.range 128).find? fun i => let x := s.fpage (128 * sector + i); !x.written && x.known

/-- A write of CFG_BOOTSEL.GO (R72): the commit page is queued, after an erase where every page is used; the controller refuses both in a
slot that FLC_WPROT covers (R415, log entry 167). -/
def bootselGo (s : State) : State :=
  if s.flag CFG_BOOTSTAT_BOOTSEL_BUSY then s else
  let slot := s.fld CFG_BOOTSEL_SLOT
  if bitOf (s.reg FLC_WPROT).toNat (4 + slot) then s.setFld CFG_BOOTSTAT_BOOTSEL_FAIL 1 else
  let (l0, s) := slotPages s 0
  let (l1, s) := slotPages s 1
  let (build, s) := slotBuild s slot
  let data := commitPage magicThcp (((l0 ++ l1).map (·.1)).foldl max 0 + 1) build
  let sector := bitSector s slot + 63
  let s := s.setFld CFG_BOOTSTAT_BOOTSEL_BUSY 1
  match erasedPage s sector with
  | some i =>
    flcQueueJob { s with cfg := { s.cfg with boot := some (128 * sector + i, data) } } { who := 5, op := 1, sector := sector, page := i, data := data }
  | none => flcQueueJob { s with cfg := { s.cfg with boot := some (128 * sector, data) } } { who := 5, op := 2, sector := sector, data := data }

def execBootselGo (slot : Fin 2) (s : State) : Res :=
  ok (bootselGo (if s.flag CFG_BOOTSTAT_BOOTSEL_BUSY then s else s.setFld CFG_BOOTSEL_SLOT slot))

/-- A boot selection ends. -/
def bootselEnd (s : State) (good : Bool) : State :=
  { s with cfg := { s.cfg with boot := none } }.setFlds
    [(CFG_BOOTSTAT_BOOTSEL_BUSY, 0), (if good then CFG_BOOTSTAT_BOOTSEL_DONE else CFG_BOOTSTAT_BOOTSEL_FAIL, 1)]

/-- An operation of a boot selection has ended: the page follows its sector's erase; a timeout fails it. -/
def bootselStep (s : State) (j : FlcJob) (good : Bool) : State :=
  if !good then bootselEnd s false
  else if j.op = 2 then flcQueueJob s { j with op := 1, page := 0 }
  else s

/-- The commit page has been read back (R72). -/
def execBootselComplete (s : State) : Res :=
  let busy := (s.flcQueue ++ (match s.flcRun with | some r => [r.1] | none => [])).any (·.who = 5)
  match s.cfg.boot with
  | none => ok s
  | some (page, data) =>
    if busy then ok s else
    match pageRead s page with
    | (some l, s) => ok (bootselEnd s (l == data))
    | (none, s) => ok (bootselEnd s false)

end Sys2Proof.Machine
end

