-- ==== Sys2Proof/Machine/HostIf.lean ====
section
/-! DEFINITION. Machine/HostIf.lean: the PCI Express host interface: accesses, ring service, interrupts, bus mastering and
the interface reset (R466 to R486); and PERST_N (R402). -/

namespace Sys2Proof.Machine

/-- Bits of HIF_ERR that are newly set fire HIF_ERR, producer 706 (R483, R486). -/
def hifErr (s : State) (bits : Nat) : State :=
  let old := (s.reg HIF_ERR).toNat
  let new := bits - (bits &&& old)
  let s := s.setReg HIF_ERR (BitVec.ofNat 32 (old ||| bits))
  if new = 0 then s else s.fire 706 new

/-- The host can reach the device: the link is up and the interface is not resetting. -/
def hostUp (s : State) : Bool := mainOn s && s.flag HIF_STAT_LINK_UP && !s.flag HIF_STAT_RESETTING

/-! ### BAR2 (R469) -/

/-- The enabled octets of a write go to memory from an address. -/
def enabledWrite (s : State) (a : Nat) : List (Option Byte) → State
  | [] => s
  | none :: l => enabledWrite s (a + 1) l
  | some b :: l => enabledWrite (s.wr8 a b) (a + 1) l

/-- A host access to shared SRAM; a poisoned write is discarded.  Past the window writes are dropped and reads give zero (R27). -/
def execHostBar2Access (access : Bar2) (upsets : List (Nat × Bool)) (s : State) : Res :=
  let s := s.upset upsets
  if !hostUp s then ok s else
  match access with
  | .read off n =>
    let (bad, s) := s.eccRead (0x01000000 + off) (min n (8388608 - off))
    let l := s.rdN (0x01000000 + off) (min n (8388608 - off))
    ok (if bad then s.refuse else { s with busResult := .ok }.emit .completion [off] (l ++ List.replicate (n - l.length) 0))
  | .write off l poisoned =>
    if poisoned then ok (hifErr s 8)
    else ok (enabledWrite { s with busResult := .ok } (0x01000000 + off) (l.take (8388608 - off)))

/-! ### Transmit rings (R475 to R477) -/

/-- A request may be taken from ring r: it holds one, and its completion ring has room for the report (R475, R476, R481). -/
def hostTxOpen (s : State) (r : Nat) : Bool :=
  let csize := s.fld (HIF_TXCCFG_CSIZE r)
  hostOpen s && s.flag HIF_CTL_EN && s.act TXS_CTL_EN == 1 && s.fld PWR_STATE_CUR == 0
    && s.fld (HIF_TXCFG_SIZE r) != 0 && s.fld (HIF_TXHEAD_HEAD r) != s.fld (HIF_TXTAIL_TAIL r) && csize != 0
    && decide (ringUsed csize (s.fld (HIF_TXCHEAD_CHEAD r)) (s.fld (HIF_TXCTAIL_CTAIL r)) + outOf s (12 + r) + 1 < csize)

/-- The ring whose turn it is: the next one after the last, in ascending order. -/
def hostTurn (s : State) : Option Nat :=
  ((List.range 32).map fun i => (s.hif.turn + i) % 32).find? (hostTxOpen s)

/-- The 32 octets of the request at TXTAIL of ring r have been read, and it is taken; the rings take turns (R475). -/
def execHostTxRequestFetch (ring : Fin 32) (octets : List Byte) (s : State) : Res :=
  let r : Nat := ring
  if hostTurn s ≠ some r || octets.length ≠ 32 then ok s else
  let s := { s with hif := { turn := r + 1 } }.bump HIF_TXREQ_COUNT
  let s := s.setFld (HIF_TXTAIL_TAIL r) (ringNext (s.fld (HIF_TXCFG_SIZE r)) (s.fld (HIF_TXTAIL_TAIL r)))
  ok (reqIntake s (12 + r) octets)

/-- A host frame buffer has been read, or its read failed: the request then ends LATE at D (R477). -/
def execHostBufferReadDone (request : Nat) (result : ReadEnd) (octets : List Byte) (s : State) : Res :=
  match s.req request with
  | none => ok s
  | some q =>
    if q.src < 12 || 44 ≤ q.src || q.phase ≠ 2 || q.endAs = 2 || !q.frame.isEmpty then ok s else
    let fail := s.setReq request { q with endAs := 2 }
    match result with
    | .complete => if octets.length = qLen q then ok (bufferArrived s request octets) else ok s
    | .badCompletion => ok (hifErr fail 5)
    | .timeout => ok (hifErr (fail.bump HIF_CTO_COUNT) 3)

/-! ### Interrupts (R478, R479) -/

/-- The CLK_PER edge at or after a time in ns. -/
def perEdge (t : Nat) : Nat := (3 * t + 19) / 20

/-- Another source's moderation time runs out on the same CLK_PER edge with the same vector: the one message serves both (R478). -/
def modTogether (s : State) (src i : Nat) : Bool :=
  let w (n : Nat) := (s.reg (modReg n)).toNat
  bitOf (w i) 31 && bitsOf (w i) 23 8 != 0 && stGet 0 s.modCount i != 0 && bitsOf (w i) 29 24 == bitsOf (w src) 29 24
    && perEdge (stGet 0 s.modDue i) == perEdge (stGet 0 s.modDue src)

/-- A source's entries are no longer counted. -/
def modClear (s : State) (src : Nat) : State := { s with modCount := stSet 0 s.modCount src 0, modDue := stSet 0 s.modDue src 0 }

/-- An interrupt source's moderation time has run out with entries counted. -/
def execHifModerationTimeout (source : Fin 65) (s : State) : Res :=
  let src : Nat := source
  let w := (s.reg (modReg src)).toNat
  if !bitOf w 31 || bitsOf w 23 8 = 0 || stGet 0 s.modCount src = 0 then ok s else
  match s.reachUp (stGet 0 s.modDue src) with
  | none => ok s
  | some s =>
    let l := (List.range 65).filter fun i => i ≠ src && modTogether s src i
    ok (signalVec (l.foldl modClear (modClear s src)) (bitsOf w 29 24))

/-- A write of a table entry or of the message control: what is pending and no longer held back goes out. -/
def execMsixUnmask (control : MsixCtl) (s : State) : Res :=
  if !hostUp s then ok s else
  match control with
  | .entry v a d masked =>
    ok (sendPending (s.setVec v { s.vec v with addr := a.toNat, data := d.toNat, unmasked := !masked }))
  | .control enable mask => ok (sendPending { s with msixEnable := enable, msixMask := mask })

/-! ### Bus mastering and power (R481) -/

/-- Bus Master Enable and D3hot as the host sets them: what was held is written and sent once both allow. -/
def execBusMasterChange (enable d3 : Bool) (s : State) : Res :=
  if !hostUp s then ok s
  else ok (heldFlush (sendPending (s.setFlds [(HIF_STAT_BME, b2n enable), (HIF_STAT_D3, b2n d3)])))

/-- The oldest held receive descriptor has been held for 10 ms. -/
def execHeldDescriptorDiscard (s : State) : Res :=
  match s.held.find? (·.kind == 0) with
  | none => ok s
  | some h =>
    match s.reachUp (h.due + 10000000) with
    | none => ok s
    | some s =>
      let s := { s with held := s.held.erase h }
      ok ((slotFree (rsvSub s (16 + h.ring)) h.slot).bump (HIF_RXCNT_LOST h.ring))

/-! ### Interface reset and link (R482) -/

/-- Every host request not past its commit point is withdrawn, and the reports of the others will be discarded. -/
def hostWithdraw (s : State) : State :=
  (s.reqs.map (·.1)).foldl (fun s num =>
    match s.req num with
    | some q =>
      if q.src < 12 || 44 ≤ q.src then s
      else
        let s := s.setReq num { q with src := 101 }
        if q.phase < 5 then reqEnd s num 0x0C else s
    | none => s) s

/-- Every reserved receive place is released, and its frame is not delivered. -/
def placesRelease (s : State) : State :=
  (s.frames.map (·.1)).foldl (fun s f =>
    match s.frame f with
    | some x => if 16 ≤ x.dest.getD 0 then frameGc ((resReturn s f).bump HIF_RXLOST_COUNT) f else s
    | none => s) s

/-- What is held toward the host is discarded: a descriptor's place and slot are released, a report counts as discarded. -/
def heldDrop (s : State) : State :=
  s.held.foldl (fun s h =>
    match h.kind with
    | 0 => (slotFree (rsvSub s (16 + h.ring)) h.slot).bump HIF_RXLOST_COUNT
    | 1 => s.bump HIF_TXDISC_COUNT
    | _ => s) { s with held := [] }

/-- An HIF register that an interface reset clears: all but the words of HIF_CNT. -/
def hifCleared (a : Nat) : Bool := decide (a < 0x20160100 ∨ 0x20160120 ≤ a) && decide (0x20160000 ≤ a ∧ a < 0x20170000)

/-- The code of a cause in HIF_RESET (R486). -/
def hifCode : HifCause → Nat
  | .perst => 1
  | .flr => 2
  | .hotReset => 3
  | .dlDown => 4

/-- Steps 1 to 4 of an interface reset. -/
def interfaceReset (s : State) (cause : HifCause) : State :=
  let s := s.setFld HIF_STAT_RESETTING 1
  let s := hostWithdraw (placesRelease (heldDrop s))
  let s := (pageReset s 12).setFld (IRQ_RSIZE_SIZE 12) 0
  let s := { s with
    regs := s.regs.filter fun e => !hifCleared e.1
    msix := []
    msixEnable := false
    msixMask := false
    modCount := []
    modDue := []
    hif := {}
    rsv := s.rsv.filter fun e => decide (e.1 < 16)
    outs := s.outs.filter fun e => decide (e.1 < 12 ∨ 44 ≤ e.1) }
  let s := (s.setFld HIF_STAT_RESETTING 1).bump HIF_RESETS_COUNT
  let s := if cause = .dlDown then s.bump HIF_LINKDOWN_COUNT else s
  s.fire 704 (hifCode cause)

/-- A cause of an interface reset; PERST_N is one only with PERST_DEV = 0. -/
def execInterfaceReset (cause : HifCause) (s : State) : Res :=
  if !mainOn s || (cause = .perst && s.flag PWR_RSTCFG_PERST_DEV) then ok s else ok (interfaceReset s cause)

/-- PERST_N is asserted: a device reset with PERST_DEV = 1, else an interface reset (R402). -/
def execPerstAssert (s : State) : Res :=
  if !mainOn s then ok (resetTrigger s 3)
  else if s.flag PWR_RSTCFG_PERST_DEV then ok (resetTrigger s 3) else ok (interfaceReset s .perst)

/-- The link has trained at a speed of 1 to 4 on 1, 2 or 4 lanes (R466, R482 step 5). -/
def execLinkUp (speed : Fin 5) (width : Fin 5) (s : State) : Res :=
  if !mainOn s || s.flag HIF_STAT_LINK_UP || speed.val = 0 || width.val = 0 || width.val = 3 then ok s
  else ok ((s.setFlds [(HIF_STAT_LINK_UP, 1), (HIF_STAT_SPEED, speed), (HIF_STAT_WIDTH, width), (HIF_STAT_RESETTING, 0)]).fire 705
    (speed.val + 16 * width.val))

end Sys2Proof.Machine
end

