-- ==== Sys2Proof/Machine/Peek.lean ====
section
/-! DEFINITION. Machine/Peek.lean: the word a register shows, with nothing changed by looking: absent units, computed
registers, active mirrors and the views of active tables (R4 to R8, R25, R38, R491, R495). -/

namespace Sys2Proof.Machine

/-! ### Absent units (R7, R8, R139, R280) -/

/-- The shadow's address of an active mirror, else the address itself. -/
def unMirror (a : Nat) : Nat :=
  if decide (0x20030000 ≤ a ∧ a < 0x200B0000) && decide (0x8000 ≤ a % 0x10000) then a - 0x8000 else a

/-- The word at an address belongs to a unit that the part has not. -/
def absent (part : Part) (a : Nat) : Bool :=
  let a := unMirror a
  let past (base stride n all : Nat) : Bool := decide (base + stride * n ≤ a ∧ a < base + stride * all)
  past 0x20030000 0x100 part.ports 48 || past 0x20051000 0x10 part.ports 48 || past 0x20072000 8 part.rxLanes 384
    || past 0x20073000 8 part.txLanes 96
    || (!part.bandB && (past 0x20061000 16 48 348 || past 0x20091000 4 48 348 || past 0x20120240 4 16 32
      || past 0x20150040 4 2 4 || decide (0x200B0000 ≤ a ∧ a < 0x200C0000) || a == TXS_HOPSTAT))

/-! ### The core-sample layout (R491; R105, R136, R171, R204, R252, R254, R281, R313, R358, R373, R383, R408, R425, R450,
R465, R486) -/

/-- The registers of n things, in ascending order. -/
def each (n : Nat) (f : Nat → Nat) : List Nat := (List.range n).map f

/-- The registers that block b's core-sample rule names, in its order. -/
def segment (b : Nat) : List Nat :=
  match b with
  | 0 => each 12 SYS_ENGSTAT ++ each 12 SYS_ENGPC ++ [SYS_SRLSTAT]
  | 2 => [PWR_STATE, PWR_RAILSTAT, PWR_AVSSTAT]
  | 3 => each 48 RFP_STAT ++ each 48 RFP_TXPLAST
  | 4 => [SYN_STAT]
  | 5 => each 48 CAP_PGAIN ++ [CAP_CANSTAT]
  | 6 => each 348 SPX_BIN3 ++ [SPX_POOL, SPX_BSET]
  -- the profile tuning in force, which the rule says appears with its old value (log entry 154)
  | 7 => each 384 PHY_RXSTAT ++ each 96 PHY_TXSTAT ++ each 16 (PHY_SYNC · + 0x8000) ++ each 16 (PHY_TRK · + 0x8000)
  | 8 => [LNK_UPDSTAT, LNK_BUFSTAT, LNK_PRHEAD] ++ each 12 (LNK_RXOK + 4 * ·)
  | 9 => [TXS_STAT, TXS_HOPSTAT] ++ each 4 TXS_DUTYACC ++ each 4 TXS_DUTYMIN
  | 10 => [FLD_STAT, FLD_OCC] ++ each 15 (FLD_RXNEW + 4 * ·)
  | 11 => [STK_STAT, STK_LOAD, STK_SKEW]
  | 12 => [VFB_STAT, VFB_OFFSET, VFB_BCN]
  | 13 => [EVT_LOOP]
  | 14 => each 14 IRQ_RSTAT ++ each 14 IRQ_RHEAD
  | 15 => each 15 MBX_FULL ++ each 15 MBX_DB
  | 16 => each 32 TMR_CNT ++ each 32 TMR_STAT
  | 17 => [RTC_STAT, RTC_SECS]
  | 18 => [FLC_STAT] ++ each 4 FLC_CSTAT ++ each 4 FLC_LOAMMAP
  | 19 => [KEY_STAT]
  | 20 => each 16 CPH_STAT
  | 21 => [UPD_STAT, UPD_PROGRESS]
  | 22 => [HIF_STAT] ++ each 32 HIF_RXHEAD ++ each 32 HIF_TXTAIL ++ each 8 (HIF_RXDESC + 4 * ·)
  | 24 => [COX_STAT]
  | _ => []

/-- The first bank word of block b's segment: after the eight header words and the segments of lower blocks. -/
def segOffset (b : Nat) : Nat := 8 + ((List.range b).map fun c => (segment c).length).sum

/-! ### Computed words -/

/-- SNP_IDCODE (R495); the silicon revision is open (log entry 24). -/
def idcode (part : Part) : Nat :=
  Config.revision % 16 * 2 ^ 28 + (match part with | .thv4848 => 0x4848 | .thv4832 => 0x4832 | .thv4824 => 0x4824) * 2 ^ 12
    + 0x2B5 * 2 + 1

/-- KEY_LC (R449). -/
def keyLc (s : State) : Nat := s.priv.lc + 8 * b2n s.priv.auth.isSome + 16 * b2n s.priv.root.isSome + 32 * b2n s.priv.vendor

/-- STK_ROLE (R58, R276). -/
def stkRole (s : State) : Nat :=
  if s.regionOn 12 then
    stkMember s + 8 * stkMembers s + 128 * stkLeader s + 1024 * b2n (s.payloadLe 12 0 4 ≠ 0) + 2048 * (s.payloadByte 12 7 % 4)
  else 0

/-- A 16-bit age: whole units of `ns` from an instant to now, saturating. -/
def ageOf (s : State) (at_ ns : Nat) : Nat := min 65535 ((s.uptime - at_) / ns)

/-- A word of a table view. -/
def tableView (s : State) (block table base a : Nat) : Word := BitVec.ofNat 32 (s.table block table ((a - base) / 4))

/-- TXS_HOPSTAT: the position and the bin of the current epoch (R225, R234). -/
def hopStat (s : State) : Word :=
  if !s.part.bandB || hopEmpty s then 0
  else
    let p := hopPos s s.epoch
    wPut (wPut 0 TXS_HOPSTAT_POS p) TXS_HOPSTAT_BIN (s.table 9 1 p)

/-- The word a computed register of blocks SYS to FLD shows; none for a register that is stored. -/
def computedLow (s : State) (a : Nat) : Option Word :=
  if a = SYS_CAP0 then some s.part.cap0
  else if a = SYS_CAP1 then some s.part.cap1
  else if a = SYS_EPOCHL then some (BitVec.ofNat 32 s.epoch)
  else if a = SYS_ENGCTL 0 then some (fieldSet (s.reg a) 3 1 1)
  else if among a (SYS_ENGSTAT 0) 64 12 then
    -- engine 0 is SECURE, and any engine in recovery mode (R299, R306)
    let n := (a - SYS_ENGSTAT 0) / 64
    some (if n = 0 || s.fld (SYS_ENGSTAT_STATE n) = 3 then fieldSet (s.reg a) 5 1 1 else s.reg a)
  else if a = CFG_BSVN then some (BitVec.ofNat 32 s.priv.bsvn)
  else if among a (RFP_CALSTAT 0) 0x100 48 then
    some (match (s.portx ((a - RFP_CALSTAT 0) / 0x100)).calAt with
      | some t => wPut (s.reg a) (RFP_CALSTAT_AGE 0) (ageOf s t 1000000000)
      | none => s.reg a)
  else if among a 0x20033100 4 16 then some (tableView s 3 0 0x20033100 a)
  else if among a 0x20033140 4 4 then some (tableView s 3 1 0x20033140 a)
  else if among a 0x20053000 4 348 then some (tableView s 5 0 0x20053000 a)
  else if among a 0x20074000 4 64 then some (tableView s 7 0 0x20074000 a)
  else if a = SPX_CTL || a = SPX_CTL + 0x8000 then some (wMax (s.reg a) SPX_CTL_DEPTH s.part.spatial)
  else if a = LNK_UPDSTAT then some (wPut (s.reg a) LNK_UPDSTAT_BUSY (b2n (updBusy s)))
  else if a = CAP_CANSTAT then
    some (wPut (wPut (s.reg a) CAP_CANSTAT_USED_A (cancelUsed s 0 s.venue)) CAP_CANSTAT_USED_B (cancelUsed s 1 s.venue))
  else if a = TXS_HOPSTAT then some (hopStat s)
  else if a = FLD_OCC then some (BitVec.ofNat 32 (siltOccupancy s))
  else if a = FLD_STAT2 then some (BitVec.ofNat 32 (if s.regionOn 13 then myIndex s % 2048 else 0))
  else none

/-- The same for blocks STK to SNP. -/
def computedHigh (s : State) (a : Nat) : Option Word :=
  if a = STK_ROLE then some (BitVec.ofNat 32 (stkRole s))
  else if a = VFB_TIMEL then some (BitVec.ofNat 32 s.venue)
  else if a = VFB_BCN then
    some (if s.vfb.beaconAt = 0 then s.reg a else wPut (s.reg a) VFB_BCN_AGE (ageOf s (s.vfb.beaconAt - 1) 1000000))
  else if among a (EVT_CHOWN 0) 4 256 then some (tableView s 13 0 (EVT_CHOWN 0) a)
  else if among a (EVT_PMAT 0 0) 4 128 then
    let i := (a - EVT_PMAT 0 0) / 4
    some (BitVec.ofNat 32 (matrixRead s (i / 8) (i % 8)))
  else if among a (IRQ_RSTAT 0) 4 14 then
    let r := (a - IRQ_RSTAT 0) / 4
    some (wPut (s.reg a) (IRQ_RSTAT_LEVEL 0) (b2n (s.fld (IRQ_RHEAD_HEAD r) ≠ s.fld (IRQ_RTAIL_TAIL r))))
  else if a = KEY_LC then some (BitVec.ofNat 32 (keyLc s))
  else if a = KEY_CTRKU then some (BitVec.ofNat 32 s.priv.ku)
  else if a = KEY_CTRBSVN then some (BitVec.ofNat 32 s.priv.bsvn)
  else if a = KEY_CTRISVN then some (BitVec.ofNat 32 s.priv.isvn)
  else if among a (KEY_SLOTATTR 0) 4 256 then some (BitVec.ofNat 32 (s.slot ((a - KEY_SLOTATTR 0) / 4)).attr)
  else if among a (KEY_SLOTSTAT 0) 4 256 then some (BitVec.ofNat 32 (slotStat s ((a - KEY_SLOTSTAT 0) / 4)))
  else if a = SNP_IDCODE then some (BitVec.ofNat 32 (idcode s.part))
  else if among a (SNP_SEG 0) 4 32 then
    let b := (a - SNP_SEG 0) / 4
    some (BitVec.ofNat 32 (segOffset b + 2 ^ 16 * (segment b).length))
  else if among a (SNP_BANK 0 0) 4 2048 then some (s.snp.bank0.getD ((a - SNP_BANK 0 0) / 4) 0)
  else if among a (SNP_BANK 1 0) 4 2048 then some (s.snp.bank1.getD ((a - SNP_BANK 1 0) / 4) 0)
  else none

/-- The word the register at an address shows.  An unassigned address, an absent unit and the mirror of a register that is not
shadowed show zero (R7, R25, R38). -/
def peek (s : State) (a : Nat) : Word :=
  if absent s.part a then 0 else
  match (if a < 0x200B0000 then computedLow s a else computedHigh s a) with
  | some w => w &&& partMask s.part (unMirror a)
  | none =>
    let stored := match regRow a with
      | some _ => true
      | none => match regRow (unMirror a) with | some r => r.shadowed | none => false
    if stored then s.reg a &&& partMask s.part (unMirror a) else 0

end Sys2Proof.Machine
end

