-- ==== Sys2Proof/Machine/Ppdu.lean ====
section
/-! DEFINITION. Machine/Ppdu.lean: the symbols of a frame on air: preamble, sync field, header, whitening, PSDU and pilot fields (R145 to
R150, R166, R167). -/

namespace Sys2Proof.Machine

/-- The bits of octets, octets in increasing order and each least significant bit first (R145). -/
def bitsLsb (l : List Byte) : List Nat := l.flatMap fun b => (List.range 8).map fun i => b.toNat / 2 ^ i % 2

/-- The symbols of octets in O-QPSK: the low four bits of each first (R17, R146). -/
def nibbles (l : List Byte) : List Nat := l.flatMap fun b => [b.toNat % 16, b.toNat / 16]

/-- `n` bits of a number, most significant first. -/
def bitsMsb (n v : Nat) : List Nat := (List.range n).map fun i => v / 2 ^ (n - 1 - i) % 2

/-- `n` symbols of a mode's preamble: zero symbols, or alternating bits from 0 on, which are also the 0x55 octets of SUN-FSK (R146 to R148,
R166; log entry 150). -/
def preambleOf (w : List Nat) (n : Nat) : List Nat := (List.range n).map fun i => if pwMode w = 0 then 0 else i % 2

/-- The sync field of a profile: the SFD symbols 0x7 and 0xA, the uncoded SFD for SFD_SEL, or SYNC_WORD from bit 0 on (R146 to R148; log
entry 150). -/
def syncOf (w : List Nat) : List Nat :=
  match pwMode w with
  | 0 => [0x7, 0xA]
  | 1 => bitsMsb 16 (if bitOf (w.getD 0 0) 8 then 0x7A0E else 0x904E)
  | _ => bitsLsb (leBytes 4 (w.getD 1 0))

/-- The header octets of a TLP frame with their HCS (R148). -/
def tlpHeader (len : Nat) (fcs4 wake : Bool) : List Byte :=
  let v := len % 2048 + 2048 * b2n fcs4 + 4096 * b2n wake
  leBytes 3 (v + 65536 * crcMsb 8 0x07 0xFF [v % 256, v / 256])

/-- Bits XORed with the whitening sequence from its place `skip` on (R148). -/
def whiten (skip : Nat) (l : List Nat) : List Nat := xorList l ((pn9Bits (skip + l.length) 511).drop skip)

/-- Pilot fields after every 64th counted symbol but the last (R150). -/
def pilotsIn : Nat → List Nat → List Nat
  | 0, l => l
  | n + 1, l => if l.length ≤ 64 then l else l.take 64 ++ [1, 1, 0, 0, 1, 0, 1, 0] ++ pilotsIn n (l.drop 64)

/-- The symbols after the sync field: header and PSDU, whitened and with pilot fields as the mode has them (R146 to R150).  On transmit the
reserved bits and MS are 0, and DW comes from DW_TX. -/
def bodyOf (w : List Nat) (fcs4 wake : Bool) (psdu : List Byte) : List Nat :=
  match pwMode w with
  | 0 => nibbles (leBytes 1 (psdu.length % 128) ++ psdu)
  | 1 =>
    let dw := bitOf (w.getD 0 0) 9
    bitsMsb 16 (4096 * b2n (!fcs4) + 2048 * b2n dw + psdu.length % 2048) ++ (if dw then whiten 0 (bitsLsb psdu) else bitsLsb psdu)
  | _ =>
    let l := whiten 0 (bitsLsb (tlpHeader psdu.length fcs4 wake ++ psdu))
    pilotsIn (l.length / 64 + 1) l

/-- Every symbol of a frame, from its air start to its end (R151). -/
def ppdu (w : List Nat) (pre : Nat) (fcs4 wake : Bool) (psdu : List Byte) : List Nat :=
  preambleOf w pre ++ syncOf w ++ bodyOf w fcs4 wake psdu

/-- Octets from a bit string, the first bit least significant. -/
def octetsFrom (l : List Nat) : List Byte := (octetsOfBits l).map (BitVec.ofNat 8 ·)

/-- PSDU octets of a received frame from offset `off` on, de-whitened where the frame is whitened (R147, R148): a TLP frame's sequence has
run over its three header octets before. -/
def rxOctets (w : List Nat) (white : Bool) (off : Nat) (l : List Byte) : List Byte :=
  if white then octetsFrom (whiten (8 * off + (if pwMode w = 2 then 24 else 0)) (bitsLsb l)) else l

end Sys2Proof.Machine
end

