-- ==== Sys2Proof/Machine/Ports.lean ====
section
/-! DEFINITION. Machine/Ports.lean: the meanings of the port, synthesizer, calibration, transmission and coexistence commands (R74 to
R104). -/

namespace Sys2Proof.Machine

/-! ### Ports (R77 to R80) -/

/-- A port of this part. -/
def portHere (s : State) (p : Nat) : Bool := decide (p < s.part.ports)

/-- A write of RFP_CTL with another REQ (R79, R80). -/
def execPortStateRequest (port : Fin 48) (req : Fin 8) (s : State) : Res :=
  ok (if portHere s port then rfpCtlWrite s port (fieldSet (s.reg (RFP_CTL port)) 0 3 req).toNat else s)

/-- A write of RFP_CTL with another BANDOVR (R80). -/
def execBandOverride (port : Fin 48) (ovr : Fin 4) (s : State) : Res :=
  ok (if portHere s port then rfpCtlWrite s port (fieldSet (s.reg (RFP_CTL port)) 4 2 ovr).toNat else s)

/-- The deafness of a reference loss ends for a band when every port that is to receive in it is back in RX (R218). -/
def refHears (s : State) : State :=
  if s.flag SYS_REFLOST_ACTIVE then s else
  forBelow 2 (fun s band =>
    let l := (portsOn s).filter fun p => portBand s p = band && (portRole s p = 1 || portRole s p = 3) && portWant s p = 3
    if l.all (portState s · = 3) && s.blanks.any (fun b => b.stop == 0 && b.centre == 1 && b.band == band) then
      let s := deafSettle s
      { s with blanks := s.blanks.filter fun b => !(b.stop = 0 && b.centre = 1 && b.band = band) }
    else s) s

/-- The running step of a port's transition completes (R77, R78); a port that comes to TX by software radiates (R80). -/
def execPortTransitionDone (port : Fin 48) (s : State) : Res :=
  ok (refHears (testRadiate (portArrive s port) port))

/-! ### Synthesizers (R89, R90) -/

/-- The retune of an LO group ends (R89): its ports are unmuted and hear again. -/
def execLoRetuneDone (group : Fin 2) (s : State) : Res :=
  if !bitOf s.loRetune group then ok s else
  let code := 2 + group.val
  let s := { s with loRetune := s.loRetune &&& (3 - 2 ^ group.val) }
  let s := forBelow 3 (fun s k =>
    if s.fld (SYN_STAT_ASSIGN k) = code && !((s.syn k).cal.contains (assignLo s code)) then
      s.setSyn k { s.syn k with cal := assignLo s code :: (s.syn k).cal } else s) s
  ok (loHears ((synPorts s code).foldl (fun s p => portHead (s.setPortx p { s.portx p with muted := false }) p) s) code 0)

/-- A committed acknowledgement does not go out, or not to its end: its lane and ports go back; a denied one counts as withdrawn
(R99, R188). -/
def ackCut (s : State) (lane : Nat) (denied : Bool) : State :=
  let f := (s.txl lane).ref
  let s := match s.frame f with
    | some x => s.setFrame f { x with ack := 4, ackLane := none }
    | none => s
  let s := if denied then s.bump LNK_ACKWD_COUNT else s
  frameGc (laneCut s lane 0) f

/-- A transmission is lost with a status (R31, R90): a port in the middle of it counts it. -/
def airLost (s : State) (status lane : Nat) : State :=
  let l := s.txl lane
  let s := if l.stage = 4 then l.ports.foldl (fun s e => s.bump (RFP_CNT1_LOST e.1)) s else s
  if l.owner = 2 then laneCut s lane status
  else if l.owner = 1 then (if l.committed then ackCut s lane false else frameGc (ackWithdraw s l.ref) l.ref)
  else s

/-- Lanes whose transmission is committed or walks, and has not ended. -/
def lanesOut (s : State) : List Nat := (s.txLanes.filter fun e => e.2.stage ≤ 4 && (e.2.committed || e.2.stage = 2)).map (·.1)

/-- Synthesizer k is declared unlocked (R90): its ports drop PA and mute, frames in flight are lost, and the spare takes over where it
may. -/
def lockLost (s : State) (k : Nat) : State :=
  let code := s.fld (SYN_STAT_ASSIGN k)
  let s := ((s.setFld (SYN_STAT_LOCK k) 0).bump SYN_CNT_LOCKLOSS).fire 128 k
  let ports := synPorts s code
  let s := (lanesOut s).foldl (fun s n => if binCode (s.txl n).bin = code then airLost s 9 n else s) s
  let s := loDeaf (portsMute (framesLost s [code] ports) ports) code
  match if s.flag SYN_CTL_SPARE_AUTO then spareSyn s else none with
  | some j => synRefresh (s.setSyn j { s.syn j with taking := code })
  | none => synRefresh (s.setFld (SYN_STAT_FAILED k) 1)

/-- A synthesizer in use loses its lock; a failed one that serves nothing, within the second after its calibration, calibrates again at the
next period start (R90). -/
def execSynLockLoss (syn : Fin 3) (s : State) : Res :=
  let k : Nat := syn
  if s.flag (SYN_STAT_FAILED k) && s.fld (SYN_STAT_ASSIGN k) = 0 && (s.syn k).lockedAfterCal && !(s.syn k).calibrating then
    ok (synRefresh ((s.setSyn k { s.syn k with lockedAfterCal := false }).setFld (SYN_STAT_LOCK k) 0))
  else if !synPresent s k || s.fld (SYN_STAT_ASSIGN k) = 0 || !s.flag (SYN_STAT_LOCK k) || !refInUse s then ok s else ok (lockLost s k)

/-- The spare has locked to the lost LO, or has failed to (R90 steps 3 to 5). -/
def execSpareTakeoverDone (syn : Fin 3) (locked : Bool) (s : State) : Res :=
  let k : Nat := syn
  let code := (s.syn k).taking
  if code = 0 then ok s else
  let s := s.setSyn k { s.syn k with taking := 0 }
  let lost := (List.range 3).filter fun j => s.fld (SYN_STAT_ASSIGN j) = code
  if !locked then ok (synRefresh ((lost.foldl (fun s j => s.setFld (SYN_STAT_FAILED j) 1) s).setFld (SYN_STAT_FAILED k) 1))
  else
    let s := lost.foldl (fun s j => (s.setSyn j { s.syn j with calibrating := true, lockedAfterCal := false }).setFlds
      [(SYN_STAT_ASSIGN j, 0), (SYN_STAT_LOCK j, 0), (SYN_STAT_FAILED j, 1)]) s
    let s := (s.setFlds [(SYN_STAT_ASSIGN k, code), (SYN_STAT_LOCK k, 1)]).bump SYN_CNT_TAKEOVER
    ok (loHears (portsUnmute (synRefresh s) (synPorts s code)) code 4000)

/-- A synthesizer's full calibration ends (R90, R91, R93). -/
def execSynCalibrationDone (syn : Fin 3) (locked : Bool) (s : State) : Res :=
  let k : Nat := syn
  let x := s.syn k
  if !x.calibrating then ok s else
  let code := s.fld (SYN_STAT_ASSIGN k)
  let los := if code = 0 then [2442500, s.act SYN_LOB0_FREQ, s.act SYN_LOB1_FREQ] else [assignLo s code]
  let s := s.setSyn k { x with calibrating := false, cal := if locked then los ++ x.cal.filter (!los.contains ·) else x.cal }
  let s := if code = 0 then s.setFld SYN_CTL_RECAL 0 else s
  if code ≠ 0 then
    let failed := s.flag (SYN_STAT_FAILED k)
    let s := s.setFlds [(SYN_STAT_LOCK k, b2n locked), (SYN_STAT_FAILED k, b2n !locked)]
    if locked && failed then ok (startCalPorts (loHears (portsUnmute (synRefresh s) (synPorts s code)) code 4000))
    else ok (startCalPorts (synRefresh s))
  else if !locked then
    ok (synRefresh ((s.setSyn k { s.syn k with lockedAfterCal := false }).setFlds [(SYN_STAT_FAILED k, 1), (SYN_STAT_LOCK k, 0)]))
  else if s.flag (SYN_STAT_FAILED k) then
    ok (synRefresh ((s.setSyn k { s.syn k with lockedAfterCal := true }).setFld (SYN_STAT_LOCK k) 1))
  else ok (synRefresh s)

/-- A failed synthesizer has stayed locked for 1 s: it is the spare again (R90 step 5). -/
def execSynFailedClear (syn : Fin 3) (s : State) : Res :=
  let k : Nat := syn
  if s.flag (SYN_STAT_FAILED k) && s.fld (SYN_STAT_ASSIGN k) = 0 && (s.syn k).lockedAfterCal && !(s.syn k).calibrating then
    ok (synRefresh ((s.setSyn k { s.syn k with lockedAfterCal := false }).setFlds [(SYN_STAT_FAILED k, 0), (SYN_STAT_LOCK k, 0)]))
  else ok s

/-- A write of SYN_CTL.RECAL (R103): ignored while no spare exists; it reads 1 until the calibration has ended. -/
def spareRecal (s : State) : State :=
  match spareSyn s with
  | some k => (s.setSyn k { s.syn k with calibrating := true }).setFld SYN_CTL_RECAL 1
  | none => s

def execSpareRecal (s : State) : Res := ok (spareRecal s)

/-! ### Calibration (R91 to R94) -/

/-- The die temperature at a port has drifted by more than DUE_DELTA from that of its last calibration (R94). -/
def execCalibrationDue (port : Fin 48) (celsius : Int) (s : State) : Res :=
  let d := celsius - signedOf 8 (s.fld (RFP_CALSTAT_TEMP_AT_CAL port))
  ok (if portHere s port && s.fld RFP_CALGLB_DUE_DELTA < d.natAbs then calDue s port 15 else s)

/-- A write of RFP_CALCTL.REQ (R94). -/
def execCalibrationRequest (port : Fin 48) (kinds : Fin 16) (s : State) : Res :=
  ok (if portHere s port then calRequest s port kinds else s)

/-- A port's calibration ends (R91, R94, R111, R118); the last one of a start-up sends the ports to their base states (R93 step 6). -/
def execCalibrationDone (port : Fin 48) (celsius : Byte) (align : Fin 128) (results : CalResults) (s : State) : Res :=
  let p : Nat := port
  let kinds := (s.portx p).calRun
  if kinds = 0 then ok s else
  let s := calDone s p celsius.toNat align.val results
  let s := if bitOf kinds 3 then couplingMeasured s p results.taps else s
  ok (startCalEnd s)

/-! ### Transmissions (R79, R84, R85, R95, R99, R168, R186, R187) -/

/-- Step 1 of R85: the ports of a committed transmission, or of an acknowledgement that is prepared or frozen, start their walk to TX. -/
def execTxPortWalk (lane : Fin 96) (s : State) : Res :=
  let n : Nat := lane
  let l := s.txl n
  let ack := match s.frame l.ref with | some x => l.owner = 1 && (x.ack = 1 || x.ack = 2) && x.endAt ≠ 0 | none => false
  if l.stage ≠ 0 || !((l.owner = 2 && l.committed) || ack) then ok s else
  let ports := if l.owner = 2 then l.ports else (txPorts s l.band).map (·, 0)
  let s := if l.owner = 2 then s else countSkips s l.band (ports.map (·.1))
  let all := ports.map (·.1) ++ l.silent
  let s := s.advance (l.airStart - (if all.any (fun p => portState s p == 3) then 8000 else 6000))
  let s := txLanePut s n { l with ports := ports, stage := 2 }
  ok (blankSettle (all.foldl (fun s p => portWalk s n p) (s.setFld (PHY_TXSTAT_STATE n) 2)))

/-- The largest PA_LEAD of a lane's ports; at most 2 µs for an acknowledgement (R85, R99, R187). -/
def lanePaLead (s : State) (l : TxLane) : Nat :=
  let m := (l.ports.map fun e => portPaLead s e.1).foldl max 0
  if l.owner = 1 then min m 2000 else m

/-- Step 2 of R85 and the check of R99, with the level of COEX_GNT at the ball: FEM_PA turns on, or the transmission is denied. -/
def execTxPaOn (lane : Fin 96) (grant : Bool) (s : State) : Res :=
  let n : Nat := lane
  let l := s.txl n
  if l.stage ≠ 2 || !l.committed then ok s else
  let s := s.advance (l.airStart - lanePaLead s l)
  let s := coxLevel s grant
  if coxGoverns s l.band && !s.flag COX_STAT_GNT then
    let s := s.bump COX_CNT_DENIED
    ok (blankSettle (retuneWaiting (if l.owner = 1 then ackCut s n true else laneCut s n 6)))
  else ok (blankSettle (paOn (txLanePut s n { l with stage := 3 }) n))

/-- The first modulated sample reaches the ball (R85 step 4), and the frame's symbols follow (R145 to R151); a port without stored
coefficients for the bin counts it (R95).  An acknowledgement on air makes the poll it promises (R230). -/
def execTxAirStart (lane : Fin 96) (s : State) : Res :=
  let n : Nat := lane
  let l := s.txl n
  if l.stage ≠ 3 || l.cut ≠ 0 then ok s else
  let s := s.advance l.airStart
  let s := l.ports.foldl (fun s e => if uncalibrated s e.1 l.bin then s.bump (RFP_CNT1_NOCAL e.1) else s) s
  let s := (txLanePut s n { l with stage := 4 }).emit .air ([n, l.bin, l.airStart] ++ l.ports.flatMap fun e => [e.1, wrapOf 8 e.2])
    ((ppdu l.words l.pre l.fcs4 l.wake l.frame).map (BitVec.ofNat 8 ·))
  match (if l.owner = 1 then s.frame l.ref else none) with
  | some x =>
    let x := { x with aired := true }
    ok (blankSettle (pollBy (s.setFrame l.ref x) x))
  | none => ok (blankSettle s)

/-- The last sample ends at the ball and ramp-down begins (R85 step 5). -/
def execTxEnd (lane : Fin 96) (s : State) : Res :=
  let n : Nat := lane
  let l := s.txl n
  if l.stage ≠ 4 || l.cut ≠ 0 then ok s else
  ok (blankSettle (txLanePut (s.advance l.airEnd) n { l with stage := 5 }))

/-- The ramp-down ends (R85 steps 6 and 7): FEM_PA turns off, the ports head for their base states, and the lane's request or
acknowledgement goes on or ends; a retune that waited starts (R89). -/
def execTxRampDownEnd (lane : RampEnd) (s : State) : Res :=
  let n : Nat := lane.lane
  let l := s.txl n
  if l.stage ≠ 5 then ok s else
  let s := coxReqRefresh (s.advance (l.airEnd + 1000))
  let s := s.advance (l.airEnd + 1000 + (l.ports.map fun e => portPaLag s e.1).foldl max 0)
  let s := portsRelease (couplingRefine s l.band (l.ports.map (·.1)) lane.taps) n
  let s :=
    if l.owner = 2 then match s.req l.ref with
      | some q => reqSent s l.ref q n l.airEnd
      | none => txLaneFree s n
    else
      let s := txLaneFree s n
      match s.frame l.ref with
      | some x => frameGc (s.setFrame l.ref { x with ackLane := none }) l.ref
      | none => s
  ok (blankSettle (retuneWaiting (coxReqRefresh s)))

/-! ### Coexistence (R99, R100) -/

/-- COEX_REQ rises REQ_LEAD before the air start of a committed transmission (R99). -/
def execCoexReqRise (rise : CoexRise) (s : State) : Res :=
  let l := s.txl rise.lane
  if l.committed && l.stage ≤ 2 then
    ok (coxRise (coxLevel (s.advance (l.airStart - 1000 * s.fld COX_CTL_REQ_LEAD)) rise.grant) rise.lane)
  else ok s

/-- Grant is withdrawn at the ball (R100 steps 1 and 2): every PA of a governed band goes off, and the transmissions stop.  Grant that
returns resumes nothing; its level is told where it is next asked for, under COEX_REQ_RISE and TX_PA_ON (log entry 171). -/
def execCoexGntWithdrawn (s : State) : Res := ok (coxGate (s.setFld COX_STAT_GNT 0))

/-- One lane's cut is reported (R100 step 3). -/
def cutReport (s : State) (n : Nat) : State :=
  let l := s.txl n
  let s := (s.bump COX_CNT_CUT).setFlds [(COX_LASTCUT_TIME, l.airEnd % 2 ^ 32), (COX_STAT_CUT, 1)]
  let s := (l.ports.foldl (fun s e => s.setFld (RFP_STAT_GRANT_CUT e.1) 1) s).fire 768 0
  if l.owner = 1 then ackCut s n false else laneCut s n 7

/-- A cut software transmission is reported, and its port goes back to its base state (R100 steps 3 and 4; log entry 147). -/
def testCutReport (s : State) (p : Nat) : State :=
  match (s.portx p).testCut with
  | none => s
  | some at_ =>
    let s := (s.bump COX_CNT_CUT).setFlds [(COX_LASTCUT_TIME, at_ % 2 ^ 32), (COX_STAT_CUT, 1), (RFP_STAT_GRANT_CUT p, 1)]
    coxWires (testBack (s.fire 768 0) p)

/-- 1 µs after a cut its reports are issued (R100 steps 3 and 4). -/
def execCoexCutReport (s : State) : Res :=
  let l := (s.txLanes.filter (·.2.cut = 7)).map (·.1)
  let ps := (allPorts s).filter fun p => (s.portx p).testCut.isSome
  if l.isEmpty && ps.isEmpty then ok s
  else ok (blankSettle (retuneWaiting (ps.foldl testCutReport (l.foldl cutReport (s.advance (s.venue + 1000))))))

end Sys2Proof.Machine
end

