-- ==== Sys2Proof/Machine/Snapshots.lean ====
section
/-! DEFINITION. Machine/Snapshots.lean: asynchronous pin latches, core samples, the common counter rules and the test port (R46,
R47, R348, R487 to R502). -/

namespace Sys2Proof.Machine

/-! ### Asynchronous latches (R348) -/

/-- The two configuration bits of latch k: GPIO 0–15, 16 CORE_SAMPLE, 17 PMB_ALERT_N. -/
def pinEdge (s : State) (k : Nat) : Nat :=
  if k < 16 then fieldGet (s.reg IRQ_PINCFG0) (2 * k) 2 else fieldGet (s.reg IRQ_PINCFG1) (2 * (k - 16)) 2

/-- An edge is one that a pin's configuration selects. -/
def edgeSelected (s : State) (k : Nat) (rising : Bool) : Bool := bitOf (pinEdge s k) (if rising then 0 else 1)

/-- The producer of a latch. -/
def latchProducer (k : Nat) : Nat := if k < 16 then 16 + k else if k = 16 then 736 else 64

/-- A CLK_PER edge: with the event-routes region active, the latched edges that an edge before has seen, or that came while the region
was not active, are released as ASYNC events; the others have seen an edge now. -/
def latchRelease (s : State) : State :=
  if !mainOn s then s else
  let l := (s.reg IRQ_ALATCH).toNat
  let go := if s.regionOn 9 then l &&& s.evt.aged else 0
  let s := { s with evt := { s.evt with aged := l - go } }.setReg IRQ_ALATCH (BitVec.ofNat 32 (l - go))
  forBelow 18 (fun s k => if bitOf go k then s.fireEv { producer := latchProducer k, payload := 0, async := true } else s) s

/-- The device drives CORE_SAMPLE itself and ignores the ball (R488). -/
def sampleDriven (s : State) : Bool := s.flag SNP_CTL_OUT_EN && decide (s.uptime < s.snp.drivenTo)

/-- An edge on a latched pin; the latch is armed while VDD_CORE and VDD_IO are good. -/
def execAsyncEdge (pin : Fin 18) (rising : Bool) (s : State) : Res :=
  let k : Nat := pin
  if s.fld PWR_RAILSTAT_PRESENT &&& 33 ≠ 33 || !edgeSelected s k rising || (k = 16 && sampleDriven s) then ok s
  else
    let aged := if mainOn s && s.regionOn 9 then s.evt.aged else s.evt.aged ||| 2 ^ k
    ok ({ s with evt := { s.evt with aged := aged } }.setReg IRQ_ALATCH (BitVec.ofNat 32 ((s.reg IRQ_ALATCH).toNat ||| 2 ^ k)))

/-! ### Taking a sample (R46, R47, R490, R491) -/

/-- What meets the latching edge: an epoch boundary, a commit, a swap and the commit of a node record (R47). -/
structure Coincide where
  boundary : Bool := false
  commit : Bool := false
  swap : Bool := false
  node : Bool := false
  deriving DecidableEq, Repr

/-- The words of a sample: source bits, lateness and the venue time of the edge. -/
def sampleWords (s : State) (src : Nat) (late : Bool) (c : Coincide) (t : Nat) : List Word :=
  let w (n : Nat) : Word := BitVec.ofNat 32 n
  let e := s.epoch
  let hold := vfbState s = 3 || vfbState s = 1
  [w (s.fld SNP_STAT_NEXTSEQ + 2 ^ 16 * src + 2 ^ 20 * b2n c.boundary + 2 ^ 21 * b2n c.commit + 2 ^ 22 * b2n c.swap
      + 2 ^ 23 * b2n c.node + 2 ^ 24 * b2n late + 2 ^ 25 * b2n hold),
    w e, w (e / 2 ^ 32 % 512), w t, w (t / 2 ^ 32), w (if s.regionOn 13 then myIndex s else 0), 0, 0]
    ++ (List.range 32).flatMap fun b => (segment b).map (peek s)

/-- The sample that moves was latched at venue time t by other sources: a trigger of the same edge joins it (R487). -/
def sampleJoin (s : State) (src t : Nat) : Option (Nat × List Word) :=
  match s.snp.moving with
  | some (bank, h :: l) =>
    if (l.getD 2 0).toNat + 2 ^ 32 * (l.getD 3 0).toNat = t ∧ h.toNat / 2 ^ 16 % 16 &&& src = 0 then
      some (bank, (h ||| BitVec.ofNat 32 (2 ^ 16 * src)) :: l)
    else none
  | _ => none

/-- A trigger reaches its latching edge at venue time t: it joins the sample of that edge, or the blocks latch and the collector
starts, or the trigger is missed. -/
def coreSample (s : State) (src : Nat) (late : Bool) (c : Coincide) (t : Nat) : State :=
  match if late then none else sampleJoin s src t with
  | some m => { s with snp := { s.snp with moving := some m } }
  | none =>
  let held := s.fld SNP_STAT_HELD
  if s.snp.moving.isSome || held = 3 then ((s.setFld SNP_STAT_MISSED 1).bump SNP_MISSED_COUNT).fire 738 0
  else
    let bank := if bitOf held 0 then 1 else 0
    let words := sampleWords s src late c t
    let s := { s with snp := { s.snp with moving := some (bank, words), drivenTo := s.uptime + 110 } }
    let s := s.setFlds [(SNP_STAT_MOVING, 1), (SNP_STAT_NEXTSEQ, s.fld SNP_STAT_NEXTSEQ + 1)]
    let s := s.bump SNP_TRIGS_COUNT
    let s := if late then s.bump SNP_LATE_COUNT else s
    if s.flag SNP_CTL_OUT_EN then s.emit .pulse [16, 100] else s

/-- The armed trigger fires where its time is not after `t`: on time, or at a step across it, late (R489). -/
def snapDue (s : State) (t : Nat) (late : Bool) (c : Coincide) : State :=
  if s.flag SNP_STAT_ARMED && decide (s.snp.trigAt ≤ t) then coreSample (s.setFld SNP_STAT_ARMED 0) 4 late c t else s

/-- A trigger of the pin or an event reaches its edge at venue time t, with the armed trigger where that falls on the edge too. -/
def edgeSample (s : State) (src : Nat) (c : Coincide) (t : Nat) : State :=
  if s.flag SNP_STAT_ARMED && decide (s.snp.trigAt ≤ t) then coreSample (s.setFld SNP_STAT_ARMED 0) (src + 4) false c t
  else coreSample s src false c t

/-- What the next boundary brings: a commit and a swap, as its cut has found them or would find them now (R47, R68). -/
def boundaryMeets (s : State) (node : Bool) : Coincide :=
  let s := if s.cut.done then s else stagingCut s
  { boundary := true, commit := s.cut.mask != 0, node := node
    swap := match s.swapReq with | some q => s.swapCut == 1 && decide (q.target ≤ s.epoch + 1) | none => false }

/-- Arm the trigger at the time in SNP_TTRIG; a time already passed fires at once. -/
def snapArm (s : State) : State :=
  let t := (s.reg SNP_TTRIGL).toNat + 2 ^ 32 * (s.reg SNP_TTRIGH).toNat
  let s := { s with snp := { s.snp with trigAt := t } }.setFld SNP_STAT_ARMED 1
  if t < s.venue then snapDue s s.venue true {} else s

/-- A CORE_SAMPLE record's trigger time is copied and armed where FAB_EN allows it (R489). -/
def snapRecord (s : State) (t : Nat) : State :=
  if s.flag SNP_CTL_FAB_EN then
    snapArm ((s.setReg SNP_TTRIGL (BitVec.ofNat 32 t)).setReg SNP_TTRIGH (BitVec.ofNat 32 (t / 2 ^ 32)))
  else s

/-- The CORE_SAMPLE record of a time, to the members of a leader's stack (R265, R489). -/
def snapForward (s : State) (t : Nat) : State :=
  if inStack s && stkMember s = stkLeader s then fabricCell s 15 0xFFFF (recordOf 10 (leBytes 8 t)) else s

/-- Arm, and tell all devices. -/
def snapBcast (s : State) : State :=
  let t := (s.reg SNP_TTRIGL).toNat + 2 ^ 32 * (s.reg SNP_TTRIGH).toNat
  snapForward (recordSend (snapArm s) 0xFFFF (recordOf 10 (leBytes 8 t))) t

/-- Held banks are released. -/
def bankRelease (s : State) (banks : Nat) : State := s.setFld SNP_STAT_HELD (s.fld SNP_STAT_HELD &&& (3 - banks % 4))

/-- A write of SNP_CMD: its bits act in the order RELEASE, DISARM, ARM, BCAST. -/
def snpCmd (s : State) (w : Nat) : State :=
  let s := bankRelease s (bitsOf w 5 4)
  let s := if bitOf w 1 then s.setFld SNP_STAT_ARMED 0 else s
  let s := if bitOf w 0 then snapArm s else s
  if bitOf w 2 then snapBcast s else s

/-! ### Counters (R492) -/

/-- Every RC counter clears, HIF_CNT included. -/
def clearAll (s : State) : State :=
  (deafSettle s).regs.foldl (fun s e =>
    match regRow e.1 with
    | some r => if r.rc = 0 then s else s.setReg e.1 (e.2 &&& BitVec.ofNat 32 (0xFFFFFFFF - r.rc))
    | none => s) (deafSettle s)

/-- Every RC counter stops, or counts again. -/
def counterFreeze (s : State) (freeze : Bool) : State := (deafSettle s).setFld SNP_CNTCTL_FREEZE (b2n freeze)

/-! ### Test port (R494 to R497) -/

/-- Bypass in place of an instruction that is refused. -/
def testDenied (s : State) : State := s.setFlds [(SNP_TEST_DENIED, 1), (SNP_TEST_IR, 0xFF)]

/-- The radio falls silent for an intrusive instruction: transmitters off, frames lost, every port in SLEEP. -/
def radioSilence (s : State) : State :=
  let s := (lanesOut s).foldl (airLost · 0x0C ·) s
  let s := (busyRx s).foldl laneEndEarly s
  let s := s.setFld SNP_TEST_DIRTY 1
  coxWires ((allPorts s).foldl (fun s p =>
    (s.setPortx p { s.portx p with pa := false, bandDue := false, calRun := 0, test := 0, testCut := none }).setFlds
      [(RFP_STAT_STATE p, 0), (RFP_STAT_TARGET p, 0), (RFP_STAT_INTRANSIT p, 0)]) s)

/-- An intrusive instruction: allowed, it silences the radio and the balls follow the boundary register. -/
def testIntrusive (s : State) (code : Nat) : State :=
  if !s.flag SNP_TEST_ALLOW then testDenied s
  else ((radioSilence s).setFld SNP_TEST_IR code).emit .balls (code :: s.snp.boundary.map b2n)

/-! ### Commands -/

/-- A selected edge on CORE_SAMPLE reaches the trigger; its latch is told under ASYNC_EDGE (R487, R488).  `rising.boundary` says that its
latching edge is the next epoch boundary, whose command comes after it; `rising.node`, that a node record commits on it, likewise (R47). -/
def execCoreSamplePinEdge (rising : PinEdge) (s : State) : Res :=
  if !mainOn s || !s.flag SNP_CTL_PIN_EN || !edgeSelected s 16 rising.rising || sampleDriven s then ok s
  else if rising.boundary then ok (edgeSample s 1 (boundaryMeets s rising.node) s.nextBoundary)
  else ok (edgeSample s 1 { node := rising.node } s.venue)

/-- Venue time reaches the armed trigger time; one at a boundary comes with its EPOCH_BOUNDARY (R46, R489). -/
def execCoreSampleTimeTrigger (s : State) : Res :=
  if !mainOn s || !s.flag SNP_STAT_ARMED || s.nextBoundary ≤ s.snp.trigAt then ok s
  else
    let s := s.passTo s.snp.trigAt
    ok (snapDue s s.venue false {})

/-- A CORE_SAMPLE record arrives; a stack leader forwards it (R489). -/
def execCoreSampleRecordReceived (time : BitVec 64) (s : State) : Res :=
  if mainOn s then ok (snapRecord (snapForward s time.toNat) time.toNat) else ok s

/-- The collector has moved a sample: its bank is HELD, and SNP_DONE, producer 737, fires (R490, R502). -/
def execSnapshotMoveDone (s : State) : Res :=
  match s.snp.moving with
  | none => ok s
  | some (bank, words) =>
    let x := { s.snp with moving := none }
    let s := { s with snp := if bank = 0 then { x with bank0 := words } else { x with bank1 := words } }
    ok ((s.setFlds [(SNP_STAT_MOVING, 0), (SNP_STAT_HELD, s.fld SNP_STAT_HELD ||| 2 ^ bank)]).fire 737
      (bank + 2 ^ 16 * ((words.headD 0).toNat % 2 ^ 16)))

/-- Accepted writes of SNP_CMD and SNP_CNTCTL (R489, R490, R492). -/
def execSnapshotArm (s : State) : Res := ok (snapArm s)
def execSnapshotDisarm (s : State) : Res := ok (s.setFld SNP_STAT_ARMED 0)
def execSnapshotBcast (s : State) : Res := ok (snapBcast s)
def execBankRelease (banks : Fin 4) (s : State) : Res := ok (bankRelease s banks)
def execCounterClearAll (s : State) : Res := ok (clearAll s)
def execCounterFreeze (freeze : Bool) (s : State) : Res := ok (counterFreeze s freeze)

def execExtest (s : State) : Res := ok (testIntrusive s 0x00)
def execClamp (s : State) : Res := ok (testIntrusive s 0x04)
def execHighz (s : State) : Res := ok (testIntrusive s 0x05)
def execExtestPulse (s : State) : Res := ok (testIntrusive s 0x09)
def execExtestTrain (s : State) : Res := ok (testIntrusive s 0x0A)
def execIdcode (s : State) : Res := ok (s.setFld SNP_TEST_IR 0x01)
def execBypass (s : State) : Res := ok (s.setFld SNP_TEST_IR 0xFF)

/-- SAMPLE/PRELOAD, with the cells that are shifted into the boundary register. -/
def execSamplePreload (loaded : List Bool) (s : State) : Res :=
  ok ({ s with snp := { s.snp with boundary := loaded } }.setFld SNP_TEST_IR 0x02)

/-- A private instruction, 0x80 to 0xFE (R497): the first one after a reset wipes SRAM, the key slots and the key-blob region. -/
def execPrivateInstruction (code : Fin 127) (s : State) : Res :=
  if s.priv.lc ≠ 0 && s.priv.lc ≠ 3 then ok (testDenied s) else
  let s := if s.snp.wiped then s else lcWipe { s with mem := [], keySlots := [], snp := { s.snp with wiped := true } }
  ok (s.setFlds [(SNP_TEST_IR, 0x80 + code.val), (SYS_SRLSTAT_STATE, 5)])

end Sys2Proof.Machine
end

