-- ==== Sys2Proof/Machine/Timers.lean ====
section
/-! DEFINITION. Machine/Timers.lean: the timers, their chains, compares, groups and tasks (R363 to R374). -/

namespace Sys2Proof.Machine

def tmrCount (s : State) (n : Nat) : Nat := s.fld (TMR_CNT_COUNT n)
def tmrRun (s : State) (n : Nat) : Bool := s.flag (TMR_CTL_RUN n)
def tmrSrc (s : State) (n : Nat) : Bool := n != 0 && s.flag (TMR_CTL_SRC n)

/-- The timers above n in its chain, lowest first (R364). -/
def chainUpper (s : State) : Nat → Nat → List Nat
  | 0, _ => []
  | fuel + 1, n => if n + 1 < 32 && tmrSrc s (n + 1) then (n + 1) :: chainUpper s fuel (n + 1) else []

/-- The low word of timer n's chain (R364). -/
def chainLow (s : State) : Nat → Nat
  | 0 => 0
  | n + 1 => if tmrSrc s (n + 1) then chainLow s n else n + 1

/-- The timers of the chain whose low word is n. -/
def chainOf (s : State) (n : Nat) : List Nat := n :: chainUpper s 32 n

/-- The timers that tick when the low word of a chain ticks, with whether each overflows: a carry crosses the chain on one
edge, through timers that run (R363, R364). -/
def chainTicks (s : State) : List Nat → List (Nat × Bool)
  | [] => []
  | n :: l =>
    if !tmrRun s n then []
    else if tmrCount s n = 2 ^ 32 - 1 then (n, true) :: chainTicks s l else [(n, false)]

/-- Timer n's match counts: its upper neighbour, where CMPHI names it, stands on its compare value too, and so on up the
chain (R368).  The list holds n and the timers above it in its chain. -/
def matchHigh (s : State) : List Nat → Bool
  | n :: m :: l => if s.flag (TMR_CTL_CMPHI n) then tmrCount s m == s.fld (TMR_CMP_CMP m) && matchHigh s (m :: l) else true
  | _ => true

/-- Timer n has ticked onto its present count: its match and overflow are recorded, AUTO advances its compare unless
a write of it lands on this edge, and one event is made of both (R366, R367, R369). -/
def tickResult (s : State) (n : Nat) (hit ovf : Bool) : State :=
  let s := if hit then
      let s := s.setFld (TMR_STAT_MATCH n) 1
      if s.flag (TMR_CTL_AUTO n) && !bitOf s.evt.cmpNew n then s.setFld (TMR_CMP_CMP n) (s.fld (TMR_CMP_CMP n) + s.fld (TMR_PER_PER n)) else s
    else s
  let s := if ovf then s.setFld (TMR_STAT_OVF n) 1 else s
  if (hit && s.flag (TMR_CTL_EV_MATCH n)) || (ovf && s.flag (TMR_CTL_EV_OVF n)) then
    s.fireEv { producer := 512 + n, payload := b2n hit + 2 * b2n ovf, hops := stGet 0 s.tmrHops n }
  else s

/-- The low word of a chain ticks (R363 to R369). -/
def chainTick (s : State) (low : Nat) : State :=
  let chain := chainOf s low
  let ticks := chainTicks s chain
  let s1 := ticks.foldl (fun s e => s.setFld (TMR_CNT_COUNT e.1) (tmrCount s e.1 + 1)) s
  let hits := ticks.map fun e =>
    (e.1, tmrCount s1 e.1 == s1.fld (TMR_CMP_CMP e.1) && matchHigh s1 (chain.filter (e.1 ≤ ·)), e.2)
  hits.foldl (fun s e => tickResult s e.1 e.2.1 e.2.2) s1

/-- One CLK_PER edge of timer n's prescaler; the chain ticks where it wraps (R363). -/
def timerEdge (s : State) (n : Nat) : State :=
  if tmrSrc s n || !tmrRun s n then s else
  let c := stGet 0 s.tmrPresc n + 1
  if c < 2 ^ s.fld (TMR_CTL_PRESC n) then { s with tmrPresc := stSet 0 s.tmrPresc n c }
  else chainTick { s with tmrPresc := stSet 0 s.tmrPresc n 0 } n

/-- The writes of compares have landed (R367, log entry 31). -/
def cmpLanded (s : State) : State := { s with evt := { s.evt with cmpNew := 0 } }

/-- A write of TMR_CMPn lands on the next edge (R366, R367, log entry 31). -/
def timerCmpWrite (s : State) (n w : Nat) : State :=
  { s with evt := { s.evt with cmpNew := s.evt.cmpNew ||| 2 ^ n } }.setFld (TMR_CMP_CMP n) w

/-- One CLK_PER edge of all timers. -/
def timersEdge (s : State) : State := cmpLanded (forBelow 32 timerEdge s)

/-- Timer n starts from stopped: its prescaler is cleared (R363). -/
def timerRun (s : State) (n hops : Nat) : State :=
  if tmrRun s n then s
  else { s with tmrPresc := stSet 0 s.tmrPresc n 0
                tmrHops := stSet 0 s.tmrHops n hops }.setFld (TMR_CTL_RUN n) 1

/-- Members of a group (R370). -/
def groupMembers (s : State) (g : Nat) : List Nat :=
  (List.range 32).filter fun n => s.flag (TMR_CTL_GRP_EN n) && s.fld (TMR_CTL_GROUP n) == g

/-- A group load: every member takes its phase, a clear prescaler and RUN (R370). -/
def groupLoad (s : State) (g hops : Nat) : State :=
  (groupMembers s g).foldl (fun s n =>
    { s with tmrPresc := stSet 0 s.tmrPresc n 0
             tmrHops := stSet 0 s.tmrHops n hops }.setFlds
      [(TMR_CNT_COUNT n, s.fld (TMR_PHASE_PHASE n)), (TMR_CTL_RUN n, 1)]) s

/-- A group stop: RUN clears on every member (R370). -/
def groupStop (s : State) (g : Nat) : State :=
  (groupMembers s g).foldl (fun s n => { s with tmrHops := stSet 0 s.tmrHops n 0 }.setFld (TMR_CTL_RUN n) 0) s

/-- A write of TMR_GRPCMD: loads and stops together, a stop winning for the same group (R370). -/
def groupCmd (s : State) (load stop : Nat) : State :=
  let s := forBelow 4 (fun s g => if bitOf load g && !bitOf stop g then groupLoad s g 0 else s) s
  forBelow 4 (fun s g => if bitOf stop g then groupStop s g else s) s

/-- The START task of timer n (R371). -/
def timerStartTask (s : State) (n hops : Nat) : State :=
  if s.flag (TMR_CTL_GRPLEAD n) && s.flag (TMR_CTL_GRP_EN n) then groupLoad s (s.fld (TMR_CTL_GROUP n)) hops
  else timerRun s n hops

/-- The STOP task of timer n (R371). -/
def timerStopTask (s : State) (n : Nat) : State := s.setFld (TMR_CTL_RUN n) 0

/-- The CAPTURE task of timer n: on the low word of a chain, of every timer of the chain (R371). -/
def timerCaptureTask (s : State) (n : Nat) : State :=
  (if tmrSrc s n then [n] else chainOf s n).foldl (fun s m =>
    s.setFlds [(TMR_CAP_CAP m, tmrCount s m), (TMR_STAT_CAPT m, 1)]) s

/-- A write of TMR_CTLn (R363, R369, R374): timer 0 keeps SRC 0, a start clears the prescaler, and LOWWORD follows SRC. -/
def timerCtlWrite (s : State) (n v : Nat) : State :=
  let was := tmrRun s n
  let v := (if n = 0 then v - 2 * bitsOf v 1 1 else v) % 2 ^ 14
  let s := s.setReg (TMR_CTL n) (BitVec.ofNat 32 v)
  let s := s.setFld (TMR_STAT_LOWWORD n) (b2n !(tmrSrc s n))
  let s := { s with tmrHops := stSet 0 s.tmrHops n 0 }
  if !was && tmrRun s n then { s with tmrPresc := stSet 0 s.tmrPresc n 0 } else s

/-- A write of TMR_CNTn, ignored while the timer runs (R365). -/
def timerCntWrite (s : State) (n v : Nat) : State := if tmrRun s n then s else s.setFld (TMR_CNT_COUNT n) v

/-- The key of a master's latch for timer n (R372). -/
def tmrLatch (master n : Nat) : Nat := 64 + 32 * master + n

/-- What master `m` reads from TMR_CNTn (R372): the low word of a longer chain returns the live count and latches the upper
words; an upper word returns the latch. -/
def timerCntRead (s : State) (m n : Nat) : Word × State :=
  if tmrSrc s n then (s.latch (tmrLatch m n), s)
  else (s.reg (TMR_CNT n), (chainUpper s 32 n).foldl (fun s k => s.setLatch (tmrLatch m k) (s.reg (TMR_CNT k))) s)

/-! ### Commands -/

/-- A tick of timer n's chain moves timer n onto its compare value (R366 to R369); without such a tick to come there is no
match. -/
def execTimerMatch (timer : Fin 32) (s : State) : Res :=
  let s := cmpLanded s
  let n : Nat := timer
  let low := chainLow s n
  match (chainTicks s (chainOf s low)).find? (·.1 = n) with
  | some _ =>
    if (tmrCount s n + 1) % 2 ^ 32 = s.fld (TMR_CMP_CMP n) then
      ok (chainTick { s with tmrPresc := stSet 0 s.tmrPresc low 0 } low) else ok s
  | none => ok s

/-- A tick of timer n's chain takes timer n from all ones to zero (R363, R364). -/
def execTimerOverflow (timer : Fin 32) (s : State) : Res :=
  let s := cmpLanded s
  let n : Nat := timer
  let low := chainLow s n
  match (chainTicks s (chainOf s low)).find? (·.1 = n) with
  | some (_, true) => ok (chainTick { s with tmrPresc := stSet 0 s.tmrPresc low 0 } low)
  | _ => ok s

/-- A write of TMR_GRPCMD.LOAD (R370). -/
def execGroupLoad (groups : Fin 16) (s : State) : Res := ok (groupCmd s groups 0)

/-- A write of TMR_GRPCMD.STOP (R370). -/
def execGroupStop (groups : Fin 16) (s : State) : Res := ok (groupCmd s 0 groups)

/-- A read of TMR_CNTn by a master (R372). -/
def execTimerChainRead (master : Master) (timer : Fin 32) (s : State) : Res :=
  let r := timerCntRead s master timer
  ok { r.2 with busData := r.1, busResult := .ok }

end Sys2Proof.Machine
end

