-- ==== Sys2Proof/Machine/Events.lean ====
section
/-! DEFINITION. Machine/Events.lean: the Tilth event fabric: channels, tasks, privileged tasks, relays and interrupt queues (R338 to
R351, R358). -/

namespace Sys2Proof.Machine

/-! ### Ownership (R345, R346) -/

/-- A master may make a write that affects channel c. -/
def chanMay (s : State) (m c : Nat) : Bool := m == 13 || m == chanOwner s c

/-- A master may route to channel c or trigger it. -/
def chanRoute (s : State) (m c : Nat) : Bool := chanMay s m c && (masterSecure s m || !chanSecure s c)

/-! ### Channels (R338, R339, R342, R343) -/

/-- Events on the channels, with whether each is merged of several. -/
abbrev Channels := Store (Event × Bool)

/-- The channel that an event enters; none where its producer is not routed. -/
def channelOf (s : State) (e : Event) : Option Nat :=
  if !s.flag EVT_CTL_EN && !e.forced then none
  else match e.chan with
  | some c => some c
  | none => if e.producer < 800 && s.flag (EVT_PROD_EN e.producer) then some (s.fld (EVT_PROD_CH e.producer)) else none

/-- Two events that meet on one channel make one. -/
def eventMerge (a b : Event) : Event :=
  { (if b.producer < a.producer then b else a) with hops := max a.hops b.hops, async := a.async || b.async }

/-- An event enters its channel; one that has passed seven relays or timers is not emitted, and EVT_LOOP records it. -/
def eventEnter (x : Channels × State) (e : Event) : Channels × State :=
  let (l, s) := x
  match channelOf s e with
  | none => (l, s)
  | some c =>
    if 8 ≤ e.hops then (l, (s.setFlds [(EVT_LOOP_CHANNEL, c), (EVT_LOOP_FLAG, 1)]).bump EVT_LOOP_COUNT)
    else match l.find? (·.1 = c) with
      | some (_, a, _) => (stInsert (eventMerge a e, true) l c, s)
      | none => (stInsert (e, false) l c, s)

/-! ### Interrupt queues (R349 to R351) -/

/-- The record of a batch of source c for ring r. -/
def irqRecord (s : State) (c r : Nat) (b : Batch) : List Byte :=
  leBytes 1 c ++ leBytes 1 (b2n b.async + 2 * b2n (bitOf s.evt.lost r) + 4 * b2n (chanSecure s c)) ++ leBytes 2 b.count
    ++ leBytes 6 (b.first % 2 ^ 48) ++ leBytes 2 (b.producer % 1024 + 1024 * (b.hops % 16)) ++ leBytes 4 b.payload

/-- A record for ring r: it is written at HEAD, or dropped where the ring is full. -/
def ringRecord (s : State) (r : Nat) (rec_ : List Byte) : State :=
  let size := s.fld (IRQ_RSIZE_SIZE r)
  let head := s.fld (IRQ_RHEAD_HEAD r)
  let waiting := if r = 12 then (s.held.filter (·.kind = 2)).length else 0
  if size ≤ ringUsed size head (s.fld (IRQ_RTAIL_TAIL r)) + waiting + 1 then
    ({ s with evt := { s.evt with lost := s.evt.lost ||| 2 ^ r } }.setFld (IRQ_RSTAT_OVF r) 1).bump (IRQ_RSTAT_DROP r)
  else
    let s := { s with evt := { s.evt with lost := s.evt.lost &&& (16383 - 2 ^ r) } }
    if r = 12 then hostDue s { kind := 2, ring := 12, data := rec_ }
    else (s.wrN (s.fld (IRQ_RBASE_BASE r) + 16 * head) rec_).setFld (IRQ_RHEAD_HEAD r) (ringNext size head)

/-- A ring's receiver may have the records of a channel. -/
def ringAdmits (s : State) (c r : Nat) : Bool := !chanSecure s c || r == 13 || (decide (r < 12) && masterSecure s r)

/-- A batch is flushed: one record to each destination ring. -/
def irqFlush (s : State) (c : Nat) : State :=
  let b := stGet {} s.evt.batches c
  let dest := s.fld (IRQ_SRC_DEST c)
  let s := { s with evt := { s.evt with batches := stSet {} s.evt.batches c {} } }
  forBelow 14 (fun s r => if bitOf dest r && ringAdmits s c r then ringRecord s r (irqRecord s c r b) else s) s

/-- An event reaches its interrupt source. -/
def irqEvent (s : State) (c : Nat) (e : Event) : State :=
  if s.fld (IRQ_SRC_DEST c) = 0 then s else
  let b := stGet {} s.evt.batches c
  let b := if b.count = 0 then { b with first := s.venue, due := s.uptime + 16000 * s.fld (IRQ_SRC_TIME c) } else b
  let b := { b with count := min (b.count + 1) 65535, producer := e.producer, hops := e.hops, payload := e.payload
                    async := b.async || e.async }
  let s := { s with evt := { s.evt with batches := stSet {} s.evt.batches c b } }
  if max (s.fld (IRQ_SRC_COUNT_MAX c)) 1 ≤ b.count then irqFlush s c else s

/-! ### Tasks (R340, R342, R344, R371) -/

/-- An activation is counted; counters stop with EVT_CTL.EN = 0 (R358). -/
def actCount (s : State) (act merged : Field) (m : Bool) : State :=
  if !s.flag EVT_CTL_EN then s else
  let s := s.bump act
  if m then s.bump merged else s

/-- A relay is activated. -/
def relayTake (s : State) (k : Nat) (e : Event) : State :=
  match s.evt.relays.find? (·.1 = k) with
  | some _ => if s.flag EVT_CTL_EN then s.bump (EVT_TCNT_MERGED (368 + k)) else s
  | none =>
    { s with evt := { s.evt with relays := stInsert { payload := e.payload, hops := e.hops + 1
                                                      due := s.uptime + (20 * s.fld (EVT_RELAY_DELAY k) + 2) / 3 } s.evt.relays k } }

/-- Every signature is invalidated (R131). -/
def sigAllNow (s : State) : State := { sigSweep s (fun _ _ => true) with sigAll := false }

/-- The event that activates task input c, with the channel and whether it is merged. -/
def taskEvent (s : State) (l : Channels) (c : Nat) : Option (Nat × Event × Bool) :=
  if s.flag (EVT_TASK_EN c) then (l.find? (·.1 = s.fld (EVT_TASK_CH c))).map fun x => (x.1, x.2.1, x.2.2) else none

/-- What task input c does, as though the channel's owner had written the register; the timer tasks come apart. -/
def taskAct (s : State) (c owner : Nat) (e : Event) : State :=
  if 96 ≤ c && c < 144 then (if c - 96 < s.part.ports then calRequest s (c - 96) 15 else s)
  else if c = 144 then importStart s
  else if c = 145 then sigAllNow s
  else if c = 146 then spareRecal s
  else if c = 147 then (if owner = 12 || owner = 0 || owner = 13 then loadStart s (s.fld CFG_LOADCTL_SLOT) else s)
  else if 368 ≤ c && c < 384 then relayTake s (c - 368) e
  else s

/-- The timer tasks of one edge: a STOP overrides a START of the same timer, and captures take the counts after it (R371). -/
def timerTasks (s : State) (l : Channels) : State :=
  let on (c : Nat) : Bool := (taskEvent s l c).isSome
  let starts := (List.range 32).filterMap fun n =>
    match taskEvent s l (3 * n) with | some x => if on (3 * n + 1) then none else some (n, x.2.1.hops + 1) | none => none
  let stops := (List.range 32).filter fun n => on (3 * n + 1)
  let caps := (List.range 32).filter fun n => on (3 * n + 2)
  let s := starts.foldl (fun s x => timerStartTask s x.1 x.2) s
  caps.foldl timerCaptureTask (stops.foldl timerStopTask s)

/-- All task inputs of one edge. -/
def tasksRun (s : State) (l : Channels) : State :=
  let acts := (List.range 400).filterMap fun c => (taskEvent s l c).map fun x => (c, x)
  let s := acts.foldl (fun s a => actCount s (EVT_TCNT_ACT a.1) (EVT_TCNT_MERGED a.1) a.2.2.2) s
  acts.foldl (fun s a => taskAct s a.1 (chanOwner s a.2.1) a.2.2.1) (timerTasks s l)

/-! ### Privileged tasks (R341) -/

/-- The channels of an edge that reach privileged task k, with whether each is merged. -/
def privHits (s : State) (l : Channels) (k : Nat) : List Bool :=
  (l.filter fun x => bitOf (matrixRead s k (x.1 / 32)) (x.1 % 32)).map (·.2.2)

/-- Engines 1 to 11 of a mask are stopped. -/
def enginesStopTask (s : State) (mask : Nat) : State :=
  forBelow 12 (fun s n =>
    if n ≠ 0 && bitOf mask n then engCtlWrite s n (4 * s.fld (SYS_ENGCTL_MODE n) + 8 * s.fld (SYS_ENGCTL_WORLD n)) else s) s

def privAct (s : State) (k : Nat) : State :=
  match k with
  | 0 => { s with killUntil := max s.killUntil (s.venue + 1000 * s.fld EVT_KILLHOLD_US) }
  | 1 =>
    let (v, s) := s.draw
    edgeSample s 2 { node := v % 2 = 1 } s.venue
  | 2 => swapArm s
  | 3 => zeroize s
  | 4 => commitWrite s (s.fld EVT_PCFG_COMMIT) 0
  | 5 => resetTrigger s 5
  | 6 => reloadRequest s
  | 7 => enginesStopTask s (s.fld EVT_PCFG_ENGINES)
  | _ => s

/-- All privileged tasks of one edge; one that several channels reach activates once. -/
def privRun (s : State) (l : Channels) : State :=
  forBelow 16 (fun s k =>
    match privHits s l k with
    | [] => s
    | m :: rest => privAct (actCount s (EVT_PCNT_ACT k) (EVT_PCNT_MERGED k) (m || !rest.isEmpty)) k) s

/-! ### One edge -/

/-- Everything that was fired enters its channels and reaches what they lead to (R338). -/
def distribute (s : State) : State :=
  let (l, s) := s.events.foldl eventEnter ([], { s with events := [] })
  let s := l.foldl (fun s x =>
    irqEvent (s.setFld (EVT_FLAG_FLAG (x.1 / 32)) (s.fld (EVT_FLAG_FLAG (x.1 / 32)) ||| 2 ^ (x.1 % 32))) x.1 x.2.1) s
  privRun (tasksRun s l) l

/-- One CLK_PER edge of the fabric: latched edges are released, and what was fired is distributed (R338, R348). -/
def eventsEdge (s : State) : State := distribute (latchRelease s)

/-- A master writes EVT_SWTRIG (R345, R346, R359). -/
def softTrigger (s : State) (m c payload : Nat) : State :=
  if chanRoute s m c then { s with busResult := .ok }.fireEv { producer := 0x3FF, payload := payload, chan := some c } else s.refuse

/-! ### Commands -/

/-- A CLK_PER edge of the fabric. -/
def execEventFire (s : State) : Res := ok (if mainOn s then eventsEdge s else s)

/-- A relay's delay is over, and its producer fires (R343, R344). -/
def execRelayFire (relay : Fin 16) (s : State) : Res :=
  match s.evt.relays.find? (·.1 = relay.val) with
  | none => ok s
  | some (_, w) =>
    match s.reachUp w.due with
    | none => ok s
    | some s =>
      ok ({ s with evt := { s.evt with relays := stErase s.evt.relays relay } }.fireEv
        { producer := 416 + relay.val, payload := w.payload, hops := w.hops, forced := true })

/-- A write of EVT_SWTRIG by a master. -/
def execSoftwareTrigger (master : Master) (channel : Byte) (payload : BitVec 16) (s : State) : Res :=
  ok (softTrigger s master channel.toNat payload.toNat)

/-- The deadline of a source's batch passes (R349). -/
def execIrqCoalesceTimeout (source : Fin 256) (s : State) : Res :=
  let b := stGet {} s.evt.batches source
  if b.count = 0 || s.fld (IRQ_SRC_TIME source) = 0 then ok s else
  match s.reachUp b.due with
  | none => ok s
  | some s => ok (irqFlush s source)

end Sys2Proof.Machine
end

