-- ==== Sys2Proof/Machine/Reference.lean ====
section
/-! DEFINITION. Machine/Reference.lean: the reference, its loss and its return (R30 to R35). -/

namespace Sys2Proof.Machine

/-- REF_VALID falls, and the loss is recorded (R31 step 1, R35). -/
def lossRecord (s : State) : State :=
  ((s.setFlds [(SYS_CLKSTAT_REF_VALID, 0), (SYS_REFLOST_LOST, 1), (SYS_REFLOST_ACTIVE, 1)]).bump SYS_REFLOST_COUNT).fire 0 0

/-- Step 1 of R31: the loss is recorded, and the root PLL holds over. -/
def lossDeclared (s : State) : State :=
  lossRecord ({ s with ref := { s.ref with stage := 1, qual := false, ret := false } }.setFld SYS_CLKSTAT_ROOT_LOCK 0)

/-- Step 2 of R31: every port drops its PA, is muted and enters STANDBY; frames in flight are lost; every detection bin is deaf. -/
def airDown (s : State) : State :=
  let s := (lanesOut s).foldl (fun s n => if s.txLanes.any (·.1 = n) then airLost s 8 n else s) s
  let s := framesLost s [1, 2, 3] (portsOn s)
  let s := (allPorts s).foldl portToStandby s
  let s := forBelow 3 (fun s k => s.setFld (SYN_STAT_LOCK k) 0) s
  let s := { deafSettle s with blanks := (deafSettle s).blanks.filter fun b => !(b.stop = 0 && b.centre = 1) }
  let s := forBelow 2 (fun s band => addBlank s { band := band, scope := 0, centre := 1, start := s.venue, stop := 0 }) s
  coxReqRefresh (coxActRefresh (synClkstat (blankSettle s)))

/-- The reference monitor declares the selected reference lost (R31 steps 1 and 2).  While the device already runs on the fallback,
the loss is recorded and the qualification broken; its ports are down and its root PLL is on the fallback already (log entry 35). -/
def execRefLost (s : State) : Res :=
  if !s.flag SYS_CLKSTAT_REF_VALID then ok s
  else if s.flag SYS_CLKSTAT_ON_FALLBACK && !s.ref.ret then
    ok (lossRecord { s with ref := { s.ref with qual := false } })
  else ok (airDown (lossDeclared s))

/-- The root PLL input switches to the fallback oscillator (R31 step 3). -/
def execFallbackSwitch (s : State) : Res :=
  ok (if s.ref.stage = 1 then { s with ref := { s.ref with stage := 2 } } else s)

/-- A stack member without its leader goes its own way (R31 step 5, R264 step 1). -/
def stackLeave (s : State) : State :=
  if inStack s && !isLeader s && s.flag STK_STAT_LEADER_OK then
    let s := { s with stk := { s.stk with endJoint := true, rejoinPeriods := 0, records := [] } }
    ((s.setFlds [(STK_STAT_LEADER_OK, 0), (STK_STAT_LEADERLOST, 1)]).bump STK_LEADERLOSTS_COUNT).fire 352 0
  else s

/-- The root PLL is locked to the fallback (R31 steps 4 and 5): the SerDes lose lock, and the device leaves its stack into HOLDOVER. -/
def execFallbackLock (s : State) : Res :=
  if s.ref.stage ≠ 2 then ok s else
  let s := { s with ref := { s.ref with stage := 0 } }.setFlds [(SYS_CLKSTAT_ROOT_LOCK, 1), (SYS_CLKSTAT_ON_FALLBACK, 1),
    (STK_STAT_RING0_UP, 0), (STK_STAT_RING1_UP, 0), (VFB_STAT_PORT0_UP, 0), (VFB_STAT_PORT1_UP, 0)]
  let s := stackLeave s
  ok (if vfbState s = 2 || vfbState s = 6 then vfbEnter s 3 else s)

/-- On the fallback, the monitor finds the selected reference present and within limits (R32). -/
def execRefValidRise (s : State) : Res :=
  ok (if s.flag SYS_CLKSTAT_ON_FALLBACK then { s with ref := { s.ref with qual := s.ref.qual && s.flag SYS_CLKSTAT_REF_VALID } }.setFld SYS_CLKSTAT_REF_VALID 1 else s)

/-- REF_VALID has been 1 for 10 ms without a break (R32). -/
def execRefValidQualified (s : State) : Res :=
  ok (if s.flag SYS_CLKSTAT_ON_FALLBACK && s.flag SYS_CLKSTAT_REF_VALID then { s with ref := { s.ref with qual := true } } else s)

/-- At a period start: the selected source takes effect, and a return begins, by itself or as requested; a request that cannot start is
discarded (R30, R32, R33).  A REF_SRC that a swap sets on this boundary takes effect on it (DESIGN CHOICE, log entry 157). -/
def refBoundary (s : State) : State :=
  let s := s.setFld SYS_CLKSTAT_REF_SRC_ACT (s.fld SYS_CLKCTL_REF_SRC)
  let go := if s.flag SYS_CLKCTL_AUTO_RETURN then s.ref.qual else s.flag SYS_CLKCTL_RETURN
  let s := s.setFld SYS_CLKCTL_RETURN 0
  if go && s.flag SYS_CLKSTAT_REF_VALID && s.flag SYS_CLKSTAT_ON_FALLBACK && !s.ref.ret then
    { s with ref := { s.ref with ret := true } }.setFld SYS_CLKSTAT_ROOT_LOCK 0
  else s

/-- The root PLL locks to the returned reference, the synthesizers relock with stored calibration, and the ports head for their held
states (R32 steps 2 to 4). -/
def execRootLockReturn (s : State) : Res :=
  if !s.ref.ret then ok s else
  let s := { s with ref := { s.ref with ret := false, qual := false } }.setFlds
    [(SYS_CLKSTAT_ROOT_LOCK, 1), (SYS_CLKSTAT_ON_FALLBACK, 0), (SYS_REFLOST_ACTIVE, 0)]
  let s := forBelow 3 (fun s k =>
    if s.fld (SYN_STAT_ASSIGN k) ≠ 0 && !s.flag (SYN_STAT_FAILED k) && !(s.syn k).calibrating then s.setFld (SYN_STAT_LOCK k) 1 else s) s
  let s := (portsOn s).foldl (fun s p => portAim s p (portWant s p)) (synRefresh s)
  ok (refHears s)

/-- A write of SYS_CLKCTL.REF_SRC (R33): 0b11, and 0b10 on the THV4824, is ignored; it takes effect at the next period start. -/
def refSrcWrite (s : State) (v : Nat) : State :=
  if v = 3 || (v = 2 && s.part.fabricPorts < 2) then s else s.setFld SYS_CLKCTL_REF_SRC v

def execRefSrcSelect (source : Fin 4) (s : State) : Res := ok (refSrcWrite s source)

/-- A write of SYS_CLKCTL.RETURN (R32, R33). -/
def execReturnRequest (s : State) : Res := ok (s.setFld SYS_CLKCTL_RETURN 1)

end Sys2Proof.Machine
end

