-- ==== Sys2Proof/Machine/Epoch.lean ====
section
/-! DEFINITION. Machine/Epoch.lean: the epoch boundary (R36, R39, R40, R69, R70, R219). -/

namespace Sys2Proof.Machine

/-- The working deaf map of the ended period is copied and cleared; TXS_DEAF, producer 288, fires where a bin was deaf (R219). -/
def deafCopy (s : State) : State :=
  let word (w : Nat) : Nat := (List.range 32).foldl (fun v i => v + 2 ^ i * b2n (stGet false s.deafMap (32 * w + i))) 0
  let any := s.deafMap.any (·.2)
  let s := forBelow 11 (fun s w => s.setFld (TXS_DEAFMAP_MAP w) (word w)) s
  let s := { s with deafMap := [] }
  if any then s.fire 288 0 else s

/-- A request whose boundary has come ends: the planes become active, or it fails as its cut found (R69, R71).  Events fired before are
delivered under the old routes (R358). -/
def swapApply (s : State) (q : SwapReq) : State :=
  let mask := q.mask % 16384 / 2 * 2
  if s.swapCut = 1 then
    let s := if bitOf mask 9 || bitOf mask 10 then distribute s else s
    (swapEnd (bsvnRaise (planesApply s mask true)) q (if q.late then 3 else 2) 0).fire 33 mask
  else (swapEnd (disarmPlanes s mask) q s.swapCut s.swapFail).fire 34 s.swapCut

/-- The slot of a PHY profile that a shadow belongs to. -/
def phySlotOf (a : Nat) : Option Nat := if 0x20078000 ≤ a ∧ a < 0x20078100 then some ((a - 0x20078000) / 16) else none

/-- A committed word takes effect, unless it belongs to a profile slot that a plane swapped in on this edge does not define: there
it is discarded, the word in force stays and DISCARD is set (R40, log entry 26). -/
def wordApply (phy : Bool) (s : State) (e : Nat × Word) : State :=
  let drop := match phySlotOf e.1 with | some n => phy && !pwValid (profWords s n) | none => false
  if !drop then s.setReg e.1 e.2
  else s.setFld SYS_COMMIT_DISCARD (s.fld SYS_COMMIT_DISCARD ||| 16)

/-- The captured shadows become active together, and their ARM bits clear (R39). -/
def commitApply (s : State) (phy : Bool) : State :=
  let c := s.cut
  let s := c.words.foldl (wordApply phy) s
  let s := if bitOf c.mask 2 then (allPorts s).foldl gainHold s else s
  { s with cut := {} }.setFld SYS_COMMIT_ARM (s.fld SYS_COMMIT_ARM &&& (255 - c.mask))

/-- Swap and commit on one edge, the swap first (R40), and what a waiting order then becomes (R70). -/
def boundaryApply (s : State) : State :=
  let s0 := s
  let due := match s.swapReq with | some q => s.swapCut != 0 && decide (q.target ≤ s.epoch) | none => false
  let phy := match s.swapReq with | some q => due && s.swapCut == 1 && bitOf q.mask 6 | none => false
  let s := match s.swapReq with | some q => if due then swapApply s q else s | none => s
  let s := commitApply s phy
  let s := if s.ref.startCal then s else retuneWaiting ((retuneGroups s0 s).foldl retuneDue s)
  match s.swapReq, s.swapWait with
  | none, some w => orderHold { s with swapWait := none } w
  | _, _ => s

/-- Detection stops at the period start after a request for QUIET, and resumes at the first one in ACTIVE (R397). -/
def detBoundary (s : State) : State :=
  if s.fld PWR_STATE_CUR = 2 then { s with detOff := true }
  else if s.fld PWR_STATE_CUR = 0 then { s with detOff := false }
  else s

/-- What the start of a period brings once the new values are in force. -/
def periodStart (s : State) (margin : Int) : State :=
  let s := synBoundary (calBoundary (refBoundary s))
  let s := vfbStack (stackBoundary s)
  let s := detBoundary (avsBoundary s margin)
  offerAll (blankSettle s)

/-- The armed trigger at a boundary: one due by then is on time; one that a step of venue time at this boundary crosses is late
(R47, R273, R489). -/
def boundarySample (s : State) : State :=
  let b := s.nextBoundary
  let c := boundaryMeets s false
  let crossed := match s.vfb.step with
    | some (e, at_) => decide (at_ + 1000000 ≤ (s.passTo b).uptime) && decide ((s.snp.trigAt : Int) ≤ b + e)
    | none => false
  if s.flag SNP_STAT_ARMED && decide (b < s.snp.trigAt) && crossed then coreSample (s.setFld SNP_STAT_ARMED 0) 4 true c b
  else snapDue s b false c

/-- Venue time reaches the next boundary; `margin` is the critical-path margin in ps that the AVS loop reads.  A core sample armed for
this instant or before it holds the values of the ended period (R47). -/
def epochBoundary (s : State) (margin : Int) : State :=
  let s := if s.cut.done then s else stagingCut s
  let s := boundarySample s
  let s := deafCopy (deafSettle (s.passTo s.nextBoundary))
  periodStart (boundaryApply s) margin

/-- An epoch boundary, once venue time runs. -/
def execEpochBoundary (margin : Int) (s : State) : Res := ok (if mainOn s then epochBoundary s margin else s)

end Sys2Proof.Machine
end

