-- ==== Sys2Proof/Machine/FabricIn.lean ====
section
/-! DEFINITION. Machine/FabricIn.lean: fabric frames and FABRIC cells that arrive, the send ring, and the step of venue time
(R265 to R268, R273, R278). -/

namespace Sys2Proof.Machine

/-! ### Records that arrive (R268) -/

/-- A record from a device, or from 4096 + a stack member, is handed to its block. -/
def recordIn (s : State) (sender : Nat) (inCell : Bool) (r : List Byte) : State :=
  let body := r.drop 4
  match octAt r 0 with
  | 1 => beaconIn s body
  | 2 => if inCell then orderArrives s body else s.bump VFB_BADFRM_COUNT
  | 3 => s
  | 4 => floodRecord s sender body
  | 9 => mailboxRecord s sender body
  | 10 => snapRecord (snapForward s (leAt body 0 8)) (leAt body 0 8)
  | t => if (5 ≤ t && t ≤ 8) || 128 ≤ t then ringPut s sender r else s.bump VFB_BADFRM_COUNT

/-- The octets of the record that stands first. -/
def recordLength (l : List Byte) : Nat := 4 + 4 * octAt l 1

/-- `n` records that stand one after the other; none where they overrun the octets. -/
def splitRecords : Nat → List Byte → Option (List (List Byte))
  | 0, _ => some []
  | n + 1, l =>
    if l.length < 4 || l.length < recordLength l then none
    else match splitRecords n (l.drop (recordLength l)) with
      | some rs => some (l.take (recordLength l) :: rs)
      | none => none

/-- A stack leader passes a record for all devices on to the members without a fabric port (R265); it forwards a core sample
by itself (R489). -/
def recordPass (s : State) (dst : Nat) (r : List Byte) : State :=
  if isLeader s && dst = 0xFFFF && octAt r 0 ≠ 10 && r.length ≤ 56 then fabricCell s 15 dst r else s

/-- A fabric frame from its header on (R266, R267). -/
def frameIn (s : State) (p : List Byte) : State :=
  let src := leAt p 6 2
  let dst := leAt p 8 2
  let seq := leAt p 10 4
  let seen := stGet [] s.fseqSeen src
  match splitRecords (octAt p 14) (p.drop 16) with
  | none => s.bump VFB_BADFRM_COUNT
  | some rs =>
    if p.length < 16 || octAt p 0 ≠ 1 || !inVenue s || leAt p 2 4 ≠ venueId s || (dst ≠ myIndex s && dst ≠ 0xFFFF) then
      s.bump VFB_BADFRM_COUNT
    else if seen.contains seq then s.bump VFB_DUPDROP_COUNT
    else
      let s := { s with fseqSeen := stSet [] s.fseqSeen src ((seq :: seen).take 64) }.bump VFB_RXFRM_COUNT
      rs.foldl (fun s r => recordIn (recordPass s dst r) src false r) s

/-- A leader sends a member's record to a device: the parts of a message go together in one frame, and the first waits for the other
(R356). -/
def leaderForward (s : State) (src dst : Nat) (r : List Byte) : State :=
  if octAt r 0 ≠ 9 || octAt r 4 ≠ 0 then frameSend s dst 1 r else
  match s.vfb.parts.find? (·.1 = src) with
  | some (_, d, p) =>
    if d = dst && leAt p 8 4 = leAt r 8 4 && octAt p 5 % 2 ≠ octAt r 5 % 2 then
      frameSend { s with vfb := { s.vfb with parts := stErase s.vfb.parts src } } dst 2 (if octAt p 5 % 2 = 0 then p ++ r else r ++ p)
    else { s with vfb := { s.vfb with parts := stInsert (dst, r) s.vfb.parts src } }
  | none => { s with vfb := { s.vfb with parts := stInsert (dst, r) s.vfb.parts src } }

/-- A FABRIC cell for this member (R265): one marked 0xFFFE stays within the stack; another one goes from a member without a
fabric port through the leader to the fabric, or the other way. -/
def fabricCellIn (s : State) (src dst : Nat) (r : List Byte) : State :=
  if dst = 0xFFFE then recordIn s (4096 + src) true r
  else if isLeader s then
    let s := if dst = myIndex s then s else leaderForward s src dst r
    if dst = 0xFFFF || dst = myIndex s then recordIn s (4096 + src) true r else s
  else if s.payloadByte 13 10 = 0 || octAt r 0 = 10 then recordIn s (4096 + src) true r
  else s

/-! ### The send ring (R278) -/

/-- Entries of the send ring are sent, at most `n`. -/
def sendEntries : Nat → State → State
  | 0, s => s
  | n + 1, s =>
    let size := s.fld VFB_SQSIZE_SIZE
    let tail := s.fld VFB_SQTAIL_TAIL
    if size = 0 || tail = s.fld VFB_SQHEAD_HEAD then s else
    let e := s.rdN (s.fld VFB_SQBASE_BASE + 64 * tail) 64
    let r := (e.drop 12).take (min 52 (recordLength (e.drop 12)))
    sendEntries n (recordSend (s.setFld VFB_SQTAIL_TAIL (ringNext size tail)) (leAt e 0 2) r)

/-- A write of VFB_SQHEAD: one beyond the ring is ignored. -/
def sqHeadWrite (s : State) (head : Nat) : State :=
  if head < s.fld VFB_SQSIZE_SIZE then sendEntries 4096 (s.setFld VFB_SQHEAD_HEAD head) else s

/-! ### Commands -/

/-- A cell of TYPE 7 arrives on the ring; one whose CRC fails or whose TYPE is none is discarded (R265). -/
def execFabricCellReceived (cell : RingCell) (s : State) : Res :=
  let h := leAt cell.octets 0 2
  let src := bitsOf h 6 4
  let dst := bitsOf h 10 7
  if !inStack s then ok s
  else if cell.octets.length ≠ 64 || leAt cell.octets 2 2 ≠ crcMsb 16 0x1021 0xFFFF (octNats (cell.octets.drop 4)) || 8 ≤ h % 16 then
    ok (s.bump STK_CELLERR_COUNT)
  else if h % 16 ≠ 7 then ok s
  else
    let (s, new) := cellTake s cell.port 7 src dst (cell.octets.drop 4)
    if new && (dst = stkMember s || dst = 15) then
      ok (fabricCellIn s src (leAt cell.octets 4 2) ((cell.octets.drop 8).take (recordLength (cell.octets.drop 8))))
    else ok s

/-- A fabric frame arrives on a port that is enabled and up; `payload` begins with the fabric header (R266, R267). -/
def execFabricFrameReceived (port : Fin 2) (payload : List Byte) (s : State) : Res :=
  if (fabricUp s).contains port.val then ok (frameIn s payload) else ok s

/-- An accepted write of VFB_SQHEAD (R278). -/
def execSendRingEntry (head : Fin 4096) (s : State) : Res := ok (sqHeadWrite s head)

/-- The master enters MASTER at the next beacon time; one that was never locked sets its venue time there (R272, R273). -/
def masterBegin (s : State) : State :=
  let t := beaconTime s.venue
  if s.nextBoundary ≤ t then s else
  let s := vfbEnter (s.passTo t) 4
  if s.vfb.wasLocked then s
  else if s.flag RTC_STAT_OSF then s.setFld VFB_STAT_TIME_UNSET 1
  else
    let e : Int := rtcSecs s * 1000000000 - s.venue
    let s := { shiftAll s e with venue := rtcSecs s * 1000000000 % venueEnd, thirds := 0 }
    snapDue (if 1000 < e.natAbs then learnedClear s else s) s.venue true {}

/-- The designated master, 1 s without a beacon, becomes MASTER at the next beacon time (R272); one that has locked to an acting backup
begins its own beacons then (R274). -/
def execMasterTakeover (s : State) : Res :=
  if myIndex s ≠ masterIndex s then ok s
  else if vfbState s = 2 then ok (masterBegin s)
  else if !(vfbState s = 1 || vfbState s = 3) then ok s else
  match s.reachUp (max s.vfb.acquireAt (s.vfb.beaconAt - 1) + 1000000000) with
  | none => ok s
  | some s => ok (masterBegin s)

/-- The boundary at which a measured step applies, at least 1 ms after its measurement (R273); a core sample whose time the
step crosses is taken late (R489). -/
def execVenueTimeStep (s : State) : Res :=
  match s.vfb.step with
  | none => ok s
  | some (e, at_) =>
    if s.venue % periodNs ≠ 0 || s.uptime < at_ + 1000000 then ok s
    else
      let s := venueStep s e
      ok (snapDue s s.venue true {})

end Sys2Proof.Machine
end

