-- ==== Sys2Proof/Machine/Phy.lean ====
section
/-! DEFINITION. Machine/Phy.lean: the meanings of the receive-lane and lane-control commands (R141 to R174). -/

namespace Sys2Proof.Machine

/-- The sync field matches within the tolerance SYNC_TOL of the lane (R155): for O-QPSK `e0` and `e1` are the chip errors of its two
symbols, each with its own limit; otherwise their sum counts the bit errors of the field. -/
def syncFits (x : RxLane) (e0 e1 : Nat) : Bool :=
  let tol := x.sync % 8
  match pwMode x.words with
  | 0 => decide (e0 ≤ 4 + 2 * tol) && decide (e1 ≤ 4 + 2 * tol)
  | 1 => decide (e0 + e1 ≤ min tol 2)
  | _ => decide (e0 + e1 ≤ tol)

/-- The gain in half dB that the digital AGC holds from the sync word on, where the lane's level stands `level` half dB below full scale
before it: within 1 dB of the one that meets TARGET (R128, log entry 151). -/
def dagcGain (x : RxLane) (level : Int) (free : Nat) : Int := level - x.target + (free % 5 : Nat) - 2

/-- A lane in sync search matches its sync field with `e0` and `e1` errors, the last sync symbol ending at `t.time`; its digital AGC freezes
(R128, R155). -/
def execSyncMatch (lane : Fin 384) (e0 e1 : Nat) (t : SyncInstant) (s : State) : Res :=
  let n : Nat := lane
  match s.rxl n with
  | none => ok s
  | some x =>
    if rxState s n = 1 && syncFits x e0 e1 then
      let (r, s) := (s.advance t.time).draw
      let s := s.setRxl n { x with syncTime := t.time, gain := some (dagcGain x t.level r) }
      ok ((s.setFlds [(PHY_RXSTAT_STATE n, 2), (PHY_RXSTAT_SYNC_ERR n, min (e0 + e1) 7)]).bump (PHY_CNT0_SYNCOK x.det.prof))
    else ok s

/-- The sync timeout of a lane, in symbols after the end of its detection window (R156). -/
def syncTimeout (x : RxLane) : Nat :=
  let v := bitsOf x.sync 15 4
  if v = 0 then preSymbols x.words - pwDetWin x.words + 2 * syncSymbols x.words + 8 else v

/-- A lane finds no sync match in time and is released (R156). -/
def execSyncTimeout (lane : Fin 384) (s : State) : Res :=
  let n : Nat := lane
  match s.rxl n with
  | none => ok s
  | some x =>
    if rxState s n = 1 then
      let s := s.advance (x.det.start + detWinNs x.words + (syncTimeout x * symNs3 x.words + 2) / 3)
      ok (laneEndEarly (s.bump (PHY_CNT0_SYNCTO x.det.prof)) n)
    else ok s

/-- The frame header that a lane's de-whitened octets give: the counter it fails in, or PSDU length, 4-octet FCS, and whether the PSDU is
whitened.  O-QPSK and SUN-FSK headers are checked under R146 and R147, TLP ones under R148 and R149.  SUN-FSK's 16 header bits are taken
first bit first (log entry 14). -/
def headerOf (x : RxLane) (o : List Byte) : Except (Nat → Field) (Nat × Bool × Bool) :=
  let maxLen := pwMaxLen x.words
  match pwMode x.words with
  | 0 =>
    let len := octAt o 0 % 128
    if len = 0 || maxLen < len then .error PHY_CNT1_LENERR else .ok (len, false, false)
  | 1 =>
    let v := 256 * octAt o 0 + octAt o 1
    let len := v % 2048
    let fcs4 := !bitOf v 12
    if bitOf v 15 then .error PHY_CNT2_MSDROP
    else if len = 0 || maxLen < len || len < fcsLen fcs4 then .error PHY_CNT1_LENERR else .ok (len, fcs4, bitOf v 11)
  | _ =>
    let v := leAt o 0 2
    let len := v % 2048
    let fcs4 := bitOf v 11
    if crcMsb 8 0x07 0xFF [octAt o 0, octAt o 1] ≠ octAt o 2 || bitsOf v 15 13 ≠ 0 then .error PHY_CNT1_HDRERR
    else if len < fcsLen fcs4 + 1 || maxLen < len then .error PHY_CNT1_LENERR else .ok (len, fcs4, true)

/-- The octets of a mode's header. -/
def headerLen (w : List Nat) : Nat := match pwMode w with | 0 => 1 | 1 => 2 | _ => 3

/-- A lane's header octets, as they came off the air, are de-whitened in TLP and checked; a failing frame is dropped and its lane released (R146 to
R149).  The end of frame at the ball follows from the length (R151). -/
def execHeaderCheck (lane : Fin 384) (octets : List Byte) (s : State) : Res :=
  let n : Nat := lane
  match s.rxl n with
  | none => ok s
  | some x =>
    if rxState s n = 2 && !x.headed && headerLen x.words ≤ octets.length then
      match headerOf x (if pwMode x.words = 2 then octetsFrom (whiten 0 (bitsLsb octets)) else octets) with
      | .error cnt => ok (laneEndEarly (s.bump (cnt x.det.prof)) n)
      | .ok (len, fcs4, white) =>
        let stop := x.syncTime + (bodySymbols x.words len * symNs3 x.words + 2) / 3
        ok (s.setRxl n { x with headed := true, len := len, fcs4 := fcs4, white := white, endAt := stop })
    else ok s

/-- Two consecutive pilot fields of a TLP frame exceed LOCK_THR in 1/256 cycle: the frame ends and the lane is released
(R160). -/
def execPilotLockLoss (lane : Fin 384) (err0 err1 : Fin 256) (s : State) : Res :=
  let n : Nat := lane
  match s.rxl n with
  | none => ok s
  | some x =>
    let thr := bitsOf x.trk 23 16
    if rxState s n = 2 && pwMode x.words = 2 && bitOf x.trk 8 && thr < err0.val && thr < err1.val then
      ok (blankSettle (laneEndEarly (s.bump (PHY_CNT2_LOCKLOSS x.det.prof)) n))
    else ok s

/-- A write of PHY_RXCTLn.ABORT: a lane in sync search or receiving stops; a free one ignores it (R169). -/
def rxAbort (s : State) (n : Nat) : State :=
  match s.rxl n with
  | none => s
  | some x =>
    if rxState s n = 0 then s else blankSettle (laneEndEarly (s.bump (PHY_CNT3_ABORTED x.det.prof)) n)

def execRxLaneAbort (lane : Fin 384) (s : State) : Res := ok (rxAbort s lane)

/-- A write of PHY_TXCTLn.ABORT (R170): before step 1 the request ends ABORTED, or the acknowledgement is withdrawn; from
step 1 on the transmission goes out, and a strobe series ends after that strobe. -/
def txAbort (s : State) (n : Nat) : State :=
  let l := s.txl n
  if l.owner = 1 then
    if l.stage < 2 then frameGc ((ackWithdraw s l.ref).bump (PHY_CNT3_ABORTED l.prof)) l.ref else s
  else if l.owner = 2 then
    if l.stage < 2 then laneCut (s.bump (PHY_CNT3_ABORTED l.prof)) n 0x0C
    else match s.req l.ref with
      | some q =>
        if q.form = 2 && q.strobe < q.strobes then
          (s.setReq l.ref { q with strobes := q.strobe, endAs := 0x0C }).bump (PHY_CNT3_ABORTED l.prof)
        else s
      | none => s
  else s

def execTxLaneAbort (lane : Fin 96) (s : State) : Res := ok (txAbort s lane)

end Sys2Proof.Machine
end

