-- ==== Sys2Proof/Machine/Image.lean ====
section
/-! DEFINITION. Machine/Image.lean: firmware images, their authentication, and Sorrel's reload of the lead engine (R308, R309, R451 to
R454, R461, R464). -/

namespace Sys2Proof.Machine

/-- A section entry of a manifest (R452), with its hash. -/
structure ImgSec where
  kind : Nat
  engine : Nat
  off : Nat
  len : Nat
  entry : Nat
  hash : List Byte
  deriving DecidableEq, Repr

/-- A manifest (R451). -/
structure Manifest where
  raw : List Byte
  len : Nat
  isvn : Nat
  build : Nat
  signer : Nat
  secs : List ImgSec
  deriving DecidableEq, Repr

/-- The offset in flash of an image slot. -/
def imageBase (slot : Nat) : Nat := 128 * 65536 * slot

/-- Octets of a list are zero in a span. -/
def zeroSpan (l : List Byte) (o n : Nat) : Bool := ((l.drop o).take n).all (· == 0)

/-- The manifest that 1 024 octets spell. -/
def manifestOf (l : List Byte) : Manifest :=
  { raw := l, len := leOf l 8 4, isvn := leOf l 12 4, build := leOf l 16 8, signer := leOf l 24 4
    secs := (List.range (leOf l 6 1)).map fun i =>
      let o := 0x20 + 16 * i
      { kind := leOf l o 1, engine := leOf l (o + 1) 1, off := leOf l (o + 4) 4, len := leOf l (o + 8) 4, entry := leOf l (o + 12) 4
        hash := (l.drop (0x120 + 32 * i)).take 32 } }

/-- A section entry keeps R452. -/
def secGood (m : Manifest) (x : ImgSec) : Bool :=
  x.off % 512 == 0 && decide (0x400 ≤ x.off ∧ x.off + x.len ≤ m.len) &&
    (match x.kind with
     | 0 => decide (x.engine < 12 ∧ x.len ≤ 0x80000)
     | 1 => x.engine == 0 && x.entry == 0 && decide (x.len ≤ 8192) && x.len % 2 == 0
     | 2 => x.engine == 0 && x.entry == 0
     | _ => false)

/-- Sections of a kind and engine. -/
def secsOf (m : Manifest) (kind engine : Nat) : List ImgSec := m.secs.filter fun x => x.kind = kind && x.engine = engine

/-- The rules of R451 and R452, but for the words of a patch section. -/
def manifestGood (m : Manifest) : Bool :=
  let l := m.raw
  let n := leOf l 6 1
  leOf l 0 4 == 0x4D494854 && leOf l 4 2 == 1 && decide (1 ≤ n ∧ n ≤ 16) && zeroSpan l 7 1 && zeroSpan l 0x1C 4
    && zeroSpan l (0x20 + 16 * n) (256 - 16 * n) && zeroSpan l 0x320 144
    && ((List.range n).all fun i => zeroSpan l (0x22 + 16 * i) 2)
    && m.len % 512 == 0 && decide (m.len ≤ 0x7F0000) && m.build != 0 && m.secs.all (secGood m)
    && (secsOf m 0 0).length == 1 && ((List.range 12).all fun e => decide ((secsOf m 0 e).length ≤ 1)) && decide ((secsOf m 1 0).length ≤ 1)

/-- The 16-bit words of a patch section. -/
def patchWords (l : List Byte) : List Nat := (List.range (l.length / 2)).map fun i => leOf l (2 * i) 2

/-- A section is read and its hash compared; a patch section's words have [15:14] zero. -/
def secCheck (s : State) (slot : Nat) (x : ImgSec) : Option (List Byte) × State :=
  match flashRead s (imageBase slot + x.off) x.len with
  | (none, s) => (none, s)
  | (some l, s) =>
    if natOcts (sha256 (octNats l)) ≠ x.hash || (x.kind = 1 && (patchWords l).any (16384 ≤ ·)) then (none, s) else (some l, s)

/-- Every section of a list passes. -/
def secsCheck (slot : Nat) : List ImgSec → State → Bool × State
  | [], s => (true, s)
  | x :: l, s =>
    match secCheck s slot x with
    | (none, s) => (false, s)
    | (some _, s) => secsCheck slot l s

/-- The image of a slot, checked under R453: its rules, its signer and signature where `sig`, its ISVN, and the hashes of its engine-0
section, with its patch section where `sig`, or of every section where `all`. -/
def imageCheck (s : State) (slot : Nat) (sig all : Bool) : Option Manifest × State :=
  if imageSlots s ≤ slot || bitOf (s.fld FLC_SLOTINV_IMAGE) slot then (none, s) else
  match flashRead s (imageBase slot) 1024 with
  | (none, s) => (none, s)
  | (some l, s) =>
    let m := manifestOf l
    if !manifestGood m || m.isvn < s.priv.isvn then (none, s)
    else if sig && !signatureGood (signerKey s m.signer true) l 1024 then (none, s)
    else
      let secs := if all then m.secs else secsOf m 0 0 ++ (if sig then secsOf m 1 0 else [])
      match secsCheck slot secs s with
      | (true, s) => (some m, s)
      | (false, s) => (none, s)

/-- The commit pages of an image slot. -/
def imagePages (s : State) (slot : Nat) : List (Nat × Nat) × State := commitPages s magicThic (128 * slot + 127) 128

/-- The highest COMMIT_COUNT of an image slot's accepted pages, plus one; 0 where it has none (R464). -/
def imageAccepted (s : State) (slot : Nat) : Nat × State :=
  let (l, s) := imagePages s slot
  match flashRead s (imageBase slot + 16) 8 with
  | (none, s) => (0, s)
  | (some b, s) => (((l.filter (·.2 = ofLe b)).map (·.1 + 1)).foldl max 0, s)

/-- Every image slot with its accepted count. -/
def imagesAccepted (s : State) : Nat → List (Nat × Nat) × State
  | 0 => ([], s)
  | n + 1 =>
    let (l, s) := imagesAccepted s n
    let (a, s) := imageAccepted s n
    (l ++ [(n, a)], s)

/-- Insert a slot in descending order of its count, after those of the same count. -/
def orderInsert (e : Nat × Nat) : List (Nat × Nat) → List (Nat × Nat)
  | [] => [e]
  | f :: l => if f.2 < e.2 then e :: f :: l else f :: orderInsert e l

/-- The first image that authenticates, in the order of R453. -/
def imageFirst : List (Nat × Nat) → State → Option (Nat × Nat × Manifest) × State
  | [], s => (none, s)
  | e :: l, s =>
    match imageCheck s e.1 true false with
    | (some m, s) => (some (e.1, e.2, m), s)
    | (none, s) => imageFirst l s

/-- Sorrel writes the engine-0 section into window 0, sets SYS_ENGENTRY0 and starts engine 0 (R308 step 5, R309 step 4). -/
def leadStart (s : State) (x : ImgSec) (l : List Byte) : State :=
  engRun ((s.wrN 0x04000000 l).setFlds [(SYS_ENGENTRY_ADDR 0, x.entry), (SYS_ENGSTAT_STATE 0, 0)]) 0

/-- Sorrel loads its patch RAM at a start (R307, R453). -/
def patchLoad (s : State) (slot : Nat) (m : Manifest) : State :=
  match secsOf m 1 0 with
  | x :: _ =>
    match flashRead s (imageBase slot + x.off) x.len with
    | (some l, s) =>
      { s with srl := { s.srl with patch := ((List.range (l.length / 2)).zip (patchWords l)).foldl (fun p e => stSet 0 p (8192 + e.1) e.2) s.srl.patch } }
    | (none, s) => s
  | [] => s

/-- Sorrel reads the engine-0 section and starts engine 0 with it; where it cannot, RECOVERY. -/
def leadSection (s : State) (slot : Nat) (m : Manifest) : State :=
  match secsOf m 0 0 with
  | x :: _ =>
    match secCheck s slot x with
    | (some l, s) => leadStart s x l
    | (none, s) => s.setFld SYS_SRLSTAT_STATE 4
  | [] => s.setFld SYS_SRLSTAT_STATE 4

/-- Sorrel selects, authenticates and starts the firmware at start-up (R308 steps 4 and 5, R453, R465). -/
def imageStart (s : State) : State :=
  let (l, s) := imagesAccepted s (imageSlots s)
  match imageFirst (l.foldl (fun a e => orderInsert e a) []) s with
  | (none, s) => s.setFld SYS_SRLSTAT_STATE 4
  | (some (slot, a, m), s) =>
    let s := s.setFlds [(UPD_STAT_RUNSLOT, slot), (UPD_SLOTSTAT_STATE slot, if a = 0 then 4 else 5), (UPD_SLOTSTAT_AUTH slot, 1),
      (UPD_SLOTSTAT_BUILD slot, m.build), (SYS_SRLSTAT_STATE, 1)]
    let s := if a = 0 then s else { isvnAdvance s 13 m.isvn with busResult := s.busResult }
    leadSection (patchLoad s slot m) slot m

/-- The engine-0 section of a reload has been read and checked (R309 steps 3 and 4, R461): engine 0 starts, or Sorrel goes to
RECOVERY. -/
def execLeadReloadSectionLoaded (s : State) : Res :=
  if s.fld SYS_SRLSTAT_STATE ≠ 3 || !s.flag SYS_SRLSTAT_LEAD_DOWN || s.flag (SYS_ENGCTL_RUN 0) then ok s else
  let slot := s.upd.reloadSlot
  let s := s.setFld (SYS_ENGSTAT_STATE 0) 0
  match imageCheck s slot (!s.flag (UPD_SLOTSTAT_AUTH slot)) false with
  | (none, s) => ok (s.setFld SYS_SRLSTAT_STATE 4)
  | (some m, s) =>
    ok (leadSection (s.setFlds [(UPD_SLOTSTAT_AUTH slot, 1), (UPD_SLOTSTAT_BUILD slot, m.build)]) slot m)

end Sys2Proof.Machine
end

