-- ==== Sys2Proof/Machine/Update.lean ====
section
/-! DEFINITION. Machine/Update.lean: the update engine (R455 to R465). -/

namespace Sys2Proof.Machine

/-! ### The window (R455) -/

/-- BLOCKS that the window may have from a base. -/
def winRoom (base : Nat) : Nat := (0x01800000 - base) / 4096

/-- The block map clears. -/
def mapClear (s : State) : State :=
  (forBelow 48 (fun s w => s.setReg (UPD_BLKMAP w) 0) { s with upd := { s.upd with due := [] } }).setFlds
    [(UPD_RXSTAT_RECEIVED, 0), (UPD_RXSTAT_COMPLETE, 0)]

/-- A write of UPD_WINBASE. -/
def winBase (s : State) (w : Nat) : State :=
  let b := w / 4096 * 4096
  if b < 0x01000000 || 0x017FF000 < b then s
  else mapClear (s.setFlds [(UPD_WINBASE_BASE, b), (UPD_WINLEN_BLOCKS, min (s.fld UPD_WINLEN_BLOCKS) (winRoom b))])

/-- A write of UPD_WINLEN. -/
def winLen (s : State) (n : Nat) : State :=
  mapClear (s.setFld UPD_WINLEN_BLOCKS (max 1 (min (min n 1536) (winRoom (s.fld UPD_WINBASE_BASE)))))

/-- A write of UPD_BLOCK. -/
def updBlock (s : State) (b : Nat) : State :=
  if s.flag UPD_STAT_BUSY then s.setFld UPD_STAT_OVERRUN 1
  else if s.fld UPD_WINLEN_BLOCKS ≤ b then s
  else { s with upd := { s.upd with due := s.upd.due ++ [(b, s.fld UPD_BLKCRC_CRC)] } }

/-- A block's mark. -/
def blockMarked (s : State) (b : Nat) : Bool := bitOf (s.fld (UPD_BLKMAP_MAP (b / 32))) (b % 32)

/-- RECEIVED and COMPLETE follow the map; the map's completion fires UPD_RXCOMPLETE. -/
def rxRefresh (s : State) : State :=
  let n := ((List.range (s.fld UPD_WINLEN_BLOCKS)).filter (blockMarked s ·)).length
  let done := n == s.fld UPD_WINLEN_BLOCKS
  let was := s.flag UPD_RXSTAT_COMPLETE
  let s := s.setFlds [(UPD_RXSTAT_RECEIVED, n), (UPD_RXSTAT_COMPLETE, b2n done)]
  if done && !was then s.fire 673 0 else s

/-! ### Ends (R458 to R460) -/

/-- A command of the update engine ends with a RESULT. -/
def updEnd (s : State) (result : Nat) : State :=
  { s with upd := { s.upd with stage := 0, abort := false, buf := [] } }.setFlds
    [(UPD_STAT_BUSY, 0), (UPD_STAT_PHASE, 0), (UPD_STAT_RESULT, result)]

/-- An apply ends otherwise than OK; from check 8 on, and after an abort, an image slot is FAILED. -/
def applyFail (s : State) (result : Nat) : State :=
  let u := s.upd
  let s := if u.kind = 0 && u.slot < imageSlots s && (2 ≤ u.stage || result = 13) then s.setFld (UPD_SLOTSTAT_STATE u.slot) 3 else s
  (updEnd s result).bump (UPD_CNT_COUNT 2)

/-- The apply succeeds (R459). -/
def applyDone (s : State) (m : Option Manifest) : State :=
  let u := s.upd
  let s := match m with
    | some m => s.setFlds [(UPD_SLOTSTAT_STATE u.slot, 2), (UPD_SLOTSTAT_AUTH u.slot, 1), (UPD_SLOTSTAT_BUILD u.slot, m.build)]
    | none => s
  ((updEnd s 1).bump (UPD_CNT_COUNT 1)).fire 672 1

/-! ### The container and its target (R456 to R458) -/

/-- `n` octets of the container from offset o. -/
def conOctets (s : State) (o n : Nat) : List Byte × State := sourceRead s 15 (s.upd.base + o) n

/-- First sector and number of sectors of a slot of a kind. -/
def slotSector (s : State) (kind slot : Nat) : Nat := if kind = 0 then 128 * slot else bitSector s slot
def slotSectors (kind : Nat) : Nat := if kind = 0 then 128 else 64

/-- Slots of a kind on the part. -/
def slotsOf (s : State) (kind : Nat) : Nat := if kind = 0 then imageSlots s else 2

/-- The image slot with the highest accepted commit page, if there is one. -/
def preferredImage (s : State) : Option Nat × State :=
  let (l, s) := imagesAccepted s (imageSlots s)
  match l.foldl (fun a e => orderInsert e a) [] with
  | (n, a) :: _ => (if a = 0 then none else some n, s)
  | [] => (none, s)

/-- A bitstream slot that a region's active plane came from. -/
def slotActive (s : State) (slot : Nat) : Bool :=
  (List.range 14).any fun r => r ≠ 0 && s.regionOn r && s.fld (if s.actB r then CFG_RGN_SLOT_B r else CFG_RGN_SLOT_A r) = slot

/-- Check 1 of R458. -/
def updTarget (s : State) (kind slot baseSlot : Nat) : Bool × State :=
  if slotsOf s kind ≤ slot || slot = baseSlot || bitOf (s.reg FLC_WPROT).toNat (if kind = 0 then slot else 4 + slot) then (false, s)
  else if kind = 0 then
    let (p, s) := preferredImage s
    (slot != s.fld UPD_STAT_RUNSLOT && p != some slot, s)
  else (slot != s.fld CFG_BOOTSTAT_START_SLOT && !slotActive s slot, s)

/-- Check 3 of R458 over the container's header. -/
def conHeaderGood (s : State) (h : List Byte) (kind : Nat) : Bool :=
  leOf h 0 4 == 0x43444854 && leOf h 4 2 == 1 && leOf h 6 1 == kind && zeroSpan h 28 4 && zeroSpan h 104 72
    && decide (leOf h 12 4 ≤ (if kind = 0 then 0x7F0000 else 0x3F0000)) && decide (256 + leOf h 16 4 ≤ 4096 * s.fld UPD_WINLEN_BLOCKS)

/-- Checks 3 to 7 of R458: the RESULT of the first failure, or 0. -/
def updChecks (s : State) : Nat × State :=
  let kind := s.upd.kind
  let (h, s) := conOctets s 0 256
  let key := signerKey s (leOf h 20 4) (kind == 0)
  if !conHeaderGood s h kind then (4, s)
  else if key.isNone then (5, s)
  else if !signatureGood key h 256 then (6, s)
  else if leOf h 24 4 < (if kind = 0 then s.priv.isvn else s.priv.bsvn) then (7, s)
  else
    let slot := leOf h 7 1
    let len := leOf h 8 4
    if slotsOf s kind ≤ slot || 65536 * slotSectors kind < len then (8, s)
    else match flashRead s (65536 * slotSector s kind slot) len with
      | (none, s) => (8, s)
      | (some l, s) => (if natOcts (sha256 (octNats l)) = (h.drop 32).take 32 then 0 else 8, s)

/-! ### Operations (R457, R459) -/

/-- What the emission of a page ends with: the page is full, the list has ended, or it fails OPS. -/
inductive Emit where
  | full
  | ended
  | bad
  deriving DecidableEq, Repr

/-- `n` base octets from x, zero past BASE_LEN. -/
def baseOctets (s : State) (slotAt len x n : Nat) : List Byte × State :=
  let k := min n (len - x)
  let (l, s) := sourceRead s 15 (0x10000000 + slotAt + x) k
  (l ++ List.replicate (n - k) 0, s)

/-- Operations are emitted into the page until it is full, each within its limits; h is the container's header. -/
def emitOps (h : List Byte) : Nat → State → Emit × State
  | 0, s => (.full, s)
  | fuel + 1, s =>
    let u := s.upd
    let room := 512 - u.buf.length
    if room = 0 then (.full, s) else
    let opsLen := leOf h 16 4
    let resLen := leOf h 12 4
    let baseLen := leOf h 8 4
    if 256 + opsLen < u.pos then (.bad, s) else
    let slotAt := 65536 * slotSector s u.kind (leOf h 7 1)
    let (o, s) := conOctets s u.pos 9
    let op := leOf o 0 1
    if op = 0 then (if u.pos + 1 = 256 + opsLen && u.out = resLen then .ended else .bad, s)
    else if 3 < op then (.bad, s)
    else
      let len := if op = 3 then leOf o 1 4 else leOf o 5 4
      let start := leOf o 1 4
      if len = 0 || (op = 1 && baseLen < start + len) then (.bad, s)
      else
        let n := min (min room (len - u.ofs)) (resLen - u.out)
        if n = 0 then (.bad, s) else
        let (l, s) := match op with
          | 1 => baseOctets s slotAt baseLen (start + u.ofs) n
          | 2 =>
            let (b, s) := baseOctets s slotAt baseLen (start + u.ofs) n
            let (d, s) := conOctets s (u.pos + 9 + u.ofs) n
            (List.zipWith (· + ·) b d, s)
          | _ => (List.replicate n ((o.drop 5).headD 0), s)
        let past := u.ofs + n = len
        let next := u.pos + (match op with | 1 => 9 | 2 => 9 + len | _ => 6)
        let s := { s with upd := { u with buf := u.buf ++ l, out := u.out + n, ofs := if past then 0 else u.ofs + n
                                          pos := if past then next else u.pos } }
        emitOps h fuel s

/-! ### Flash operations of an apply (R458, R459) -/

/-- The engine issues a flash operation on channel 3 with identity 15; one that R415 refuses fails the apply or the commit with VERIFY. -/
def updJob (s : State) (op sector page : Nat) (data : List Byte) : State :=
  let r := flcRefuses s 15 op sector page
  if r ≠ 0 then (let s := chanEnd s 3 r; if s.upd.stage < 6 then applyFail s 10 else updEnd s 10) else
  flcQueueJob (s.setFlds [(FLC_CSTAT_BUSY 3, 1), (FLC_CSTAT_RESULT 3, 0)])
    { who := 6, op := op, sector := sector, page := page, data := data, master := 15 }

/-- The result as it stands in the target slot. -/
def resultOctets (s : State) (len : Nat) : List Byte :=
  let first := 128 * slotSector s s.upd.kind s.upd.slot
  ((List.range ((len + 511) / 512)).flatMap fun i => (s.fpage (first + i)).data).take len

/-- The result is complete: its hash, and the check of the image or the bitstream (R459). -/
def resultCheck (s : State) (h : List Byte) : State :=
  let s := s.setFld UPD_STAT_PHASE 4
  let u := s.upd
  if natOcts (sha256 (octNats (resultOctets s (leOf h 12 4)))) ≠ (h.drop 64).take 32 then applyFail s 11
  else if u.kind = 0 then
    match imageCheck s u.slot true true with
    | (some m, s) => applyDone s (some m)
    | (none, s) => applyFail s 12
  else
    let (hd, dir, s) := headerRead s u.slot
    let r : LoadRun := { slot := u.slot, mask := 0, total := leOf hd 8 4, bsvn := leOf hd 24 4, signer := leOf hd 28 4 }
    if (headerBad s hd dir).isSome then applyFail s 12
    else match loadSignature s r with
      | (none, s) => applyDone s none
      | (some _, s) => applyFail s 12

/-- The next page of the result is emitted and programmed; the list's end pads the last one. -/
def pageNext (s : State) : State :=
  let (h, s) := conOctets s 0 256
  let s := { s with upd := { s.upd with buf := [] } }
  let (e, s) := emitOps h 514 s
  let s := s.setFld UPD_PROGRESS_OUT s.upd.out
  let put (s : State) (stage : Nat) : State :=
    let data := (s.upd.buf ++ List.replicate 512 0xFF).take 512
    let n := s.upd.page
    updJob { s with upd := { s.upd with stage := stage, buf := data, page := n + 1 } } 1 (slotSector s s.upd.kind s.upd.slot + n / 128) (n % 128) data
  match e with
  | .bad => applyFail s 9
  | .full => put s 4
  | .ended => if s.upd.buf.isEmpty then resultCheck s h else put s 5

/-- An operation of the update engine has ended well or not; `page` is what it programmed. -/
def updStep (s : State) (j : FlcJob) (good : Bool) : State :=
  let u := s.upd
  let back (s : State) : Bool × State :=
    match pageRead s (128 * j.sector + j.page) with
    | (some l, s) => (l == j.data, s)
    | (none, s) => (false, s)
  if u.stage = 0 then s
  else if u.stage < 6 && u.abort then applyFail s 13
  else match u.stage with
    | 2 => if good then updJob { s with upd := { u with stage := 3 } } 3 j.sector 0 [] else applyFail s 10
    | 3 =>
      if !good then applyFail s 10
      else if u.sector + 1 < slotSectors u.kind then
        updJob { s with upd := { u with stage := 2, sector := u.sector + 1 } } 2 (slotSector s u.kind u.slot + u.sector + 1) 0 []
      else pageNext ({ s with upd := { u with stage := 4, page := 0, pos := 256, ofs := 0, out := 0 } }.setFld UPD_STAT_PHASE 3)
    | 4 =>
      match back s with
      | (true, s) => if good then pageNext s else applyFail s 10
      | (false, s) => applyFail s 10
    | 5 =>
      match back s with
      | (true, s) => if good then (let (h, s) := conOctets s 0 256; resultCheck s h) else applyFail s 10
      | (false, s) => applyFail s 10
    | 6 => if good then updJob { s with upd := { u with stage := 7 } } 1 j.sector 0 u.buf else updEnd s 10
    | _ =>
      match back s with
      | (true, s) =>
        if !good then updEnd s 10 else
        match flashRead s (imageBase u.slot + 12) 4 with
        | (some l, s) =>
          let s := { isvnAdvance s 15 (ofLe l) with busResult := s.busResult }
          let s := forBelow 4 (fun s i => if s.fld (UPD_SLOTSTAT_STATE i) = 5 then s.setFld (UPD_SLOTSTAT_STATE i) 2 else s) s
          updEnd (s.setFld (UPD_SLOTSTAT_STATE u.slot) 5) 1
        | (none, s) => updEnd s 10
      | (false, s) => updEnd s 10

/-! ### UPD_CMD (R458, R460, R462, R463, R465) -/

/-- START: checks 1 and 2 at once; the rest with UPDATE_CHECKS_DONE. -/
def updStart (s : State) (kind slot : Nat) : State :=
  if s.flag UPD_STAT_BUSY then s.setFld UPD_STAT_OVERRUN 1 else
  let s := { s with upd := { s.upd with stage := 1, slot := slot, kind := kind, sector := 0, base := s.fld UPD_WINBASE_BASE, pos := 256
                                        ofs := 0, out := 0, page := 0, buf := [], abort := false } }.setFlds
    [(UPD_STAT_BUSY, 1), (UPD_STAT_PHASE, 1), (UPD_STAT_RESULT, 0), (UPD_PROGRESS_OUT, 0)]
  let (h, s) := conOctets s 7 1
  match updTarget s kind slot (ofLe h) with
  | (false, s) => applyFail s 2
  | (true, s) => if s.flag UPD_RXSTAT_COMPLETE then s else applyFail s 3

/-- ABORT: an apply ends at once, or after the flash operation in progress. -/
def updAbort (s : State) : State :=
  if s.upd.stage = 0 || 6 ≤ s.upd.stage then s
  else if (match s.flcRun with | some r => r.1.who == 6 | none => false) then { s with upd := { s.upd with abort := true } }
  else
    let s := { s with flcQueue := s.flcQueue.filter (·.who ≠ 6) }
    applyFail (flcRefresh (if s.flag (FLC_CSTAT_BUSY 3) && 2 ≤ s.upd.stage then s.setFld (FLC_CSTAT_BUSY 3) 0 else s)) 13

/-- COMMIT by a master. -/
def updCommit (s : State) (m slot : Nat) : State :=
  if (m ≠ 12 && m ≠ 0) || slot ≠ s.fld UPD_STAT_RUNSLOT || s.fld (UPD_SLOTSTAT_STATE slot) ≠ 4 || s.fld SYS_SRLSTAT_STATE ≠ 1
      || s.flag UPD_STAT_BUSY then s.setFld UPD_STAT_RESULT 14 else
  let (l0, s) := imagePages s 0
  let (l1, s) := imagePages s 1
  let (l2, s) := if imageSlots s = 4 then imagePages s 2 else ([], s)
  let (l3, s) := if imageSlots s = 4 then imagePages s 3 else ([], s)
  let (b, s) := flashRead s (imageBase slot + 16) 8
  let data := commitPage magicThic (((l0 ++ l1 ++ l2 ++ l3).map (·.1)).foldl max 0 + 1) (ofLe (b.getD []))
  let s := s.setFlds [(UPD_STAT_BUSY, 1), (UPD_STAT_PHASE, 5), (UPD_STAT_RESULT, 0)]
  let sector := 128 * slot + 127
  let u := { s.upd with slot := slot, kind := 0, buf := data, abort := false }
  match erasedPage s sector with
  | some i => updJob { s with upd := { u with stage := 7 } } 1 sector i data
  | none => updJob { s with upd := { u with stage := 6 } } 2 sector 0 []

/-- RECOVER by a master: Sorrel reloads engine 0 from a slot. -/
def updRecover (s : State) (m slot : Nat) : State :=
  if m ≠ 12 || s.fld SYS_SRLSTAT_STATE ≠ 4 then s.setFld UPD_STAT_RESULT 14
  else
    let s := leadReload s
    { s with upd := { s.upd with reloadSlot := slot } }.setFld UPD_STAT_RESULT 1

/-- A write of UPD_CMD with GO by a master (R465). -/
def updCmd (s : State) (m op kind slot : Nat) : State :=
  let s := s.setFlds [(UPD_CMD_OP, op), (UPD_CMD_KIND, kind), (UPD_CMD_SLOT, slot)]
  if !s.flag UPD_CTL_EN then s else
  match op with
  | 1 => updStart s kind slot
  | 2 => updAbort s
  | 3 => updCommit s m slot
  | 4 => updRecover s m slot
  | 5 => mapClear s
  | _ => s.setFld UPD_STAT_RESULT 2

/-! ### Commands -/

/-- Masters that may write UPD: the host, the lead engine and Sorrel (R465). -/
def updMay (m : Master) : Bool := m.val == 12 || m.val == 0 || m.val == 13

/-- A write of a UPD register by a master: what it does, or its refusal. -/
def updWrite (m : Master) (s : State) (f : State → State) : State := if updMay m then f { s with busResult := .ok } else s.refuse

def execUpdBlock (master : Master) (index : Fin 2048) (s : State) : Res := ok (updWrite master s (updBlock · index))

/-- The CRC over a block as it stands is compared (R455). -/
def execBlockCrcDone (s : State) : Res :=
  match s.upd.due with
  | [] => ok s
  | (b, crc) :: rest =>
    let s := { s with upd := { s.upd with due := rest } }
    let (l, s) := sourceRead s 15 (s.fld UPD_WINBASE_BASE + 4096 * b) 4096
    let good := crc32 (octNats l) == crc
    let old := s.fld (UPD_BLKMAP_MAP (b / 32))
    let m := 2 ^ (b % 32)
    let s := s.setFld (UPD_BLKMAP_MAP (b / 32)) (if good then old ||| m else if bitOf old (b % 32) then old - m else old)
    ok (rxRefresh (if good then s else s.bump (UPD_CNT_COUNT 0)))

def execUpdWinbase (master : Master) (base : Word) (s : State) : Res := ok (updWrite master s (winBase · base.toNat))

def execUpdWinlen (master : Master) (blocks : Fin 2048) (s : State) : Res := ok (updWrite master s (winLen · blocks))

def execUpdateStart (master : Master) (kind : Fin 2) (slot : Fin 4) (s : State) : Res :=
  ok (updWrite master s (updCmd · master 1 kind slot))

/-- The signature and the base hash have been checked (R458): the target's erase starts, or the apply fails. -/
def execUpdateChecksDone (s : State) : Res :=
  if s.upd.stage ≠ 1 then ok s else
  match updChecks s with
  | (0, s) =>
    let u := s.upd
    let s := if u.kind = 0 then s.setFlds [(UPD_SLOTSTAT_STATE u.slot, 1), (UPD_SLOTSTAT_AUTH u.slot, 0)] else s
    ok (updJob ({ s with upd := { u with stage := 2 } }.setFld UPD_STAT_PHASE 2) 2 (slotSector s u.kind u.slot) 0 [])
  | (r, s) => ok (applyFail s r)

def execUpdateAbort (master : Master) (s : State) : Res :=
  ok (updWrite master s fun s => updCmd s master 2 (s.fld UPD_CMD_KIND) (s.fld UPD_CMD_SLOT))

def execUpdateCommit (master : Master) (slot : Fin 4) (s : State) : Res :=
  ok (updWrite master s fun s => updCmd s master 3 (s.fld UPD_CMD_KIND) slot)

def execUpdateRecover (master : Master) (slot : Fin 4) (s : State) : Res :=
  ok (updWrite master s fun s => updCmd s master 4 (s.fld UPD_CMD_KIND) slot)

def execBlockMapClear (master : Master) (s : State) : Res :=
  ok (updWrite master s fun s => updCmd s master 5 (s.fld UPD_CMD_KIND) (s.fld UPD_CMD_SLOT))

end Sys2Proof.Machine
end

