-- ==== Sys2Proof/Machine/Startup.lean ====
section
/-! DEFINITION. Machine/Startup.lean: a start-up step that times out, Sorrel's part of start-up, and the end of a flash operation
(R308, R393 to R395, R401, R414). -/

namespace Sys2Proof.Machine

/-- The bit of the running step in PWR_STEPTO, with its time. -/
def stepLate (s : State) (us : Nat) : State :=
  (stepTime s us).setFld PWR_STEPTO_TIMEOUT (s.fld PWR_STEPTO_TIMEOUT ||| 2 ^ s.startStep)

/-- A second timeout of steps 3 to 5: REG_EN drops for 1 s and STARTFAIL is recorded (R394, R404). -/
def startFail (s : State) : State :=
  { countReset (mainReset s false) with phase := .pulse, cause := 1 + 128 }.setFld PWR_RAILSTAT_REG_EN 0

/-- The running step's ready signal has not come by MAX_WAIT; `rails` are the main rails present (R394). -/
def execStartupStepTimeout (us : Nat) (rails : Fin 128) (s : State) : Res :=
  let n := s.startStep
  if !stepRuns s || !(delayEntry s n).2 || (n = 0 && bitOf (s.fld PWR_STEPTO_TIMEOUT) 0) then ok s else
  let s := stepLate s us
  match n with
  | 0 =>
    let s := s.setFld PWR_RAILSTAT_PRESENT rails
    ok (if rails.val = 127 && !s.hotNow then stepNext s else s)
  | 1 => ok (stepNext { s with avsDead := true })
  | 2 => ok (stepNext (s.setFld SYS_CLKSTAT_REF_VALID 0))
  | 6 => ok (stepNext { s with flashDead := true })
  | 7 => ok s
  | 8 =>
    let s := forBelow 3 (fun s k =>
      if synPresent s k && s.fld (SYN_STAT_ASSIGN k) != 0 && !s.flag (SYN_STAT_LOCK k) then lockLost s k else s) s
    ok (stepNext s)
  | 9 => ok (stepNext s)
  | _ => ok (if s.stepRetry then startFail s else { s with stepRetry := true })

/-- Sorrel's part of start-up after the logic reset (R308): the key store starts; a tamper wake, or a tamper latched while the main
domain was off, zeroizes, and a wake re-enters DORMANT where nothing else woke the part (R401, R444); then the torn scan, the Loam map, the bitstream with the calibration that it starts, the
image with engine 0, and the AES slots. -/
def execSorrelStartup (entropyFail : Bool) (s : State) : Res :=
  if !mainOn s || s.fld SYS_SRLSTAT_STATE ≠ 0 then ok s else
  let s := keyStart s entropyFail
  let tamper := s.flag SYS_RSTCAUSE_WAKE && bitOf (s.fld SYS_RSTCAUSE_WAKE_SRCS) 2
  let s := if tamper || bitOf s.wakeLatch 2 then zeroizeErased (zeroize { s with wakeLatch := 0 }) else s
  if tamper && s.fld SYS_RSTCAUSE_WAKE_SRCS = 4 then
    ok (railsOff (pwrEnter { s with wakeArmed := true, wakeLatch := 0 } 4))
  else
    ok (flcTake (keyLoad (imageStart (bootLoad (loamRebuild (tornScan s))))) 64)

/-- The running flash operation ends, after `time` units, by its time limit or not; `dirty` says that a blank check found a bit
programmed, `level` at which threshold a programmed page decodes (R412, R414).  The controller takes its next operation, and an
entry to DORMANT that waited for the operation goes on (R398). -/
def execFlashOperationDone (time : Nat) (timeout dirty : Bool) (level : Fin 9) (s : State) : Res :=
  let (r, s) := flcPrimEnd s time timeout dirty level
  let s := match r with
    | some (j, good) => if j.who = 5 then bootselStep s j good else if j.who = 6 then updStep s j good else s
    | none => s
  let s := if s.dormStep = 2 then s else flcTake s 64
  ok (if s.dormStep = 2 && s.flcRun.isNone then railsOff s else s)

end Sys2Proof.Machine
end

