-- ==== Sys2Proof/Machine/Bus.lean ====
section
/-! DEFINITION. Machine/Bus.lean: reads and writes of the device address space by a master: access rights, access types and what each
register's write brings about (R7, R19 to R27, R37, R38, R60, R298 to R301, R345 to R347, R352, R379, R406, R415, R445, R449, R465, R483,
R501, R526). -/

namespace Sys2Proof.Machine

/-! ### Rings, queues and pools (R526) -/

/-- A ring: its base and size registers, its entry length, whether it may lie in an engine window, and its HEAD and TAIL. -/
structure RingSpec where
  base : Nat
  size : Field
  entry : Nat
  window : Bool
  ix : List Field
  deriving DecidableEq, Repr

/-- The ring whose base or size register stands at an address. -/
def ringSpec (a : Nat) : Option RingSpec :=
  if a = LNK_PRBASE || a = LNK_PRCFG then some ⟨LNK_PRBASE, LNK_PRCFG_SIZE, 16, false, [LNK_PRHEAD_HEAD, LNK_PRTAIL_TAIL]⟩
  else if a = LNK_BUFBASE || a = LNK_BUFCFG then some ⟨LNK_BUFBASE, LNK_BUFCFG_COUNT, 2048, false, []⟩
  else if a = VFB_SQBASE || a = VFB_SQSIZE then some ⟨VFB_SQBASE, VFB_SQSIZE_SIZE, 64, false, [VFB_SQHEAD_HEAD, VFB_SQTAIL_TAIL]⟩
  else if a = VFB_RRBASE || a = VFB_RRSIZE then some ⟨VFB_RRBASE, VFB_RRSIZE_SIZE, 64, false, [VFB_RRHEAD_HEAD, VFB_RRTAIL_TAIL]⟩
  else if among a (LNK_EQBASE 0) 16 12 || among a (LNK_EQSIZE 0) 16 12 then
    let n := (a - LNK_EQBASE 0) / 16
    some ⟨LNK_EQBASE n, LNK_EQSIZE_SIZE n, 32, false, [LNK_EQHEAD_HEAD n, LNK_EQTAIL_TAIL n]⟩
  else if among a (TXS_QBASE 0) 32 12 || among a (TXS_QSIZE 0) 32 12 then
    let n := (a - TXS_QBASE 0) / 32
    some ⟨TXS_QBASE n, TXS_QSIZE_SIZE n, 32, false, [TXS_QHEAD_HEAD n, TXS_QTAIL_TAIL n]⟩
  else if among a (TXS_RBASE 0) 32 12 || among a (TXS_RSIZE 0) 32 12 then
    let n := (a - TXS_QBASE 0) / 32
    some ⟨TXS_RBASE n, TXS_RSIZE_SIZE n, 16, false, [TXS_RHEAD_HEAD n, TXS_RTAIL_TAIL n]⟩
  else if among a (IRQ_RBASE 0) 16 14 || among a (IRQ_RSIZE 0) 16 14 then
    let r := (a - IRQ_RBASE 0) / 16
    if r = 12 then none else some ⟨IRQ_RBASE r, IRQ_RSIZE_SIZE r, 16, true, [IRQ_RHEAD_HEAD r, IRQ_RTAIL_TAIL r]⟩
  else none

/-- The end of the permitted area that an address lies in. -/
def areaEnd (window : Bool) (b : Nat) : Option Nat :=
  if 0x01000000 ≤ b && b < 0x01800000 then some 0x01800000
  else if window && 0x04000000 ≤ b && b < 0x04C00000 && b % 0x100000 < 0x80000 then some (b / 0x100000 * 0x100000 + 0x80000)
  else none

/-- A ring takes a size: an index that lies in it no more starts again at 0 (log entry 156). -/
def ringSize (s : State) (r : RingSpec) (n : Nat) : State :=
  r.ix.foldl (fun s f => if s.fld f < n then s else s.setFld f 0) (s.setFld r.size n)

/-- A write of a ring's base or size register. -/
def ringWrite (s : State) (r : RingSpec) (a w : Nat) : State :=
  if a = r.base then
    let b := w / r.entry * r.entry
    match areaEnd r.window b with
    | none => s
    | some e => ringSize (s.setReg a (BitVec.ofNat 32 b)) r (min (s.fld r.size) ((e - b) / r.entry))
  else
    let b := (s.reg r.base).toNat
    let n := min (w % 2 ^ r.size.width) 4096
    match areaEnd r.window b with
    | none => ringSize s r 0
    | some e => ringSize s r (min n ((e - b) / r.entry))

/-- A ring index that software writes, and the size of its ring. -/
def indexSpec (a : Nat) : Option (Field × Field) :=
  if a = LNK_PRTAIL then some (LNK_PRTAIL_TAIL, LNK_PRCFG_SIZE)
  else if a = VFB_RRTAIL then some (VFB_RRTAIL_TAIL, VFB_RRSIZE_SIZE)
  else if among a (LNK_EQTAIL 0) 16 12 then
    let n := (a - LNK_EQTAIL 0) / 16
    some (LNK_EQTAIL_TAIL n, LNK_EQSIZE_SIZE n)
  else if among a (TXS_QHEAD 0) 32 12 then
    let n := (a - TXS_QHEAD 0) / 32
    some (TXS_QHEAD_HEAD n, TXS_QSIZE_SIZE n)
  else if among a (TXS_RTAIL 0) 32 12 then
    let n := (a - TXS_RTAIL 0) / 32
    some (TXS_RTAIL_TAIL n, TXS_RSIZE_SIZE n)
  else if among a (IRQ_RTAIL 0) 16 14 then
    let r := (a - IRQ_RTAIL 0) / 16
    some (IRQ_RTAIL_TAIL r, IRQ_RSIZE_SIZE r)
  else if among a (HIF_RXTAIL 0) 64 32 then
    let r := (a - HIF_RXTAIL 0) / 64
    some (HIF_RXTAIL_TAIL r, HIF_RXCFG_SIZE r)
  else if among a (HIF_TXHEAD 0) 64 32 then
    let r := (a - HIF_TXHEAD 0) / 64
    some (HIF_TXHEAD_HEAD r, HIF_TXCFG_SIZE r)
  else if among a (HIF_TXCTAIL 0) 64 32 then
    let r := (a - HIF_TXCTAIL 0) / 64
    some (HIF_TXCTAIL_CTAIL r, HIF_TXCCFG_CSIZE r)
  else none

/-- The granule of an address register whose low bits ignore writes. -/
def granule (a : Nat) : Nat :=
  if a = IRQ_RBASE 12 || among a (FLC_SRC 0) 32 4 || among a (HIF_TXCBASEL 0) 64 32 then 16
  else if a = KEY_UPDADDR || among a (HIF_RXBASEL 0) 64 32 || among a (HIF_TXBASEL 0) 64 32 then 32
  else if a = HIF_EVWBL || among a (HIF_RXWBL 0) 64 32 || among a (HIF_TXWBL 0) 64 32 then 8
  else if among a (HIF_RXBUFL 0) 64 32 then 2048
  else 1

/-! ### Plain writes (R20, R22, R38) -/

/-- A write stores the fields it may, within their limits, and clears the W1C bits it names; a register that is none ignores it. -/
def plainWrite (s : State) (a w : Nat) : State :=
  match regRow a with
  | none => s
  | some r =>
    let s := if r.shadowed then cutSettle s else s
    let old := s.reg a
    let v := BitVec.ofNat 32 (w / granule a * granule a)
    let rw := BitVec.ofNat 32 r.rw
    let kept := clampWord s a old ((old &&& ~~~rw) ||| (v &&& rw))
    s.setReg a (kept &&& ~~~(BitVec.ofNat 32 w &&& BitVec.ofNat 32 r.w1c))

/-! ### Rights (R60, R300, R301, R345, R351, R352, R379, R406, R415, R445, R449, R465, R483, R501) -/

/-- The host, the lead engine or Sorrel. -/
def hostLeadSorrel (m : Nat) : Bool := m == 12 || m == 0 || m == 13

def leadSorrel (m : Nat) : Bool := m == 0 || m == 13

/-- A master may write the registers of the engines and of Sorrel. -/
def sysMay (m a : Nat) : Bool :=
  if 0x20001000 ≤ a && a < 0x20001300 then
    let n := (a - 0x20001000) / 64
    let off := (a - 0x20001000) % 64
    if off = 0 || off = 8 || off = 0x20 || off = 0x28 then m == 13 || (m == 0 && n != 0)
    else if off = 0x10 || off = 0x24 then m == 13 || m == 0 || m == n
    else true
  else if a = SYS_ENGLOCK then leadSorrel m
  else if a = SYS_SRLCMD then m == 12 || m == 0
  else true

/-- A write affects the channel it names and the one that the register named while it was in use (R345). -/
def routeMay (s : State) (m old new : Nat) : Bool :=
  chanRoute s m (new % 256) && (!bitOf old 8 || chanMay s m (old % 256))

/-- A master may change the bits of a matrix word that a write changes. -/
def matrixMay (s : State) (m j old new : Nat) : Bool :=
  (List.range 32).all fun i =>
    bitOf old i == bitOf new i || (if bitOf new i then chanRoute s m (32 * j + i) else chanMay s m (32 * j + i))

/-- A master may write an EVT register. -/
def evtMay (s : State) (m a w : Nat) : Bool :=
  if among a (EVT_PROD 0) 4 800 || among a (EVT_TASK 0) 4 400 then routeMay s m (s.reg a).toNat w
  else if among a (EVT_PMAT 0 0) 4 128 then
    let i := (a - EVT_PMAT 0 0) / 4
    matrixMay s m (i % 8) (matrixRead s (i / 8) (i % 8)) (matrixWord s (i / 8) (i % 8) w)
  else if a = EVT_SWTRIG then chanRoute s m (w % 256)
  else true

/-- A master may write the registers of interrupt ring r. -/
def irqRingMay (m r : Nat) : Bool := leadSorrel m || (if r < 13 then m == r else m == 13)

def irqMay (s : State) (m a : Nat) : Bool :=
  if a < 0x200E00E0 then irqRingMay m ((a - 0x200E0000) / 16)
  else if a = IRQ_HBASEH then irqRingMay m 12
  else if among a (IRQ_RSTAT 0) 4 14 then irqRingMay m ((a - IRQ_RSTAT 0) / 4)
  else if among a (IRQ_SRC 0) 4 256 then chanMay s m ((a - IRQ_SRC 0) / 4)
  else true

/-- A master may reach a mailbox page. -/
def mbxMay (m e : Nat) : Bool := m == 13 || (m == e && decide (m < 15)) || (m == 0 && e == 14)

def rtcMay (s : State) (m a : Nat) : Bool :=
  masterSecure s m || !(among a (RTC_WSHADOW 0) 4 6 || a == RTC_CMD || a == RTC_ALARM || a == RTC_ALARMH || a == RTC_ALMCTL
    || among a (RTC_BRAM 0) 4 8)

def flcMay (s : State) (m a : Nat) : Bool :=
  masterSecure s m || !(a == FLC_CTL || a == FLC_WPROT || among a (FLC_CMD 0) 32 4 || among a (FLC_SRC 0) 32 4)

/-- Nothing but the read-only registers of CFG is open to every master. -/
def cfgMay (m a : Nat) : Bool :=
  hostLeadSorrel m || (match regRow a with | some r => r.rw == 0 && r.w1c == 0 && r.w1s == 0 && r.wo == 0 | none => true)

/-- A master may write a PWR register. -/
def pwrMay (s : State) (m a : Nat) : Bool :=
  leadSorrel m || (regRow a).isNone || (m == 12 && (a == PWR_STATECTL || a == PWR_RSTCMD)) || (a == PWR_WDTKICK && masterSecure s m)

/-- A master may make a write of a word at a register's address. -/
def writeMay (s : State) (m a w : Nat) : Bool :=
  match (a - 0x20000000) / 0x10000 with
  | 0 => sysMay m a
  | 1 => cfgMay m a
  | 2 => pwrMay s m a
  | 13 => evtMay s m a w
  | 14 => irqMay s m a
  | 15 => if a < 0x200FF000 then mbxMay m ((a - 0x200F0000) / 0x1000) else a != MBX_CTL || leadSorrel m
  | 17 => rtcMay s m a
  | 18 => flcMay s m a
  | 19 => masterSecure s m && (a != KEY_UPDCMD || leadSorrel m)
  | 20 => if a = CPH_CTL then leadSorrel m else pageMayUse s ((a - 0x20140000) / 0x1000) m
  | 21 => hostLeadSorrel m || (regRow a).isNone
  | 22 => hostLeadSorrel m || (regRow a).isNone
  | 23 => (hostLeadSorrel m && (a != SNP_TEST || leadSorrel m)) || (regRow a).isNone
  | _ => true

/-- A master may read at a register's address. -/
def readMay (s : State) (m a : Nat) : Bool :=
  match (a - 0x20000000) / 0x10000 with
  | 15 => if a < 0x200FF000 then mbxMay m ((a - 0x200F0000) / 0x1000) else true
  | 19 => masterSecure s m
  | 20 => a == CPH_CTL || pageMayUse s ((a - 0x20140000) / 0x1000) m
  | _ => true

/-! ### What a write brings about, block by block -/

/-- A write of SYS_SRLCMD (R309, R312). -/
def srlCmdWrite (s : State) (m w : Nat) : State :=
  let s := s.setFld SYS_SRLCMD_SLOT (bitsOf w 2 1)
  let s := if m = 0 && bitOf w 3 then leadReady s else s
  if bitOf w 0 then reloadRequest s else s

/-- Blocks SYS and CFG. -/
def writeSys (s : State) (m a w : Nat) : State :=
  if a = SYS_CLKCTL then
    let s := (refSrcWrite s (w % 4)).setFld SYS_CLKCTL_AUTO_RETURN (bitsOf w 2 2)
    if bitOf w 3 then s.setFld SYS_CLKCTL_RETURN 1 else s
  else if a = SYS_COMMIT then commitWrite (plainWrite s a w) (w % 256) (bitsOf w 15 8)
  else if among a (SYS_ENGCTL 0) 64 12 then engCtlWrite s ((a - SYS_ENGCTL 0) / 64) w
  else if among a (SYS_ENGKICK 0) 64 12 then engKick s ((a - SYS_ENGKICK 0) / 64)
  else if a = SYS_ENGLOCK then (if bitOf w 0 then s.setFld SYS_ENGLOCK_WORLD_LOCK 1 else s)
  else if a = SYS_SRLCMD then srlCmdWrite s m w
  else if a = CFG_LOADCTL then
    let s := s.setFld CFG_LOADCTL_SLOT (bitsOf w 1 1)
    let s := if bitOf w 2 then loadAbort s else s
    if bitOf w 0 then loadStart s (bitsOf w 1 1) else s
  else if a = CFG_SWAPCTL then
    let s := plainWrite s a w
    let s := if bitOf w 1 then swapCancel s else s
    if bitOf w 0 then swapArm s else s
  else if a = CFG_BOOTSEL then
    let s := plainWrite s a w
    if bitOf w CFG_BOOTSEL_GO.lo then bootselGo s else s
  else plainWrite s a w

/-- Block PWR (R405, R406). -/
def writePwr (s : State) (a w : Nat) : State :=
  if a = PWR_STATECTL then stateCtl s w
  else if a = PWR_RSTCMD then softReset s (w % 256)
  else if a = PWR_PMBCMD then (if bitOf w 14 then pmbusGo s w else plainWrite s a w)
  else if a = PWR_WDT then
    let s := if s.flag PWR_WDT_LOCK then s else { s with wdtAt := s.uptime }.setFld PWR_WDT_LIMIT w
    if bitOf w 16 then s.setFld PWR_WDT_LOCK 1 else s
  else if a = PWR_WDTKICK then { s with wdtAt := s.uptime }
  else plainWrite s a w

/-- Blocks RFP to FLD, and COX. -/
def writeRadio (s : State) (a w : Nat) : State :=
  if among a (RFP_CTL 0) 0x100 48 then rfpCtlWrite s ((a - RFP_CTL 0) / 0x100) w
  else if among a (RFP_CALCTL 0) 0x100 48 then calRequest s ((a - RFP_CALCTL 0) / 0x100) (w % 16)
  else if a = SYN_CTL then
    let s := plainWrite s a w
    if bitOf w 1 then spareRecal s else s
  else if a = SPX_SIGINV then (if bitOf w 31 then sigAllNow s else sigInvalidate s (w % 2 ^ 14))
  else if among a (PHY_RXCTL 0) 8 384 then (if bitOf w 0 then rxAbort s ((a - PHY_RXCTL 0) / 8) else s)
  else if among a (PHY_TXCTL 0) 8 96 then (if bitOf w 0 then txAbort s ((a - PHY_TXCTL 0) / 8) else s)
  else if a = LNK_UPDCMD then updPort s (bitsOf w 16 14) (w % 2 ^ 14)
  else if a = LNK_BUFFREE then slotFree s (w % 4096)
  else if a = TXS_DUTYCTL then
    let s := plainWrite s a w
    if bitOf w 0 then dutyClear s else s
  else if a = FLD_CMD then fldCmdWrite s w
  else if a = COX_CTL then coxCtlWritten (s.fld COX_CTL_GNT_INV) (plainWrite s a w)
  else plainWrite s a w

/-- Blocks STK, VFB, EVT, IRQ and MBX. -/
def writeFabric (s : State) (m a w : Nat) : State :=
  if a = STK_CTL then jointRefresh (plainWrite s a w)
  else if a = VFB_CMD then (if bitOf w 0 then orderGo s else s)
  else if a = VFB_SQHEAD then sqHeadWrite s (w % 4096)
  else if among a (EVT_PMAT 0 0) 4 128 then
    let i := (a - EVT_PMAT 0 0) / 4
    s.setReg a (BitVec.ofNat 32 (matrixWord s (i / 8) (i % 8) w))
  else if a = EVT_SWTRIG then softTrigger s m (w % 256) (bitsOf w 31 16)
  else if among a (EVT_FLAG 0) 4 8 then
    let j := (a - EVT_FLAG 0) / 4
    s.setReg a (BitVec.ofNat 32 ((List.range 32).foldl (fun v i =>
      v + 2 ^ i * b2n (bitOf (s.reg a).toNat i && !(bitOf w i && chanOwner s (32 * j + i) == m))) 0))
  else if 0x200F0000 ≤ a && a < 0x200FF000 && a % 0x1000 = 0x240 then mbxSendWrite s ((a - 0x200F0000) / 0x1000) w
  else if 0x200F0000 ≤ a && a < 0x200FF000 && a % 0x1000 = 0x254 then maskWrite s ((a - 0x200F0000) / 0x1000) w
  else plainWrite s a w

/-- Blocks TMR, RTC and FLC. -/
def writeTimers (s : State) (m a w : Nat) : State :=
  if among a (TMR_CTL 0) 32 32 then timerCtlWrite s ((a - TMR_CTL 0) / 32) w
  else if among a (TMR_CNT 0) 32 32 then timerCntWrite s ((a - TMR_CNT 0) / 32) w
  else if among a (TMR_CMP 0) 32 32 then timerCmpWrite s ((a - TMR_CMP 0) / 32) w
  else if a = TMR_GRPCMD then groupCmd s (w % 16) (bitsOf w 7 4)
  else if a = RTC_CMD then (if bitOf w 0 then s.setFld RTC_STAT_APPLY_PEND 1 else s)
  else if a = RTC_STAT then
    let osf := s.fld RTC_STAT_OSF
    let s := (plainWrite s a w).setFld RTC_STAT_OSF osf
    if bitOf w 0 then osfClear s else s
  else if a = RTC_ALMCTL then almctlWrite s w
  else if among a (RTC_BRAM 0) 4 16 then (if (a - RTC_BRAM 0) / 4 < 8 then s.setReg a (BitVec.ofNat 32 w) else s)
  else if among a (FLC_CMD 0) 32 4 then flcCmd s m ((a - FLC_CMD 0) / 32) w
  else if a = FLC_CTL then flcTake (plainWrite s a w) 64
  else if a = FLC_WPROT then
    let s := if s.flag FLC_WPROT_LOCK then s else plainWrite s a w
    if bitOf w 31 then s.setFld FLC_WPROT_LOCK 1 else s
  else plainWrite s a w

/-- Blocks KEY to SNP. -/
def writeHigh (s : State) (m a w : Nat) : State :=
  if a = KEY_LCCMD then lcCmd s m (w % 8) (bitsOf w 15 8)
  else if a = KEY_UPDCMD then (if bitOf w 0 then keyGo s else s)
  else if a = KEY_ISVNADV then isvnAdvance s m w
  else if among a (KEY_SLOTSTAT 0) 4 256 then
    let n := (a - KEY_SLOTSTAT 0) / 4
    if bitOf w 5 then s.setSlot n { s.slot n with resWait := false } else s
  else if a = CPH_CTL then cphCtlWrite s m w
  else if among a (CPH_CMD 0) 0x1000 16 then cphCmd s ((a - CPH_CMD 0) / 0x1000) w
  else if a = UPD_WINBASE then winBase s w
  else if a = UPD_WINLEN then winLen s (w % 2048)
  else if a = UPD_BLOCK then updBlock s (w % 2048)
  else if a = UPD_CMD then (if bitOf w 31 then updCmd s m (w % 8) (bitsOf w 3 3) (bitsOf w 5 4) else plainWrite s a w)
  else if a = SNP_CMD then snpCmd s w
  else if a = SNP_CNTCTL then
    let s := if bitOf w 1 then clearAll s else s
    counterFreeze s (bitOf w 0)
  else plainWrite s a w

/-- An accepted write of a word at a register's address. -/
def wordWrite (s : State) (m a w : Nat) : State :=
  match ringSpec a, indexSpec a with
  | some r, _ =>
    let s := ringWrite s r a w
    if a = LNK_BUFBASE || a = LNK_BUFCFG then bufRefresh s else s
  | _, some (i, size) => if w % 4096 < s.fld size then s.setFld i w else s
  | none, none =>
    let b := (a - 0x20000000) / 0x10000
    if b < 2 then writeSys s m a w
    else if b = 2 then writePwr s a w
    else if b < 11 || b = 24 then writeRadio s a w
    else if b < 16 then writeFabric s m a w
    else if b < 19 then writeTimers s m a w
    else writeHigh s m a w

/-- A write of a word at a register's address by a master. -/
def regWrite (s : State) (m a w : Nat) : State :=
  if absent s.part a then s
  else if writeMay s m a w then wordWrite s m a w
  else s.refuse

/-! ### Reads (R20, R37, R278, R346, R353, R372, R377, R491) -/

/-- What a word that is peeked at shows to a master: nothing of SECURE channels or of the key and cipher segments to the NORMAL
world (R346, R491). -/
def shownTo (s : State) (m a : Nat) (w : Word) : Word :=
  if masterSecure s m then w
  else if among a (EVT_FLAG 0) 4 8 then
    let j := (a - EVT_FLAG 0) / 4
    BitVec.ofNat 32 ((List.range 32).foldl (fun v i => v + 2 ^ i * b2n (bitOf w.toNat i && !chanSecure s (32 * j + i))) 0)
  else if among a (SNP_BANK 0 0) 4 2048 || among a (SNP_BANK 1 0) 4 2048 then
    let i := a % 0x2000 / 4
    if segOffset 19 ≤ i && i < segOffset 21 then 0 else w
  else w

/-- The RC fields of a register clear. -/
def rcClear (s : State) (a : Nat) : State :=
  match regRow a with
  | some r => if r.rc = 0 then s else s.setReg a (s.reg a &&& ~~~(BitVec.ofNat 32 r.rc))
  | none => s

/-- A read by a master of the word at a register's address. -/
def regRead (s : State) (m a : Nat) : State :=
  if absent s.part a then s.answer 0
  else if !readMay s m a then s.refuse
  else if a = SYS_EPOCHL then
    (s.setLatch (epochLatch m) (BitVec.ofNat 32 (s.epoch / 2 ^ 32 % 512))).answer (BitVec.ofNat 32 s.epoch)
  else if a = SYS_EPOCHH then s.answer (s.latch (epochLatch m))
  else if a = VFB_TIMEL then timeRead s m
  else if a = VFB_TIMEH then s.answer (s.latch (timeLatch m))
  else if among a (TMR_CNT 0) 32 32 then
    let r := timerCntRead s m ((a - TMR_CNT 0) / 32)
    r.2.answer r.1
  else if among a RTC_SUBSEC 4 9 then
    let r := rtcRead s ((a - RTC_SUBSEC) / 4)
    r.2.answer r.1
  else if 0x200F0000 ≤ a && a < 0x200FF000 && a % 0x1000 < 0x200 && a % 0x40 = 0x3C && m < 15 then
    let e := (a - 0x200F0000) / 0x1000
    let i := a % 0x1000 / 0x40
    let s := if m = e then s.setFld (MBX_FULL_FULL e) (s.fld (MBX_FULL_FULL e) &&& (255 - 2 ^ i)) else s
    s.answer (s.reg a)
  else
    let s := if among a (TXS_DEAF 0) 4 348 then deafSettle s else s
    (rcClear s a).answer (shownTo s m a (peek s a))

/-! ### The device address space (R19, R25 to R27, R300) -/

def isReg (a : Nat) : Bool := decide (0x20000000 ≤ a ∧ a < 0x22000000)

/-- The octets that a master reaches at an address, in shared view, where all of them exist; `v` names whose private view it has. -/
def memSpan (v a n : Nat) : Option Nat :=
  match memAddr v a, memAddr v (a + n - 1) with
  | some b, some e => if e = b + n - 1 then some b else none
  | _, _ => none

/-- An octet of the key-blob region, in the flash read window. -/
def inKeyBlob (s : State) (off n : Nat) : Bool :=
  decide (65536 * keySector s < off + n ∧ off < 65536 * generalSector s)

/-- A read of `n` octets; the outcome stands in busResult.  A register of an absent unit is no exception to the width and alignment of R19
(DESIGN CHOICE, log entry 160). -/
def busRead (s : State) (m v a n : Nat) : List Byte × State :=
  if isReg a then
    if n = 4 && a % 4 = 0 then
      let s := regRead s m a
      (leBytes 4 s.busData.toNat, s)
    else ([], s.refuse)
  else if 0x10000000 ≤ a && a + n ≤ 0x14000000 && v ≠ 12 then
    if !masterSecure s m && inKeyBlob s (a - 0x10000000) n then ([], s.refuse)
    else match flashRead s (a - 0x10000000) n with
      | (some l, s) => (l, { s with busResult := .ok })
      | (none, s) => ([], s.refuse)
  else match memSpan v a n with
    | some b =>
      let (bad, s) := s.eccRead b n
      if bad then ([], s.refuse) else (s.rdN b n, { s with busResult := .ok })
    | none => ([], s.refuse)

/-- Octets of an engine's local memory are written: its fetch path has not seen them (R289). -/
def codeStale (s : State) (b n : Nat) : State :=
  if b < 0x04000000 then s else
  let k := (b - 0x04000000) / 0x100000
  let x := s.eng k
  s.setEng k { x with stale := (List.range n).foldl (fun m i => stSet false m (b % 0x100000 + i) true) x.stale }

/-- A write of octets; the outcome stands in busResult, for an absent unit's register too (DESIGN CHOICE, log entry 160). -/
def busWrite (s : State) (m v a : Nat) (l : List Byte) : State :=
  let s := { s with busResult := .ok }
  if isReg a then
    if l.length = 4 && a % 4 = 0 then regWrite s m a (ofLe l) else s.refuse
  else match memSpan v a l.length with
    | some b => if memRo b then s.refuse else (codeStale s b l.length).wrN b l
    | none => s.refuse

/-! ### Commands -/

/-- The bits of a register's W1C fields that events set on the edge of an access stand after it (R21). -/
def landed (s : State) (a : Nat) (events : Word) : State :=
  match regRow a with
  | some row => if row.w1c = 0 || absent s.part a then s else s.setReg a (s.reg a ||| (events &&& BitVec.ofNat 32 row.w1c))
  | none => s

/-- A write by a master, of a width and alignment of its own (R19, R25, R27); `data.landing` holds the W1C bits that events set on the same
edge (R21; what else such an event does is a command of its own). -/
def execRegisterWrite (master : Master) (address : BitVec 32) (data : LandedWrite) (s : State) : Res :=
  if !mainOn s || data.octets.isEmpty then ok s else
  let s := busWrite s master master address.toNat data.octets
  ok (if s.busResult = .ok && isReg address.toNat then landed s address.toNat data.landing else s)

/-- A read of a word by a master, which clears the RC fields; `landing` holds the increments and events that land on the same edge (R20,
R21). -/
def execCounterReadClear (master : Master) (address : BitVec 32) (landing : Word) (s : State) : Res :=
  if !mainOn s then ok s else
  let a := address.toNat
  let r := busRead s master master a 4
  match regRow a with
  | some row =>
    if row.rc = 0 || r.2.busResult = .error then ok r.2
    else ok (r.2.setReg a (r.2.reg a ||| (landing &&& BitVec.ofNat 32 row.rc)))
  | none => ok r.2

/-- A write of a shadowed register (R38). -/
def execShadowWrite (master : Master) (address : BitVec 32) (data : Word) (s : State) : Res :=
  match regRow address.toNat with
  | some r => ok (if mainOn s && r.shadowed then busWrite s master master address.toNat (leBytes 4 data.toNat) else s)
  | none => ok s

/-- A write of the base or size of a ring, queue or pool (R526). -/
def execRingBaseWrite (master : Master) (address : BitVec 32) (data : Word) (s : State) : Res :=
  ok (if mainOn s && (ringSpec address.toNat).isSome then busWrite s master master address.toNat (leBytes 4 data.toNat) else s)

/-- A read of SYS_EPOCHL (R37). -/
def execEpochRead (master : Master) (s : State) : Res := ok (if mainOn s then regRead s master SYS_EPOCHL else s)

end Sys2Proof.Machine
end

