-- ==== Sys2Proof/Machine/Operands.lean ====
section
/-! DEFINITION. Machine/Operands.lean: the accesses and operands of the Plewin instructions, shared by both encodings (R282, R296,
R317 to R320, R328, R335). -/

namespace Sys2Proof.Machine

/-! ### What an access or an instruction comes to -/

/-- It goes on with a value, or faults with a cause and the address of the faulting access (R296). -/
inductive Run (α : Type) where
  | go (a : α) (s : State)
  | trap (cause addr : Nat) (s : State)

def Run.bind {α β : Type} (r : Run α) (f : α → State → Run β) : Run β :=
  match r with
  | .go a s => f a s
  | .trap c a s => .trap c a s

/-- Who executes: the master identity of its accesses, and whose private view it has: 0 to 11 an engine's, 13 Sorrel's. -/
structure Actor where
  m : Nat
  v : Nat
  deriving DecidableEq, Repr

/-! ### Accesses (R26, R296, R300, R307) -/

/-- The cause of a refused access: WORLD for the KEY block in the NORMAL world, BUS otherwise (R296, R300). -/
def accCause (s : State) (m a : Nat) : Nat :=
  if decide (0x20130000 ≤ a ∧ a < 0x20140000) && !masterSecure s m then 3 else 2

/-- Octets of Sorrel's data memory. -/
def srlRead (s : State) (a n : Nat) : List Byte := (List.range n).map fun i => stGet 0 s.srl.mem (a + i)

def srlWrite (s : State) (a : Nat) : List Byte → State
  | [] => s
  | b :: l => srlWrite { s with srl := { s.srl with mem := stSet 0 s.srl.mem a b } } (a + 1) l

/-- A read of `n` octets. -/
def accRead (w : Actor) (a n : Nat) (s : State) : Run Nat :=
  if w.v = 13 ∧ a < 0x10000 then
    if a + n ≤ 0x10000 then .go (ofLe (srlRead s a n)) s else .trap 2 a s
  else
    let r := busRead s w.m w.v a n
    if r.2.busResult = .error then .trap (accCause s w.m a) a r.2 else .go (ofLe r.1) r.2

/-- A write of the low `n` octets of a number. -/
def accWrite (w : Actor) (a n x : Nat) (s : State) : Run Unit :=
  if w.v = 13 ∧ a < 0x10000 then
    if a + n ≤ 0x10000 then .go () (srlWrite s a (leBytes n x)) else .trap 2 a s
  else
    let t := busWrite s w.m w.v a (leBytes n x)
    if t.busResult = .error then .trap (accCause s w.m a) a s else .go () t

/-! ### Pointers (R282, R320) -/

def ptrGet (p : List Nat) (i : Nat) : Nat := p.getD i 0

def ptrSet (p : List Nat) (i x : Nat) : List Nat :=
  (List.range 8).map fun j => if j = i then x % 2 ^ 32 else p.getD j 0

/-- An address plus a displacement, modulo 2³². -/
def addrAdd (a : Nat) (d : Int) : Nat := wrapOf 32 (a + d)

/-! ### Specifiers (R317, R335) -/

/-- An operand specifier.  ABS and MINDA carry their address with the space base added. -/
inductive Spec where
  | reg (n : Nat)
  | ind (n : Nat)
  | postinc (n : Nat)
  | predec (n : Nat)
  | disp (n : Nat) (d : Int)
  | index (n m sc : Nat) (d : Int)
  | mind (n : Nat) (d : Int)
  | abs (a : Nat)
  | pcrel (d : Int)
  | minda (a : Nat)
  | imm (v : Int)
  deriving DecidableEq, Repr

def Spec.isImm : Spec → Bool
  | .imm _ => true
  | _ => false

def Spec.isReg : Spec → Bool
  | .reg _ => true
  | _ => false

/-- The specifier names pointer k. -/
def Spec.names (k : Nat) : Spec → Bool
  | .reg n | .ind n | .postinc n | .predec n | .disp n _ | .mind n _ => n == k
  | .index n m _ _ => n == k || m == k
  | _ => false

/-- Where an operand stands: a pointer, memory or register space, or a value. -/
inductive Place where
  | reg (n : Nat)
  | mem (a : Nat)
  | val (v : Nat)
  deriving DecidableEq, Repr

/-- A specifier is processed: the operand's place, and the pointers after the addressing (R317 to R320). -/
def specPlace (w : Actor) (ia size : Nat) (sp : Spec) (p : List Nat) (s : State) : Run (Place × List Nat) :=
  match sp with
  | .reg n => .go (.reg n, p) s
  | .ind n => .go (.mem (ptrGet p n), p) s
  | .postinc n => .go (.mem (ptrGet p n), ptrSet p n (ptrGet p n + size)) s
  | .predec n =>
    let a := addrAdd (ptrGet p n) (-(size : Int))
    .go (.mem a, ptrSet p n a) s
  | .disp n d => .go (.mem (addrAdd (ptrGet p n) d), p) s
  | .index n m sc d => .go (.mem (addrAdd (ptrGet p n + ptrGet p m * 2 ^ sc) d), p) s
  | .mind n d => (accRead w (addrAdd (ptrGet p n) d) 4 s).bind fun a s => .go (.mem a, p) s
  | .abs a => .go (.mem a, p) s
  | .pcrel d => .go (.mem (addrAdd ia d), p) s
  | .minda a => (accRead w a 4 s).bind fun a s => .go (.mem a, p) s
  | .imm v => .go (.val (wrapOf (8 * size) v), p) s

/-- The specifiers of an instruction with their sizes, in encoding order. -/
def specPlaces (w : Actor) (ia : Nat) : List (Spec × Nat) → List Nat → State → Run (List Place × List Nat)
  | [], p, s => .go ([], p) s
  | (sp, size) :: l, p, s =>
    (specPlace w ia size sp p s).bind fun r s =>
      (specPlaces w ia l r.2 s).bind fun q s => .go (r.1 :: q.1, q.2) s

/-- The value of an operand. -/
def placeRead (w : Actor) (size : Nat) (p : List Nat) (x : Place) (s : State) : Run Nat :=
  match x with
  | .reg n => .go (ptrGet p n % 2 ^ (8 * size)) s
  | .mem a => accRead w a size s
  | .val v => .go v s

/-- The values of several operands, in order. -/
def placesRead (w : Actor) (p : List Nat) : List (Place × Nat) → State → Run (List Nat)
  | [], s => .go [] s
  | (x, size) :: l, s =>
    (placeRead w size p x s).bind fun v s => (placesRead w p l s).bind fun vs s => .go (v :: vs) s

/-! ### Results (R318, R333) -/

/-- A result: its place, its size and its value. -/
structure Write where
  dst : Place
  size : Nat
  value : Nat
  deriving DecidableEq, Repr

/-- The pointers after the results that go to pointers. -/
def ptrWrites (p : List Nat) (l : List Write) : List Nat :=
  l.foldl (fun p x => match x.dst with | Place.reg n => ptrSet p n x.value | _ => p) p

/-- The results that go to memory or register space, in order. -/
def memWrites (w : Actor) : List Write → State → Run Unit
  | [], s => .go () s
  | x :: l, s =>
    match x.dst with
    | .mem a => (accWrite w a x.size x.value s).bind fun _ s => memWrites w l s
    | _ => memWrites w l s

/-- The operand of an atomic access must be aligned memory that may be written (R328). -/
def atomicCheck (x : Place) (size : Nat) (s : State) : Run Unit :=
  match x with
  | .mem a =>
    if a % size ≠ 0 then .trap 5 a s
    else if isReg a ∨ memRo a ∨ (0x10000000 ≤ a ∧ a < 0x14000000) then .trap 2 a s
    else .go () s
  | _ => .go () s

/-! ### Conditions (R323) -/

/-- EQ, NE, LT, GE, LTU, GEU at a width of `w` bits. -/
def condHolds (cc w a b : Nat) : Bool :=
  match cc with
  | 0 => a == b
  | 1 => a != b
  | 2 => decide (signedOf w a < signedOf w b)
  | 3 => decide (signedOf w b ≤ signedOf w a)
  | 4 => decide (a < b)
  | _ => decide (b ≤ a)

/-! ### The ALU (R322) -/

/-- ALU operation `op` at a width of `w` bits; none for a division by zero. -/
def alu (op w a b : Nat) : Option Nat :=
  let sa := signedOf w a
  let sb := signedOf w b
  match op with
  | 0 => some ((a + b) % 2 ^ w)
  | 1 => some ((a + 2 ^ w - b) % 2 ^ w)
  | 2 => some (a * b % 2 ^ w)
  | 3 => some (a * b / 2 ^ w)
  | 4 => some (wrapOf w (sa * sb / 2 ^ w))
  | 5 => if b = 0 then none else some (a / b)
  | 6 => if b = 0 then none else some (wrapOf w (Int.tdiv sa sb))
  | 7 => if b = 0 then none else some (a % b)
  | 8 => if b = 0 then none else some (wrapOf w (Int.tmod sa sb))
  | 9 => some (a &&& b)
  | 10 => some (a ||| b)
  | 11 => some (a ^^^ b)
  | 12 => some (a &&& (2 ^ w - 1 - b))
  | 13 => some (a * 2 ^ (b % w) % 2 ^ w)
  | 14 => some (a / 2 ^ (b % w))
  | _ => some (wrapOf w (sa / 2 ^ (b % w)))

end Sys2Proof.Machine
end

