-- ==== Sys2Proof/Machine/PlewinV.lean ====
section
/-! DEFINITION. Machine/PlewinV.lean: Plewin-V: the fetch and the reading of an instruction (R283, R289, R314 to R317, R321, R324, R325,
R332), handler entry and faults (R295 to R297), the commit of an instruction (R318, R329, R333), and the rows. -/

namespace Sys2Proof.Machine

/-! ### Instructions -/

/-- The operations; ALU operations by their index of R322, conditions by their order in R323. -/
inductive VOp where
  | nop | fence | syncI | ei | di | wfi | ret | reti
  | mov | lea | push | pop | swap | cas | not | neg
  | alu (op : Nat)
  | zxw | sxw | zxd | sxd
  | cb (cc : Nat)
  | br | call | jmp | calli
  | bfi | bfx | bfxs | clz | bperm
  | set (cc : Nat)
  deriving DecidableEq, Repr

/-- An instruction as read: its operands with their sizes in bytes, its width in bytes, control bits, displacement and length. -/
structure VInstr where
  op : VOp
  width : Nat
  rep : Bool
  atomic : Bool
  ctrl : Nat
  ops : List (Spec × Nat)
  disp : Int
  len : Nat
  deriving DecidableEq, Repr

/-- Why bytes give no instruction: they run past the private view, or they are not defined (R332). -/
inductive DecErr where
  | fetch
  | illegal
  deriving DecidableEq, Repr

/-- Prefixes (R315). -/
structure Prefixes where
  width : Option Nat := none
  space : Option Nat := none
  rep : Bool := false
  atomic : Bool := false
  nspec : Bool := false
  deriving DecidableEq, Repr

/-- The prefix bytes, in any order, at most one of each group (R315, R316). -/
def vPrefixes : List Byte → Prefixes → Except DecErr (Prefixes × List Byte)
  | [], _ => .error .fetch
  | b :: l, p =>
    let v := b.toNat
    if v < 0x60 || 0x70 ≤ v then .ok (p, b :: l)
    else if v < 0x64 then (if p.width.isSome then .error .illegal else vPrefixes l { p with width := some (2 ^ (v - 0x60)) })
    else if v < 0x68 then (if p.space.isSome then .error .illegal else vPrefixes l { p with space := some (v - 0x64) })
    else if v = 0x68 then (if p.rep then .error .illegal else vPrefixes l { p with rep := true })
    else if v = 0x69 then (if p.atomic then .error .illegal else vPrefixes l { p with atomic := true })
    else if v = 0x6A then (if p.nspec then .error .illegal else vPrefixes l { p with nspec := true })
    else .error .illegal

/-- What an operand may be: the operation writes it; its size in bytes, 0 where it is the operand width. -/
structure Opnd where
  wr : Bool := false
  size : Nat := 0
  deriving DecidableEq, Repr

/-- A row of the opcode tables: its operands, the prefixes W, S, R and A that it allows (N is allowed to all), the widths it allows,
its control bytes and the bytes of its displacement. -/
structure OpRow where
  op : VOp
  opnds : List Opnd := []
  w : Bool := true
  s : Bool := true
  r : Bool := true
  a : Bool := false
  widths : List Nat := [1, 2, 4, 8]
  ctrl : Nat := 0
  disp : Nat := 0
  deriving DecidableEq, Repr

def opD : Opnd := { wr := true }
def opS : Opnd := {}

/-- A row with no operands. -/
def bare (op : VOp) (disp : Nat) : OpRow := { op := op, w := false, s := false, r := false, disp := disp }

/-- The operations whose two-operand form may be atomic (R321). -/
def aluAtomic (op : Nat) : Bool := op == 0 || op == 1 || (decide (9 ≤ op) && decide (op ≤ 12))

/-- One-byte opcodes (R321). -/
def opRow (v : Nat) : Option OpRow :=
  if 0x10 ≤ v && v < 0x20 then some { op := .alu (v - 0x10), opnds := [opD, opS], a := aluAtomic (v - 0x10) }
  else if 0x20 ≤ v && v < 0x30 then some { op := .alu (v - 0x20), opnds := [opD, opS, opS] }
  else if 0x40 ≤ v && v < 0x46 then some { op := .cb (v - 0x40), opnds := [opS, opS], r := false, disp := 2 }
  else if 0x48 ≤ v && v < 0x4E then some { op := .cb (v - 0x48), opnds := [opS, opS], r := false, disp := 4 }
  else match v with
  | 0x00 => some (bare .nop 0)
  | 0x01 => some (bare .fence 0)
  | 0x02 => some (bare .syncI 0)
  | 0x03 => some (bare .ei 0)
  | 0x04 => some (bare .di 0)
  | 0x05 => some (bare .wfi 0)
  | 0x06 => some (bare .ret 0)
  | 0x07 => some (bare .reti 0)
  | 0x08 => some { op := .mov, opnds := [opD, opS] }
  | 0x09 => some { op := .lea, opnds := [{ wr := true, size := 4 }, { size := 4 }], w := false }
  | 0x0A => some { op := .push, opnds := [opS] }
  | 0x0B => some { op := .pop, opnds := [opD] }
  | 0x0C => some { op := .swap, opnds := [opD, opD], a := true }
  | 0x0D => some { op := .cas, opnds := [opD, opD, opS], r := false, a := true }
  | 0x0E => some { op := .not, opnds := [opD, opS] }
  | 0x0F => some { op := .neg, opnds := [opD, opS] }
  | 0x30 => some { op := .zxw, opnds := [{ wr := true, size := 4 }, opS], widths := [1, 2] }
  | 0x31 => some { op := .sxw, opnds := [{ wr := true, size := 4 }, opS], widths := [1, 2] }
  | 0x32 => some { op := .zxd, opnds := [{ wr := true, size := 8 }, opS], widths := [1, 2, 4] }
  | 0x33 => some { op := .sxd, opnds := [{ wr := true, size := 8 }, opS], widths := [1, 2, 4] }
  | 0x46 => some (bare .br 2)
  | 0x47 => some (bare .call 2)
  | 0x4E => some (bare .br 4)
  | 0x4F => some (bare .call 4)
  | 0x50 => some { op := .jmp, opnds := [{ size := 4 }], w := false, r := false }
  | 0x51 => some { op := .calli, opnds := [{ size := 4 }], w := false, r := false }
  | _ => none

/-- Escape opcodes (R324). -/
def escRow (v : Nat) : Option OpRow :=
  match v with
  | 0x00 => some { op := .bfi, opnds := [opD, opS, opS], ctrl := 3 }
  | 0x01 => some { op := .bfx, opnds := [opD, opS], ctrl := 2 }
  | 0x02 => some { op := .bfxs, opnds := [opD, opS], ctrl := 2 }
  | 0x03 => some { op := .clz, opnds := [opD, opS] }
  | 0x04 => some { op := .bperm, opnds := [opD, opS, { size := 4 }] }
  | _ => if 0x10 ≤ v && v < 0x16 then some { op := .set (v - 0x10), opnds := [opD, opS, opS] } else none

/-- The prefixes of an instruction are ones that its row allows (R316, R321, R332). -/
def prefixesMay (p : Prefixes) (row : OpRow) : Bool :=
  (row.w || p.width.isNone) && (row.s || p.space.isNone) && (row.r || !p.rep) && (row.a || !p.atomic)
    && row.widths.contains (p.width.getD 4)

/-- A little-endian field of `k` bytes and the bytes after it. -/
def takeLe (k : Nat) (l : List Byte) : Except DecErr (Nat × List Byte) :=
  if l.length < k then .error .fetch else .ok (ofLe (l.take k), l.drop k)

/-- The space base of R320. -/
def spaceBase (p : Prefixes) : Nat :=
  match p.space.getD 0 with
  | 0 => 0
  | 1 => 0x01000000
  | 2 => 0x20000000
  | _ => 0x04000000

/-- A field of `k` bytes goes through to a specifier. -/
def takeSpec (k : Nat) (l : List Byte) (f : Nat → Spec) : Except DecErr (Spec × List Byte) :=
  match takeLe k l with
  | .error e => .error e
  | .ok (v, l) => .ok (f v, l)

/-- INDEX: the index byte, and a displacement where S = 1. -/
def indexSpecOf (n s : Nat) (l : List Byte) : Except DecErr (Spec × List Byte) :=
  match l with
  | [] => .error .fetch
  | b :: l =>
    if 32 ≤ b.toNat then .error .illegal
    else if s = 0 then .ok (.index n (bitsOf b.toNat 2 0) (bitsOf b.toNat 4 3) 0, l)
    else takeSpec 1 l fun d => .index n (bitsOf b.toNat 2 0) (bitsOf b.toNat 4 3) (signedOf 8 d)

/-- An operand specifier with its extension bytes (R317). -/
def vSpec (base : Nat) (l : List Byte) : Except DecErr (Spec × List Byte) :=
  match l with
  | [] => .error .fetch
  | b :: l =>
    let mode := b.toNat / 16
    let s := bitsOf b.toNat 3 3
    let n := bitsOf b.toNat 2 0
    match mode with
    | 0x0 => if s = 0 then .ok (.reg n, l) else .error .illegal
    | 0x1 => if s = 0 then .ok (.ind n, l) else .error .illegal
    | 0x2 => if s = 0 then .ok (.postinc n, l) else .error .illegal
    | 0x3 => if s = 0 then .ok (.predec n, l) else .error .illegal
    | 0x4 => takeSpec (1 + s) l fun d => .disp n (signedOf (8 * (1 + s)) d)
    | 0x5 => if s = 0 then takeSpec 4 l fun d => .disp n (signedOf 32 d) else .error .illegal
    | 0x6 => indexSpecOf n s l
    | 0x7 => takeSpec (1 + s) l fun d => .mind n (signedOf (8 * (1 + s)) d)
    | 0x8 => if n = 0 then takeSpec (2 + 2 * s) l fun a => .abs ((base + a) % 2 ^ 32) else .error .illegal
    | 0x9 => if n = 0 then takeSpec (2 + 2 * s) l fun d => .pcrel (signedOf (8 * (2 + 2 * s)) d) else .error .illegal
    | 0xA => if s = 0 ∧ n = 0 then takeSpec 4 l fun a => .minda ((base + a) % 2 ^ 32) else .error .illegal
    | 0xB => if s = 0 ∧ n < 3 then takeSpec (2 ^ n) l fun v => .imm (signedOf (8 * 2 ^ n) v) else .error .illegal
    | 0xC => .ok (.imm (signedOf 4 (b.toNat % 16)), l)
    | _ => .error .illegal

/-- The operands of a row at a width, with the checks on IMM, QUICK and REG of R317. -/
def vSpecs (base width : Nat) : List Opnd → List Byte → Except DecErr (List (Spec × Nat) × List Byte)
  | [], l => .ok ([], l)
  | o :: os, l =>
    match vSpec base l with
    | .error e => .error e
    | .ok (sp, l) =>
      let size := if o.size = 0 then width else o.size
      if (o.wr && sp.isImm) || (sp.isReg && size != 4) then .error .illegal
      else match vSpecs base width os l with
        | .error e => .error e
        | .ok (sps, l) => .ok ((sp, size) :: sps, l)

/-- The control bytes of a field instruction are in order at a width of `w` bits (R325). -/
def ctrlMay (op : VOp) (ctrl w : Nat) : Bool :=
  match op with
  | .bfx | .bfxs => ctrl / 4096 == 0 && decide (ctrl % 64 + (ctrl / 64 % 64 + 1) ≤ w)
  | .bfi =>
    let len := ctrl / 4096 % 64 + 1
    ctrl / 2 ^ 18 == 0 && decide (ctrl % 64 + len ≤ w) && decide (ctrl / 64 % 64 + len ≤ w)
  | _ => true

/-- The operands of an instruction are ones that its operation and its prefixes admit (R321, R328, R329, R332). -/
def opsMay (op : VOp) (p : Prefixes) (ops : List (Spec × Nat)) : Bool :=
  let sp := ops.map (·.1)
  (!p.rep || sp.all (fun x => !x.names 6))
    && (!(p.atomic || op == .cas) || (match sp with | x :: _ => !x.isReg | [] => true))
    && (op != .lea || (match sp with
        | [_, .reg _] | [_, .imm _] | [_, .postinc _] | [_, .predec _] => false
        | _ => true))

/-- An instruction is read from the bytes that stand at its address (R314). -/
def vDecode (l : List Byte) : Except DecErr VInstr :=
  match vPrefixes l {} with
  | .error e => .error e
  | .ok (p, m) =>
    match takeLe 1 m with
    | .error e => .error e
    | .ok (b, m) =>
      let found : Except DecErr (Option OpRow × List Byte) :=
        if b = 0xF0 then (match takeLe 1 m with | .error e => .error e | .ok (c, m) => .ok (escRow c, m)) else .ok (opRow b, m)
      match found with
      | .error e => .error e
      | .ok (none, _) => .error .illegal
      | .ok (some row, m) =>
        if !prefixesMay p row then .error .illegal else
        let width := p.width.getD 4
        match takeLe row.ctrl m with
        | .error e => .error e
        | .ok (ctrl, m) =>
          if !ctrlMay row.op ctrl (8 * width) then .error .illegal else
          match vSpecs (spaceBase p) width row.opnds m with
          | .error e => .error e
          | .ok (ops, m) =>
            if !opsMay row.op p ops then .error .illegal else
            match takeLe row.disp m with
            | .error e => .error e
            | .ok (d, m) => .ok
              { op := row.op
                width := width
                rep := p.rep
                atomic := p.atomic || row.op == .cas
                ctrl := ctrl
                ops := ops
                disp := if row.disp = 0 then 0 else signedOf (8 * row.disp) d
                len := l.length - m.length }

/-! ### Fetch (R283, R289) -/

/-- The address of an engine's local memory in shared view. -/
def localBase (n : Nat) : Nat := 0x04000000 + 0x100000 * n

/-- Up to 24 octets at an address of the private view, as the fetch path gives them.  An octet that was written since the path last
emptied is open (R289). -/
def vFetch (s : State) (n ia : Nat) : List Byte :=
  (List.range (min 24 (0x80000 - ia))).map fun i =>
    if stGet false (s.eng n).stale (ia + i) then BitVec.ofNat 8 (Config.freeNat (s.free + i)) else s.rd8 (localBase n + ia + i)

/-- The state in which the open octets of a fetch have been drawn. -/
def vDrawn (s : State) (n ia : Nat) : State :=
  if (List.range 24).any fun i => stGet false (s.eng n).stale (ia + i) then { s with free := s.free + 24 } else s

/-! ### Handler entry and faults (R295 to R297) -/

/-- The status word of an engine. -/
def vStatus (s : State) (n : Nat) : Nat :=
  s.fld (SYS_ENGSTAT_INT_EN n) + 2 * s.fld (SYS_ENGSTAT_IN_HANDLER n) + 4 * b2n (n == 0 || s.flag (SYS_ENGCTL_WORLD n))

/-- The actor of an engine that runs normally. -/
def vActor (n : Nat) : Actor := { m := n, v := n }

/-- A double fault: FADDR, FPC and CAUSE keep the first fault. -/
def vDouble (s : State) (n : Nat) : State :=
  engFaulted ((s.bump (SYS_ENGFAULT_COUNT n)).setFld (SYS_ENGFAULT_DOUBLE n) 1) n

/-- Entry of a handler: word 0 of the vector table for a fault, word 1 for an interrupt. -/
def vEnter (s : State) (n word resume : Nat) : State :=
  let p := (s.eng n).ptrs
  let sp := addrAdd (ptrGet p 7) (-8)
  match (accWrite (vActor n) sp 4 resume s).bind fun _ t => accWrite (vActor n) (addrAdd sp 4) 4 (vStatus s n) t with
  | .trap _ _ _ => vDouble s n
  | .go _ t =>
    let t := t.setEng n { t.eng n with ptrs := ptrSet p 7 sp, waiting := false, eiHold := false, repAt := none }
    let t := t.setFlds [(SYS_ENGSTAT_INT_EN n, 0),
      (SYS_ENGPC_PC n, t.rdLe (localBase n + 16 * t.fld (SYS_ENGVEC_BASE n) + 4 * word) 4)]
    if word = 0 then t.setFld (SYS_ENGSTAT_IN_HANDLER n) 1 else t

/-- A fault at commit. -/
def vFault (s : State) (n cause addr ia : Nat) : State :=
  if s.flag (SYS_ENGSTAT_IN_HANDLER n) then vDouble s n
  else vEnter (faultRecord s n cause addr ia) n 0 ia

/-- The interrupt input of an engine, and the level that WAIT tests: its event ring is not empty (R295, R351). -/
def irqLevel (s : State) (r : Nat) : Bool := s.fld (IRQ_RHEAD_HEAD r) != s.fld (IRQ_RTAIL_TAIL r)

/-- An engine takes its interrupt; the resume address is that of a repeat form whose pass was the last to commit (R295, R329). -/
def vInterrupt (s : State) (n : Nat) : State := vEnter s n 1 ((s.eng n).repAt.getD (s.fld (SYS_ENGPC_PC n)))

/-! ### Commit (R294, R318, R329, R333) -/

/-- What an instruction does when it commits: its results, the pointers, the next address, and where it changes them INT_EN and
IN_HANDLER. -/
structure Effect where
  writes : List Write := []
  ptrs : List Nat
  pc : Nat
  intEn : Option Bool := none
  inHandler : Option Bool := none
  hold : Bool := false
  flush : Bool := false

/-- Store a bit where it is given. -/
def setOpt (s : State) (f : Field) (b : Option Bool) : State :=
  match b with
  | some b => s.setFld f (b2n b)
  | none => s

/-- An instruction at `ia` commits: the registers of the engine first, the results in memory last. -/
def vCommit (s : State) (n ia : Nat) (rep : Bool) (e : Effect) : Run Unit :=
  let x := s.eng n
  let p := ptrWrites e.ptrs e.writes
  let left := ptrGet p 6 - 1
  let t := s.setEng n { x with ptrs := if rep then ptrSet p 6 left else p
                               eiHold := e.hold
                               stale := if e.flush then [] else x.stale
                               repAt := if rep then some ia else none }
  let t := t.setFld (SYS_ENGPC_PC n) (if rep && left != 0 then ia else e.pc)
  let t := setOpt (setOpt t (SYS_ENGSTAT_INT_EN n) e.intEn) (SYS_ENGSTAT_IN_HANDLER n) e.inHandler
  match memWrites (vActor n) e.writes t with
  | .go _ t => .go () t
  | .trap c a _ => .trap c a s

/-- What an operation sees: its instruction, its address, the address of the next one, the places of its operands and the pointers after
the addressing. -/
structure VCtx where
  i : VInstr
  w : Actor
  ia : Nat
  next : Nat
  places : List Place
  ptrs : List Nat

/-- Operand k: its place with its size. -/
def VCtx.at (c : VCtx) (k : Nat) : Place × Nat := (c.places.getD k (.val 0), (c.i.ops.getD k (.imm 0, 4)).2)

/-- The engine is RUNNING and does not wait. -/
def vReady (s : State) (n : Nat) : Bool := mainOn s && engState s n == 1 && !(s.eng n).waiting

/-- One commit of an engine whose next instruction is one of `op`; a faulting fetch is taken by every row, and an instruction of
another row leaves the state as it is. -/
def vRow (s : State) (n : Nat) (op : VOp) (f : VCtx → State → Run Effect) : State :=
  if !vReady s n then s else
  let ia := s.fld (SYS_ENGPC_PC n)
  if 0x80000 ≤ ia then vFault s n 4 ia ia else
  match vDecode (vFetch s n ia) with
  | .error .fetch => vFault (vDrawn s n ia) n 4 0x80000 ia
  | .error .illegal => s
  | .ok i =>
    if i.op ≠ op then s else
    let (bad, s) := (vDrawn s n ia).eccRead (localBase n + ia) i.len
    if bad then vFault s n 2 ia ia else
    let p := (s.eng n).ptrs
    let next := ia + i.len
    let run : Run Unit :=
      if i.rep && ptrGet p 6 == 0 then vCommit s n ia false { ptrs := p, pc := next }
      else (specPlaces (vActor n) ia i.ops p s).bind fun r s =>
        (if i.atomic then atomicCheck (r.1.getD 0 (.val 0)) i.width s else .go () s).bind fun _ s =>
          (f { i := i, w := vActor n, ia := ia, next := next, places := r.1, ptrs := r.2 } s).bind fun e s => vCommit s n ia i.rep e
    match run with
    | .go _ t => t
    | .trap c a t => vFault t n c a ia

/-! ### Shapes of operations -/

/-- A result computed from the values of some operands goes to operand 0; none raises ARITH (R322). -/
def vData (srcs : List Nat) (g : VInstr → List Nat → Option Nat) (c : VCtx) (s : State) : Run Effect :=
  (placesRead c.w c.ptrs (srcs.map c.at) s).bind fun vs s =>
    match g c.i vs with
    | none => .trap 7 0 s
    | some v => .go { writes := [⟨(c.at 0).1, (c.at 0).2, v⟩], ptrs := c.ptrs, pc := c.next } s

/-- An operation on the engine alone. -/
def vPlain (intEn : Option Bool) (hold flush : Bool) (c : VCtx) (s : State) : Run Effect :=
  .go { ptrs := c.ptrs, pc := c.next, intEn := intEn, hold := hold, flush := flush } s

/-- CB.cc. -/
def vBranch (cc : Nat) (c : VCtx) (s : State) : Run Effect :=
  (placesRead c.w c.ptrs [c.at 0, c.at 1] s).bind fun vs s =>
    .go { ptrs := c.ptrs
          pc := if condHolds cc (8 * c.i.width) (vs.getD 0 0) (vs.getD 1 0) then addrAdd c.ia c.i.disp else c.next } s

/-- A push of a return address and a jump. -/
def vCallTo (target : Nat) (c : VCtx) (s : State) : Run Effect :=
  let a := addrAdd (ptrGet c.ptrs 7) (-4)
  .go { writes := [⟨.mem a, 4, c.next⟩], ptrs := ptrSet c.ptrs 7 a, pc := target } s

/-- The operands of the ALU: the two sources of the three-operand form, or operand 0 and the source. -/
def vAlu (op : Nat) (c : VCtx) (s : State) : Run Effect :=
  vData (if c.i.ops.length = 3 then [1, 2] else [0, 1]) (fun i vs => alu op (8 * i.width) (vs.getD 0 0) (vs.getD 1 0)) c s

/-- Zero- or sign-extension from the operand width to `w` bits. -/
def vExtend (signed : Bool) (w : Nat) (c : VCtx) (s : State) : Run Effect :=
  vData [1] (fun i vs => some (if signed then wrapOf w (signedOf (8 * i.width) (vs.getD 0 0)) else vs.getD 0 0)) c s

/-- SET.cc. -/
def vSet (cc : Nat) (c : VCtx) (s : State) : Run Effect :=
  vData [1, 2] (fun i vs => some (b2n (condHolds cc (8 * i.width) (vs.getD 0 0) (vs.getD 1 0)))) c s

/-- The field of BFX and BFXS (R325). -/
def bfxOf (signed : Bool) (i : VInstr) (x : Nat) : Nat :=
  let len := i.ctrl / 64 % 64 + 1
  let f := x / 2 ^ (i.ctrl % 64) % 2 ^ len
  if signed then wrapOf (8 * i.width) (signedOf len f) else f

/-- BFI (R325). -/
def bfiOf (i : VInstr) (a x : Nat) : Nat :=
  let dpos := i.ctrl / 64 % 64
  let len := i.ctrl / 4096 % 64 + 1
  let f := x / 2 ^ (i.ctrl % 64) % 2 ^ len
  a - a / 2 ^ dpos % 2 ^ len * 2 ^ dpos + f * 2 ^ dpos

/-- CLZ at a width of `w` bits (R326). -/
def clzOf (w x : Nat) : Nat := if x = 0 then w else w - 1 - Nat.log2 x

/-- BPERM at a width of `k` bytes (R327). -/
def bpermOf (k x sel : Nat) : Nat :=
  ofLe ((List.range k).map fun i =>
    let j := sel / 16 ^ i % 16
    if j = 15 then 0xFF#8 else if j < k then BitVec.ofNat 8 (x / 256 ^ j) else 0)

/-! ### Rows: the engine -/

/-- An engine takes its interrupt at a commit (R295, R331). -/
def execInterruptEntry (engine : Fin 12) (s : State) : Res :=
  let n : Nat := engine
  ok (if vReady s n && s.flag (SYS_ENGSTAT_INT_EN n) && irqLevel s n && !(s.eng n).eiHold then vInterrupt s n else s)

/-- An encoding that is not defined, or bytes that run past the private view (R296, R332). -/
def execIllegal (engine : Fin 12) (s : State) : Res :=
  let n : Nat := engine
  if !vReady s n then ok s else
  let ia := s.fld (SYS_ENGPC_PC n)
  if 0x80000 ≤ ia then ok (vFault s n 4 ia ia) else
  match vDecode (vFetch s n ia) with
  | .error .illegal => ok (vFault (vDrawn s n ia) n 1 0 ia)
  | .error .fetch => ok (vFault (vDrawn s n ia) n 4 0x80000 ia)
  | .ok _ => ok s

def execNop (engine : Fin 12) (s : State) : Res := ok (vRow s engine .nop (vPlain none false false))

/-- FENCE (R287): every earlier access has been performed, since commands are indivisible. -/
def execFence (engine : Fin 12) (s : State) : Res := ok (vRow s engine .fence (vPlain none false false))

/-- SYNC.I (R289). -/
def execSyncI (engine : Fin 12) (s : State) : Res := ok (vRow s engine .syncI (vPlain none false true))

/-- EI (R331): the interrupt is not taken before the instruction after it has committed. -/
def execEi (engine : Fin 12) (s : State) : Res := ok (vRow s engine .ei (vPlain (some true) true false))

def execDi (engine : Fin 12) (s : State) : Res := ok (vRow s engine .di (vPlain (some false) false false))

/-- WFI has completed: with INT_EN = 1 its interrupt is taken (R331). -/
def wfiDone (s : State) (n : Nat) : State := if s.flag (SYS_ENGSTAT_INT_EN n) then vInterrupt s n else s

/-- The next instruction of an engine is one of `op`. -/
def nextIs (s : State) (n : Nat) (op : VOp) : Bool :=
  match vDecode (vFetch s n (s.fld (SYS_ENGPC_PC n))) with
  | .ok i => i.op == op
  | .error _ => false

/-- An engine that has fetched WFI waits in it, with the address of the next instruction (R331). -/
def wfiWait (s : State) (n : Nat) : State :=
  let ia := s.fld (SYS_ENGPC_PC n)
  match vDecode (vFetch s n ia) with
  | .ok i =>
    let (bad, s) := (vDrawn s n ia).eccRead (localBase n + ia) i.len
    if bad then vFault s n 2 ia ia else s.setEng n { s.eng n with waiting := true, wake := ia + i.len }
  | .error _ => s

/-- WFI (R331). -/
def execWfi (engine : Fin 12) (s : State) : Res :=
  let n : Nat := engine
  if !vReady s n then ok s
  else if !nextIs s n .wfi then ok (vRow s n .wfi (vPlain none false false))
  else if irqLevel s n then
    let t := vRow s n .wfi (vPlain none false false)
    ok (if engState t n = 1 then wfiDone t n else t)
  else ok (wfiWait s n)

/-- The interrupt input rises during WFI (R331). -/
def execWfiWake (engine : Fin 12) (s : State) : Res :=
  let n : Nat := engine
  if !mainOn s || engState s n ≠ 1 || !(s.eng n).waiting || !irqLevel s n then ok s
  else ok (wfiDone ((s.setEng n { s.eng n with waiting := false, eiHold := false, repAt := none }).setFld (SYS_ENGPC_PC n) (s.eng n).wake) n)

/-! ### Rows: data -/

def execMov (engine : Fin 12) (upsets : List (Nat × Bool)) (s : State) : Res :=
  ok (vRow (s.upset upsets) engine .mov (vData [1] fun _ vs => some (vs.getD 0 0)))

/-- LEA: the address of the source. -/
def leaOf (c : VCtx) (s : State) : Run Effect :=
  let a := match (c.at 1).1 with | .mem a => a | _ => 0
  .go { writes := [⟨(c.at 0).1, 4, a⟩], ptrs := c.ptrs, pc := c.next } s

def execLea (engine : Fin 12) (s : State) : Res := ok (vRow s engine .lea leaOf)

/-- PUSH: the value goes below P7. -/
def pushOf (c : VCtx) (s : State) : Run Effect :=
  (placesRead c.w c.ptrs [c.at 0] s).bind fun vs s =>
    let a := addrAdd (ptrGet c.ptrs 7) (-(c.i.width : Int))
    .go { writes := [⟨.mem a, c.i.width, vs.getD 0 0⟩], ptrs := ptrSet c.ptrs 7 a, pc := c.next } s

def execPush (engine : Fin 12) (s : State) : Res := ok (vRow s engine .push pushOf)

/-- POP: the value at P7 goes to the operand. -/
def popOf (c : VCtx) (s : State) : Run Effect :=
  let a := ptrGet c.ptrs 7
  (accRead c.w a c.i.width s).bind fun v s =>
    .go { writes := [⟨(c.at 0).1, c.i.width, v⟩], ptrs := ptrSet c.ptrs 7 (a + c.i.width), pc := c.next } s

def execPop (engine : Fin 12) (s : State) : Res := ok (vRow s engine .pop popOf)

/-- SWAP: both operands are read, then both are written, the first one first. -/
def swapOf (c : VCtx) (s : State) : Run Effect :=
  (placesRead c.w c.ptrs [c.at 0, c.at 1] s).bind fun vs s =>
    .go { writes := [⟨(c.at 0).1, c.i.width, vs.getD 1 0⟩, ⟨(c.at 1).1, c.i.width, vs.getD 0 0⟩], ptrs := c.ptrs, pc := c.next } s

def execSwap (engine : Fin 12) (s : State) : Res := ok (vRow s engine .swap swapOf)

/-- CAS (R328). -/
def casOf (c : VCtx) (s : State) : Run Effect :=
  (placesRead c.w c.ptrs [c.at 0, c.at 1, c.at 2] s).bind fun vs s =>
    let old := vs.getD 0 0
    let e : Write := ⟨(c.at 1).1, c.i.width, old⟩
    .go { writes := if old = vs.getD 1 0 then [⟨(c.at 0).1, c.i.width, vs.getD 2 0⟩, e] else [e], ptrs := c.ptrs, pc := c.next } s

def execCas (engine : Fin 12) (s : State) : Res := ok (vRow s engine .cas casOf)

def execNot (engine : Fin 12) (s : State) : Res :=
  ok (vRow s engine .not (vData [1] fun i vs => some (2 ^ (8 * i.width) - 1 - vs.getD 0 0)))

def execNeg (engine : Fin 12) (s : State) : Res :=
  ok (vRow s engine .neg (vData [1] fun i vs => some ((2 ^ (8 * i.width) - vs.getD 0 0) % 2 ^ (8 * i.width))))

def execAdd (engine : Fin 12) (s : State) : Res := ok (vRow s engine (.alu 0) (vAlu 0))
def execSub (engine : Fin 12) (s : State) : Res := ok (vRow s engine (.alu 1) (vAlu 1))
def execMul (engine : Fin 12) (s : State) : Res := ok (vRow s engine (.alu 2) (vAlu 2))
def execMulhu (engine : Fin 12) (s : State) : Res := ok (vRow s engine (.alu 3) (vAlu 3))
def execMulhs (engine : Fin 12) (s : State) : Res := ok (vRow s engine (.alu 4) (vAlu 4))
def execDivu (engine : Fin 12) (s : State) : Res := ok (vRow s engine (.alu 5) (vAlu 5))
def execDivs (engine : Fin 12) (s : State) : Res := ok (vRow s engine (.alu 6) (vAlu 6))
def execRemu (engine : Fin 12) (s : State) : Res := ok (vRow s engine (.alu 7) (vAlu 7))
def execRems (engine : Fin 12) (s : State) : Res := ok (vRow s engine (.alu 8) (vAlu 8))
def execAnd (engine : Fin 12) (s : State) : Res := ok (vRow s engine (.alu 9) (vAlu 9))
def execOr (engine : Fin 12) (s : State) : Res := ok (vRow s engine (.alu 10) (vAlu 10))
def execXor (engine : Fin 12) (s : State) : Res := ok (vRow s engine (.alu 11) (vAlu 11))
def execAndn (engine : Fin 12) (s : State) : Res := ok (vRow s engine (.alu 12) (vAlu 12))
def execShl (engine : Fin 12) (s : State) : Res := ok (vRow s engine (.alu 13) (vAlu 13))
def execShr (engine : Fin 12) (s : State) : Res := ok (vRow s engine (.alu 14) (vAlu 14))
def execSar (engine : Fin 12) (s : State) : Res := ok (vRow s engine (.alu 15) (vAlu 15))
def execZxw (engine : Fin 12) (s : State) : Res := ok (vRow s engine .zxw (vExtend false 32))
def execSxw (engine : Fin 12) (s : State) : Res := ok (vRow s engine .sxw (vExtend true 32))
def execZxd (engine : Fin 12) (s : State) : Res := ok (vRow s engine .zxd (vExtend false 64))
def execSxd (engine : Fin 12) (s : State) : Res := ok (vRow s engine .sxd (vExtend true 64))

def execBfi (engine : Fin 12) (s : State) : Res :=
  ok (vRow s engine .bfi (vData [1, 2] fun i vs => some (bfiOf i (vs.getD 0 0) (vs.getD 1 0))))

def execBfx (engine : Fin 12) (s : State) : Res := ok (vRow s engine .bfx (vData [1] fun i vs => some (bfxOf false i (vs.getD 0 0))))
def execBfxs (engine : Fin 12) (s : State) : Res := ok (vRow s engine .bfxs (vData [1] fun i vs => some (bfxOf true i (vs.getD 0 0))))
def execClz (engine : Fin 12) (s : State) : Res := ok (vRow s engine .clz (vData [1] fun i vs => some (clzOf (8 * i.width) (vs.getD 0 0))))

def execBperm (engine : Fin 12) (s : State) : Res :=
  ok (vRow s engine .bperm (vData [1, 2] fun i vs => some (bpermOf i.width (vs.getD 0 0) (vs.getD 1 0))))

def execSetEq (engine : Fin 12) (s : State) : Res := ok (vRow s engine (.set 0) (vSet 0))
def execSetNe (engine : Fin 12) (s : State) : Res := ok (vRow s engine (.set 1) (vSet 1))
def execSetLt (engine : Fin 12) (s : State) : Res := ok (vRow s engine (.set 2) (vSet 2))
def execSetGe (engine : Fin 12) (s : State) : Res := ok (vRow s engine (.set 3) (vSet 3))
def execSetLtu (engine : Fin 12) (s : State) : Res := ok (vRow s engine (.set 4) (vSet 4))
def execSetGeu (engine : Fin 12) (s : State) : Res := ok (vRow s engine (.set 5) (vSet 5))

/-! ### Rows: control transfers (R323, R330) -/

def execCbEq (engine : Fin 12) (s : State) : Res := ok (vRow s engine (.cb 0) (vBranch 0))
def execCbNe (engine : Fin 12) (s : State) : Res := ok (vRow s engine (.cb 1) (vBranch 1))
def execCbLt (engine : Fin 12) (s : State) : Res := ok (vRow s engine (.cb 2) (vBranch 2))
def execCbGe (engine : Fin 12) (s : State) : Res := ok (vRow s engine (.cb 3) (vBranch 3))
def execCbLtu (engine : Fin 12) (s : State) : Res := ok (vRow s engine (.cb 4) (vBranch 4))
def execCbGeu (engine : Fin 12) (s : State) : Res := ok (vRow s engine (.cb 5) (vBranch 5))

def execBr (engine : Fin 12) (s : State) : Res :=
  ok (vRow s engine .br fun c s => .go { ptrs := c.ptrs, pc := addrAdd c.ia c.i.disp } s)

def execCall (engine : Fin 12) (s : State) : Res := ok (vRow s engine .call fun c s => vCallTo (addrAdd c.ia c.i.disp) c s)

def execJmp (engine : Fin 12) (s : State) : Res :=
  ok (vRow s engine .jmp fun c s => (placesRead c.w c.ptrs [c.at 0] s).bind fun vs s => .go { ptrs := c.ptrs, pc := vs.getD 0 0 } s)

def execCalli (engine : Fin 12) (s : State) : Res :=
  ok (vRow s engine .calli fun c s => (placesRead c.w c.ptrs [c.at 0] s).bind fun vs s => vCallTo (vs.getD 0 0) c s)

def execRet (engine : Fin 12) (s : State) : Res :=
  ok (vRow s engine .ret fun c s =>
    let a := ptrGet c.ptrs 7
    (accRead c.w a 4 s).bind fun pc s => .go { ptrs := ptrSet c.ptrs 7 (a + 4), pc := pc } s)

/-- RETI: the status word's bits 0 and 1 come back; the world does not change. -/
def retiOf (c : VCtx) (s : State) : Run Effect :=
  let a := ptrGet c.ptrs 7
  (accRead c.w a 4 s).bind fun pc s =>
    (accRead c.w (addrAdd a 4) 4 s).bind fun st s =>
      .go { ptrs := ptrSet c.ptrs 7 (a + 8), pc := pc, intEn := some (bitOf st 0), inHandler := some (bitOf st 1) } s

def execReti (engine : Fin 12) (s : State) : Res := ok (vRow s engine .reti retiOf)

end Sys2Proof.Machine
end

