-- ==== Sys2Proof/Machine/PlewinC.lean ====
section
/-! DEFINITION. Machine/PlewinC.lean: Plewin-C, which Sorrel and engines in recovery mode execute (R306, R307, R334 to R337). -/

namespace Sys2Proof.Machine

/-! ### Units (R306, R307) -/

/-- The unit that executes: 0 to 11 engines in recovery mode, 12 Sorrel. -/
def cActor (u : Nat) : Actor := if u < 12 then { m := 13, v := u } else { m := 13, v := 13 }

/-- The unit executes and does not stall in WAIT. -/
def cReady (s : State) (u : Nat) : Bool :=
  mainOn s && (if u < 12 then engState s u == 3 && !(s.eng u).waiting else !s.srl.waiting)

/-- The word address of the unit's next instruction. -/
def cPc (s : State) (u : Nat) : Nat := if u < 12 then s.fld (SYS_ENGPC_PC u) else s.srl.pc

def cPtrs (s : State) (u : Nat) : List Nat := if u < 12 then (s.eng u).ptrs else s.srl.ptrs

/-- The ring whose level WAIT tests (R336, R351). -/
def cRing (u : Nat) : Nat := if u < 12 then u else 13

/-- The unit stalls, or stalls no more. -/
def cWait (s : State) (u : Nat) (b : Bool) : State :=
  if u < 12 then s.setEng u { s.eng u with waiting := b } else { s with srl := { s.srl with waiting := b } }

/-- The unit's pointers and next address. -/
def cSet (s : State) (u : Nat) (p : List Nat) (pc : Nat) : State :=
  if u < 12 then (s.setEng u { s.eng u with ptrs := p }).setFld (SYS_ENGPC_PC u) pc
  else { s with srl := { s.srl with ptrs := p, pc := pc } }

/-! ### Fetch (R307, R334, R337) -/

/-- A word of program memory: ROM, then patch RAM. -/
def progWord (s : State) (a : Nat) : Nat := if a < 8192 then Config.romWord a % 2 ^ 14 else stGet 0 s.srl.patch a

/-- Six words from an address, fewer at the end of program memory. -/
def cFetch (s : State) (wa : Nat) : List Nat := (List.range (min 6 (12288 - wa))).map fun i => progWord s (wa + i)

/-! ### Instructions (R334 to R336) -/

/-- The operations, by their rows. -/
inductive COp where
  | alu (op : Nat)
  | mov | movb
  | cb (cc : Nat)
  | jmp | call | nop | fence | ret | wait
  deriving DecidableEq, Repr

/-- An instruction as read: its operands with their sizes, its branch word and its length in words. -/
structure CInstr where
  op : COp
  ops : List (Spec × Nat)
  branch : Int
  len : Nat
  deriving DecidableEq, Repr

/-- An operand field and its extension words (R335). -/
def cSpec (f : Nat) (l : List Nat) : Except DecErr (Spec × List Nat) :=
  let n := f % 8
  match f / 8, n with
  | 0, _ => .ok (.reg n, l)
  | 1, _ => .ok (.ind n, l)
  | 2, _ => .ok (.postinc n, l)
  | _, 0 => (match l with | w :: l => .ok (.imm (signedOf 14 w), l) | [] => .error .fetch)
  | _, 1 => (match l with | h :: w :: l => .ok (.imm (signedOf 28 (h * 2 ^ 14 + w)), l) | _ => .error .fetch)
  | _, 2 => (match l with | h :: w :: l => .ok (.abs (4 * (h * 2 ^ 14 + w)), l) | _ => .error .fetch)
  | _, 3 => (match l with | w :: l => .ok (.disp (w / 2 ^ 11) (signedOf 11 w), l) | [] => .error .fetch)
  | _, 4 => (match l with | w :: l => .ok (.mind (w / 2 ^ 11) (signedOf 11 w), l) | [] => .error .fetch)
  | _, _ => .error .illegal

/-- An operation with operands A and B. -/
def cBoth (op : COp) (size a b : Nat) (wr : Bool) (total : Nat) (l : List Nat) : Except DecErr CInstr :=
  match cSpec a l with
  | .error e => .error e
  | .ok (x, l) =>
    if wr && x.isImm then .error .illegal else
    match cSpec b l with
    | .error e => .error e
    | .ok (y, l) =>
      match op with
      | .cb _ => (match l with
        | r :: l => .ok ⟨op, [(x, size), (y, size)], signedOf 14 r, total - l.length⟩
        | [] => .error .fetch)
      | _ => .ok ⟨op, [(x, size), (y, size)], 0, total - l.length⟩

/-- An instruction is read from its words. -/
def cDecode (l : List Nat) : Except DecErr CInstr :=
  match l with
  | [] => .error .fetch
  | h :: m =>
    let op := h / 1024
    let a := h / 32 % 32
    let b := h % 32
    if op = 0 then cBoth .mov 4 a b true l.length m
    else if op < 8 then cBoth (.alu op) 4 a b true l.length m
    else if op < 12 then cBoth (.cb (op - 8)) 4 a b false l.length m
    else if op = 12 then cBoth .movb 1 a b true l.length m
    else if op = 13 then
      if 1 < a then .error .illegal else
      match cSpec b m with
      | .error e => .error e
      | .ok (y, m) => .ok ⟨if a = 0 then .jmp else .call, [(y, 4)], 0, l.length - m.length⟩
    else if op = 14 then
      if b ≠ 0 then .error .illegal else
      match a with
      | 0 => .ok ⟨.nop, [], 0, 1⟩
      | 1 => .ok ⟨.fence, [], 0, 1⟩
      | 2 => .ok ⟨.ret, [], 0, 1⟩
      | 3 => .ok ⟨.wait, [], 0, 1⟩
      | _ => .error .illegal
    else .error .illegal

/-- ADD to SHR (R336), over the ALU operations of R322. -/
def cAluIndex (op : Nat) : Nat :=
  match op with
  | 1 => 0
  | 2 => 1
  | 3 => 9
  | 4 => 10
  | 5 => 11
  | 6 => 13
  | _ => 14

/-- EQ, NE, LTU, GEU, over the conditions of R323. -/
def cCond (cc : Nat) : Nat := if cc < 2 then cc else cc + 2

/-! ### Faults (R337) -/

/-- A fault: an engine goes to FAULTED; Sorrel restarts in RECOVERY, and its mailbox page is reset (R357). -/
def cFault (s : State) (u cause addr wa : Nat) : State :=
  if u < 12 then engFaulted (faultRecord s u cause addr wa) u
  else
    let s := srlWrite (pageReset s 13) 0xFFF0 (leBytes 4 cause ++ leBytes 4 addr ++ leBytes 4 wa)
    { s with srl := { s.srl with pc := 0x10, waiting := false } }.setFld SYS_SRLSTAT_STATE 4

/-! ### Execution -/

/-- What an operation sees: its instruction, its address, the places of its operands and the pointers after the addressing. -/
structure CCtx where
  i : CInstr
  w : Actor
  wa : Nat
  places : List Place
  ptrs : List Nat

/-- Operand k: its place with its size. -/
def CCtx.at (c : CCtx) (k : Nat) : Place × Nat := (c.places.getD k (.val 0), (c.i.ops.getD k (.imm 0, 4)).2)

/-- The word address of the instruction after it. -/
def CCtx.next (c : CCtx) : Nat := (c.wa + c.i.len) % 2 ^ 14

/-- An instruction completes: the pointers and the next address first, the results in memory last. -/
def cCommit (s : State) (u : Nat) (e : Effect) : Run Unit :=
  match memWrites (cActor u) e.writes (cSet s u (ptrWrites e.ptrs e.writes) e.pc) with
  | .go _ t => .go () t
  | .trap c a _ => .trap c a s

/-- One instruction of a unit whose next instruction is one of `op`; a fault in fetching or reading it is taken by every row, and an
instruction of another row leaves the state as it is. -/
def cRow (s : State) (u : Nat) (op : COp) (f : CCtx → State → Run Effect) : State :=
  if !cReady s u then s else
  let wa := cPc s u
  match cDecode (cFetch s wa) with
  | .error .fetch => cFault s u 4 (max wa 12288) wa
  | .error .illegal => cFault s u 1 0 wa
  | .ok i =>
    if i.op ≠ op then s else
    match (specPlaces (cActor u) 0 i.ops (cPtrs s u) s).bind fun r s =>
        (f { i := i, w := cActor u, wa := wa, places := r.1, ptrs := r.2 } s).bind fun e s => cCommit s u e with
    | .go _ t => t
    | .trap c a t => cFault t u c a wa

/-- A result of A and B goes to A. -/
def cData (g : Nat → Nat → Nat) (c : CCtx) (s : State) : Run Effect :=
  (placesRead c.w c.ptrs [c.at 0, c.at 1] s).bind fun vs s =>
    .go { writes := [⟨(c.at 0).1, (c.at 0).2, g (vs.getD 0 0) (vs.getD 1 0)⟩], ptrs := c.ptrs, pc := c.next } s

/-- B goes to A; A is not read. -/
def cMove (c : CCtx) (s : State) : Run Effect :=
  (placesRead c.w c.ptrs [c.at 1] s).bind fun vs s =>
    .go { writes := [⟨(c.at 0).1, (c.at 0).2, vs.getD 0 0⟩], ptrs := c.ptrs, pc := c.next } s

def cAlu (op : Nat) (c : CCtx) (s : State) : Run Effect := cData (fun a b => (alu (cAluIndex op) 32 a b).getD 0) c s

def cBranch (cc : Nat) (c : CCtx) (s : State) : Run Effect :=
  (placesRead c.w c.ptrs [c.at 0, c.at 1] s).bind fun vs s =>
    .go { ptrs := c.ptrs
          pc := if condHolds (cCond cc) 32 (vs.getD 0 0) (vs.getD 1 0) then wrapOf 14 (c.wa + c.i.branch) else c.next } s

def cPlain (c : CCtx) (s : State) : Run Effect := .go { ptrs := c.ptrs, pc := c.next } s

/-! ### Rows -/

def execCMov (unit : Fin 13) (s : State) : Res := ok (cRow s unit .mov cMove)
def execCAdd (unit : Fin 13) (s : State) : Res := ok (cRow s unit (.alu 1) (cAlu 1))
def execCSub (unit : Fin 13) (s : State) : Res := ok (cRow s unit (.alu 2) (cAlu 2))
def execCAnd (unit : Fin 13) (s : State) : Res := ok (cRow s unit (.alu 3) (cAlu 3))
def execCOr (unit : Fin 13) (s : State) : Res := ok (cRow s unit (.alu 4) (cAlu 4))
def execCXor (unit : Fin 13) (s : State) : Res := ok (cRow s unit (.alu 5) (cAlu 5))
def execCShl (unit : Fin 13) (s : State) : Res := ok (cRow s unit (.alu 6) (cAlu 6))
def execCShr (unit : Fin 13) (s : State) : Res := ok (cRow s unit (.alu 7) (cAlu 7))
def execCCbeq (unit : Fin 13) (s : State) : Res := ok (cRow s unit (.cb 0) (cBranch 0))
def execCCbne (unit : Fin 13) (s : State) : Res := ok (cRow s unit (.cb 1) (cBranch 1))
def execCCbltu (unit : Fin 13) (s : State) : Res := ok (cRow s unit (.cb 2) (cBranch 2))
def execCCbgeu (unit : Fin 13) (s : State) : Res := ok (cRow s unit (.cb 3) (cBranch 3))
def execCMovb (unit : Fin 13) (s : State) : Res := ok (cRow s unit .movb cMove)

def execCJmp (unit : Fin 13) (s : State) : Res :=
  ok (cRow s unit .jmp fun c s =>
    (placesRead c.w c.ptrs [c.at 0] s).bind fun vs s => .go { ptrs := c.ptrs, pc := vs.getD 0 0 % 2 ^ 14 } s)

def execCCall (unit : Fin 13) (s : State) : Res :=
  ok (cRow s unit .call fun c s =>
    (placesRead c.w c.ptrs [c.at 0] s).bind fun vs s =>
      let a := addrAdd (ptrGet c.ptrs 7) (-4)
      .go { writes := [⟨.mem a, 4, c.next⟩], ptrs := ptrSet c.ptrs 7 a, pc := vs.getD 0 0 % 2 ^ 14 } s)

def execCNop (unit : Fin 13) (s : State) : Res := ok (cRow s unit .nop cPlain)

/-- FENCE: every earlier access has been performed, since commands are indivisible. -/
def execCFence (unit : Fin 13) (s : State) : Res := ok (cRow s unit .fence cPlain)

def execCRet (unit : Fin 13) (s : State) : Res :=
  ok (cRow s unit .ret fun c s =>
    let a := ptrGet c.ptrs 7
    (accRead c.w a 4 s).bind fun pc s => .go { ptrs := ptrSet c.ptrs 7 (a + 4), pc := pc % 2 ^ 14 } s)

/-- The next instruction of a unit is WAIT. -/
def cWaits (s : State) (u : Nat) : Bool :=
  match cDecode (cFetch s (cPc s u)) with
  | .ok i => i.op == .wait
  | .error _ => false

def execCWait (unit : Fin 13) (s : State) : Res :=
  let u : Nat := unit
  ok (if cReady s u && cWaits s u && !irqLevel s (cRing u) then cWait s u true else cRow s u .wait cPlain)

/-- The interrupt level rises during WAIT, which completes. -/
def execCWaitWake (unit : Fin 13) (s : State) : Res :=
  let u : Nat := unit
  let waits := if u < 12 then engState s u == 3 && (s.eng u).waiting else s.srl.waiting
  if !mainOn s || !waits || !irqLevel s (cRing u) then ok s
  else ok (cSet (cWait s u false) u (cPtrs s u) (cPc s u + 1))

end Sys2Proof.Machine
end

