-- ==== Sys2Proof/Machine/Receive.lean ====
section
/-! DEFINITION. Machine/Receive.lean: the meanings of the link controller's receive, acknowledgement and node-table
commands (R175 to R204). -/

namespace Sys2Proof.Machine

/-- The addressing fields of a lane's frame are delivered: `octets` are the PSDU octets so far, as they came off the air (R161, R180). -/
def execLookupPoint (lane : Fin 384) (octets : List Byte) (upsets : List (Nat × Bool)) (s : State) : Res :=
  let s := s.upset upsets
  match s.rxl lane with
  | none => ok s
  | some x => if x.headed then ok (blankSettle (lookup s lane (rxOctets x.words x.white 0 octets))) else ok s

/-- The command identifier of a frame whose test 8 waits for it is delivered, as it came off the air (R180). -/
def execAssocPanCheck (frame : Nat) (command : Byte) (s : State) : Res :=
  match s.frame frame with
  | none => ok s
  | some x => ok (blankSettle (assocCheck s frame (octAt (rxOctets x.words x.white (payloadAt x.octets) [command]) 0)))

/-- The auxiliary security header of a frame is delivered (R180, R193). -/
def execSecurityPoint (frame : Nat) (octets : List Byte) (s : State) : Res :=
  match s.frame frame with
  | none => ok s
  | some x => ok (blankSettle (securityTests s frame (rxOctets x.words x.white 0 octets)))

/-- What is still to be tested of a frame when its last octet comes: its lookup or security point, if the row for it did
not come before; a Data or MAC command frame cut short fails test 1 (R180). -/
def lastTests (s : State) (n : Nat) (psdu : List Byte) : State :=
  match s.rxl n with
  | none => s
  | some x =>
    let mac := psdu.take (psdu.length - fcsLen x.fcs4)
    let h := fcfOf mac
    let data := h.type = 1 || h.type = 3
    let short := data && (mac.length < h.addrEnd || (h.sec && mac.length < (auxOf mac).stop))
    if x.dropped then s
    else if mac.length < 2 || short then
      if x.frame = 0 then laneReject s n x none 1 LNK_FILT_COUNT
      else
        let node := (s.frame (x.frame - 1)).bind (·.node)
        frameDrop (lastRej (s.bump LNK_FILT_COUNT) node 1) (x.frame - 1)
    else
      let s := lookup s n mac
      match s.rxl n with
      | none => s
      | some x =>
        if x.frame = 0 then s else
        let s := securityTests s (x.frame - 1) mac
        -- test 8 without the row for it, or of a frame that carries no command identifier
        assocCheck s (x.frame - 1) (commandId mac)

/-- A lane delivers the last octet of its frame and is released: `psdu` is the whole PSDU as it came off the air, `stop` the end of frame at the
ball, `cfo` the carrier offset in 1/16 ppm (R127, R161, R180).  A received acknowledgement goes to the scheduler (R199). -/
def execFrameEnd (lane : Fin 384) (psdu : List Byte) (stop : Nat) (cfo : Word) (s : State) : Res :=
  let n : Nat := lane
  match s.rxl n with
  | none => ok s
  | some x =>
    if !x.headed || psdu.length ≠ x.len then ok s else
    let psdu := rxOctets x.words x.white 0 psdu
    let s := lastTests (s.advance stop) n psdu
    match s.rxl n with
    | none => ok s
    | some x =>
      let s := if x.frame = 0 then s else
        match s.frame (x.frame - 1) with
        | none => s
        | some f =>
          let f := { f with octets := psdu, endAt := stop, cfo := cfo.toNat % 65536, collided := s.flag (PHY_RXSTAT_COLLIDED n) }
          let s := s.setFrame (x.frame - 1) f
          match f.ackLane with
          | some t =>
            let l := s.txl t
            if l.stage < 2 then
              let a := stop + ackTurnNs f.words
              txLanePut s t { l with airStart := a, airEnd := a + (l.airEnd - l.airStart) }
            else s
          | none => s
      let s :=
        if x.frame ≠ 0 && (fcfOf psdu).type = 2 then
          let f := x.frame - 1
          -- test 4 of R180 asks for no good FCS (log entry 135)
          let dsn := if (fcfOf psdu).seqSup then none else some (frameDsn psdu)
          frameDrop (ackMatch s (rxBin s n) dsn (fcfOf psdu).pend stop) f
        else s
      ok (blankSettle (laneClose s n 0))

/-- 0.2 µs after the last octet: FCS, duplicate and counter decisions (R192). -/
def execFrameVerdict (frame : Nat) (s : State) : Res := ok (blankSettle (verdict s frame))

/-- The stream page's MIC result (R193). -/
def execMicResult (frame : Nat) (s : State) : Res := ok (micResult s frame)

/-- The receive descriptor is written (R196). -/
def execDescriptorWrite (frame : Nat) (s : State) : Res := ok (describe s frame)

/-- The freeze point: the pending bit is sampled and the content fixed (R190). -/
def execAckFreeze (frame : Nat) (s : State) : Res :=
  match s.frame frame with
  | none => ok s
  | some x =>
    if x.ack ≠ 1 then ok s else
    let n := x.node.getD 0
    let assoc := isAssoc x && x.outcome ≠ 2
    ok (s.setFrame frame { x with ack := 2, pendBit := assoc || (!x.isNew && 0 < recPending s n) })

/-- The commit point of an acknowledgement: it is committed with its steering, powers and blanking, or withdrawn (R132,
R187, R188). -/
def execAckCommit (frame : Nat) (s : State) : Res :=
  match s.frame frame with
  | none => ok s
  | some x =>
    match x.ackLane with
    | none => ok s
    | some t =>
      if x.ack ≠ 2 || (x.outcome ≠ 1 && x.outcome ≠ 2) then ok s else
      let l := s.txl t
      let k := x.bin
      let band := binBand k
      let sector := s.act SPX_SIGCTL_AGE_LIMIT == 0
      let power := signedOf 8 (if band = 0 then polField x.policy 6 7 0 else polField x.policy 6 15 8)
      let ports := (l.ports.map (·.1)).filter fun p => (s.portx p).txLane ≠ 0
      let sig := if sector then none else some (sigPad x.det.sig)
      -- the weights of the plane the frame's lane began under (R42, R132)
      let req := portPowers s x.beamPlane sig k power ports
      match commitChecks s k l.airStart l.airEnd req with
      | (0, kept, s) =>
        let s := s.bump (if sector then SPX_SIGCNT_SECTOR else SPX_SIGCNT_PRECODED)
        -- ports that R97 drops turn back (R187)
        let gone := l.ports.filter fun e => !kept.any (·.1 = e.1)
        let s := gone.foldl (fun s e => portRelease s t e.1) s
        let near := portWeights s x.beamPlane sig k (kept.map Prod.fst)
        let l := { l with ports := kept, weights := near }
        let l := { l with words := x.words, pre := preSymbols x.words, fcs4 := x.fcs4, frame := ackFrame x }
        let s := txLanePut s t { l with committed := true }
        let s := coxAtCommit (blankDecide s t k l.airStart l.airEnd) t
        ok (blankSettle ((s.setFrame frame { x with ack := 3 }).bump LNK_ACKTX_COUNT))
      | (_, _, s) => ok (blankSettle (frameGc (ackWithdraw s frame) frame))

/-! ### The update port (R177) -/

def execNodeRecordWrite (index : Fin 16384) (s : State) : Res := ok (updCommand s 1 index)
def execNodeRecordWriteIf (index : Fin 16384) (s : State) : Res := ok (updCommand s 2 index)
def execNodeRecordFree (index : Fin 16384) (s : State) : Res := ok (updCommand s 3 index)
def execNodeRecordAlloc (s : State) : Res := ok (updCommand s 5 0)

/-- OP 0, 6 and 7 (R177). -/
def execNodeRecordBadOp (op : Fin 3) (s : State) : Res := ok (updCommand s (if op.val = 0 then 0 else 5 + op.val) 0)

/-- A write of LNK_BUFFREE (R198). -/
def execBufferFree (slot : Fin 4096) (s : State) : Res := ok (slotFree s slot)

end Sys2Proof.Machine
end

