-- ==== Sys2Proof/Machine/Dispatch.lean ====
section
/-! DEFINITION. Machine/Dispatch.lean: one arm per command, each one direct call of its meaning. -/

namespace Sys2Proof.Machine

/-- The meaning of a command, on everything but the queue. -/
def exec (i : Instr) (s : State) : Host.Outcome State Fault Refusal :=
  match i with
  | .registerWrite master address data => Sys2Proof.Machine.execRegisterWrite master address data s
  | .counterReadClear master address landing => Sys2Proof.Machine.execCounterReadClear master address landing s
  | .shadowWrite master address data => Sys2Proof.Machine.execShadowWrite master address data s
  | .ringBaseWrite master address data => Sys2Proof.Machine.execRingBaseWrite master address data s
  | .epochRead master => Sys2Proof.Machine.execEpochRead master s
  | .refLost => Sys2Proof.Machine.execRefLost s
  | .fallbackSwitch => Sys2Proof.Machine.execFallbackSwitch s
  | .fallbackLock => Sys2Proof.Machine.execFallbackLock s
  | .refValidQualified => Sys2Proof.Machine.execRefValidQualified s
  | .rootLockReturn => Sys2Proof.Machine.execRootLockReturn s
  | .refSrcSelect source => Sys2Proof.Machine.execRefSrcSelect source s
  | .returnRequest => Sys2Proof.Machine.execReturnRequest s
  | .epochBoundary margin => Sys2Proof.Machine.execEpochBoundary margin s
  | .stagingCut => Sys2Proof.Machine.execStagingCut s
  | .commitArm blocks => Sys2Proof.Machine.execCommitArm blocks s
  | .commitCancel blocks => Sys2Proof.Machine.execCommitCancel blocks s
  | .loadStart slot => Sys2Proof.Machine.execLoadStart slot s
  | .loadBegin => Sys2Proof.Machine.execLoadBegin s
  | .loadHeaderChecked => Sys2Proof.Machine.execLoadHeaderChecked s
  | .loadHashDone => Sys2Proof.Machine.execLoadHashDone s
  | .loadSignatureVerified => Sys2Proof.Machine.execLoadSignatureVerified s
  | .loadRegionChecked => Sys2Proof.Machine.execLoadRegionChecked s
  | .loadAbort => Sys2Proof.Machine.execLoadAbort s
  | .swapArm => Sys2Proof.Machine.execSwapArm s
  | .swapCancel => Sys2Proof.Machine.execSwapCancel s
  | .venueOrder seq mask build epoch => Sys2Proof.Machine.execVenueOrder seq mask build epoch s
  | .bootselGo slot => Sys2Proof.Machine.execBootselGo slot s
  | .bootselComplete => Sys2Proof.Machine.execBootselComplete s
  | .portStateRequest port req => Sys2Proof.Machine.execPortStateRequest port req s
  | .bandOverride port ovr => Sys2Proof.Machine.execBandOverride port ovr s
  | .portTransitionDone port => Sys2Proof.Machine.execPortTransitionDone port s
  | .loRetuneDone group => Sys2Proof.Machine.execLoRetuneDone group s
  | .synLockLoss syn => Sys2Proof.Machine.execSynLockLoss syn s
  | .spareTakeoverDone syn locked => Sys2Proof.Machine.execSpareTakeoverDone syn locked s
  | .synCalibrationDone syn locked => Sys2Proof.Machine.execSynCalibrationDone syn locked s
  | .synFailedClear syn => Sys2Proof.Machine.execSynFailedClear syn s
  | .spareRecal => Sys2Proof.Machine.execSpareRecal s
  | .calibrationDue port celsius => Sys2Proof.Machine.execCalibrationDue port celsius s
  | .calibrationRequest port kinds => Sys2Proof.Machine.execCalibrationRequest port kinds s
  | .calibrationDone port celsius align results => Sys2Proof.Machine.execCalibrationDone port celsius align results s
  | .txPortWalk lane => Sys2Proof.Machine.execTxPortWalk lane s
  | .txPaOn lane grant => Sys2Proof.Machine.execTxPaOn lane grant s
  | .txAirStart lane => Sys2Proof.Machine.execTxAirStart lane s
  | .txEnd lane => Sys2Proof.Machine.execTxEnd lane s
  | .txRampDownEnd lane => Sys2Proof.Machine.execTxRampDownEnd lane s
  | .coexGntWithdrawn => Sys2Proof.Machine.execCoexGntWithdrawn s
  | .coexCutReport => Sys2Proof.Machine.execCoexCutReport s
  | .aagcStepDown port below clipped t => Sys2Proof.Machine.execAagcStepDown port below clipped t s
  | .aagcStepUp port below held t => Sys2Proof.Machine.execAagcStepUp port below held t s
  | .detection bin prof rho start snr ports outs => Sys2Proof.Machine.execDetection bin prof rho start snr ports outs s
  | .windowGroupClose bin => Sys2Proof.Machine.execWindowGroupClose bin s
  | .separation bin => Sys2Proof.Machine.execSeparation bin s
  | .blankingStart lane => Sys2Proof.Machine.execBlankingStart lane s
  | .signatureInvalidate node => Sys2Proof.Machine.execSignatureInvalidate node s
  | .signatureInvalidateAll => Sys2Proof.Machine.execSignatureInvalidateAll s
  | .signatureSweep => Sys2Proof.Machine.execSignatureSweep s
  | .signatureBsetSweep => Sys2Proof.Machine.execSignatureBsetSweep s
  | .syncMatch lane e0 e1 t => Sys2Proof.Machine.execSyncMatch lane e0 e1 t s
  | .syncTimeout lane => Sys2Proof.Machine.execSyncTimeout lane s
  | .headerCheck lane octets => Sys2Proof.Machine.execHeaderCheck lane octets s
  | .pilotLockLoss lane err0 err1 => Sys2Proof.Machine.execPilotLockLoss lane err0 err1 s
  | .rxLaneAbort lane => Sys2Proof.Machine.execRxLaneAbort lane s
  | .txLaneAbort lane => Sys2Proof.Machine.execTxLaneAbort lane s
  | .lookupPoint lane octets upsets => Sys2Proof.Machine.execLookupPoint lane octets upsets s
  | .assocPanCheck frame command => Sys2Proof.Machine.execAssocPanCheck frame command s
  | .securityPoint frame octets => Sys2Proof.Machine.execSecurityPoint frame octets s
  | .frameEnd lane psdu stop cfo => Sys2Proof.Machine.execFrameEnd lane psdu stop cfo s
  | .frameVerdict frame => Sys2Proof.Machine.execFrameVerdict frame s
  | .micResult frame => Sys2Proof.Machine.execMicResult frame s
  | .descriptorWrite frame => Sys2Proof.Machine.execDescriptorWrite frame s
  | .ackFreeze frame => Sys2Proof.Machine.execAckFreeze frame s
  | .ackCommit frame => Sys2Proof.Machine.execAckCommit frame s
  | .nodeRecordWrite index => Sys2Proof.Machine.execNodeRecordWrite index s
  | .nodeRecordWriteIf index => Sys2Proof.Machine.execNodeRecordWriteIf index s
  | .nodeRecordFree index => Sys2Proof.Machine.execNodeRecordFree index s
  | .nodeRecordPersist index => Sys2Proof.Machine.execNodeRecordPersist index s
  | .nodeRecordAlloc => Sys2Proof.Machine.execNodeRecordAlloc s
  | .nodeRecordBadOp op => Sys2Proof.Machine.execNodeRecordBadOp op s
  | .bufferFree slot => Sys2Proof.Machine.execBufferFree slot s
  | .slotStart => Sys2Proof.Machine.execSlotStart s
  | .txRequestIntake queue => Sys2Proof.Machine.execTxRequestIntake queue s
  | .txPlace request => Sys2Proof.Machine.execTxPlace request s
  | .txBufferFetched request => Sys2Proof.Machine.execTxBufferFetched request s
  | .txDeadline request => Sys2Proof.Machine.execTxDeadline request s
  | .txCommit request => Sys2Proof.Machine.execTxCommit request s
  | .ackWaitExpiry request => Sys2Proof.Machine.execAckWaitExpiry request s
  | .dutyMinuteBoundary => Sys2Proof.Machine.execDutyMinuteBoundary s
  | .dutyClear => Sys2Proof.Machine.execDutyClear s
  | .keepaliveSweep => Sys2Proof.Machine.execKeepaliveSweep s
  | .staleExpiry node => Sys2Proof.Machine.execStaleExpiry node s
  | .floodDecision frame => Sys2Proof.Machine.execFloodDecision frame s
  | .floodRecordReceived sender body => Sys2Proof.Machine.execFloodRecordReceived sender body s
  | .siltSweep => Sys2Proof.Machine.execSiltSweep s
  | .siltFlush => Sys2Proof.Machine.execSiltFlush s
  | .importCmd => Sys2Proof.Machine.execImportCmd s
  | .importReqReceived sender => Sys2Proof.Machine.execImportReqReceived sender s
  | .importAnswer => Sys2Proof.Machine.execImportAnswer s
  | .importEndReceived sender => Sys2Proof.Machine.execImportEndReceived sender s
  | .importTimeout => Sys2Proof.Machine.execImportTimeout s
  | .mark => Sys2Proof.Machine.execMark s
  | .syncCellSend => Sys2Proof.Machine.execSyncCellSend s
  | .syncCellReceived cell => Sys2Proof.Machine.execSyncCellReceived cell s
  | .stackSyncEdge skew => Sys2Proof.Machine.execStackSyncEdge skew s
  | .imageCellReceived sender node octets => Sys2Proof.Machine.execImageCellReceived sender node octets s
  | .detectCellReceived sender bin prof snr start => Sys2Proof.Machine.execDetectCellReceived sender bin prof snr start s
  | .laneOpenReceived tag bin prof start => Sys2Proof.Machine.execLaneOpenReceived tag bin prof start s
  | .sumsCellReceived tag direction first words own => Sys2Proof.Machine.execSumsCellReceived tag direction first words own s
  | .laneCloseReceived tag => Sys2Proof.Machine.execLaneCloseReceived tag s
  | .halfStreamTimeout tag => Sys2Proof.Machine.execHalfStreamTimeout tag s
  | .ringLinkDown port => Sys2Proof.Machine.execRingLinkDown port s
  | .ringLinkUp port => Sys2Proof.Machine.execRingLinkUp port s
  | .leaderLost => Sys2Proof.Machine.execLeaderLost s
  | .leaderRejoin => Sys2Proof.Machine.execLeaderRejoin s
  | .fabricCellReceived cell => Sys2Proof.Machine.execFabricCellReceived cell s
  | .fabricFrameReceived port payload => Sys2Proof.Machine.execFabricFrameReceived port payload s
  | .sendRingEntry head => Sys2Proof.Machine.execSendRingEntry head s
  | .ptpSyncSend => Sys2Proof.Machine.execPtpSyncSend s
  | .ptpSyncReceived port origin correction arrival => Sys2Proof.Machine.execPtpSyncReceived port origin correction arrival s
  | .ptpDelayReqSend => Sys2Proof.Machine.execPtpDelayReqSend s
  | .ptpDelayReqReceived port requester arrival => Sys2Proof.Machine.execPtpDelayReqReceived port requester arrival s
  | .ptpDelayRespReceived port received correction => Sys2Proof.Machine.execPtpDelayRespReceived port received correction s
  | .venueTimeStep => Sys2Proof.Machine.execVenueTimeStep s
  | .beaconSend => Sys2Proof.Machine.execBeaconSend s
  | .beaconReceived body => Sys2Proof.Machine.execBeaconReceived body s
  | .beaconTimeout => Sys2Proof.Machine.execBeaconTimeout s
  | .masterTakeover => Sys2Proof.Machine.execMasterTakeover s
  | .backupTakeover => Sys2Proof.Machine.execBackupTakeover s
  | .orderGo => Sys2Proof.Machine.execOrderGo s
  | .venueTimeRead master => Sys2Proof.Machine.execVenueTimeRead master s
  | .interruptEntry engine => Sys2Proof.Machine.execInterruptEntry engine s
  | .watchdogExpiry engine => Sys2Proof.Machine.execWatchdogExpiry engine s
  | .watchdogKick master engine => Sys2Proof.Machine.execWatchdogKick master engine s
  | .engineRun master engine recovery => Sys2Proof.Machine.execEngineRun master engine recovery s
  | .engineStop master engine => Sys2Proof.Machine.execEngineStop master engine s
  | .engineHeld engine => Sys2Proof.Machine.execEngineHeld engine s
  | .engineReset master engine => Sys2Proof.Machine.execEngineReset master engine s
  | .engineResetDone engine => Sys2Proof.Machine.execEngineResetDone engine s
  | .worldLock master => Sys2Proof.Machine.execWorldLock master s
  | .sorrelStartup entropyFail => Sys2Proof.Machine.execSorrelStartup entropyFail s
  | .leadReload master slot => Sys2Proof.Machine.execLeadReload master slot s
  | .leadReloadSectionLoaded => Sys2Proof.Machine.execLeadReloadSectionLoaded s
  | .leadReady master => Sys2Proof.Machine.execLeadReady master s
  | .autonomyOver => Sys2Proof.Machine.execAutonomyOver s
  | .nop engine => Sys2Proof.Machine.execNop engine s
  | .fence engine => Sys2Proof.Machine.execFence engine s
  | .syncI engine => Sys2Proof.Machine.execSyncI engine s
  | .ei engine => Sys2Proof.Machine.execEi engine s
  | .di engine => Sys2Proof.Machine.execDi engine s
  | .wfi engine => Sys2Proof.Machine.execWfi engine s
  | .wfiWake engine => Sys2Proof.Machine.execWfiWake engine s
  | .ret engine => Sys2Proof.Machine.execRet engine s
  | .reti engine => Sys2Proof.Machine.execReti engine s
  | .mov engine upsets => Sys2Proof.Machine.execMov engine upsets s
  | .lea engine => Sys2Proof.Machine.execLea engine s
  | .push engine => Sys2Proof.Machine.execPush engine s
  | .pop engine => Sys2Proof.Machine.execPop engine s
  | .swap engine => Sys2Proof.Machine.execSwap engine s
  | .cas engine => Sys2Proof.Machine.execCas engine s
  | .not engine => Sys2Proof.Machine.execNot engine s
  | .neg engine => Sys2Proof.Machine.execNeg engine s
  | .add engine => Sys2Proof.Machine.execAdd engine s
  | .sub engine => Sys2Proof.Machine.execSub engine s
  | .mul engine => Sys2Proof.Machine.execMul engine s
  | .mulhu engine => Sys2Proof.Machine.execMulhu engine s
  | .mulhs engine => Sys2Proof.Machine.execMulhs engine s
  | .divu engine => Sys2Proof.Machine.execDivu engine s
  | .divs engine => Sys2Proof.Machine.execDivs engine s
  | .remu engine => Sys2Proof.Machine.execRemu engine s
  | .rems engine => Sys2Proof.Machine.execRems engine s
  | .and engine => Sys2Proof.Machine.execAnd engine s
  | .or engine => Sys2Proof.Machine.execOr engine s
  | .xor engine => Sys2Proof.Machine.execXor engine s
  | .andn engine => Sys2Proof.Machine.execAndn engine s
  | .shl engine => Sys2Proof.Machine.execShl engine s
  | .shr engine => Sys2Proof.Machine.execShr engine s
  | .sar engine => Sys2Proof.Machine.execSar engine s
  | .zxw engine => Sys2Proof.Machine.execZxw engine s
  | .sxw engine => Sys2Proof.Machine.execSxw engine s
  | .zxd engine => Sys2Proof.Machine.execZxd engine s
  | .sxd engine => Sys2Proof.Machine.execSxd engine s
  | .cbEq engine => Sys2Proof.Machine.execCbEq engine s
  | .cbNe engine => Sys2Proof.Machine.execCbNe engine s
  | .cbLt engine => Sys2Proof.Machine.execCbLt engine s
  | .cbGe engine => Sys2Proof.Machine.execCbGe engine s
  | .cbLtu engine => Sys2Proof.Machine.execCbLtu engine s
  | .cbGeu engine => Sys2Proof.Machine.execCbGeu engine s
  | .br engine => Sys2Proof.Machine.execBr engine s
  | .call engine => Sys2Proof.Machine.execCall engine s
  | .jmp engine => Sys2Proof.Machine.execJmp engine s
  | .calli engine => Sys2Proof.Machine.execCalli engine s
  | .bfi engine => Sys2Proof.Machine.execBfi engine s
  | .bfx engine => Sys2Proof.Machine.execBfx engine s
  | .bfxs engine => Sys2Proof.Machine.execBfxs engine s
  | .clz engine => Sys2Proof.Machine.execClz engine s
  | .bperm engine => Sys2Proof.Machine.execBperm engine s
  | .setEq engine => Sys2Proof.Machine.execSetEq engine s
  | .setNe engine => Sys2Proof.Machine.execSetNe engine s
  | .setLt engine => Sys2Proof.Machine.execSetLt engine s
  | .setGe engine => Sys2Proof.Machine.execSetGe engine s
  | .setLtu engine => Sys2Proof.Machine.execSetLtu engine s
  | .setGeu engine => Sys2Proof.Machine.execSetGeu engine s
  | .illegal engine => Sys2Proof.Machine.execIllegal engine s
  | .cMov unit => Sys2Proof.Machine.execCMov unit s
  | .cAdd unit => Sys2Proof.Machine.execCAdd unit s
  | .cSub unit => Sys2Proof.Machine.execCSub unit s
  | .cAnd unit => Sys2Proof.Machine.execCAnd unit s
  | .cOr unit => Sys2Proof.Machine.execCOr unit s
  | .cXor unit => Sys2Proof.Machine.execCXor unit s
  | .cShl unit => Sys2Proof.Machine.execCShl unit s
  | .cShr unit => Sys2Proof.Machine.execCShr unit s
  | .cCbeq unit => Sys2Proof.Machine.execCCbeq unit s
  | .cCbne unit => Sys2Proof.Machine.execCCbne unit s
  | .cCbltu unit => Sys2Proof.Machine.execCCbltu unit s
  | .cCbgeu unit => Sys2Proof.Machine.execCCbgeu unit s
  | .cMovb unit => Sys2Proof.Machine.execCMovb unit s
  | .cJmp unit => Sys2Proof.Machine.execCJmp unit s
  | .cCall unit => Sys2Proof.Machine.execCCall unit s
  | .cNop unit => Sys2Proof.Machine.execCNop unit s
  | .cFence unit => Sys2Proof.Machine.execCFence unit s
  | .cRet unit => Sys2Proof.Machine.execCRet unit s
  | .cWait unit => Sys2Proof.Machine.execCWait unit s
  | .cWaitWake unit => Sys2Proof.Machine.execCWaitWake unit s
  | .eventFire => Sys2Proof.Machine.execEventFire s
  | .relayFire relay => Sys2Proof.Machine.execRelayFire relay s
  | .softwareTrigger master channel payload => Sys2Proof.Machine.execSoftwareTrigger master channel payload s
  | .asyncEdge pin rising => Sys2Proof.Machine.execAsyncEdge pin rising s
  | .irqCoalesceTimeout source => Sys2Proof.Machine.execIrqCoalesceTimeout source s
  | .mbxSend master page word => Sys2Proof.Machine.execMbxSend master page word s
  | .mailboxRecordReceived peer body => Sys2Proof.Machine.execMailboxRecordReceived peer body s
  | .mailboxTimeout page => Sys2Proof.Machine.execMailboxTimeout page s
  | .fragmentTimeout => Sys2Proof.Machine.execFragmentTimeout s
  | .mbxSlotRead master page slot => Sys2Proof.Machine.execMbxSlotRead master page slot s
  | .doorbellMaskWrite master page mask => Sys2Proof.Machine.execDoorbellMaskWrite master page mask s
  | .timerMatch timer => Sys2Proof.Machine.execTimerMatch timer s
  | .timerOverflow timer => Sys2Proof.Machine.execTimerOverflow timer s
  | .groupLoad groups => Sys2Proof.Machine.execGroupLoad groups s
  | .groupStop groups => Sys2Proof.Machine.execGroupStop groups s
  | .timerChainRead master timer => Sys2Proof.Machine.execTimerChainRead master timer s
  | .rtcSecond => Sys2Proof.Machine.execRtcSecond s
  | .oscFail => Sys2Proof.Machine.execOscFail s
  | .oscRestore => Sys2Proof.Machine.execOscRestore s
  | .rtcTimeRead register => Sys2Proof.Machine.execRtcTimeRead register s
  | .rtcYearRead => Sys2Proof.Machine.execRtcYearRead s
  | .freezeLapse => Sys2Proof.Machine.execFreezeLapse s
  | .rtcApply => Sys2Proof.Machine.execRtcApply s
  | .rtcApplyEdge => Sys2Proof.Machine.execRtcApplyEdge s
  | .alarmArm wakeEn => Sys2Proof.Machine.execAlarmArm wakeEn s
  | .osfClear => Sys2Proof.Machine.execOsfClear s
  | .tamperAssert => Sys2Proof.Machine.execTamperAssert s
  | .zeroizeEraseDone => Sys2Proof.Machine.execZeroizeEraseDone s
  | .backupPowerUp vbat => Sys2Proof.Machine.execBackupPowerUp vbat s
  | .railLost rails => Sys2Proof.Machine.execRailLost rails s
  | .railsPresent => Sys2Proof.Machine.execRailsPresent s
  | .startupStepDone us ready => Sys2Proof.Machine.execStartupStepDone us ready s
  | .startupStepTimeout us rails => Sys2Proof.Machine.execStartupStepTimeout us rails s
  | .pgoodLow => Sys2Proof.Machine.execPgoodLow s
  | .voltageAck => Sys2Proof.Machine.execVoltageAck s
  | .voltageRequestFail => Sys2Proof.Machine.execVoltageRequestFail s
  | .pmbusTransaction word => Sys2Proof.Machine.execPmbusTransaction word s
  | .pmbusTransactionDone result data => Sys2Proof.Machine.execPmbusTransactionDone result data s
  | .pmbusAlert words => Sys2Proof.Machine.execPmbusAlert words s
  | .quietRequest => Sys2Proof.Machine.execQuietRequest s
  | .quietDrainDone => Sys2Proof.Machine.execQuietDrainDone s
  | .activeRequest => Sys2Proof.Machine.execActiveRequest s
  | .dormantRequest key => Sys2Proof.Machine.execDormantRequest key s
  | .dormantDrainDone => Sys2Proof.Machine.execDormantDrainDone s
  | .dormantReached confirmed => Sys2Proof.Machine.execDormantReached confirmed s
  | .wake => Sys2Proof.Machine.execWake s
  | .wakePortMatch address => Sys2Proof.Machine.execWakePortMatch address s
  | .perstAssert => Sys2Proof.Machine.execPerstAssert s
  | .softwareDeviceReset key => Sys2Proof.Machine.execSoftwareDeviceReset key s
  | .deviceWatchdogExpiry => Sys2Proof.Machine.execDeviceWatchdogExpiry s
  | .deviceWatchdogKick master => Sys2Proof.Machine.execDeviceWatchdogKick master s
  | .resetDrainDone => Sys2Proof.Machine.execResetDrainDone s
  | .hotSensor celsius => Sys2Proof.Machine.execHotSensor celsius s
  | .overTemperatureShutdown => Sys2Proof.Machine.execOverTemperatureShutdown s
  | .program master channel sector page => Sys2Proof.Machine.execProgram master channel sector page s
  | .erase master channel sector => Sys2Proof.Machine.execErase master channel sector s
  | .blank master channel sector => Sys2Proof.Machine.execBlank master channel sector s
  | .lwrite master channel logical => Sys2Proof.Machine.execLwrite master channel logical s
  | .lconfirm master channel logical => Sys2Proof.Machine.execLconfirm master channel logical s
  | .labandon master channel logical => Sys2Proof.Machine.execLabandon master channel logical s
  | .flashOperationDone time timeout dirty level => Sys2Proof.Machine.execFlashOperationDone time timeout dirty level s
  | .counterWriteDone which => Sys2Proof.Machine.execCounterWriteDone which s
  | .isvnAdvance master value => Sys2Proof.Machine.execIsvnAdvance master value s
  | .lcProvision master key => Sys2Proof.Machine.execLcProvision master key s
  | .lcZeroize master key => Sys2Proof.Machine.execLcZeroize master key s
  | .install stored => Sys2Proof.Machine.execInstall stored s
  | .installPub stored => Sys2Proof.Machine.execInstallPub stored s
  | .delete stored => Sys2Proof.Machine.execDelete stored s
  | .installAuthority stored => Sys2Proof.Machine.execInstallAuthority stored s
  | .lcDeploy stored => Sys2Proof.Machine.execLcDeploy stored s
  | .lcReturn stored => Sys2Proof.Machine.execLcReturn stored s
  | .reservationWriteDone slot => Sys2Proof.Machine.execReservationWriteDone slot s
  | .ccmEnc master page keyslot => Sys2Proof.Machine.execCcmEnc master page keyslot s
  | .ccmDec master page keyslot => Sys2Proof.Machine.execCcmDec master page keyslot s
  | .kwWrap master page keyslot => Sys2Proof.Machine.execKwWrap master page keyslot s
  | .kwUnwrap master page keyslot => Sys2Proof.Machine.execKwUnwrap master page keyslot s
  | .sha256 master page => Sys2Proof.Machine.execSha256 master page s
  | .ecdsaVerify master page keyslot rom => Sys2Proof.Machine.execEcdsaVerify master page keyslot rom s
  | .cipherOperationDone page => Sys2Proof.Machine.execCipherOperationDone page s
  | .updBlock master index => Sys2Proof.Machine.execUpdBlock master index s
  | .blockCrcDone => Sys2Proof.Machine.execBlockCrcDone s
  | .updWinbase master base => Sys2Proof.Machine.execUpdWinbase master base s
  | .updWinlen master blocks => Sys2Proof.Machine.execUpdWinlen master blocks s
  | .updateStart master kind slot => Sys2Proof.Machine.execUpdateStart master kind slot s
  | .updateChecksDone => Sys2Proof.Machine.execUpdateChecksDone s
  | .updateAbort master => Sys2Proof.Machine.execUpdateAbort master s
  | .updateCommit master slot => Sys2Proof.Machine.execUpdateCommit master slot s
  | .updateRecover master slot => Sys2Proof.Machine.execUpdateRecover master slot s
  | .blockMapClear master => Sys2Proof.Machine.execBlockMapClear master s
  | .hostBar2Access access upsets => Sys2Proof.Machine.execHostBar2Access access upsets s
  | .hostTxRequestFetch ring octets => Sys2Proof.Machine.execHostTxRequestFetch ring octets s
  | .hostBufferReadDone request result octets => Sys2Proof.Machine.execHostBufferReadDone request result octets s
  | .hifModerationTimeout source => Sys2Proof.Machine.execHifModerationTimeout source s
  | .msixUnmask control => Sys2Proof.Machine.execMsixUnmask control s
  | .busMasterChange enable d3 => Sys2Proof.Machine.execBusMasterChange enable d3 s
  | .heldDescriptorDiscard => Sys2Proof.Machine.execHeldDescriptorDiscard s
  | .interfaceReset cause => Sys2Proof.Machine.execInterfaceReset cause s
  | .linkUp speed width => Sys2Proof.Machine.execLinkUp speed width s
  | .coreSamplePinEdge rising => Sys2Proof.Machine.execCoreSamplePinEdge rising s
  | .coreSampleTimeTrigger => Sys2Proof.Machine.execCoreSampleTimeTrigger s
  | .coreSampleRecordReceived time => Sys2Proof.Machine.execCoreSampleRecordReceived time s
  | .snapshotMoveDone => Sys2Proof.Machine.execSnapshotMoveDone s
  | .snapshotArm => Sys2Proof.Machine.execSnapshotArm s
  | .snapshotDisarm => Sys2Proof.Machine.execSnapshotDisarm s
  | .snapshotBcast => Sys2Proof.Machine.execSnapshotBcast s
  | .bankRelease banks => Sys2Proof.Machine.execBankRelease banks s
  | .counterClearAll => Sys2Proof.Machine.execCounterClearAll s
  | .counterFreeze freeze => Sys2Proof.Machine.execCounterFreeze freeze s
  | .extest => Sys2Proof.Machine.execExtest s
  | .idcode => Sys2Proof.Machine.execIdcode s
  | .samplePreload loaded => Sys2Proof.Machine.execSamplePreload loaded s
  | .clamp => Sys2Proof.Machine.execClamp s
  | .highz => Sys2Proof.Machine.execHighz s
  | .extestPulse => Sys2Proof.Machine.execExtestPulse s
  | .extestTrain => Sys2Proof.Machine.execExtestTrain s
  | .bypass => Sys2Proof.Machine.execBypass s
  | .privateInstruction code => Sys2Proof.Machine.execPrivateInstruction code s
  | .refValidRise => Sys2Proof.Machine.execRefValidRise s
  | .fabricPortDown port => Sys2Proof.Machine.execFabricPortDown port s
  | .fabricPortUp port => Sys2Proof.Machine.execFabricPortUp port s
  | .backupPowerLost => Sys2Proof.Machine.execBackupPowerLost s
  | .hotClear => Sys2Proof.Machine.execHotClear s
  | .regEnPulseEnd => Sys2Proof.Machine.execRegEnPulseEnd s
  | .hopSecondBoundary => Sys2Proof.Machine.execHopSecondBoundary s
  | .beaconTimeMissed => Sys2Proof.Machine.execBeaconTimeMissed s
  | .coexReqRise rise => Sys2Proof.Machine.execCoexReqRise rise s

end Sys2Proof.Machine
end

