-- ==== Sys2Proof/Machine/Idle.lean ====
section
/-! DEFINITION. Machine/Idle.lean: what a step does when no command waits: one CLK_PER edge of 20/3 ns passes (R28, R338, R363). -/

namespace Sys2Proof.Machine

/-- One CLK_PER edge passes while the main domain runs: the timers count; what was fired before is distributed, so that a task acts on
timers that have counted (R371; log entry 2); and venue time moves on by 20/3 ns, but not to the next epoch boundary, which is a command of
its own. -/
def idle (s : State) : State :=
  if !mainOn s then s else
  let s := latchRelease s
  let entered := s.events
  let s := timersEdge { s with events := [] }
  let ticked := s.events
  let s := distribute { s with events := entered }
  let s := { s with events := ticked ++ s.events }
  let s := vetchSettle s
  let n := 20 + s.thirds
  let t := s.venue + n / 3
  if t < s.nextBoundary then { s.passTo t with thirds := n % 3 } else s.advance t

end Sys2Proof.Machine
end

