-- ==== Sys2Proof/Machine/Assemble.lean ====
section
/-! DEFINITION. Machine/Assemble.lean: the other direction of the two encodings: the forms of Plewin-V and Plewin-C instructions, the
bytes and the words that spell them (R314 to R317, R321, R324, R334 to R336), and the instructions that they mean. -/

namespace Sys2Proof.Machine

/-! ### Plewin-V -/

/-- A prefix (R315). -/
inductive VPrefix where
  | width (x : Fin 4)
  | space (x : Fin 4)
  | repeated
  | atomic
  | nonSpec
  deriving DecidableEq, Repr

def VPrefix.byte : VPrefix → Byte
  | .width x => BitVec.ofNat 8 (0x60 + x)
  | .space x => BitVec.ofNat 8 (0x64 + x)
  | .repeated => 0x68
  | .atomic => 0x69
  | .nonSpec => 0x6A

/-- The group of a prefix, of which an instruction has at most one. -/
def VPrefix.group : VPrefix → Nat
  | .width _ => 0
  | .space _ => 1
  | .repeated => 2
  | .atomic => 3
  | .nonSpec => 4

/-- What prefixes come to, in whatever order they stand. -/
def prefixesOf (l : List VPrefix) : Prefixes :=
  { width := l.findSome? fun p => match p with | .width x => some (2 ^ x.val) | _ => none
    space := l.findSome? fun p => match p with | .space x => some x.val | _ => none
    rep := l.contains .repeated
    atomic := l.contains .atomic
    nspec := l.contains .nonSpec }

/-- An operand specifier as it is written (R317). -/
inductive SpecForm where
  | reg (n : Fin 8)
  | ind (n : Fin 8)
  | postinc (n : Fin 8)
  | predec (n : Fin 8)
  | disp8 (n : Fin 8) (d : BitVec 8)
  | disp16 (n : Fin 8) (d : BitVec 16)
  | disp32 (n : Fin 8) (d : BitVec 32)
  | index (n m : Fin 8) (sc : Fin 4)
  | index8 (n m : Fin 8) (sc : Fin 4) (d : BitVec 8)
  | mind8 (n : Fin 8) (d : BitVec 8)
  | mind16 (n : Fin 8) (d : BitVec 16)
  | abs16 (a : BitVec 16)
  | abs32 (a : BitVec 32)
  | pcrel16 (d : BitVec 16)
  | pcrel32 (d : BitVec 32)
  | minda (a : BitVec 32)
  | imm8 (v : BitVec 8)
  | imm16 (v : BitVec 16)
  | imm32 (v : BitVec 32)
  | quick (v : BitVec 4)
  deriving DecidableEq, Repr

/-- A specifier byte: MODE, S and REG. -/
def specByte (mode s n : Nat) : Byte := BitVec.ofNat 8 (16 * mode + 8 * s + n)

/-- The bytes of a specifier. -/
def SpecForm.bytes : SpecForm → List Byte
  | .reg n => [specByte 0 0 n]
  | .ind n => [specByte 1 0 n]
  | .postinc n => [specByte 2 0 n]
  | .predec n => [specByte 3 0 n]
  | .disp8 n d => specByte 4 0 n :: leBytes 1 d.toNat
  | .disp16 n d => specByte 4 1 n :: leBytes 2 d.toNat
  | .disp32 n d => specByte 5 0 n :: leBytes 4 d.toNat
  | .index n m sc => [specByte 6 0 n, BitVec.ofNat 8 (m + 8 * sc)]
  | .index8 n m sc d => specByte 6 1 n :: BitVec.ofNat 8 (m + 8 * sc) :: leBytes 1 d.toNat
  | .mind8 n d => specByte 7 0 n :: leBytes 1 d.toNat
  | .mind16 n d => specByte 7 1 n :: leBytes 2 d.toNat
  | .abs16 a => specByte 8 0 0 :: leBytes 2 a.toNat
  | .abs32 a => specByte 8 1 0 :: leBytes 4 a.toNat
  | .pcrel16 d => specByte 9 0 0 :: leBytes 2 d.toNat
  | .pcrel32 d => specByte 9 1 0 :: leBytes 4 d.toNat
  | .minda a => specByte 10 0 0 :: leBytes 4 a.toNat
  | .imm8 v => specByte 11 0 0 :: leBytes 1 v.toNat
  | .imm16 v => specByte 11 0 1 :: leBytes 2 v.toNat
  | .imm32 v => specByte 11 0 2 :: leBytes 4 v.toNat
  | .quick v => [BitVec.ofNat 8 (0xC0 + v.toNat)]

/-- The operand that a specifier means under a space base (R317, R319, R320). -/
def SpecForm.spec (base : Nat) : SpecForm → Spec
  | .reg n => .reg n
  | .ind n => .ind n
  | .postinc n => .postinc n
  | .predec n => .predec n
  | .disp8 n d => .disp n d.toInt
  | .disp16 n d => .disp n d.toInt
  | .disp32 n d => .disp n d.toInt
  | .index n m sc => .index n m sc 0
  | .index8 n m sc d => .index n m sc d.toInt
  | .mind8 n d => .mind n d.toInt
  | .mind16 n d => .mind n d.toInt
  | .abs16 a => .abs ((base + a.toNat) % 2 ^ 32)
  | .abs32 a => .abs ((base + a.toNat) % 2 ^ 32)
  | .pcrel16 d => .pcrel d.toInt
  | .pcrel32 d => .pcrel d.toInt
  | .minda a => .minda ((base + a.toNat) % 2 ^ 32)
  | .imm8 v => .imm v.toInt
  | .imm16 v => .imm v.toInt
  | .imm32 v => .imm v.toInt
  | .quick v => .imm v.toInt

/-- An instruction as it is written: prefixes in their order, operation, the long form where there are two (three operands of an ALU
operation, a displacement of 32 bits), control field, operands and displacement. -/
structure VForm where
  prefixes : List VPrefix
  op : VOp
  long : Bool
  ctrl : BitVec 24
  ops : List SpecForm
  disp : BitVec 32
  deriving DecidableEq, Repr

/-- The opcode bytes (R321, R324). -/
def opBytes (op : VOp) (long : Bool) : List Byte :=
  match op with
  | .nop => [0x00]
  | .fence => [0x01]
  | .syncI => [0x02]
  | .ei => [0x03]
  | .di => [0x04]
  | .wfi => [0x05]
  | .ret => [0x06]
  | .reti => [0x07]
  | .mov => [0x08]
  | .lea => [0x09]
  | .push => [0x0A]
  | .pop => [0x0B]
  | .swap => [0x0C]
  | .cas => [0x0D]
  | .not => [0x0E]
  | .neg => [0x0F]
  | .alu k => [BitVec.ofNat 8 ((if long then 0x20 else 0x10) + k)]
  | .zxw => [0x30]
  | .sxw => [0x31]
  | .zxd => [0x32]
  | .sxd => [0x33]
  | .cb cc => [BitVec.ofNat 8 ((if long then 0x48 else 0x40) + cc)]
  | .br => [if long then 0x4E else 0x46]
  | .call => [if long then 0x4F else 0x47]
  | .jmp => [0x50]
  | .calli => [0x51]
  | .bfi => [0xF0, 0x00]
  | .bfx => [0xF0, 0x01]
  | .bfxs => [0xF0, 0x02]
  | .clz => [0xF0, 0x03]
  | .bperm => [0xF0, 0x04]
  | .set cc => [0xF0, BitVec.ofNat 8 (0x10 + cc)]

/-- Bytes of the control field and of the displacement (R314, R321, R324). -/
def ctrlLen (op : VOp) : Nat := match op with | .bfi => 3 | .bfx | .bfxs => 2 | _ => 0

def dispLen (op : VOp) (long : Bool) : Nat :=
  match op with
  | .cb _ | .br | .call => if long then 4 else 2
  | _ => 0

/-- The bytes of an instruction (R314). -/
def VForm.bytes (f : VForm) : List Byte :=
  f.prefixes.map VPrefix.byte ++ opBytes f.op f.long ++ leBytes (ctrlLen f.op) f.ctrl.toNat ++ f.ops.flatMap SpecForm.bytes
    ++ leBytes (dispLen f.op f.long) f.disp.toNat

/-- The operands of an operation, each with whether it is written and its size, 0 for the operand width (R321, R324). -/
def opndsOf (op : VOp) (long : Bool) : List Opnd :=
  match op with
  | .nop | .fence | .syncI | .ei | .di | .wfi | .ret | .reti | .br | .call => []
  | .mov | .not | .neg | .bfx | .bfxs | .clz => [opD, opS]
  | .lea => [⟨true, 4⟩, ⟨false, 4⟩]
  | .push => [opS]
  | .pop => [opD]
  | .swap => [opD, opD]
  | .cas => [opD, opD, opS]
  | .alu _ => if long then [opD, opS, opS] else [opD, opS]
  | .zxw | .sxw => [⟨true, 4⟩, opS]
  | .zxd | .sxd => [⟨true, 8⟩, opS]
  | .cb _ => [opS, opS]
  | .jmp | .calli => [⟨false, 4⟩]
  | .bfi | .set _ => [opD, opS, opS]
  | .bperm => [opD, opS, ⟨false, 4⟩]

/-- An operation has a long form. -/
def hasLong (op : VOp) : Bool := match op with | .alu _ | .cb _ | .br | .call => true | _ => false

/-- An operation's number is one that an opcode spells. -/
def opThere (op : VOp) : Bool := match op with | .alu k => decide (k < 16) | .cb cc | .set cc => decide (cc < 6) | _ => true

/-- The prefixes an operation allows: width, space, REP, ATOMIC (R316, R321, R324), and the widths. -/
def allows (op : VOp) (long : Bool) (g : Nat) : Bool :=
  match g with
  | 0 => (match op with | .lea | .jmp | .calli => false | _ => !(opndsOf op long).isEmpty)
  | 1 => !(opndsOf op long).isEmpty
  | 2 => (match op with | .cas | .cb _ | .jmp | .calli => false | _ => !(opndsOf op long).isEmpty)
  | 3 => (match op with | .swap | .cas => true | .alu k => !long && aluAtomic k | _ => false)
  | _ => true

def widthsOf (op : VOp) : List Nat :=
  match op with
  | .zxw | .sxw => [1, 2]
  | .zxd | .sxd => [1, 2, 4]
  | _ => [1, 2, 4, 8]

/-- Operand width in bytes. -/
def VForm.width (f : VForm) : Nat := (prefixesOf f.prefixes).width.getD 4

/-- The operands with their sizes. -/
def VForm.specs (f : VForm) : List (Spec × Nat) :=
  List.zipWith (fun x o => (x.spec (spaceBase (prefixesOf f.prefixes)), if o.size = 0 then f.width else o.size)) f.ops (opndsOf f.op f.long)

/-- No group occurs twice. -/
def groupsOnce : List VPrefix → Bool
  | [] => true
  | p :: l => l.all (fun q => q.group != p.group) && groupsOnce l

/-- The form is defined: each rule of R316, R317, R321, R325, R328, R329 and R332 that makes an encoding ILLEGAL is kept, and fields that
the form does not write are zero. -/
def VForm.ok (f : VForm) : Bool :=
  opThere f.op && (hasLong f.op || !f.long) && groupsOnce f.prefixes && f.prefixes.all (fun p => allows f.op f.long p.group)
    && (widthsOf f.op).contains f.width && f.ops.length == (opndsOf f.op f.long).length
    && (List.zip f.specs (opndsOf f.op f.long)).all (fun e => !(e.2.wr && e.1.1.isImm) && !(e.1.1.isReg && e.1.2 != 4))
    && decide (f.ctrl.toNat < 256 ^ ctrlLen f.op) && ctrlMay f.op f.ctrl.toNat (8 * f.width)
    && opsMay f.op (prefixesOf f.prefixes) f.specs && decide (f.disp.toNat < 256 ^ dispLen f.op f.long)

/-- The instruction that a form means. -/
def VForm.instr (f : VForm) : VInstr :=
  { op := f.op
    width := f.width
    rep := (prefixesOf f.prefixes).rep
    atomic := (prefixesOf f.prefixes).atomic || f.op == .cas
    ctrl := f.ctrl.toNat
    ops := f.specs
    disp := if dispLen f.op f.long = 0 then 0 else signedOf (8 * dispLen f.op f.long) f.disp.toNat
    len := f.bytes.length }

/-! ### Plewin-C -/

/-- An operand as it is written (R335). -/
inductive CSpecForm where
  | reg (n : Fin 8)
  | ind (n : Fin 8)
  | postinc (n : Fin 8)
  | imm14 (v : BitVec 14)
  | imm28 (v : BitVec 28)
  | abs (v : BitVec 28)
  | disp (n : Fin 8) (d : BitVec 11)
  | mind (n : Fin 8) (d : BitVec 11)
  deriving DecidableEq, Repr

/-- The operand field: MODE and REG or KIND. -/
def CSpecForm.field : CSpecForm → Nat
  | .reg n => n
  | .ind n => 8 + n
  | .postinc n => 16 + n
  | .imm14 _ => 24
  | .imm28 _ => 25
  | .abs _ => 26
  | .disp _ _ => 27
  | .mind _ _ => 28

/-- The extension words. -/
def CSpecForm.words : CSpecForm → List Nat
  | .reg _ | .ind _ | .postinc _ => []
  | .imm14 v => [v.toNat]
  | .imm28 v | .abs v => [v.toNat / 2 ^ 14, v.toNat % 2 ^ 14]
  | .disp n d | .mind n d => [n * 2 ^ 11 + d.toNat]

/-- The operand that it means. -/
def CSpecForm.spec : CSpecForm → Spec
  | .reg n => .reg n
  | .ind n => .ind n
  | .postinc n => .postinc n
  | .imm14 v => .imm v.toInt
  | .imm28 v => .imm v.toInt
  | .abs v => .abs (4 * v.toNat)
  | .disp n d => .disp n d.toInt
  | .mind n d => .mind n d.toInt

/-- An instruction as it is written: operation, operands and branch word. -/
structure CForm where
  op : COp
  ops : List CSpecForm
  branch : BitVec 14
  deriving DecidableEq, Repr

/-- OP of the head word, and the field that selects where the operation has no operand A (R336). -/
def cHead (op : COp) : Nat × Nat :=
  match op with
  | .mov => (0, 0)
  | .alu k => (k, 0)
  | .cb cc => (8 + cc, 0)
  | .movb => (12, 0)
  | .jmp => (13, 0)
  | .call => (13, 1)
  | .nop => (14, 0)
  | .fence => (14, 1)
  | .ret => (14, 2)
  | .wait => (14, 3)

/-- The words of an instruction (R334). -/
def CForm.words (f : CForm) : List Nat :=
  let a := match f.ops with | [x, _] => x.field | _ => (cHead f.op).2
  let b := match f.ops with | [_, y] => y.field | [y] => y.field | _ => 0
  (1024 * (cHead f.op).1 + 32 * a + b) :: (f.ops.flatMap CSpecForm.words ++ (match f.op with | .cb _ => [f.branch.toNat] | _ => []))

/-- The form is defined: ALU operations 1 to 7, conditions 0 to 3, as many operands as the operation has, none immediate that is
written, and no branch word where there is none. -/
def CForm.ok (f : CForm) : Bool :=
  (match f.op with | .alu k => decide (1 ≤ k && k < 8) | .cb cc => decide (cc < 4) | _ => true)
    && (match f.op, f.ops with
      | .mov, [x, _] | .alu _, [x, _] | .movb, [x, _] => !x.spec.isImm
      | .cb _, [_, _] => true
      | .jmp, [_] | .call, [_] => true
      | .nop, [] | .fence, [] | .ret, [] | .wait, [] => true
      | _, _ => false)
    && (match f.op with | .cb _ => true | _ => f.branch == 0)

/-- The instruction that a form means. -/
def CForm.instr (f : CForm) : CInstr :=
  { op := f.op
    ops := f.ops.map fun x => (x.spec, match f.op with | .movb => 1 | _ => 4)
    branch := match f.op with | .cb _ => f.branch.toInt | _ => 0
    len := f.words.length }

end Sys2Proof.Machine
end

