-- ==== Sys2Proof/Safety.lean ====
section
/-! DEFINITION. Safety.lean: what claims are stated in: completion of a command, what it leaves alone, and the canonical form of a
state. -/

namespace Sys2Proof.Machine

/-- A command answers a next state, of which `P` holds. -/
def completes (c : Instr) (s : State) (P : State → Prop) : Prop := ∃ t, exec c s = .next t ∧ P t

/-- Every octet of memory, and every register but those at the addresses listed, is as before. -/
def keeps (s t : State) (l : List Nat) : Prop := t.mem = s.mem ∧ ∀ a, a ∉ l → t.reg a = s.reg a

/-- The stores of a state are in canonical form: equal contents are equal data. -/
def State.canonical (s : State) : Prop :=
  Memory.wf s.mem = true ∧ Memory.wf s.srl.mem = true ∧ stWf resetWord s.regs = true

/-! ### Plewin-V -/

/-- The address of an engine's next instruction. -/
def iaOf (s : State) (n : Nat) : Nat := s.fld (SYS_ENGPC_PC n)

/-- Engine n is RUNNING, does not wait, and its next instruction is `i`; what it fetched has not been written since, and no SRAM word
is upset. -/
def fetches (s : State) (n : Nat) (i : VInstr) : Prop :=
  vReady s n = true ∧ iaOf s n < 0x80000 ∧ vDecode (vFetch s n (iaOf s n)) = .ok i ∧ (s.eng n).stale = [] ∧ s.upsets = []

/-- Operand k of an instruction whose operands have these places. -/
def operand (i : VInstr) (places : List Place) (k : Nat) : Place × Nat := (places.getD k (.val 0), (i.ops.getD k (.imm 0, 4)).2)

/-- A pointer or a value, as a 32-bit source. -/
def plainSource (p : List Nat) : Spec → Option Nat
  | .reg r => some (ptrGet p r % 2 ^ 32)
  | .imm v => some (wrapOf 32 v)
  | _ => none

/-- Engine n goes on at `pc` with the pointers `p`: what an instruction does that changes nothing else. -/
def engGoes (s : State) (n : Nat) (p : List Nat) (pc : Nat) : State :=
  (s.setEng n { s.eng n with ptrs := p, eiHold := false, repAt := none }).setFld (SYS_ENGPC_PC n) pc

/-- The rows whose result is computed from the values of operands: the command, the operation, the operands that are read, and the
result at a width of `w` bits (R321 to R327). -/
structure DataRow where
  cmd : Instr
  op : VOp
  srcs : List Nat
  result : VInstr → List Nat → Option Nat

/-- An ALU row with two or three operands (R322). -/
def aluRow (cmd : Instr) (k : Nat) (three : Bool) : DataRow :=
  ⟨cmd, .alu k, if three then [1, 2] else [0, 1], fun i v => alu k (8 * i.width) (v.getD 0 0) (v.getD 1 0)⟩

/-- The data rows of an engine for instructions with two or with three operands. -/
def dataRows (n : Fin 12) (three : Bool) : List DataRow :=
  [⟨.mov n [], .mov, [1], fun _ v => some (v.getD 0 0)⟩,
   ⟨.not n, .not, [1], fun i v => some (2 ^ (8 * i.width) - 1 - v.getD 0 0)⟩,
   ⟨.neg n, .neg, [1], fun i v => some ((2 ^ (8 * i.width) - v.getD 0 0) % 2 ^ (8 * i.width))⟩,
   ⟨.zxw n, .zxw, [1], fun _ v => some (v.getD 0 0)⟩,
   ⟨.sxw n, .sxw, [1], fun i v => some (wrapOf 32 (signedOf (8 * i.width) (v.getD 0 0)))⟩,
   ⟨.zxd n, .zxd, [1], fun _ v => some (v.getD 0 0)⟩,
   ⟨.sxd n, .sxd, [1], fun i v => some (wrapOf 64 (signedOf (8 * i.width) (v.getD 0 0)))⟩,
   ⟨.bfi n, .bfi, [1, 2], fun i v => some (bfiOf i (v.getD 0 0) (v.getD 1 0))⟩,
   ⟨.bfx n, .bfx, [1], fun i v => some (bfxOf false i (v.getD 0 0))⟩,
   ⟨.bfxs n, .bfxs, [1], fun i v => some (bfxOf true i (v.getD 0 0))⟩,
   ⟨.clz n, .clz, [1], fun i v => some (clzOf (8 * i.width) (v.getD 0 0))⟩,
   ⟨.bperm n, .bperm, [1, 2], fun i v => some (bpermOf i.width (v.getD 0 0) (v.getD 1 0))⟩] ++
  ([(.add n, 0), (.sub n, 1), (.mul n, 2), (.mulhu n, 3), (.mulhs n, 4), (.divu n, 5), (.divs n, 6), (.remu n, 7), (.rems n, 8),
    (.and n, 9), (.or n, 10), (.xor n, 11), (.andn n, 12), (.shl n, 13), (.shr n, 14), (.sar n, 15)] : List (Instr × Nat)).map
      (fun e => aluRow e.1 e.2 three) ++
  ([(.setEq n, 0), (.setNe n, 1), (.setLt n, 2), (.setGe n, 3), (.setLtu n, 4), (.setGeu n, 5)] : List (Instr × Nat)).map
      fun e => ⟨e.1, .set e.2, [1, 2], fun i v => some (b2n (condHolds e.2 (8 * i.width) (v.getD 0 0) (v.getD 1 0)))⟩

/-- What R322 says of ALU operation k, on bit vectors; division by zero is not asked of it. -/
def aluSays {w : Nat} (k : Nat) (x y : BitVec w) : BitVec w :=
  match k with
  | 0 => x + y
  | 1 => x - y
  | 2 => x * y
  | 3 => ((x.setWidth (2 * w) * y.setWidth (2 * w)) >>> w).setWidth w
  | 4 => ((x.signExtend (2 * w) * y.signExtend (2 * w)) >>> w).setWidth w
  | 5 => x.udiv y
  | 6 => x.sdiv y
  | 7 => x.umod y
  | 8 => x.srem y
  | 9 => x &&& y
  | 10 => x ||| y
  | 11 => x ^^^ y
  | 12 => x &&& ~~~y
  | 13 => x <<< (y.toNat % w)
  | 14 => x >>> (y.toNat % w)
  | _ => x.sshiftRight (y.toNat % w)

/-- What R323 says of condition cc. -/
def condSays {w : Nat} (cc : Nat) (x y : BitVec w) : Bool :=
  match cc with
  | 0 => x == y
  | 1 => x != y
  | 2 => x.slt y
  | 3 => !x.slt y
  | 4 => x.ult y
  | _ => !x.ult y

/-- The ALU rows of an engine. -/
def aluCmds (n : Fin 12) : List Instr :=
  [.add n, .sub n, .mul n, .mulhu n, .mulhs n, .divu n, .divs n, .remu n, .rems n, .and n, .or n, .xor n, .andn n, .shl n, .shr n, .sar n]

/-- The CB rows of an engine. -/
def cbCmds (n : Fin 12) : List Instr := [.cbEq n, .cbNe n, .cbLt n, .cbGe n, .cbLtu n, .cbGeu n]

/-! ### Plewin-C -/

/-- The rows of Plewin-C that execute an instruction. -/
def cCmds (u : Fin 13) : List Instr :=
  [.cMov u, .cAdd u, .cSub u, .cAnd u, .cOr u, .cXor u, .cShl u, .cShr u, .cCbeq u, .cCbne u, .cCbltu u, .cCbgeu u, .cMovb u, .cJmp u,
   .cCall u, .cNop u, .cFence u, .cRet u, .cWait u]

/-- A unit executes, does not stall, and its next instruction is `i`. -/
def cFetches (s : State) (u : Nat) (i : CInstr) : Prop := cReady s u = true ∧ cDecode (cFetch s (cPc s u)) = .ok i

/-- The rows of Plewin-C whose result goes to A: the command, the operation, whether A is read, and the result (R336). -/
def cDataRows (u : Fin 13) : List (Instr × COp × Bool × (Nat → Nat → Nat)) :=
  [(.cMov u, .mov, false, fun _ b => b), (.cMovb u, .movb, false, fun _ b => b),
   (.cAdd u, .alu 1, true, fun a b => (a + b) % 2 ^ 32), (.cSub u, .alu 2, true, fun a b => (a + 2 ^ 32 - b) % 2 ^ 32),
   (.cAnd u, .alu 3, true, fun a b => a &&& b), (.cOr u, .alu 4, true, fun a b => a ||| b), (.cXor u, .alu 5, true, fun a b => a ^^^ b),
   (.cShl u, .alu 6, true, fun a b => a * 2 ^ (b % 32) % 2 ^ 32), (.cShr u, .alu 7, true, fun a b => a / 2 ^ (b % 32))]

/-! ### Flash, keys and the cipher unit -/

/-- A write of FLC_CMDk with GO finds the channel idle and the command not refused (R414, R415, R458). -/
def flcFree (s : State) (m k op sector page : Nat) : Prop :=
  masterSecure s m = true ∧ (k = 3 → s.flag UPD_STAT_BUSY = false) ∧ s.flag (FLC_CSTAT_BUSY k) = false ∧ flcRefuses s m op sector page = 0

/-- The write is taken: the registers of the channel, and the work queued for the controller. -/
def flcTaken (s : State) (m k op sector page : Nat) : State :=
  let t := { s with busResult := .ok }.setReg (FLC_CMD k) (BitVec.ofNat 32 (op + 16 * sector + 16384 * page))
  flcQueueJob (t.setFlds [(FLC_CSTAT_BUSY k, 1), (FLC_CSTAT_RESULT k, 0)])
    { who := k, op := op, sector := sector, page := page, src := s.fld (FLC_SRC_ADDR k), master := m }

/-- The message at KEY_UPDADDR, and the state after Sorrel has read it. -/
def keyTaken (s : State) : List Byte × State := sourceRead s 13 (s.fld KEY_UPDADDR_ADDR / 32 * 32) 256

/-- Sorrel takes a message of an operation that passes the checks of R436 with the update `u`. -/
def keyPasses (s : State) (op : Nat) (u : KeyUpd) : Prop :=
  s.flag KEY_UPDSTAT_BUSY = true ∧ s.keyUpd = none ∧ s.flag SYS_SRLSTAT_LEAD_DOWN = false ∧
    ofLe (((keyTaken s).1.drop 6).take 1) = op ∧ msgCheck (keyTaken s).2 (keyTaken s).1 = .ok u

/-- A write of CPH_CMDp with GO by a master that may use the page finds it idle and the unit enabled. -/
def cphFree (s : State) (m : Nat) (p : Nat) : Prop :=
  p < 15 ∧ pageMayUse s p m = true ∧ s.flag (CPH_STAT_BUSY p) = false ∧ s.flag CPH_CTL_EN = true

/-- The state in which such a write starts its operation. -/
def cphAsked (s : State) (p op slot : Nat) (rom : Bool) : State :=
  { s with busResult := .ok }.setFlds [(CPH_CMD_OP p, op), (CPH_CMD_KEYSLOT p, slot), (CPH_CMD_ROM p, b2n rom)]

/-- An accepted write of UPD_CMD with GO leaves its fields (R465). -/
def updAsked (s : State) (op kind slot : Nat) : State :=
  { s with busResult := .ok }.setFlds [(UPD_CMD_OP, op), (UPD_CMD_KIND, kind), (UPD_CMD_SLOT, slot)]

end Sys2Proof.Machine
end

