-- ==== Sys2Proof/Certificates/Slice0/Obligations.lean ====
section
/-! DEFINITION. Certificates/Slice0/Obligations.lean: the statements for the provers. -/

open Sys2Proof Sys2Proof.Machine

/-- A step takes the command at the front of the queue and has exactly its effect, with the queue's rest. -/
def Obligations.StepTakesTheFrontCommand : Prop :=
  ∀ (s : State) (c : Instr) (rest : List Instr), step { s with pending := c :: rest } = exec c { s with pending := rest }

/-- REGISTER_WRITE, COUNTER_READ_CLEAR, SHADOW_WRITE, RING_BASE_WRITE and EPOCH_READ of a running device answer a next state with the
stored octets, the W1C bits, the counter, the shadow word, the base and size, and the epoch, and with nothing else changed (R19, R20, R21,
R26, R37, R38, R526); that an index beyond a smaller size starts again at 0 is the model's choice (log entry 156). -/
def Obligations.BusCommandsComplete : Prop :=
  (∀ (s : State) (m : Master) (a : BitVec 32) (l : List Byte) (landing : Word) (b : Nat), mainOn s = true → l ≠ [] → isReg a.toNat = false →
    memSpan m a.toNat l.length = some b → memRo b = false →
    completes (.registerWrite m a ⟨l, landing⟩) s fun t =>
      t.busResult = .ok ∧ (∀ (i : Nat) (h : i < l.length), t.rd8 (b + i) = l[i]) ∧
      (∀ x, x < b ∨ b + l.length ≤ x → t.rd8 x = s.rd8 x) ∧ ∀ r, t.reg r = s.reg r) ∧
  (∀ (s : State) (d landing : Word), mainOn s = true →
    completes (.registerWrite 12 (BitVec.ofNat 32 HIF_ERR) ⟨leBytes 4 d.toNat, landing⟩) s fun t =>
      t.busResult = .ok ∧ t.reg HIF_ERR = (s.reg HIF_ERR &&& ~~~(d &&& 15)) ||| (landing &&& 15) ∧ keeps s t [HIF_ERR]) ∧
  (∀ (s : State) (m : Master) (landing : Word), mainOn s = true →
    completes (.counterReadClear m (BitVec.ofNat 32 LNK_RXOK) landing) s fun t =>
      t.busData = s.reg LNK_RXOK ∧ t.reg LNK_RXOK = landing ∧ keeps s t [LNK_RXOK]) ∧
  (∀ (s : State) (m : Master) (d : Word), mainOn s = true →
    completes (.shadowWrite m (BitVec.ofNat 32 LNK_PANID) d) s fun t => t.reg LNK_PANID = d ∧ keeps s t [LNK_PANID]) ∧
  (∀ (s : State) (m : Master) (n : Fin 12) (d : Word), mainOn s = true → 0x01000000 ≤ d.toNat → d.toNat < 0x01800000 →
    completes (.ringBaseWrite m (BitVec.ofNat 32 (LNK_EQBASE n)) d) s fun t =>
      (t.reg (LNK_EQBASE n)).toNat = d.toNat / 32 * 32 ∧
      t.fld (LNK_EQSIZE_SIZE n) = min (s.fld (LNK_EQSIZE_SIZE n)) ((0x01800000 - d.toNat / 32 * 32) / 32) ∧
      (∀ f ∈ [LNK_EQHEAD_HEAD n, LNK_EQTAIL_TAIL n], t.fld f = if s.fld f < t.fld (LNK_EQSIZE_SIZE n) then s.fld f else 0) ∧
      keeps s t [LNK_EQBASE n, LNK_EQSIZE n, LNK_EQHEAD n, LNK_EQTAIL n]) ∧
  (∀ (s : State) (m : Master), mainOn s = true →
    completes (.epochRead m) s fun t =>
      t.busData = BitVec.ofNat 32 s.epoch ∧ t.latch (epochLatch m) = BitVec.ofNat 32 (s.epoch / 2 ^ 32 % 512) ∧ keeps s t [])

/-- A register access of another width or alignment ends in an error, and the register is not changed (R19): writes here, and reads of
another alignment. -/
def Obligations.RegisterAccessOfAnotherWidth : Prop :=
  (∀ (s : State) (m : Master) (a : BitVec 32) (l : List Byte) (landing : Word), mainOn s = true → l ≠ [] → isReg a.toNat = true →
    l.length ≠ 4 ∨ a.toNat % 4 ≠ 0 →
    completes (.registerWrite m a ⟨l, landing⟩) s fun t => t.busResult = .error ∧ keeps s t [] ∧ t.events = s.events) ∧
  (∀ (s : State) (m : Master) (a : BitVec 32) (landing : Word), mainOn s = true → isReg a.toNat = true → a.toNat % 4 ≠ 0 →
    completes (.counterReadClear m a landing) s fun t => t.busResult = .error ∧ keeps s t [])

/-- REF_LOST, FALLBACK_SWITCH, FALLBACK_LOCK, REF_VALID_RISE, REF_VALID_QUALIFIED, ROOT_LOCK_RETURN, REF_SRC_SELECT, RETURN_REQUEST
(R30 to R33).  A loss outside the fallback declares the loss and takes the air down; on the fallback it is recorded and breaks the
qualification. -/
def Obligations.ReferenceCommandsComplete : Prop :=
  (∀ s : State, s.flag SYS_CLKSTAT_REF_VALID = true → (s.flag SYS_CLKSTAT_ON_FALLBACK && !s.ref.ret) = false →
    completes .refLost s fun t => t = airDown (lossDeclared s)) ∧
  (∀ s : State, s.flag SYS_CLKSTAT_REF_VALID = true → s.flag SYS_CLKSTAT_ON_FALLBACK = true → s.ref.ret = false →
    completes .refLost s fun t => t.fld SYS_CLKSTAT_REF_VALID = 0 ∧ t.fld SYS_REFLOST_LOST = 1 ∧ t.fld SYS_REFLOST_ACTIVE = 1 ∧
      (s.frozen = false → t.fld SYS_REFLOST_COUNT = satInc 8 (s.fld SYS_REFLOST_COUNT) 1) ∧ t.ref.qual = false ∧
      (∃ e, t.events = s.events ++ [e] ∧ e.producer = 0) ∧ keeps s t [SYS_CLKSTAT, SYS_REFLOST]) ∧
  (∀ s : State, s.ref.stage = 1 → completes .fallbackSwitch s fun t => t.ref.stage = 2 ∧ keeps s t []) ∧
  (∀ s : State, s.ref.stage = 2 →
    completes .fallbackLock s fun t => t.ref.stage = 0 ∧ t.fld SYS_CLKSTAT_ROOT_LOCK = 1 ∧ t.fld SYS_CLKSTAT_ON_FALLBACK = 1 ∧
      t.fld VFB_STAT_PORT0_UP = 0 ∧ t.fld VFB_STAT_PORT1_UP = 0 ∧ t.fld STK_STAT_RING0_UP = 0 ∧ t.fld STK_STAT_RING1_UP = 0 ∧
      keeps s t [SYS_CLKSTAT, STK_STAT, STK_LEADERLOSTS, VFB_STAT, VFB_HOLDOVER]) ∧
  (∀ s : State, s.flag SYS_CLKSTAT_ON_FALLBACK = true →
    completes .refValidRise s fun t => t.fld SYS_CLKSTAT_REF_VALID = 1 ∧ keeps s t [SYS_CLKSTAT]) ∧
  (∀ s : State, s.flag SYS_CLKSTAT_ON_FALLBACK = true → s.flag SYS_CLKSTAT_REF_VALID = true →
    completes .refValidQualified s fun t => t.ref.qual = true ∧ keeps s t []) ∧
  (∀ s : State, s.ref.ret = true → completes .rootLockReturn s fun t =>
    t.fld SYS_CLKSTAT_ROOT_LOCK = 1 ∧ t.fld SYS_CLKSTAT_ON_FALLBACK = 0 ∧ t.fld SYS_REFLOST_ACTIVE = 0 ∧ t.ref.ret = false ∧
      t.ref.qual = false ∧ t.mem = s.mem) ∧
  (∀ (s : State) (v : Fin 4), v ≠ 3 → (v ≠ 2 ∨ 2 ≤ s.part.fabricPorts) →
    completes (.refSrcSelect v) s fun t => t.fld SYS_CLKCTL_REF_SRC = v ∧ keeps s t [SYS_CLKCTL]) ∧
  (∀ s : State, completes .returnRequest s fun t => t.fld SYS_CLKCTL_RETURN = 1 ∧ keeps s t [SYS_CLKCTL])

/-- EPOCH_BOUNDARY, STAGING_CUT, COMMIT_ARM, COMMIT_CANCEL, SWAP_ARM, SWAP_CANCEL and VENUE_ORDER (R36, R39, R41, R67, R70). -/
def Obligations.CoherenceCommandsComplete : Prop :=
  (∀ (s : State) (margin : Int), mainOn s = true → completes (.epochBoundary margin) s fun t => t = epochBoundary s margin) ∧
  (∀ s : State, s.cut.done = false →
    completes .stagingCut s fun t => t.cut.done = true ∧ t.cut.mask = s.fld SYS_COMMIT_ARM ∧ keeps s t []) ∧
  (∀ (s : State) (blocks : Byte), completes (.commitArm blocks) s fun t =>
    (∀ b < 8, bitOf (t.fld SYS_COMMIT_ARM) b = (bitOf (s.fld SYS_COMMIT_ARM) b || bitOf blocks.toNat b)) ∧ keeps s t [SYS_COMMIT]) ∧
  (∀ (s : State) (blocks : Byte), cutPassed s = false → completes (.commitCancel blocks) s fun t =>
    (∀ b < 8, bitOf (t.fld SYS_COMMIT_ARM) b = (bitOf (s.fld SYS_COMMIT_ARM) b && !bitOf blocks.toNat b)) ∧ keeps s t [SYS_COMMIT]) ∧
  (∀ s : State, s.swapReq = none → completes .swapArm s fun t =>
    t = swapHold s { mask := s.fld CFG_SWAPMASK_REGIONS
                     build := s.fld CFG_SWAPBLDL_BUILD_LO + 2 ^ 32 * s.fld CFG_SWAPBLDH_BUILD_HI
                     target := if s.flag CFG_SWAPCTL_NEXT then nextCutEpoch s
                       else s.fld CFG_SWAPEPL_EPOCH_LO + 2 ^ 32 * s.fld CFG_SWAPEPH_EPOCH_HI }) ∧
  (∀ s : State, s.swapReq.isSome = true →
    completes .swapArm s fun t => t.fld CFG_SWAPSTAT_REFUSED = 1 ∧ t.swapReq = s.swapReq ∧ keeps s t [CFG_SWAPSTAT]) ∧
  (∀ (s : State) (q : SwapReq), s.swapReq = some q → requestCut s = false →
    completes .swapCancel s fun t => t = swapEnd (disarmPlanes s q.mask) q 8 0) ∧
  (∀ (s : State) (seq mask : Word) (build epoch : Nat), build < 2 ^ 64 → epoch < 2 ^ 64 →
    completes (.venueOrder seq mask build epoch) s fun t =>
      t = orderArrives s (orderBody { seq := seq.toNat, mask := mask.toNat, build := build, epoch := epoch }))

/-- LOAD_START, LOAD_BEGIN, LOAD_HEADER_CHECKED, LOAD_HASH_DONE, LOAD_SIGNATURE_VERIFIED, LOAD_REGION_CHECKED, LOAD_ABORT, BOOTSEL_GO
and BOOTSEL_COMPLETE (R60, R63, R64, R72). -/
def Obligations.LoadCommandsComplete : Prop :=
  (∀ (s : State) (slot : Fin 2), s.flag CFG_LOADSTAT_BUSY = false → completes (.loadStart slot) s fun t =>
    t.fld CFG_LOADSTAT_BUSY = 1 ∧ t.cfg.load = some { slot := slot, mask := s.fld CFG_LOADMASK_REGIONS } ∧
      keeps s t [CFG_LOADCTL, CFG_LOADSTAT]) ∧
  (∀ (s : State) (slot : Fin 2), s.flag CFG_LOADSTAT_BUSY = true → completes (.loadStart slot) s fun t =>
    t.fld CFG_LOADSTAT_OVERRUN = 1 ∧ t.cfg = s.cfg ∧ keeps s t [CFG_LOADCTL, CFG_LOADSTAT]) ∧
  (∀ (s : State) (r : LoadRun), s.cfg.load = some r → r.begun = false → r.mask = 0 → s.fld SYS_SRLSTAT_STATE = 1 →
    completes .loadBegin s fun t => t.fld SYS_SRLSTAT_STATE = 2 ∧ t.fld CFG_LOADSTAT_PHASE = 1 ∧
      t.cfg.load = some { r with begun := true, back := 1 } ∧ keeps s t [SYS_SRLSTAT, CFG_LOADSTAT]) ∧
  (∀ (s : State) (r : LoadRun), s.cfg.load = some r → s.fld CFG_LOADSTAT_PHASE = 1 →
    completes .loadHeaderChecked s fun t =>
      match loadHeader s r with
      | (some (n, f), r', _, s') => t = loadReject s' r' n f
      | (none, r', _, s') => t = { s' with cfg := { s'.cfg with load := some r' } }.setFld CFG_LOADSTAT_PHASE 2) ∧
  (∀ s : State, s.fld CFG_LOADSTAT_PHASE = 2 →
    completes .loadHashDone s fun t => t.fld CFG_LOADSTAT_PHASE = 3 ∧ keeps s t [CFG_LOADSTAT]) ∧
  (∀ (s : State) (r : LoadRun), s.cfg.load = some r → s.fld CFG_LOADSTAT_PHASE = 3 →
    completes .loadSignatureVerified s fun t => ∀ f s', loadSignature s r = (some f, s') → t = loadReject s' r 0 f) ∧
  (∀ (s : State) (r : LoadRun), s.cfg.load = some r → s.fld CFG_LOADSTAT_PHASE = 3 →
    completes .loadSignatureVerified s fun t => ∀ s', loadSignature s r = (none, s') → s'.flag CFG_BOOTSTAT_NOSTRUCT = false →
      t = loadNext (s'.setFld CFG_LOADSTAT_PHASE 4) { r with left := loadLeft r }) ∧
  (∀ (s : State) (r : LoadRun), s.cfg.load = some r → s.fld CFG_LOADSTAT_PHASE = 4 → r.left = [] →
    completes .loadRegionChecked s fun t => t = loadFinish s r) ∧
  (∀ (s : State) (r : LoadRun) (n : Nat) (rest : List Nat) (d : BsDir), s.cfg.load = some r → s.fld CFG_LOADSTAT_PHASE = 4 →
    r.left = n :: rest → loadPresent r n = none → r.dirs.find? (·.id = n) = some d →
    completes .loadRegionChecked s fun t =>
      match loadRegion s r n d with
      | (some f, _, s') => t = loadReject s' r n f
      | (none, p, s') =>
        t = if rest.isEmpty then loadFinish (loadStore s' r n p) { r with left := [] }
          else loadNext (loadStore s' r n p) { r with left := rest }) ∧
  (∀ (s : State) (r : LoadRun), s.cfg.load = some r → completes .loadAbort s fun t => t = loadReject s r 0 { code := 0x13 }) ∧
  (∀ (s : State) (slot : Fin 2), s.flag CFG_BOOTSTAT_BOOTSEL_BUSY = false →
    completes (.bootselGo slot) s fun t => t = bootselGo (s.setFld CFG_BOOTSEL_SLOT slot)) ∧
  (∀ (s : State) (page : Nat) (data l : List Byte) (s' : State), s.cfg.boot = some (page, data) → s.flcQueue = [] → s.flcRun = none →
    pageRead s page = (some l, s') → completes .bootselComplete s fun t => t = bootselEnd s' (l == data)) ∧
  (∀ (s : State) (good : Bool), (bootselEnd s good).fld CFG_BOOTSTAT_BOOTSEL_BUSY = 0 ∧ (bootselEnd s good).cfg.boot = none ∧
    (bootselEnd s good).fld (if good then CFG_BOOTSTAT_BOOTSEL_DONE else CFG_BOOTSTAT_BOOTSEL_FAIL) = 1)

/-- PORT_STATE_REQUEST, BAND_OVERRIDE, PORT_TRANSITION_DONE, CALIBRATION_REQUEST, CALIBRATION_DUE and CALIBRATION_DONE (R77 to R80,
R91, R94, R218). -/
def Obligations.PortCommandsComplete : Prop :=
  (∀ (s : State) (p : Fin 48) (req : Fin 8), portHere s p = true →
    exec (.portStateRequest p req) s = .next (rfpCtlWrite s p (fieldSet (s.reg (RFP_CTL p)) 0 3 req).toNat)) ∧
  (∀ (s : State) (p : Fin 48) (ovr : Fin 4), portHere s p = true →
    exec (.bandOverride p ovr) s = .next (rfpCtlWrite s p (fieldSet (s.reg (RFP_CTL p)) 4 2 ovr).toNat)) ∧
  (∀ (s : State) (p : Fin 48) (req : Fin 8), portHere s p = true → portRole s p = 0 →
    completes (.portStateRequest p req) s fun t => t.fld (RFP_CTL_REQ p) = s.fld (RFP_CTL_REQ p) ∧ keeps s t [RFP_CNT0 p]) ∧
  (∀ (s : State) (p : Fin 48), s.flag (RFP_STAT_INTRANSIT p) = true →
    exec (.portTransitionDone p) s = .next (refHears (testRadiate (portArrive s p) p))) ∧
  (∀ (s : State) (p : Fin 48) (kinds : Fin 16), portHere s p = true → kinds ≠ 0 →
    completes (.calibrationRequest p kinds) s fun t =>
      t.fld (RFP_CALCTL_REQ p) = s.fld (RFP_CALCTL_REQ p) ||| kinds.val ∧ t.fld (RFP_CALSTAT_BUSY p) = 1 ∧
        keeps s t [RFP_CALCTL p, RFP_CALSTAT p]) ∧
  (∀ (s : State) (p : Fin 48) (c : Int), portHere s p = true → s.flag (RFP_CALSTAT_DUE p) = false →
    s.fld RFP_CALGLB_DUE_DELTA < (c - signedOf 8 (s.fld (RFP_CALSTAT_TEMP_AT_CAL p))).natAbs →
    completes (.calibrationDue p c) s fun t => t.fld (RFP_CALSTAT_DUE p) = 1 ∧ (t.portx p).dueKinds = (s.portx p).dueKinds ||| 15 ∧
      t.events = s.events ++ [{ producer := 96, payload := p.val }] ∧ keeps s t [RFP_CALSTAT p]) ∧
  (∀ (s : State) (p : Fin 48) (c : Byte) (align : Fin 128) (r : CalResults), (s.portx p).calRun ≠ 0 →
    exec (.calibrationDone p c align r) s = .next (startCalEnd
      (if bitOf (s.portx p).calRun 3 then couplingMeasured (calDone s p c.toNat align.val r) p r.taps else calDone s p c.toNat align.val r))) ∧
  (∀ (s : State) (p : Fin 48) (c : Byte) (align : Fin 128) (r : CalResults), portHere s p = true → (s.portx p).calRun ≠ 0 →
    (calDone s p c.toNat align.val r).fld (RFP_CALSTAT_TEMP_AT_CAL p) = c.toNat ∧
      ((calDone s p c.toNat align.val r).portx p).calRun = 0 ∧ ((calDone s p c.toNat align.val r).portx p).calEnded = true)

/-- LO_RETUNE_DONE, SYN_LOCK_LOSS, SPARE_TAKEOVER_DONE, SYN_CALIBRATION_DONE, SYN_FAILED_CLEAR and SPARE_RECAL (R89, R90, R103). -/
def Obligations.SynthesizerCommandsComplete : Prop :=
  (∀ (s : State) (g : Fin 2), bitOf s.loRetune g = true →
    completes (.loRetuneDone g) s fun t => ∃ s' : State,
      s' = forBelow 3 (fun s k =>
        if s.fld (SYN_STAT_ASSIGN k) = 2 + g.val ∧ (s.syn k).cal.contains (assignLo s (2 + g.val)) = false
        then s.setSyn k { s.syn k with cal := assignLo s (2 + g.val) :: (s.syn k).cal } else s)
          { s with loRetune := s.loRetune &&& (3 - 2 ^ g.val) } ∧
      t = loHears ((synPorts s' (2 + g.val)).foldl (fun s p => portHead (s.setPortx p { s.portx p with muted := false }) p) s')
        (2 + g.val) 0) ∧
  (∀ (s : State) (k : Fin 3), synPresent s k = true → s.fld (SYN_STAT_ASSIGN k) ≠ 0 → s.flag (SYN_STAT_LOCK k) = true →
    refInUse s = true → exec (.synLockLoss k) s = .next (lockLost s k)) ∧
  (∀ (s : State) (k : Fin 3), (s.syn k).taking ≠ 0 →
    completes (.spareTakeoverDone k true) s fun t => ∃ s' : State,
      s' = ((((List.range 3).filter fun j => s.fld (SYN_STAT_ASSIGN j) = (s.syn k).taking).foldl
        (fun s j => (s.setSyn j { s.syn j with calibrating := true, lockedAfterCal := false }).setFlds
          [(SYN_STAT_ASSIGN j, 0), (SYN_STAT_LOCK j, 0), (SYN_STAT_FAILED j, 1)]) (s.setSyn k { s.syn k with taking := 0 })).setFlds
          [(SYN_STAT_ASSIGN k, (s.syn k).taking), (SYN_STAT_LOCK k, 1)]).bump SYN_CNT_TAKEOVER ∧
      t = loHears (portsUnmute (synRefresh s') (synPorts s' (s.syn k).taking)) (s.syn k).taking 4000) ∧
  (∀ (s : State) (k : Fin 3), (s.syn k).taking ≠ 0 →
    exec (.spareTakeoverDone k false) s = .next (synRefresh
      ((((List.range 3).filter fun j => s.fld (SYN_STAT_ASSIGN j) = (s.syn k).taking).foldl
        (fun s j => s.setFld (SYN_STAT_FAILED j) 1) (s.setSyn k { s.syn k with taking := 0 })).setFld (SYN_STAT_FAILED k) 1))) ∧
  (∀ (s : State) (k : Fin 3) (locked : Bool), (s.syn k).calibrating = true → s.fld (SYN_STAT_ASSIGN k) ≠ 0 →
    completes (.synCalibrationDone k locked) s fun t => ∃ s' : State,
      s' = (s.setSyn k { s.syn k with calibrating := false, cal := if locked then assignLo s (s.fld (SYN_STAT_ASSIGN k)) :: (s.syn k).cal.filter (fun f => !([assignLo s (s.fld (SYN_STAT_ASSIGN k))].contains f)) else (s.syn k).cal }).setFlds
            [(SYN_STAT_LOCK k, b2n locked), (SYN_STAT_FAILED k, b2n !locked)] ∧
      t = startCalPorts (if locked && s.flag (SYN_STAT_FAILED k)
        then loHears (portsUnmute (synRefresh s') (synPorts s' (s.fld (SYN_STAT_ASSIGN k)))) (s.fld (SYN_STAT_ASSIGN k)) 4000
        else synRefresh s')) ∧
  (∀ (s : State) (k : Fin 3), s.flag (SYN_STAT_FAILED k) = true → s.fld (SYN_STAT_ASSIGN k) = 0 →
    (s.syn k).lockedAfterCal = true → (s.syn k).calibrating = false →
    completes (.synFailedClear k) s fun t => t.fld (SYN_STAT_FAILED k) = 0 ∧ t.fld (SYN_STAT_LOCK k) = 0) ∧
  (∀ (s : State) (k : Nat), spareSyn s = some k →
    completes .spareRecal s fun t => (t.syn k).calibrating = true ∧ t.fld SYN_CTL_RECAL = 1 ∧ keeps s t [SYN_CTL])

/-- TX_PORT_WALK, TX_PA_ON, TX_AIR_START, TX_END, TX_RAMP_DOWN_END, COEX_REQ_RISE, COEX_GNT_WITHDRAWN and COEX_CUT_REPORT (R85, R99,
R100). -/
def Obligations.TransmitLaneCommandsComplete : Prop :=
  (∀ (s : State) (n : Fin 96), (s.txl n).stage = 0 → (s.txl n).owner = 2 → (s.txl n).committed = true →
    completes (.txPortWalk n) s fun t => ∃ s' : State,
      s' = s.advance ((s.txl n).airStart -
        (if ((s.txl n).ports.map (·.1) ++ (s.txl n).silent).any (fun p => portState s p == 3) then 8000 else 6000)) ∧
      t = blankSettle (((s.txl n).ports.map (·.1) ++ (s.txl n).silent).foldl (fun s p => portWalk s n p)
        ((txLanePut s' n { s.txl n with stage := 2 }).setFld (PHY_TXSTAT_STATE n) 2))) ∧
  (∀ (s : State) (n : Fin 96) (g : Bool), (s.txl n).stage = 2 → (s.txl n).committed = true → s.flag COX_CTL_EN = false →
    completes (.txPaOn n g) s fun t => ∃ s' : State,
      s' = (s.advance ((s.txl n).airStart - lanePaLead s (s.txl n))).setFld COX_STAT_GNT (b2n (g != s.flag COX_CTL_GNT_INV)) ∧
      t = blankSettle (paOn (txLanePut s' n { s.txl n with stage := 3 }) n)) ∧
  (∀ (s : State) (n : Fin 96) (g : Bool), (s.txl n).stage = 2 → (s.txl n).committed = true → coxGoverns s (s.txl n).band = true →
    (g != s.flag COX_CTL_GNT_INV) = false → (s.txl n).owner = 2 →
    completes (.txPaOn n g) s fun t => ∃ s' : State,
      s' = coxGate ((s.advance ((s.txl n).airStart - lanePaLead s (s.txl n))).setFld COX_STAT_GNT 0) ∧
      t = blankSettle (retuneWaiting (laneCut (s'.bump COX_CNT_DENIED) n 6))) ∧
  (∀ (s : State) (n : Fin 96), (s.txl n).stage = 3 → (s.txl n).cut = 0 → (s.txl n).owner = 2 →
    completes (.txAirStart n) s fun t => ∃ s' : State,
      s' = (s.txl n).ports.foldl (fun s e => if uncalibrated s e.1 (s.txl n).bin then s.bump (RFP_CNT1_NOCAL e.1) else s)
        (s.advance (s.txl n).airStart) ∧
      t = blankSettle ((txLanePut s' n { s.txl n with stage := 4 }).emit .air
        ([n.val, (s.txl n).bin, (s.txl n).airStart] ++ (s.txl n).ports.flatMap fun e => [e.1, wrapOf 8 e.2])
        ((ppdu (s.txl n).words (s.txl n).pre (s.txl n).fcs4 (s.txl n).wake (s.txl n).frame).map (BitVec.ofNat 8 ·)))) ∧
  (∀ (s : State) (n : Fin 96), (s.txl n).stage = 4 → (s.txl n).cut = 0 →
    exec (.txEnd n) s = .next (blankSettle (txLanePut (s.advance (s.txl n).airEnd) n { s.txl n with stage := 5 }))) ∧
  (∀ (s : State) (n : Fin 96) (taps : List (Nat × Nat × List Word)), (s.txl n).stage = 5 → (s.txl n).owner = 2 →
    completes (.txRampDownEnd ⟨n, taps⟩) s fun t => ∃ s' : State,
      s' = portsRelease (couplingRefine ((coxReqRefresh (s.advance ((s.txl n).airEnd + 1000))).advance ((s.txl n).airEnd + 1000 +
        ((s.txl n).ports.map fun e => portPaLag (coxReqRefresh (s.advance ((s.txl n).airEnd + 1000))) e.1).foldl max 0))
        (s.txl n).band ((s.txl n).ports.map (·.1)) taps) n ∧
      t = blankSettle (retuneWaiting (coxReqRefresh (match s'.req (s.txl n).ref with
        | some q => reqSent s' (s.txl n).ref q n (s.txl n).airEnd
        | none => txLaneFree s' n)))) ∧
  (∀ (s : State) (n : Fin 96) (grant : Bool), (s.txl n).committed = true → (s.txl n).stage ≤ 2 →
    exec (.coexReqRise ⟨n, grant⟩) s =
      .next (coxRise (coxLevel (s.advance ((s.txl n).airStart - 1000 * s.fld COX_CTL_REQ_LEAD)) grant) n)) ∧
  (∀ s : State, s.flag COX_CTL_EN = false →
    completes .coexGntWithdrawn s fun t => t.fld COX_STAT_GNT = 0 ∧ t.txLanes = s.txLanes ∧ t.ports = s.ports ∧
      keeps s t [COX_STAT]) ∧
  (∀ s : State, s.flag COX_CTL_EN = true → completes .coexGntWithdrawn s fun t =>
    t.fld COX_STAT_GNT = 0 ∧ (∀ p : Nat, p < s.part.ports → coxGoverns s (portBand s p) = true → (t.portx p).pa = false) ∧
      ∀ e ∈ t.txLanes, (e.2.stage = 3 ∨ e.2.stage = 4) → coxGoverns s e.2.band = true → e.2.cut ≠ 0) ∧
  (∀ s : State, (s.txLanes.filter (·.2.cut = 7)).map (·.1) ≠ [] ∨ (∃ p < s.part.ports, (s.portx p).testCut.isSome = true) →
    exec .coexCutReport s = .next (blankSettle (retuneWaiting
      (((allPorts s).filter fun p => (s.portx p).testCut.isSome).foldl testCutReport
        (((s.txLanes.filter (·.2.cut = 7)).map (·.1)).foldl cutReport (s.advance (s.venue + 1000)))))))

/-- AAGC_STEP_DOWN, AAGC_STEP_UP, DETECTION, WINDOW_GROUP_CLOSE, SEPARATION, BLANKING_START and the signature commands (R110 to R131). -/
def Obligations.SpatialCommandsComplete : Prop :=
  (∀ (s : State) (p : Fin 48) (below t : Nat), gainLoop (s.advance t) p t = true → below ≤ s.act CAP_AAGC_HI_THR →
    s.fld (CAP_PGAIN_IDX p) < 20 →
    exec (.aagcStepDown p below false t) s = .next (gainStep (s.advance t) p (s.fld (CAP_PGAIN_IDX p) + 1) t)) ∧
  (∀ (s : State) (p : Fin 48) (below held t : Nat), gainLoop (s.advance t) p t = true → s.act CAP_AAGC_LO_THR < below →
    s.act CAP_AAGC_HOLD_UP ≤ held → 0 < s.fld (CAP_PGAIN_IDX p) →
    exec (.aagcStepUp p below held t) s = .next (gainStep (s.advance t) p (s.fld (CAP_PGAIN_IDX p) - 1) t)) ∧
  (∀ (s : State) (p idx t : Nat), idx < 32 → (gainStep s p idx t).fld (CAP_PGAIN_IDX p) = idx ∧
    (convSample (portBand s p) t + s.fld (CAP_PALIGN_ALIGN p), idx) ∈ ((gainStep s p idx t).portx p).compAt) ∧
  (∀ (s : State) (k : Fin 348) (prof : Fin 16) (rho start : Nat) (snr : Int) (ports : List Nat) (outs : List (Int × Int)) (p : State),
    p = s.advance (start + detWinNs (profWords s prof)) → s.detOff = false → binPresent s k = true → binDet p k = true →
    detOn p k = true → (binProfs p k).contains prof.val = true → pwValid (profWords s prof) = true →
    groupThr p k start ≤ rho →
    blankedAt p k (start + detWinNs (profWords s prof)) = false → s.flag STK_STAT_JOINT = false →
    completes (.detection k prof rho start snr ports outs) s fun t => ∃ d : Detection, d.prof = prof ∧ d.start = start ∧ d.snr = snr ∧
      d.sig.length ≤ 8 ∧ t = groupAdd ({ p with free := p.free + 1 }.bump (SPX_BIN0_DETECT k)) k d) ∧
  (∀ (s : State) (k : Fin 348) (g : Group), groupDue (s.binGroups k) = some g →
    completes (.windowGroupClose k) s fun t =>
      t.binGroups k = (s.binGroups k).map (fun h => if h = g then { h with closed := true } else h) ∧ keeps s t []) ∧
  (∀ (s : State) (k : Fin 348) (g : Group), (s.binGroups k).find? (·.closed) = some g → s.flag STK_STAT_JOINT = false →
    completes (.separation k) s fun t => ∃ s' : State, s' = s.advance (g.closeAt + 1000) ∧
      t = (groupsBefore s' k g ++ [(k.val, g)]).foldl (fun s e => separateGroup s e.1 e.2) s') ∧
  (∀ (s : State) (lane : Fin 96) (b : Blank), s.blanks.find? (fun b => b.lane == lane.val + 1 && b.blanks && !b.applied) = some b →
    exec (.blankingStart lane) s = .next (blankSettle (s.advance b.start))) ∧
  (∀ (s : State) (node : Fin 16384), sigValid s node = true →
    completes (.signatureInvalidate node) s fun t => sigValid t node = false ∧
      ∀ a, a < sigAddr node ∨ sigAddr node + 64 ≤ a → t.rd8 a = s.rd8 a) ∧
  (∀ s : State, completes .signatureInvalidateAll s fun t => t.sigAll = false ∧
    t.mem = (sigSweep s fun _ _ => true).mem ∧ ∀ r, t.reg r = (sigSweep s fun _ _ => true).reg r) ∧
  (∀ s : State, exec .signatureSweep s = .next (sigSweep s fun s n => decide (1000 * s.act SPX_SIGCTL_AGE_LIMIT < sigAge s n))) ∧
  (∀ s : State, completes .signatureBsetSweep s fun t => t.bsetSweep = false ∧
    t.mem = (sigSweep s fun s n => (s.rd8 (sigAddr n + 9)).toNat ≠ s.fld SPX_BSET_TAG).mem)

/-- SYNC_MATCH, SYNC_TIMEOUT, HEADER_CHECK, PILOT_LOCK_LOSS, FRAME_END, RX_LANE_ABORT and TX_LANE_ABORT (R149 to R170). -/
def Obligations.ReceiveLaneCommandsComplete : Prop :=
  (∀ (s : State) (n : Fin 384) (e0 e1 time : Nat) (level : Int) (x : RxLane), s.rxl n = some x → rxState s n = 1 → syncFits x e0 e1 = true → x.det.prof < 16 →
    completes (.syncMatch n e0 e1 ⟨time, level⟩) s fun t => t.fld (PHY_RXSTAT_STATE n) = 2 ∧ t.fld (PHY_RXSTAT_SYNC_ERR n) = min (e0 + e1) 7 ∧
      (∃ g : Int, level - x.target - 2 ≤ g ∧ g ≤ level - x.target + 2 ∧ t.rxl n = some { x with syncTime := time, gain := some g }) ∧
      keeps s t [PHY_RXSTAT n, PHY_CNT0 x.det.prof]) ∧
  (∀ (s : State) (n : Fin 384) (x : RxLane), s.rxl n = some x → rxState s n = 1 →
    exec (.syncTimeout n) s = .next (laneEndEarly ((s.advance (x.det.start + detWinNs x.words +
      (syncTimeout x * symNs3 x.words + 2) / 3)).bump (PHY_CNT0_SYNCTO x.det.prof)) n)) ∧
  (∀ (s : State) (n : Fin 384) (x : RxLane) (l : List Byte) (len : Nat) (fcs4 white : Bool), s.rxl n = some x → rxState s n = 2 →
    x.headed = false → headerLen x.words ≤ l.length →
    headerOf x (if pwMode x.words = 2 then octetsFrom (whiten 0 (bitsLsb l)) else l) = .ok (len, fcs4, white) →
    completes (.headerCheck n l) s fun t => t.rxl n = some { x with headed := true, len := len, fcs4 := fcs4, white := white, endAt := x.syncTime + (bodySymbols x.words len * symNs3 x.words + 2) / 3 } ∧ keeps s t []) ∧
  (∀ (s : State) (n : Fin 384) (x : RxLane) (l : List Byte) (cnt : Nat → Field), s.rxl n = some x → rxState s n = 2 →
    x.headed = false → headerLen x.words ≤ l.length →
    headerOf x (if pwMode x.words = 2 then octetsFrom (whiten 0 (bitsLsb l)) else l) = .error cnt →
    exec (.headerCheck n l) s = .next (laneEndEarly (s.bump (cnt x.det.prof)) n)) ∧
  (∀ (s : State) (n : Fin 384) (x : RxLane) (e0 e1 : Fin 256), s.rxl n = some x → rxState s n = 2 → pwMode x.words = 2 →
    bitOf x.trk 8 = true → bitsOf x.trk 23 16 < e0.val → bitsOf x.trk 23 16 < e1.val →
    exec (.pilotLockLoss n e0 e1) s = .next (blankSettle (laneEndEarly (s.bump (PHY_CNT2_LOCKLOSS x.det.prof)) n))) ∧
  (∀ (s : State) (n : Fin 384) (x : RxLane) (psdu : List Byte) (stop : Nat) (cfo : Word), s.rxl n = some x → rxState s n = 2 → s.blanks = [] →
    x.headed = true → psdu.length = x.len → x.dropped = true → x.frame = 0 →
    completes (.frameEnd n psdu stop cfo) s fun t => t.rxl n = none ∧ rxState t n = 0) ∧
  (∀ (s : State) (n : Fin 384) (x : RxLane) (l psdu mac : List Byte) (stop f : Nat) (cfo : Word) (fr : RxFrame), s.rxl n = some x →
    rxState s n = 2 → s.blanks = [] → x.headed = true → l.length = x.len → x.dropped = false → x.frame = f + 1 →
    s.frame f = some fr → fr.secured = false → fr.test8 = false → fr.ackLane = none →
    psdu = rxOctets x.words x.white 0 l → mac = psdu.take (psdu.length - fcsLen x.fcs4) →
    (fcfOf mac).type = 1 → (fcfOf mac).sec = false → 2 ≤ mac.length → (fcfOf mac).addrEnd ≤ mac.length →
    completes (.frameEnd n l stop cfo) s fun t => t.rxl n = none ∧ rxState t n = 0 ∧ t.frame f = some { fr with
      octets := psdu, endAt := stop, cfo := cfo.toNat % 65536, collided := s.flag (PHY_RXSTAT_COLLIDED n) }) ∧
  (∀ (s : State) (n : Fin 384) (x : RxLane), s.rxl n = some x → rxState s n ≠ 0 →
    exec (.rxLaneAbort n) s = .next (blankSettle (laneEndEarly (s.bump (PHY_CNT3_ABORTED x.det.prof)) n))) ∧
  (∀ (s : State) (n : Fin 96), (s.txl n).owner = 2 → (s.txl n).stage < 2 →
    exec (.txLaneAbort n) s = .next (laneCut (s.bump (PHY_CNT3_ABORTED (s.txl n).prof)) n 0x0C)) ∧
  (∀ (s : State) (n : Fin 96), (s.txl n).owner = 1 → (s.txl n).stage < 2 →
    exec (.txLaneAbort n) s = .next (frameGc ((ackWithdraw s (s.txl n).ref).bump (PHY_CNT3_ABORTED (s.txl n).prof)) (s.txl n).ref))

/-- LOOKUP_POINT, ASSOC_PAN_CHECK, SECURITY_POINT, FRAME_VERDICT, MIC_RESULT, DESCRIPTOR_WRITE, ACK_FREEZE, ACK_COMMIT, the update-port
commands and BUFFER_FREE (R176 to R198). -/
def Obligations.LinkCommandsComplete : Prop :=
  (∀ (s : State) (n : Fin 384) (l : List Byte) (u : List (Nat × Bool)) (x : RxLane), s.rxl n = some x → x.headed = true →
    exec (.lookupPoint n l u) s = .next (blankSettle (lookup (s.upset u) n (rxOctets x.words x.white 0 l)))) ∧
  (∀ (s : State) (f : Nat) (c : Byte) (x : RxFrame), s.frame f = some x → x.test8 = true →
    octAt (rxOctets x.words x.white (payloadAt x.octets) [c]) 0 = 1 →
    exec (.assocPanCheck f c) s = .next (blankSettle (s.setFrame f { x with test8 := false }))) ∧
  (∀ (s : State) (f : Nat) (c : Byte) (x : RxFrame), s.frame f = some x → x.test8 = true →
    octAt (rxOctets x.words x.white (payloadAt x.octets) [c]) 0 ≠ 1 →
    exec (.assocPanCheck f c) s = .next (blankSettle (frameDrop (lastRej (s.bump LNK_FILT_COUNT) x.node 8) f))) ∧
  (∀ (s : State) (f : Nat) (l : List Byte) (x : RxFrame), s.frame f = some x →
    exec (.securityPoint f l) s = .next (blankSettle (securityTests s f (rxOctets x.words x.white 0 l)))) ∧
  (∀ (s : State) (f : Nat) (x : RxFrame), s.frame f = some x → x.outcome = 0 → x.len ≠ 0 → x.len ≤ x.octets.length →
    fcsGood x.fcs4 x.octets = false →
    exec (.frameVerdict f) s = .next (blankSettle (frameDrop (lastRej (s.bump LNK_FCSERR_COUNT) x.node 14) f))) ∧
  (∀ (s : State) (f : Nat), exec (.frameVerdict f) s = .next (blankSettle (verdict s f))) ∧
  (∀ (s : State) (f : Nat), exec (.micResult f) s = .next (micResult s f)) ∧
  (∀ (s : State) (f : Nat) (x : RxFrame), s.frame f = some x → x.outcome = 1 → x.secured = true → x.micDone = false → x.key = [] →
    completes (.micResult f) s fun t => t.fld LNK_LASTREJ_REASON = 16 ∧
      (s.frozen = false → t.fld LNK_SECERR_COUNT = satInc 32 (s.fld LNK_SECERR_COUNT) 1)) ∧
  (∀ (s : State) (f : Nat) (x : RxFrame) (slot d : Nat), s.frame f = some x → x.slot = some slot → x.dest = some d →
    x.deliver = true → x.flood = false →
    exec (.descriptorWrite f) s = .next (describe s f)) ∧
  (∀ (s : State) (f : Nat) (x : RxFrame) (slot d : Nat), s.frame f = some x → x.slot = some slot → x.dest = some d → d < 12 →
    x.deliver = true → x.flood = false → (fcfOf x.octets).type ≠ 0 →
    completes (.descriptorWrite f) s fun t =>
      t.fld (LNK_EQHEAD_HEAD d) = ringNext (s.fld (LNK_EQSIZE_SIZE d)) (s.fld (LNK_EQHEAD_HEAD d)) ∧
      (s.frozen = false → t.fld LNK_RXOK_COUNT = satInc 32 (s.fld LNK_RXOK_COUNT) 1)) ∧
  (∀ (s : State) (f : Nat) (x : RxFrame), s.frame f = some x → x.ack = 1 →
    completes (.ackFreeze f) s fun t =>
      t.frame f = some { x with ack := 2, pendBit := (isAssoc x && x.outcome ≠ 2) || (!x.isNew && 0 < recPending s (x.node.getD 0)) } ∧ keeps s t []) ∧
  (∀ (s : State) (f lane : Nat) (x : RxFrame), s.frame f = some x → x.ackLane = some lane → x.ack = 2 → x.outcome = 1 →
    completes (.ackCommit f) s fun t =>
      let l := s.txl lane
      let sector := s.act SPX_SIGCTL_AGE_LIMIT == 0
      let power := signedOf 8 (if binBand x.bin = 0 then polField x.policy 6 7 0 else polField x.policy 6 15 8)
      let ports := (l.ports.map (·.1)).filter fun p => (s.portx p).txLane ≠ 0
      let sig := if sector then none else some (sigPad x.det.sig)
      match commitChecks s x.bin l.airStart l.airEnd (portPowers s x.beamPlane sig x.bin power ports) with
      | (0, kept, s) =>
        let s := (l.ports.filter fun e => !kept.any (·.1 = e.1)).foldl (fun s e => portRelease s lane e.1)
          (s.bump (if sector then SPX_SIGCNT_SECTOR else SPX_SIGCNT_PRECODED))
        let s := txLanePut s lane { l with ports := kept, weights := portWeights s x.beamPlane sig x.bin (kept.map Prod.fst),
                                           words := x.words, pre := preSymbols x.words, fcs4 := x.fcs4, frame := ackFrame x
                                           committed := true }
        let s := coxAtCommit (blankDecide s lane x.bin l.airStart l.airEnd) lane
        t = blankSettle ((s.setFrame f { x with ack := 3 }).bump LNK_ACKTX_COUNT)
      | (_, _, s) => t = blankSettle (frameGc (ackWithdraw s f) f)) ∧
  (∀ s : State, updBusy s = true → ∀ c ∈ ([.nodeRecordWrite 0, .nodeRecordWrite 16383, .nodeRecordWriteIf 16383, .nodeRecordFree 16383,
      .nodeRecordPersist 16383, .nodeRecordAlloc, .nodeRecordBadOp 2] : List Instr),
    completes c s fun t => t.fld LNK_UPDSTAT_RESULT = 5 ∧ keeps s t [LNK_UPDSTAT]) ∧
  (∀ (s : State) (n : Fin 16384), updBusy s = false → exec (.nodeRecordWrite n) s = .next (recWrite s n)) ∧
  (∀ (s : State) (n : Fin 16384), updBusy s = false → recLe s n 0 2 = s.fld LNK_UPDARG_ARG % 65536 → exec (.nodeRecordWriteIf n) s = .next (recWrite s n)) ∧
  (∀ (s : State) (n : Fin 16384), updBusy s = false → recLe s n 0 2 ≠ s.fld LNK_UPDARG_ARG % 65536 →
    exec (.nodeRecordWriteIf n) s = .next (updResult s n 2)) ∧
  (∀ (s : State) (n : Fin 16384), updBusy s = false → recState s n ≠ 0 →
    exec (.nodeRecordFree n) s = .next (updResult (recFree s n) n 1)) ∧
  (∀ (s : State) (n : Fin 16384), updBusy s = false → recState s n = 0 → exec (.nodeRecordFree n) s = .next (updResult s n 3)) ∧
  (∀ (s : State) (n : Fin 16384), exec (.nodeRecordPersist n) s = .next (updPort s 4 n)) ∧
  (∀ s : State, exec .nodeRecordAlloc s = .next (updCommand s 5 0)) ∧
  (∀ (s : State) (op : Fin 3), updBusy s = false → exec (.nodeRecordBadOp op) s = .next (updResult s 0 5)) ∧
  (∀ (s : State) (n res : Nat), n < 16384 → res < 8 →
    (updResult s n res).fld LNK_UPDSTAT_RESULT = res ∧ (updResult s n res).fld LNK_UPDSTAT_INDEX = n) ∧
  (∀ (s : State) (n : Fin 16384), updBusy s = false → leAt (updImage s) 2 1 ≠ 0 → leAt (updImage s) 12 2 = 0xFFFE →
    extRecord s (((updImage s).drop 4).take 8) = none → recState s n = 0 →
    completes (.nodeRecordWrite n) s fun t => t.fld LNK_UPDSTAT_RESULT = 1 ∧ t.rdN (recAddr n + 2) 62 = updBody s n) ∧
  (∀ (s : State) (n : Fin 4096), n.val < s.fld LNK_BUFCFG_COUNT →
    completes (.bufferFree n) s fun t => stGet false t.bufUsed n = false ∧ (∀ m, m ≠ n.val → stGet false t.bufUsed m = stGet false s.bufUsed m) ∧
      t.mem = s.mem)

/-- SLOT_START, TX_REQUEST_INTAKE, TX_PLACE, TX_BUFFER_FETCHED, TX_DEADLINE, TX_COMMIT, ACK_WAIT_EXPIRY, DUTY_MINUTE_BOUNDARY, DUTY_CLEAR,
HOP_SECOND_BOUNDARY, KEEPALIVE_SWEEP and STALE_EXPIRY (R205 to R231). -/
def Obligations.TransmitCommandsComplete : Prop :=
  (∀ s : State, ceilTo slotNs s.venue < s.nextBoundary → exec .slotStart s = .next (offerAll (s.advance (ceilTo slotNs s.venue)))) ∧
  (∀ (s : State) (n : Fin 12), intakeOpen s n = true → s.upsets = [] →
    exec (.txRequestIntake n) s = .next (reqIntake (s.setFld (TXS_QTAIL_TAIL n)
      (ringNext (s.fld (TXS_QSIZE_SIZE n)) (s.fld (TXS_QTAIL_TAIL n)))) n
        (s.rdN (s.fld (TXS_QBASE_BASE n) + 32 * s.fld (TXS_QTAIL_TAIL n)) 32))) ∧
  (∀ (s : State) (r : Nat) (q : TxReq), (offer s r).req r = some q →
    exec (.txPlace r) s = .next (pendRefresh (offer s r) (reqNode q))) ∧
  (∀ (s : State) (r : Nat) (q : TxReq), s.req r = some q → q.src < 12 → s.upsets = [] →
    exec (.txBufferFetched r) s = .next (bufferArrived s r (s.rdN (qLe q 0 4) (qLen q)))) ∧
  (∀ (s : State) (r : Nat) (q q' : TxReq) (s' : State) (n : Nat), s.req r = some q → q.phase = 2 ∨ q.phase = 3 →
    s' = secureAgain (s.advance (q.airStart - 50000)) r → s'.req r = some q' → q'.phase = 3 → schedHeld s' < schedShare s' →
    freeTx s' = some n →
    exec (.txDeadline r) s = .next (txLaneSet (s'.setReq r { q' with phase := 4, lane := n }) n
      { owner := 2, ref := r, band := binBand q'.bin, bin := q'.bin, prof := qProf q'
        airStart := (nextAir (s'.setReq r { q' with phase := 4, lane := n }) { q' with phase := 4, lane := n }).1
        airEnd := (nextAir (s'.setReq r { q' with phase := 4, lane := n }) { q' with phase := 4, lane := n }).2 } 1 q'.form q'.strobes)) ∧
  (∀ (s : State) (r : Nat) (q : TxReq), s.req r = some q → 4 ≤ q.phase → (s.txl q.lane).owner = 2 → (s.txl q.lane).ref = r →
    (s.txl q.lane).stage = 0 → (s.txl q.lane).committed = false →
    completes (.txCommit r) s fun t =>
      let n := q.lane
      let l := s.txl n
      let (a, e) := nextAir s q
      let s := s.advance (a - 30000)
      let q := { q with bin := airBin s q a q.bin }
      let band := binBand q.bin
      let steer := reqSteer s q
      let q := if q.strobe = 0 then { q with words := profWords s (qProf q) } else q
      let first := q.strobe = 0
      match requestChecks s q a e (portPowers s (s.actB 4) steer q.bin (reqPower s q) (txPorts s band)) with
      | (0, kept, s') =>
        let s' := (countSkips s' band (txPorts s' band)).bump
          (if steer.isSome then SPX_SIGCNT_PRECODED else SPX_SIGCNT_SECTOR)
        let q' := { q with phase := 5, precoded := steer.isSome, attempts := if first then q.attempts + 1 else q.attempts, lastAir := if first then a else q.lastAir }
        let s' := (if first then s'.bump TXS_CNT_SENT_COUNT else s').setReq r q'
        let s' := txLaneSet s' n { l with
          bin := q.bin
          airStart := a
          airEnd := e
          cls := reqClass q
          ports := kept
          frame := airFrame s' q
          silent := silentPorts s' band kept
          committed := true
          weights := portWeights s' (s'.actB 4) steer q.bin (kept.map (·.1))
          words := q.words
          fcs4 := qFcs4 s' q
          wake := q.form = 2 && q.strobe < q.strobes
          pre := if q.form = 1 then longSymbols q.words q.lpre else preSymbols q.words } 1 q.form (q.strobes - q.strobe)
        t = blankSettle (coxAtCommit (blankDecide s' n q.bin a e) n)
      | (status, _, s') => t = reqEnd s' r status) ∧
  (∀ (s : State) (r : Nat) (q : TxReq), s.req r = some q → q.phase = 7 → ¬(q.attempts < qRetries q + 1 ∧ q.endAs = 0) →
    exec (.ackWaitExpiry r) s = .next (reqEnd (s.advance q.waitEnd) r 1)) ∧
  (∀ (s : State) (r : Nat) (q : TxReq), s.req r = some q → q.phase = 7 → q.attempts < qRetries q + 1 → q.endAs = 0 →
    staleOut (s.advance q.waitEnd) q = false →
    exec (.ackWaitExpiry r) s = .next (pendRefresh (offer (((s.advance q.waitEnd).bump TXS_CNT_RETRY_COUNT).setReq r
      { q with phase := if q.kind = 0 then 1 else 0, polled := false, strobe := 0, words := [], wakeCounted := false, notBefore := q.waitEnd }) r) (reqNode q))) ∧
  (∀ s : State, exec .dutyMinuteBoundary s = .next (mirrorWrite (forBelow 4 accMinute s))) ∧
  (∀ s : State, s.priv.lc ≠ 0 → completes .dutyClear s fun t => t.fld TXS_DUTYCTL_CLEAR_REFUSED = 1 ∧ t.duty = s.duty ∧
    keeps s t [TXS_DUTYCTL]) ∧
  (∀ s : State, s.priv.lc = 0 → completes .dutyClear s fun t =>
    ∀ a < 4, t.acc a = {} ∧ t.fld (TXS_DUTYACC_USED a) = 0 ∧ t.fld (TXS_DUTYACC_HELD a) = 0 ∧ t.fld (TXS_DUTYMIN_CUR a) = 0) ∧
  (∀ s : State, completes .hopSecondBoundary s fun t =>
    t.hopOcc = ((s.hopOcc.map fun e => (e.1, hopRotate e.2)).filter fun e => !e.2.isEmpty) ∧ keeps s t []) ∧
  (∀ s : State, exec .keepaliveSweep s = .next ((liveRecords s).foldl keepAlive s)) ∧
  (∀ (s : State) (n : Fin 16384), recState s n = 3 → 60000 ≤ (s.ms + 2 ^ 32 - recLe s n 52 4) % 2 ^ 32 →
    exec (.staleExpiry n) s = .next ((s.reqs.map (·.1)).foldl (fun s r =>
      match s.req r with
      | some q => if reqNode q = n ∧ q.phase ≤ 1 then reqEnd s r 0x0D else s
      | none => s) s))

/-- FLOOD_DECISION, FLOOD_RECORD_RECEIVED, SILT_SWEEP, SILT_FLUSH, IMPORT, IMPORT_REQ_RECEIVED, IMPORT_ANSWER, IMPORT_END_RECEIVED,
IMPORT_TIMEOUT and MARK (R239 to R251). -/
def Obligations.FloodCommandsComplete : Prop :=
  (∀ (s : State) (f : Nat) (x : RxFrame), s.frame f = some x → x.flood = true → bitOf (octAt (macPayload x) 12) 3 = true →
    min (octAt (macPayload x) 1) (bitsOf (x.fld.getD 0 0) 23 16) < 2 →
    siltFind s (x.fld.getD 2 0 % 256) (((macPayload x).drop 4).take 8) (leAt (macPayload x) 2 2) = none →
    completes (.floodDecision f) s fun t => t.frame f = some { x with flood := false } ∧
      (s.frozen = false → t.fld FLD_RXNEW_COUNT = satInc 32 (s.fld FLD_RXNEW_COUNT) 1 ∧
        t.fld FLD_TTLEND_COUNT = satInc 32 (s.fld FLD_TTLEND_COUNT) 1)) ∧
  (∀ (s : State) (f i : Nat) (x : RxFrame), s.frame f = some x → x.flood = true →
    siltFind s (x.fld.getD 2 0 % 256) (((macPayload x).drop 4).take 8) (leAt (macPayload x) 2 2) = some i → siltSource s i = 1 →
    completes (.floodDecision f) s fun t => (∀ y, t.frame f = some y → y.deliver = false) ∧ t.mem = s.mem ∧
      (s.frozen = false → t.fld FLD_SEEN_FAB_COUNT = satInc 32 (s.fld FLD_SEEN_FAB_COUNT) 1)) ∧
  (∀ (s : State) (sender : Nat) (b : List Byte), (neighbours s).contains sender = false → octAt b 11 ≠ 2 → octAt b 11 ≠ 3 →
    completes (.floodRecordReceived sender b) s fun t => keeps s t [FLD_FABDROP] ∧
      (s.frozen = false → t.fld FLD_FABDROP_COUNT = satInc 32 (s.fld FLD_FABDROP_COUNT) 1)) ∧
  (∀ (s : State) (sender : Nat) (b : List Byte), (neighbours s).contains sender = true → octAt b 11 = 0 → b.length = 24 →
    (s.stamp + 2 ^ 48 - leAt b 12 6) % 2 ^ 48 < s.act FLD_SILT_HOLD * 10 ^ 9 →
    siltFind s (s.act FLD_SILT_HOLD) (b.take 8) (leAt b 8 2) = none →
    completes (.floodRecordReceived sender b) s fun t =>
      (∃ i, i / 4 = siltSet (b.take 8) (leAt b 8 2) ∧ t.rdN (siltAddr i) 8 = b.take 8 ∧ t.rdLe (siltAddr i + 8) 2 = leAt b 8 2 ∧
        bitOf (siltFlags t i) 0 = true ∧ siltSource t i = 1) ∧
      (s.frozen = false → t.fld FLD_FABIN_COUNT = satInc 32 (s.fld FLD_FABIN_COUNT) 1)) ∧
  (∀ s : State, completes .siltSweep s fun t =>
    (∀ i < 65536, bitOf (siltFlags t i) 0 = siltLive s (s.act FLD_SILT_HOLD) i) ∧ t.regs = s.regs) ∧
  (∀ s : State, completes .siltFlush s fun t =>
    (∀ i < 65536, bitOf (siltFlags t i) 0 = false) ∧ t.fld FLD_CMD_FLUSH = 0 ∧ ∀ a, a ≠ FLD_CMD → t.reg a = s.reg a) ∧
  (∀ s : State, s.fld FLD_STAT_IMPORT ≠ 1 → (inVenue s || inStack s) = true → s.act FLD_CTL_IMPORT_EN ≠ 0 → neighbours s = [] →
    completes .importCmd s fun t => t.fld FLD_STAT_IMPORT = 2 ∧ t.events = s.events ++ [{ producer := 320, payload := 2 }] ∧
      keeps s t [FLD_STAT]) ∧
  (∀ s : State, s.fld FLD_STAT_IMPORT ≠ 1 → (inVenue s || inStack s) = true → s.act FLD_CTL_IMPORT_EN ≠ 0 → neighbours s ≠ [] →
    completes .importCmd s fun t => t.fld FLD_STAT_IMPORT = 1 ∧ t.importAsked = neighbours s ∧ t.importEnds = []) ∧
  (∀ (s : State) (sender : Nat), (neighbours s).contains sender = true → (s.importAnswers.any (·.sender = sender)) = false →
    completes (.importReqReceived sender) s fun t =>
      t.importAnswers = s.importAnswers ++ [{ sender := sender, atMs := s.ms }] ∧ keeps s t []) ∧
  (∀ (s : State) (a : ImportAsk) (rest : List ImportAsk), s.importAnswers = a :: rest →
    completes .importAnswer s fun t => t.importAnswers = rest ∧ t.mem = s.mem) ∧
  (∀ (s : State) (sender : Nat), s.fld FLD_STAT_IMPORT = 1 → s.importAsked.contains sender = true →
    (∀ n ∈ s.importAsked, n = sender ∨ s.importEnds.contains n = true) →
    completes (.importEndReceived sender) s fun t => t.fld FLD_STAT_IMPORT = 2 ∧ t.importAsked = [] ∧
      t.events = s.events ++ [{ producer := 320, payload := 2 }] ∧ keeps s t [FLD_STAT]) ∧
  (∀ (s : State) (sender n : Nat), s.fld FLD_STAT_IMPORT = 1 → s.importAsked.contains sender = true →
    s.importAsked.contains n = true → n ≠ sender → s.importEnds.contains n = false →
    completes (.importEndReceived sender) s fun t => t.importEnds.contains sender = true ∧ t.importAsked = s.importAsked ∧ keeps s t []) ∧
  (∀ s : State, s.fld FLD_STAT_IMPORT = 1 → completes .importTimeout s fun t => t.fld FLD_STAT_IMPORT = 3 ∧ t.importAsked = [] ∧
    t.events = s.events ++ [{ producer := 320, payload := 3 }] ∧ keeps s t [FLD_STAT]) ∧
  (∀ s : State, s.fld FLD_STAT_IMPORT ≠ 1 → exec .importTimeout s = .next s) ∧
  (∀ (s : State) (i : Nat) (orig : List Byte), orig = leBytes 4 (s.fld FLD_MARKL_ORIG_LO) ++ leBytes 4 (s.fld FLD_MARKH_ORIG_HI) →
    siltFind s (s.act FLD_SILT_HOLD) orig (s.fld FLD_MARKSEQ_SEQ) = some i →
    completes .mark s fun t => t.fld FLD_CMD_MARK = 0 ∧ keeps s t [FLD_CMD]) ∧
  (∀ (s : State) (orig : List Byte), orig = leBytes 4 (s.fld FLD_MARKL_ORIG_LO) ++ leBytes 4 (s.fld FLD_MARKH_ORIG_HI) →
    siltFind s (s.act FLD_SILT_HOLD) orig (s.fld FLD_MARKSEQ_SEQ) = none →
    completes .mark s fun t => t.fld FLD_CMD_MARK = 0 ∧
      ∃ i, i / 4 = siltSet orig (s.fld FLD_MARKSEQ_SEQ) ∧ t.rdN (siltAddr i) 8 = orig ∧ siltSource t i = 3 ∧ bitOf (siltFlags t i) 0 = true)

/-- SYNC_CELL_SEND, SYNC_CELL_RECEIVED, STACK_SYNC_EDGE, IMAGE_CELL_RECEIVED, DETECT_CELL_RECEIVED, LANE_OPEN_RECEIVED,
SUMS_CELL_RECEIVED, LANE_CLOSE_RECEIVED, HALF_STREAM_TIMEOUT, RING_LINK_DOWN, RING_LINK_UP, LEADER_LOST and LEADER_REJOIN (R256 to R264). -/
def Obligations.StackCommandsComplete : Prop :=
  (∀ s : State, isLeader s = true → ringUp s ≠ 0 → completes .syncCellSend s fun t =>
    t.out = s.out ++ [{ kind := .stackCell, nums := [1, 15, ringUp s], octets := cellOf 1 (stkMember s) 15 (leBytes 8 (s.epoch + 1)) }] ∧
      keeps s t []) ∧
  (∀ (s : State) (p : Fin 2) (e : Nat), inStack s = true → isLeader s = false →
    s.stk.cells.contains (cellOf 1 (stkLeader s) 15 (leBytes 8 e)) = false →
    s.stk.cellsOld.contains (cellOf 1 (stkLeader s) 15 (leBytes 8 e)) = false →
    completes (.syncCellReceived ⟨p, e⟩) s fun t => t.stk.syncEpoch = e ∧ t.stk.missedSync = 0 ∧
      t.stk.cells = cellOf 1 (stkLeader s) 15 (leBytes 8 e) :: s.stk.cells ∧ keeps s t []) ∧
  (∀ (s : State) (p : Fin 2) (e : Nat), inStack s = true → isLeader s = false →
    s.stk.cells.contains (cellOf 1 (stkLeader s) 15 (leBytes 8 e)) = true →
    completes (.syncCellReceived ⟨p, e⟩) s fun t => t = seenMark s (stkLeader s)) ∧
  (∀ (s : State) (skew : Int), inStack s = true → isLeader s = false → skew.natAbs ≤ 8 →
    completes (.stackSyncEdge skew) s fun t => signedOf 8 (t.fld STK_SKEW_SKEW) = skew ∧ t.stk.missedEdge = 0 ∧
      t.stk.trim = skew ∧ t.vfb = s.vfb ∧ keeps s t [STK_SKEW]) ∧
  (∀ (s : State) (skew : Int), inStack s = true → isLeader s = false → 8 < skew.natAbs →
    completes (.stackSyncEdge skew) s fun t => signedOf 8 (t.fld STK_SKEW_SKEW) = max (-128) (min 127 skew) ∧ t.stk.missedEdge = 0 ∧
      t.vfb.step = some (-(skew * 5) / 3, s.uptime) ∧ keeps s t [STK_SKEW]) ∧
  (∀ (s : State) (p : Fin 2) (m : Fin 8) (n : Fin 16384) (l : List Byte), inStack s = true → m.val ≠ stkMember s → l.length = 36 →
    s.stk.cells.contains (cellOf 6 m 15 (leBytes 2 n ++ l)) = false → s.stk.cellsOld.contains (cellOf 6 m 15 (leBytes 2 n ++ l)) = false →
    1 ≤ (leAt l 0 2 + 65536 - recLe s n 0 2) % 65536 → (leAt l 0 2 + 65536 - recLe s n 0 2) % 65536 ≤ 32767 →
    completes (.imageCellReceived ⟨p, m⟩ n l) s fun t => recLe t n 0 2 = leAt l 0 2 ∧ recPending t n = recPending s n ∧
      (s.frozen = false → t.fld STK_RECAPPLY_COUNT = satInc 32 (s.fld STK_RECAPPLY_COUNT) 1) ∧
      (∀ a, a < recAddr n ∨ recAddr n + 36 ≤ a → t.rd8 a = s.rd8 a)) ∧
  (∀ (s : State) (p : Fin 2) (m : Fin 8) (n : Fin 16384) (l : List Byte), inStack s = true → m.val ≠ stkMember s → l.length = 36 →
    s.stk.cells.contains (cellOf 6 m 15 (leBytes 2 n ++ l)) = false → s.stk.cellsOld.contains (cellOf 6 m 15 (leBytes 2 n ++ l)) = false →
    32767 < (leAt l 0 2 + 65536 - recLe s n 0 2) % 65536 →
    completes (.imageCellReceived ⟨p, m⟩ n l) s fun t => keeps s t [STK_RECSTALE] ∧
      (s.frozen = false → t.fld STK_RECSTALE_COUNT = satInc 32 (s.fld STK_RECSTALE_COUNT) 1)) ∧
  (∀ (s : State) (p : Fin 2) (m : Fin 8) (k : Fin 348) (prof : Fin 16) (snr : Int) (start peak e : Nat), inStack s = true →
    m.val ≠ stkMember s → s.stk.cells = [] → s.stk.cellsOld = [] →
    completes (.detectCellReceived ⟨p, m⟩ k prof snr ⟨start, peak, e⟩) s fun t =>
      t.remoteDets = s.remoteDets ++ [{ member := m, bin := k, prof := prof, snr := snr, start := start, epoch := e % 65536 }] ∧
      keeps s t []) ∧
  (∀ (s : State) (p : Fin 2) (tag : Fin 4096) (k : Fin 348) (prof : Fin 16) (start peak e : Nat) (own : List Word), inStack s = true →
    tag.val / 512 ≠ stkMember s → s.stk.cells = [] → s.stk.cellsOld = [] →
    completes (.laneOpenReceived ⟨p, tag, own⟩ k prof ⟨start, peak, e⟩) s fun t =>
      (t.jointParts.find? (·.1 = tag.val)).map (·.2) = some { bin := k, peak := peak, part := (s.contribs.find? fun c =>
                                                                c.bin == k.val && c.prof == prof.val &&
                                                                  startsMeet (binBand k) c.epoch c.start e start) } ∧ keeps s t [STK_CONTRIB]) ∧
  (∀ (s : State) (tag : Fin 4096) (d : Fin 2) (first : Nat) (words own : List Word) (p : JointPart), inStack s = true →
    tag.val / 512 ≠ stkMember s → (s.jointParts.find? (·.1 = tag.val)).map (·.2) = some p → d.val = halfDir s (tag.val / 512) →
    bitOf (ringUp s) d = true →
    completes (.sumsCellReceived tag d first words own) s fun t => ∃ sums : List Word,
      sums = List.zipWith sumWord (words.take 13) ((if p.part.isSome then own else own.map fun _ => 0) ++ List.replicate 13 0) ∧
      (let cell := cellOf 5 (stkMember s) (tag.val / 512) (leBytes 2 tag.val ++ leBytes 4 (first % 2 ^ 20) ++ leBytes 1 sums.length
         ++ leBytes 1 0 ++ sums.flatMap fun w => leBytes 4 w.toNat)
       t.out = s.out ++ [{ kind := .stackCell, nums := [5, tag.val / 512, 2 ^ d.val], octets := cell }]) ∧ keeps s t []) ∧
  (∀ (s : State) (tag : Fin 4096) (d : Fin 2) (first : Nat) (words own : List Word) (x : RxLane), inStack s = true →
    tag.val / 512 = stkMember s → s.rxl (tag.val % 512) = some x → x.joint = true →
    completes (.sumsCellReceived tag d first words own) s fun t =>
      t.rxl (tag.val % 512) = some { x with sums := x.sums ++ [(d.val, first % 2 ^ 20, words.take 13)] } ∧ keeps s t []) ∧
  (∀ (s : State) (p : Fin 2) (tag : Fin 4096) (reason : Fin 2), inStack s = true → tag.val / 512 ≠ stkMember s → s.stk.cells = [] →
    s.stk.cellsOld = [] → completes (.laneCloseReceived ⟨p, tag, reason⟩) s fun t =>
      t.jointParts.find? (·.1 = tag.val) = none ∧ keeps s t []) ∧
  (∀ (s : State) (tag : Fin 4096) (first : Nat) (own : List Word) (k : Nat) (p : JointPart),
    s.jointParts.find? (·.1 = tag.val) = some (k, p) → p.origin = false →
    completes (.halfStreamTimeout ⟨tag, first, own⟩) s fun t =>
      (t.jointParts.find? (·.1 = tag.val)).map (·.2) = some { p with origin := true } ∧ keeps s t [STK_DEGRADED]) ∧
  (∀ (s : State) (p : Fin 2), completes (.ringLinkDown p) s fun t =>
    t.fld (if p = 0 then STK_STAT_RING0_UP else STK_STAT_RING1_UP) = 0 ∧ keeps s t [STK_STAT]) ∧
  (∀ (s : State) (p : Fin 2), ringEnabled s p = true → completes (.ringLinkUp p) s fun t =>
    t.fld (if p = 0 then STK_STAT_RING0_UP else STK_STAT_RING1_UP) = 1 ∧ keeps s t [STK_STAT]) ∧
  (∀ s : State, inStack s = true → isLeader s = false → s.flag STK_STAT_LEADER_OK = true → 3 ≤ s.stk.missedSync ∨ 3 ≤ s.stk.missedEdge →
    completes .leaderLost s fun t => t.fld STK_STAT_LEADER_OK = 0 ∧ t.fld STK_STAT_LEADERLOST = 1 ∧ t.stk.endJoint = true ∧
      t.stk.rejoinPeriods = 0 ∧ t.stk.records = [] ∧ keeps s t [STK_STAT, STK_LEADERLOSTS]) ∧
  (∀ s : State, inStack s = true → isLeader s = false → s.flag STK_STAT_LEADER_OK = false → 100 ≤ s.stk.rejoinPeriods →
    completes .leaderRejoin s fun t => t.stk = { s.stk with rejoin := true } ∧ keeps s t [])

/-- FABRIC_CELL_RECEIVED, FABRIC_FRAME_RECEIVED, SEND_RING_ENTRY, ORDER_GO, VENUE_TIME_READ, FABRIC_PORT_DOWN and FABRIC_PORT_UP (R263 to
R278). -/
def Obligations.FabricCommandsComplete : Prop :=
  (∀ (s : State) (p : Fin 2) (c : List Byte), inStack s = true →
    c.length ≠ 64 ∨ leAt c 2 2 ≠ crcMsb 16 0x1021 0xFFFF (octNats (c.drop 4)) ∨ 8 ≤ leAt c 0 2 % 16 →
    completes (.fabricCellReceived ⟨p, c⟩) s fun t => t = s.bump STK_CELLERR_COUNT) ∧
  (∀ (s : State) (p : Fin 2) (c : List Byte), inStack s = true → s.stk.cells = [] → s.stk.cellsOld = [] → c.length = 64 → leAt c 2 2 = crcMsb 16 0x1021 0xFFFF (octNats (c.drop 4)) →
    leAt c 0 2 % 16 = 7 → bitsOf (leAt c 0 2) 6 4 ≠ stkMember s → bitsOf (leAt c 0 2) 10 7 = stkMember s →
    completes (.fabricCellReceived ⟨p, c⟩) s fun t => ∃ s' : State, s'.stk.cells.length = 1 ∧ keeps s s' [] ∧
      t = fabricCellIn s' (bitsOf (leAt c 0 2) 6 4) (leAt c 4 2) ((c.drop 8).take (recordLength (c.drop 8)))) ∧
  (∀ (s : State) (p : Fin 2) (c : List Byte), inStack s = true → s.stk.cells = [] → s.stk.cellsOld = [] → c.length = 64 →
    leAt c 2 2 = crcMsb 16 0x1021 0xFFFF (octNats (c.drop 4)) → leAt c 0 2 % 16 = 7 → bitsOf (leAt c 0 2) 6 4 ≠ stkMember s →
    bitsOf (leAt c 0 2) 10 7 = stkMember s → leAt c 4 2 = 0xFFFE → octAt c 8 = 128 → octAt c 9 ≤ 12 → s.fld VFB_RRSIZE_SIZE ≠ 0 →
    ringNext (s.fld VFB_RRSIZE_SIZE) (s.fld VFB_RRHEAD_HEAD) ≠ s.fld VFB_RRTAIL_TAIL →
    completes (.fabricCellReceived ⟨p, c⟩) s fun t =>
      t.fld VFB_RRHEAD_HEAD = ringNext (s.fld VFB_RRSIZE_SIZE) (s.fld VFB_RRHEAD_HEAD) ∧
        t.rdLe (s.fld VFB_RRBASE_BASE + 64 * s.fld VFB_RRHEAD_HEAD) 2 = 4096 + bitsOf (leAt c 0 2) 6 4) ∧
  (∀ (s : State) (p : Fin 2) (l : List Byte), (fabricUp s).contains p.val = true → 16 ≤ l.length → octAt l 0 = 1 → octAt l 14 = 0 →
    inVenue s = true → leAt l 2 4 = venueId s → (leAt l 8 2 = myIndex s ∨ leAt l 8 2 = 0xFFFF) →
    (stGet [] s.fseqSeen (leAt l 6 2)).contains (leAt l 10 4) = false →
    completes (.fabricFrameReceived p l) s fun t => (stGet [] t.fseqSeen (leAt l 6 2)).contains (leAt l 10 4) = true ∧
      (s.frozen = false → t.fld VFB_RXFRM_COUNT = satInc 32 (s.fld VFB_RXFRM_COUNT) 1) ∧ keeps s t [VFB_RXFRM]) ∧
  (∀ (s : State) (p : Fin 2) (l : List Byte), (fabricUp s).contains p.val = true → 16 ≤ l.length → octAt l 0 = 1 → octAt l 14 = 0 →
    inVenue s = true → leAt l 2 4 = venueId s → (leAt l 8 2 = myIndex s ∨ leAt l 8 2 = 0xFFFF) →
    (stGet [] s.fseqSeen (leAt l 6 2)).contains (leAt l 10 4) = true →
    completes (.fabricFrameReceived p l) s fun t =>
      (s.frozen = false → t.fld VFB_DUPDROP_COUNT = satInc 32 (s.fld VFB_DUPDROP_COUNT) 1) ∧ keeps s t [VFB_DUPDROP]) ∧
  (∀ (s : State) (p : Fin 2) (l : List Byte), (fabricUp s).contains p.val = true → octAt l 0 ≠ 1 →
    completes (.fabricFrameReceived p l) s fun t =>
      (s.frozen = false → t.fld VFB_BADFRM_COUNT = satInc 32 (s.fld VFB_BADFRM_COUNT) 1) ∧ keeps s t [VFB_BADFRM]) ∧
  (∀ (s : State) (h : Fin 4096), h.val < s.fld VFB_SQSIZE_SIZE →
    exec (.sendRingEntry h) s = .next (sendEntries 4096 (s.setFld VFB_SQHEAD_HEAD h))) ∧
  (∀ (s : State) (h : Fin 4096), h.val < s.fld VFB_SQSIZE_SIZE → s.fld VFB_SQSIZE_SIZE ≤ 4096 →
    s.fld VFB_SQTAIL_TAIL < s.fld VFB_SQSIZE_SIZE →
    completes (.sendRingEntry h) s fun t => t.fld VFB_SQHEAD_HEAD = h ∧ t.fld VFB_SQTAIL_TAIL = h ∧ t.mem = s.mem) ∧
  (∀ (s : State) (h : Fin 4096), s.fld VFB_SQSIZE_SIZE ≤ h.val → exec (.sendRingEntry h) s = .next s) ∧
  (∀ s : State, exec .orderGo s = .next (orderGo s)) ∧
  (∀ s : State, ptpMaster s = false → (inVenue s = true ∨ isLeader s = false) →
    completes .orderGo s fun t => t.fld VFB_STAT_ORDER_REFUSED = 1 ∧ t.swapReq = s.swapReq ∧ keeps s t [VFB_STAT]) ∧
  (∀ (s : State) (m : Master), completes (.venueTimeRead m) s fun t =>
    t.busData = BitVec.ofNat 32 s.venue ∧ t.busResult = .ok ∧ t.latch (timeLatch m) = BitVec.ofNat 32 (s.venue / 2 ^ 32) ∧ keeps s t []) ∧
  (∀ (s : State) (p : Fin 2), completes (.fabricPortDown p) s fun t =>
    t.fld (if p = 0 then VFB_STAT_PORT0_UP else VFB_STAT_PORT1_UP) = 0 ∧ keeps s t [VFB_STAT]) ∧
  (∀ (s : State) (p : Fin 2), p.val < s.part.fabricPorts → completes (.fabricPortUp p) s fun t =>
    t.fld (if p = 0 then VFB_STAT_PORT0_UP else VFB_STAT_PORT1_UP) = 1 ∧ keeps s t [VFB_STAT])

/-- PTP_SYNC_SEND, PTP_SYNC_RECEIVED, PTP_DELAY_REQ_SEND, PTP_DELAY_REQ_RECEIVED, PTP_DELAY_RESP_RECEIVED, VENUE_TIME_STEP, BEACON_SEND,
BEACON_RECEIVED, BEACON_TIMEOUT, MASTER_TAKEOVER, BACKUP_TAKEOVER and BEACON_TIME_MISSED (R271 to R279). -/
def Obligations.VenueTimeCommandsComplete : Prop :=
  (∀ s : State, ptpMaster s = true → completes .ptpSyncSend s fun t => keeps s t [] ∧ t.out = s.out ++
    ([0, 1].filter fun p => ptpOn s p).flatMap fun p => [{ kind := .ptp, nums := [p, 0, s.fld VFB_CTL_DOMAIN], octets := [] },
      { kind := .ptp, nums := [p, 8, s.fld VFB_CTL_DOMAIN, s.venue], octets := [] }]) ∧
  (∀ (s : State) (p : Fin 2) (origin : Nat) (correction : Int) (arrival : Nat), s.venue ≤ arrival → arrival < s.nextBoundary →
    ptpSlave s = true → ptpOn s p = true → (p = 0 ∨ timingPort (s.advance arrival) = 1) →
    completes (.ptpSyncReceived p origin correction arrival) s fun t => ∃ a s' : State, a = s.advance arrival ∧
      s' = { a with vfb := { a.vfb with syncDiff := arrival - origin - correction
                                        sync0At := if p = 0 then a.uptime + 1 else a.vfb.sync0At } }.setFld VFB_STAT_TPORT p ∧
      t = offsetTake s' (s'.vfb.delay - (arrival - origin - correction))) ∧
  (∀ s : State, ptpSlave s = true → ptpOn s (timingPort s) = true →
    completes .ptpDelayReqSend s fun t => t.vfb.reqSent = s.venue ∧ keeps s t [] ∧
      t.out = s.out ++ [{ kind := .ptp, nums := [timingPort s, 1, s.fld VFB_CTL_DOMAIN], octets := [] }]) ∧
  (∀ (s : State) (p : Fin 2) (r arrival : Nat), s.venue ≤ arrival → arrival < s.nextBoundary → ptpMaster s = true → ptpOn s p = true →
    completes (.ptpDelayReqReceived p r arrival) s fun t => keeps s t [] ∧
      t.out = s.out ++ [{ kind := .ptp, nums := [p, 9, s.fld VFB_CTL_DOMAIN, arrival, r], octets := [] }]) ∧
  (∀ (s : State) (p : Fin 2) (received : Nat) (correction : Int), ptpSlave s = true → ptpOn s p = true → timingPort s = p.val →
    completes (.ptpDelayRespReceived p received correction) s fun t =>
      t.vfb.delay = (s.vfb.syncDiff + (received - s.vfb.reqSent - correction)) / 2 ∧ keeps s t []) ∧
  (∀ (s : State) (e : Int) (due : Nat), s.vfb.step = some (e, due) → s.venue % periodNs = 0 → due + 1000000 ≤ s.uptime →
    completes .venueTimeStep s fun t => t = snapDue (venueStep s e) (venueStep s e).venue true {} ∧
      t.vfb.step = none ∧ t.vfb.slew = 0 ∧ t.venue = shiftT e s.venue ∧ t.fld VFB_STEP_NS = sat32 e) ∧
  (∀ (s : State) (a : Nat), ptpMaster s = true → beaconTime s.venue = a → a ≠ s.vfb.sentAt → a < s.nextBoundary →
    completes .beaconSend s fun t => ∃ s' : State, s' = setOrders (s.passTo a) (ordersAt (s.passTo a) a) ∧
      t = recordSend { s' with vfb := { s'.vfb with bseq := (s'.vfb.bseq + 1) % 2 ^ 32, sentAt := a } } 0xFFFF
        (recordOf 1 (leBytes 4 ((s'.vfb.bseq + 1) % 2 ^ 32) ++ leBytes 2 (myIndex s') ++ leBytes 1 (b2n (vfbState s' == 5))
          ++ leBytes 1 (s'.vfb.orders.take 4).length ++ leBytes 8 a ++ (s'.vfb.orders.take 4).flatMap orderBody))) ∧
  (∀ (s : State) (l : List Byte), inVenue s = true → vfbState s ≠ 4 → leAt l 4 2 = masterIndex s → octAt l 7 = 0 →
    (∀ k, s.vfb.lastBseq = some k → 1 ≤ (leAt l 0 4 + 2 ^ 32 - k) % 2 ^ 32 ∧ (leAt l 0 4 + 2 ^ 32 - k) % 2 ^ 32 < 2 ^ 31) →
    completes (.beaconReceived l) s fun t => t.vfb.lastBseq = some (leAt l 0 4) ∧ t.vfb.beaconAt = s.uptime + 1 ∧
      t.vfb.masterAt = s.uptime + 1 ∧ t.vfb.beaconSeen = true ∧ t.fld VFB_BCN_BSEQ = leAt l 0 4 % 65536 ∧ (vfbState s = 5 → vfbState t = 2)) ∧
  (∀ (s : State) (l : List Byte), s.vfb.lastBseq = some (leAt l 0 4) → exec (.beaconReceived l) s = .next s) ∧
  (∀ s s' : State, vfbState s = 2 → s.reachUp (s.vfb.beaconAt - 1 + 385000000) = some s' →
    completes .beaconTimeout s fun t => t = vfbEnter s' 3 ∧ vfbState t = 3) ∧
  (∀ s s' : State, vfbState s = 1 ∨ vfbState s = 3 → myIndex s = masterIndex s →
    s.reachUp (max s.vfb.acquireAt (s.vfb.beaconAt - 1) + 1000000000) = some s' → beaconTime s'.venue < s'.nextBoundary →
    s'.vfb.wasLocked = true →
    completes .masterTakeover s fun t => t = vfbEnter (s'.passTo (beaconTime s'.venue)) 4 ∧ vfbState t = 4) ∧
  (∀ s : State, vfbState s = 2 → myIndex s = masterIndex s → beaconTime s.venue < s.nextBoundary → s.vfb.wasLocked = true →
    completes .masterTakeover s fun t => t = vfbEnter (s.passTo (beaconTime s.venue)) 4 ∧ vfbState t = 4) ∧
  (∀ s s' : State, vfbState s = 1 ∨ vfbState s = 3 → myIndex s = backupIndex s →
    s.reachUp ((if s.vfb.masterAt = 0 then s.vfb.acquireAt else s.vfb.masterAt - 1) + 2000000000) = some s' →
    completes .backupTakeover s fun t => t = vfbEnter (setOrders s' (ordersAt s' s'.venue)) 5 ∧ vfbState t = 5) ∧
  (∀ s : State, ptpSlave s = true → s.vfb.beaconAt + (s.venue - (beaconTime s.venue - 125000000)) ≤ s.uptime →
    exec .beaconTimeMissed s = .next (s.bump VFB_BCNMISS_COUNT))

/-- INTERRUPT_ENTRY, WATCHDOG_EXPIRY, WATCHDOG_KICK, ENGINE_RUN, ENGINE_STOP, ENGINE_HELD, ENGINE_RESET, ENGINE_RESET_DONE, WORLD_LOCK,
SORREL_STARTUP, LEAD_RELOAD, LEAD_RELOAD_SECTION_LOADED, LEAD_READY and AUTONOMY_OVER (R295 to R312). -/
def Obligations.EngineCommandsComplete : Prop :=
  (∀ (s : State) (n : Fin 12), vReady s n = true → s.flag (SYS_ENGSTAT_INT_EN n) = true → irqLevel s n = true →
    (s.eng n).eiHold = false → exec (.interruptEntry n) s = .next (vInterrupt s n)) ∧
  (∀ (s s' : State) (n : Fin 12), engState s n = 1 → s.fld (SYS_ENGWDT_LIMIT n) ≠ 0 →
    s.reachUp ((s.eng n).kickAt + 1000 * s.fld (SYS_ENGWDT_LIMIT n)) = some s' → n ≠ 0 →
    completes (.watchdogExpiry n) s fun t => engState t n = 2 ∧ t.fld (SYS_ENGFAULT_CAUSE n) = 6 ∧ t.fld (SYS_ENGFADDR_ADDR n) = 0 ∧
      t.reg (SYS_ENGFPC n) = s.reg (SYS_ENGPC n) ∧
      keeps s t [SYS_ENGSTAT n, SYS_ENGCTL n, SYS_ENGFAULT n, SYS_ENGFADDR n, SYS_ENGFPC n]) ∧
  (∀ (s s' : State), engState s 0 = 1 → s.fld (SYS_ENGWDT_LIMIT 0) ≠ 0 →
    s.reachUp ((s.eng 0).kickAt + 1000 * s.fld (SYS_ENGWDT_LIMIT 0)) = some s' →
    completes (.watchdogExpiry 0) s fun t => t = leadReload (engFaulted (faultRecord s' 0 6 0 (s'.fld (SYS_ENGPC_PC 0))) 0) ∧
      t.fld SYS_SRLSTAT_STATE = 3 ∧ t.fld SYS_SRLSTAT_LEAD_DOWN = 1 ∧ engState t 0 = 4) ∧
  (∀ (s : State) (m : Master) (n : Fin 12), engMay m n true = true → completes (.watchdogKick m n) s fun t =>
    t.busResult = .ok ∧ t.eng n = { s.eng n with kickAt := s.uptime, wdHeld := 0 } ∧ keeps s t []) ∧
  (∀ (s : State) (m : Master) (n : Fin 12) (rcv : Bool), engMay m n false = true → engState s n = 0 →
    s.flag (SYS_ENGCTL_RUN n) = false → completes (.engineRun m n rcv) s fun t =>
      t.busResult = .ok ∧ t.fld (SYS_ENGCTL_RUN n) = 1 ∧ engState t n = if rcv then 3 else 1) ∧
  (∀ (s : State) (m : Master) (n : Fin 12), engMay m n false = true → engState s n = 1 ∨ engState s n = 3 →
    completes (.engineStop m n) s fun t =>
      t.busResult = .ok ∧ t.fld (SYS_ENGCTL_RUN n) = 0 ∧ (t.eng n).stopping = true ∧ engState t n = engState s n) ∧
  (∀ (s : State) (n : Fin 12), (s.eng n).stopping = true → completes (.engineHeld n) s fun t =>
    engState t n = 0 ∧ (t.eng n).stopping = false ∧ keeps s t [SYS_ENGSTAT n]) ∧
  (∀ (s : State) (m : Master) (n : Fin 12), engMay m n false = true →
    completes (.engineReset m n) s fun t => t = engReset { s with busResult := .ok } n ∧ t.busResult = .ok ∧ engState t n = 4 ∧
      t.eng n = {} ∧ t.fld (SYS_ENGCTL_RUN n) = 0 ∧ t.fld (SYS_ENGCTL_MODE n) = 0 ∧ t.fld (SYS_ENGSTAT_INT_EN n) = 0 ∧
      t.fld (SYS_ENGSTAT_IN_HANDLER n) = 0) ∧
  (∀ (s : State) (n : Fin 12), engState s n = 4 → completes (.engineResetDone n) s fun t => engState t n = 0 ∧ keeps s t [SYS_ENGSTAT n]) ∧
  (∀ (s : State) (m : Master), leadOrSorrel m = true → completes (.worldLock m) s fun t =>
    t.busResult = .ok ∧ t.fld SYS_ENGLOCK_WORLD_LOCK = 1 ∧ keeps s t [SYS_ENGLOCK]) ∧
  (∀ (s : State) (fail : Bool), mainOn s = true → s.fld SYS_SRLSTAT_STATE = 0 →
    (keyStart s fail).flag SYS_RSTCAUSE_WAKE = false → bitOf (keyStart s fail).wakeLatch 2 = false → exec (.sorrelStartup fail) s =
      .next (flcTake (keyLoad (imageStart (bootLoad (loamRebuild (tornScan (keyStart s fail)))))) 64)) ∧
  (∀ (s : State) (fail : Bool), mainOn s = true → s.fld SYS_SRLSTAT_STATE = 0 → s.flag SYS_RSTCAUSE_WAKE = false →
    bitOf s.wakeLatch 2 = false →
    completes (.sorrelStartup fail) s fun t => t.fld SYS_SRLSTAT_STATE = 1 ∨ t.fld SYS_SRLSTAT_STATE = 4) ∧
  (∀ (s : State) (m : Master) (slot : Fin 4), m.val = 12 ∨ m.val = 0 → s.fld SYS_SRLSTAT_STATE = 1 →
    exec (.leadReload m slot) s = .next (leadReload ({ s with busResult := .ok }.setFld SYS_SRLCMD_SLOT slot))) ∧
  (∀ (s : State) (m : Master) (slot : Fin 4), m.val = 12 ∨ m.val = 0 → s.fld SYS_SRLSTAT_STATE ≠ 1 →
    completes (.leadReload m slot) s fun t => t.busResult = .ok ∧ t.fld SYS_SRLSTAT_REFUSED = 1 ∧ t.fld SYS_SRLCMD_SLOT = slot ∧
      keeps s t [SYS_SRLCMD, SYS_SRLSTAT]) ∧
  (∀ s : State, s.fld SYS_SRLSTAT_STATE = 3 → s.flag SYS_SRLSTAT_LEAD_DOWN = true → s.flag (SYS_ENGCTL_RUN 0) = false →
    completes .leadReloadSectionLoaded s fun t =>
      match imageCheck (s.setFld (SYS_ENGSTAT_STATE 0) 0) s.upd.reloadSlot
        (!(s.setFld (SYS_ENGSTAT_STATE 0) 0).flag (UPD_SLOTSTAT_AUTH s.upd.reloadSlot)) false with
      | (none, s') => t = s'.setFld SYS_SRLSTAT_STATE 4
      | (some m, s') => t = leadSection (s'.setFlds [(UPD_SLOTSTAT_AUTH s.upd.reloadSlot, 1), (UPD_SLOTSTAT_BUILD s.upd.reloadSlot, m.build)])
          s.upd.reloadSlot m) ∧
  (∀ (s : State), s.fld SYS_SRLSTAT_STATE = 3 → s.flag SYS_SRLSTAT_LEAD_DOWN = true →
    completes (.leadReady 0) s fun t => t.busResult = .ok ∧ t.fld SYS_SRLSTAT_STATE = 1 ∧ t.fld SYS_SRLSTAT_LEAD_DOWN = 0) ∧
  (∀ s : State, completes (.leadReady 12) s fun t => t.busResult = .ok ∧ keeps s t []) ∧
  (∀ (s : State) (m : Master), m.val ≠ 0 → m.val ≠ 12 → completes (.leadReady m) s fun t => t.busResult = .error ∧ keeps s t []) ∧
  (∀ s s' : State, s.flag SYS_SRLSTAT_LEAD_DOWN = true → (s.eng 0).late = false →
    s.reachUp (s.reloadAt + 50000000) = some s' → completes .autonomyOver s fun t => t.fld SYS_SRLSTAT_AUTONOMY_OVER = 1 ∧
      (t.eng 0).late = true ∧ t.events = s.events ++ [{ producer := 2, payload := 0 }] ∧ keeps s t [SYS_SRLSTAT])

/-- The bytes of a form decode to what the form means, whatever follows them (R314 to R317, R320, R321, R324, R325). -/
def Obligations.PlewinVDecodesEveryForm : Prop :=
  ∀ (f : VForm) (rest : List Byte), f.ok = true → vDecode (f.bytes ++ rest) = .ok f.instr

/-- Bytes that decode are those of a defined form; every other encoding is refused (R314 to R317, R321, R324, R325, R332). -/
def Obligations.PlewinVDecodesOnlyForms : Prop :=
  ∀ (l : List Byte) (i : VInstr), vDecode l = .ok i → ∃ (f : VForm) (rest : List Byte), f.ok = true ∧ l = f.bytes ++ rest ∧ i = f.instr

/-- The worked case after R333. -/
def Obligations.PlewinVWorkedCaseDecodes : Prop :=
  vDecode [0x63, 0x68, 0x08, 0x21, 0x22] =
    .ok { op := .mov, width := 8, rep := true, atomic := false, ctrl := 0, ops := [(.postinc 1, 8), (.postinc 2, 8)], disp := 0, len := 5 } ∧
  vDecode [0x65, 0x69, 0x10, 0x80, 0x40, 0x20, 0xC1] =
    .ok { op := .alu 0, width := 4, rep := false, atomic := true, ctrl := 0, ops := [(.abs 0x01002040, 4), (.imm 1, 4)], disp := 0, len := 7 } ∧
  vDecode [0x61, 0xF0, 0x01, 0xC9, 0x00, 0x10, 0x41, 0x0E] =
    .ok { op := .bfx, width := 2, rep := false, atomic := false, ctrl := 0xC9, ops := [(.ind 0, 2), (.disp 1 14, 2)], disp := 0, len := 8 } ∧
  vDecode [0x44, 0x44, 0x08, 0xB1, 0x00, 0x04, 0xEC, 0xFF] =
    .ok { op := .cb 4, width := 4, rep := false, atomic := false, ctrl := 0, ops := [(.disp 4 8, 4), (.imm 0x400, 4)], disp := -20, len := 8 }

/-- Every data row completes, for every operand form (R318, R321 to R327). -/
def Obligations.PlewinVDataRowsComplete : Prop :=
  (∀ (s : State) (n : Fin 12) (i : VInstr) (r : DataRow), fetches s n i → i.rep = false → i.atomic = false →
    r ∈ dataRows n (i.ops.length == 3) → i.op = r.op →
    ∀ (places : List Place) (p vs : List Nat) (v : Nat) (s1 s2 t : State),
      specPlaces (vActor n) (iaOf s n) i.ops (s.eng n).ptrs s = .go (places, p) s1 →
      placesRead (vActor n) p (r.srcs.map (operand i places)) s1 = .go vs s2 →
      r.result i vs = some v →
      vCommit s2 n (iaOf s n) false { writes := [⟨(operand i places 0).1, (operand i places 0).2, v⟩], ptrs := p, pc := iaOf s n + i.len }
        = .go () t →
      exec r.cmd s = .next t) ∧
  (∀ (s : State) (n : Fin 12) (u : List (Nat × Bool)), exec (.mov n u) s = exec (.mov n []) (s.upset u))

/-- The frame of register-to-register instructions (R318, R319, R321, R322, R324, R326). -/
def Obligations.PlewinVRegisterForms : Prop :=
  ∀ (s : State) (n : Fin 12) (i : VInstr) (r : DataRow) (d : Nat) (src : List Spec) (vs : List Nat) (v : Nat), fetches s n i →
    i.rep = false → i.atomic = false → r ∈ dataRows n (i.ops.length == 3) → i.op = r.op →
    i.ops = (.reg d, 4) :: src.map (fun x => (x, 4)) →
    (r.srcs.map fun k => plainSource (s.eng n).ptrs ((i.ops.map (·.1)).getD k (.imm 0))) = vs.map some →
    r.result i vs = some v →
    exec r.cmd s = .next (engGoes s n (ptrSet (s.eng n).ptrs d v) (iaOf s n + i.len))

/-- Stores and loads of Plewin-V in memory (R17, R26, R318, R319). -/
def Obligations.PlewinVStoresAndLoads : Prop :=
  (∀ (s : State) (n : Fin 12) (ia a k v b : Nat) (p : List Nat) (pc : Nat), isReg a = false → memSpan n a k = some b → memRo b = false →
    ∃ t, vCommit s n ia false { writes := [⟨.mem a, k, v⟩], ptrs := p, pc := pc } = .go () t ∧
      (∀ (j : Nat) (h : j < (leBytes k v).length), t.rd8 (b + j) = (leBytes k v)[j]) ∧ (∀ x, x < b ∨ b + k ≤ x → t.rd8 x = s.rd8 x) ∧
      t.fld (SYS_ENGPC_PC n) = pc % 2 ^ 32 ∧ (∀ r, r ≠ SYS_ENGPC n → t.reg r = s.reg r) ∧ (t.eng n).ptrs = p) ∧
  (∀ (s : State) (n : Fin 12) (a k b : Nat), isReg a = false → (a < 0x10000000 ∨ 0x14000000 < a + k) → memSpan n a k = some b → s.upsets = [] →
    ∃ t, accRead (vActor n) a k s = .go (s.rdLe b k) t ∧ t.mem = s.mem ∧ ∀ r, t.reg r = s.reg r)

/-- NOP, FENCE, SYNC.I, EI, DI, CB.cc, BR, JMP, CALL, CALLI, RET, RETI, WFI and WFI_WAKE (R287, R289, R321, R323, R330, R331). -/
def Obligations.PlewinVControlRowsComplete : Prop :=
  (∀ (s : State) (n : Fin 12) (i : VInstr), fetches s n i → i.rep = false → i.atomic = false → i.ops = [] →
    (i.op = .nop → exec (.nop n) s = .next (engGoes s n (s.eng n).ptrs (iaOf s n + i.len))) ∧
    (i.op = .fence → exec (.fence n) s = .next (engGoes s n (s.eng n).ptrs (iaOf s n + i.len))) ∧
    (i.op = .syncI → completes (.syncI n) s fun t => t.eng n = { s.eng n with eiHold := false, repAt := none, stale := [] } ∧
      iaOf t n = (iaOf s n + i.len) % 2 ^ 32 ∧ keeps s t [SYS_ENGPC n]) ∧
    (i.op = .ei → completes (.ei n) s fun t => t.eng n = { s.eng n with eiHold := true, repAt := none } ∧ t.fld (SYS_ENGSTAT_INT_EN n) = 1 ∧
      iaOf t n = (iaOf s n + i.len) % 2 ^ 32 ∧ keeps s t [SYS_ENGPC n, SYS_ENGSTAT n]) ∧
    (i.op = .di → completes (.di n) s fun t => t.eng n = { s.eng n with eiHold := false, repAt := none } ∧ t.fld (SYS_ENGSTAT_INT_EN n) = 0 ∧
      iaOf t n = (iaOf s n + i.len) % 2 ^ 32 ∧ keeps s t [SYS_ENGPC n, SYS_ENGSTAT n]) ∧
    (i.op = .br → exec (.br n) s = .next (engGoes s n (s.eng n).ptrs (addrAdd (iaOf s n) i.disp)))) ∧
  (∀ (s : State) (n : Fin 12) (i : VInstr) (c : Instr) (cc : Nat), fetches s n i → i.rep = false → i.atomic = false →
    (c, cc) ∈ ([(.cbEq n, 0), (.cbNe n, 1), (.cbLt n, 2), (.cbGe n, 3), (.cbLtu n, 4), (.cbGeu n, 5)] : List (Instr × Nat)) → i.op = .cb cc →
    ∀ (places : List Place) (p : List Nat) (a b : Nat) (s1 s2 : State),
      specPlaces (vActor n) (iaOf s n) i.ops (s.eng n).ptrs s = .go (places, p) s1 →
      placesRead (vActor n) p [operand i places 0, operand i places 1] s1 = .go [a, b] s2 →
      exec c s = .next (engGoes s2 n p (if condHolds cc (8 * i.width) a b then addrAdd (iaOf s n) i.disp else iaOf s n + i.len))) ∧
  (∀ (s : State) (n : Fin 12) (i : VInstr), fetches s n i → i.rep = false → i.atomic = false →
    ∀ (places : List Place) (p : List Nat) (a : Nat) (s1 s2 : State),
      specPlaces (vActor n) (iaOf s n) i.ops (s.eng n).ptrs s = .go (places, p) s1 →
      placesRead (vActor n) p [operand i places 0] s1 = .go [a] s2 →
      (i.op = .jmp → exec (.jmp n) s = .next (engGoes s2 n p a)) ∧
      (∀ t, i.op = .calli → vCommit s2 n (iaOf s n) false { writes := [⟨.mem (addrAdd (ptrGet p 7) (-4)), 4, iaOf s n + i.len⟩]
                                                            ptrs := ptrSet p 7 (addrAdd (ptrGet p 7) (-4)), pc := a } = .go () t →
        exec (.calli n) s = .next t)) ∧
  (∀ (s t : State) (n : Fin 12) (i : VInstr), fetches s n i → i.rep = false → i.atomic = false → i.op = .call → i.ops = [] →
    vCommit s n (iaOf s n) false
      { writes := [⟨.mem (addrAdd (ptrGet (s.eng n).ptrs 7) (-4)), 4, iaOf s n + i.len⟩]
        ptrs := ptrSet (s.eng n).ptrs 7 (addrAdd (ptrGet (s.eng n).ptrs 7) (-4)), pc := addrAdd (iaOf s n) i.disp } = .go () t →
    exec (.call n) s = .next t) ∧
  (∀ (s s1 : State) (n : Fin 12) (i : VInstr) (pc : Nat), fetches s n i → i.rep = false → i.atomic = false → i.op = .ret → i.ops = [] →
    accRead (vActor n) (ptrGet (s.eng n).ptrs 7) 4 s = .go pc s1 →
    exec (.ret n) s = .next (engGoes s1 n (ptrSet (s.eng n).ptrs 7 (ptrGet (s.eng n).ptrs 7 + 4)) pc)) ∧
  (∀ (s s1 s2 : State) (n : Fin 12) (i : VInstr) (pc st : Nat), fetches s n i → i.rep = false → i.atomic = false → i.op = .reti → i.ops = [] →
    accRead (vActor n) (ptrGet (s.eng n).ptrs 7) 4 s = .go pc s1 →
    accRead (vActor n) (addrAdd (ptrGet (s.eng n).ptrs 7) 4) 4 s1 = .go st s2 →
    exec (.reti n) s = .next ((engGoes s2 n (ptrSet (s.eng n).ptrs 7 (ptrGet (s.eng n).ptrs 7 + 8)) pc).setFlds
      [(SYS_ENGSTAT_INT_EN n, b2n (bitOf st 0)), (SYS_ENGSTAT_IN_HANDLER n, b2n (bitOf st 1))])) ∧
  (∀ (s : State) (n : Fin 12) (i : VInstr), fetches s n i → i.op = .wfi → i.rep = false → i.atomic = false → i.ops = [] →
    (irqLevel s n = false → completes (.wfi n) s fun t => (t.eng n).waiting = true ∧
      (t.eng n).wake = iaOf s n + i.len ∧ keeps s t []) ∧
    (irqLevel s n = true → s.flag (SYS_ENGSTAT_INT_EN n) = false →
      exec (.wfi n) s = .next (engGoes s n (s.eng n).ptrs (iaOf s n + i.len))) ∧
    (irqLevel s n = true → s.flag (SYS_ENGSTAT_INT_EN n) = true →
      exec (.wfi n) s = .next (vEnter (engGoes s n (s.eng n).ptrs (iaOf s n + i.len)) n 1 ((iaOf s n + i.len) % 2 ^ 32)))) ∧
  (∀ (s : State) (n : Fin 12), mainOn s = true → engState s n = 1 → (s.eng n).waiting = true → irqLevel s n = true →
    s.flag (SYS_ENGSTAT_INT_EN n) = false → completes (.wfiWake n) s fun t =>
      (t.eng n).waiting = false ∧ iaOf t n = (s.eng n).wake % 2 ^ 32 ∧ keeps s t [SYS_ENGPC n])

/-- LEA, PUSH, POP, SWAP, CAS and atomic ALU forms (R318, R321, R328). -/
def Obligations.PlewinVMemoryRowsComplete : Prop :=
  ∀ (s : State) (n : Fin 12) (i : VInstr), fetches s n i → i.rep = false →
    ∀ (places : List Place) (p : List Nat) (s1 : State), specPlaces (vActor n) (iaOf s n) i.ops (s.eng n).ptrs s = .go (places, p) s1 →
    (∀ (a : Nat) (t : State), i.op = .lea → i.atomic = false → (operand i places 1).1 = .mem a →
      vCommit s1 n (iaOf s n) false { writes := [⟨(operand i places 0).1, 4, a⟩], ptrs := p, pc := iaOf s n + i.len } = .go () t →
      exec (.lea n) s = .next t) ∧
    (∀ (v : Nat) (s2 t : State), i.op = .push → i.atomic = false → placesRead (vActor n) p [operand i places 0] s1 = .go [v] s2 →
      vCommit s2 n (iaOf s n) false { writes := [⟨.mem (addrAdd (ptrGet p 7) (-(i.width : Int))), i.width, v⟩]
                                      ptrs := ptrSet p 7 (addrAdd (ptrGet p 7) (-(i.width : Int))), pc := iaOf s n + i.len } = .go () t →
      exec (.push n) s = .next t) ∧
    (∀ (v : Nat) (s2 t : State), i.op = .pop → i.atomic = false → accRead (vActor n) (ptrGet p 7) i.width s1 = .go v s2 →
      vCommit s2 n (iaOf s n) false { writes := [⟨(operand i places 0).1, i.width, v⟩]
                                      ptrs := ptrSet p 7 (ptrGet p 7 + i.width), pc := iaOf s n + i.len } = .go () t →
      exec (.pop n) s = .next t) ∧
    (∀ (x y : Nat) (s2 t : State), i.op = .swap → (i.atomic = true → atomicCheck (operand i places 0).1 i.width s1 = .go () s1) →
      placesRead (vActor n) p [operand i places 0, operand i places 1] s1 = .go [x, y] s2 →
      vCommit s2 n (iaOf s n) false { writes := [⟨(operand i places 0).1, i.width, y⟩, ⟨(operand i places 1).1, i.width, x⟩], ptrs := p, pc := iaOf s n + i.len } = .go () t →
      exec (.swap n) s = .next t) ∧
    (∀ (old e new : Nat) (s2 t : State), i.op = .cas → atomicCheck (operand i places 0).1 i.width s1 = .go () s1 →
      placesRead (vActor n) p [operand i places 0, operand i places 1, operand i places 2] s1 = .go [old, e, new] s2 →
      vCommit s2 n (iaOf s n) false { writes := (if old = e then [⟨(operand i places 0).1, i.width, new⟩] else []) ++ [⟨(operand i places 1).1, i.width, old⟩], ptrs := p, pc := iaOf s n + i.len } = .go () t →
      exec (.cas n) s = .next t) ∧
    (∀ (c : Instr) (k x y v : Nat) (s2 t : State),
      (c, k) ∈ ([(.add n, 0), (.sub n, 1), (.and n, 9), (.or n, 10), (.xor n, 11), (.andn n, 12)] : List (Instr × Nat)) → i.op = .alu k →
      i.atomic = true → i.ops.length = 2 → atomicCheck (operand i places 0).1 i.width s1 = .go () s1 →
      placesRead (vActor n) p [operand i places 0, operand i places 1] s1 = .go [x, y] s2 → alu k (8 * i.width) x y = some v →
      vCommit s2 n (iaOf s n) false { writes := [⟨(operand i places 0).1, (operand i places 0).2, v⟩], ptrs := p, pc := iaOf s n + i.len } = .go () t →
      exec c s = .next t)

/-- The ALU table (R322): each row commits the bit-vector result of its operation, and a division by zero faults with cause 7 before any
result is written. -/
def Obligations.PlewinVAlu : Prop :=
  ∀ (s : State) (n : Fin 12) (i : VInstr) (k : Fin 16) (places : List Place) (p : List Nat) (s1 s2 : State) (x y : BitVec (8 * i.width)),
    fetches s n i → i.rep = false → i.atomic = false → i.op = .alu k →
    specPlaces (vActor n) (iaOf s n) i.ops (s.eng n).ptrs s = .go (places, p) s1 →
    placesRead (vActor n) p ((if i.ops.length = 3 then [1, 2] else [0, 1]).map (operand i places)) s1 = .go [x.toNat, y.toNat] s2 →
    (¬(5 ≤ k.val ∧ k.val ≤ 8 ∧ y = 0) → ∀ t,
      vCommit s2 n (iaOf s n) false { writes := [⟨(operand i places 0).1, (operand i places 0).2, (aluSays k x y).toNat⟩]
                                      ptrs := p, pc := iaOf s n + i.len } = .go () t →
      exec ((aluCmds n).getD k (.nop n)) s = .next t) ∧
    (5 ≤ k.val → k.val ≤ 8 → y = 0 → exec ((aluCmds n).getD k (.nop n)) s = .next (vFault s2 n 7 0 (iaOf s n)))

/-- CB.cc (R323). -/
def Obligations.PlewinVBranches : Prop :=
  (∀ (s : State) (n : Fin 12) (i : VInstr) (cc : Fin 6) (places : List Place) (p : List Nat) (s1 s2 : State) (x y : BitVec (8 * i.width)),
    fetches s n i → i.rep = false → i.atomic = false → i.op = .cb cc →
    specPlaces (vActor n) (iaOf s n) i.ops (s.eng n).ptrs s = .go (places, p) s1 →
    placesRead (vActor n) p [operand i places 0, operand i places 1] s1 = .go [x.toNat, y.toNat] s2 →
    exec ((cbCmds n).getD cc (.nop n)) s =
      .next (engGoes s2 n p (if condSays cc x y then addrAdd (iaOf s n) i.disp else iaOf s n + i.len))) ∧
  (∀ cc : Fin 6, ((opRow (0x40 + cc.val)).map fun r => (r.op, r.opnds, r.disp)) = some (.cb cc, [opS, opS], 2) ∧
    ((opRow (0x48 + cc.val)).map fun r => (r.op, r.opnds, r.disp)) = some (.cb cc, [opS, opS], 4))

/-- The operations on fields, bits and bytes (R325, R326, R327). -/
def Obligations.PlewinVFieldOperations : Prop :=
  (∀ (i : VInstr) (x j : Nat), i.ctrl / 4096 = 0 → i.ctrl % 64 + i.ctrl / 64 + 1 ≤ 8 * i.width → j < 8 * i.width →
    bitOf (bfxOf false i x) j = (decide (j ≤ i.ctrl / 64) && bitOf x (i.ctrl % 64 + j)) ∧
    bitOf (bfxOf true i x) j = bitOf x (i.ctrl % 64 + min j (i.ctrl / 64))) ∧
  (∀ (i : VInstr) (a x j : Nat), i.ctrl / 2 ^ 18 = 0 → i.ctrl % 64 + i.ctrl / 4096 + 1 ≤ 8 * i.width →
    i.ctrl / 64 % 64 + i.ctrl / 4096 + 1 ≤ 8 * i.width →
    bitOf (bfiOf i a x) j = if i.ctrl / 64 % 64 ≤ j ∧ j ≤ i.ctrl / 64 % 64 + i.ctrl / 4096
      then bitOf x (i.ctrl % 64 + (j - i.ctrl / 64 % 64)) else bitOf a j) ∧
  (∀ w : Nat, clzOf w 0 = w) ∧
  (∀ (w x k : Nat), x < 2 ^ w → bitOf x k = true → (∀ j, k < j → bitOf x j = false) → clzOf w x = w - 1 - k) ∧
  (∀ (k x sel i : Nat), i < k → k ≤ 8 → bpermOf k x sel / 256 ^ i % 256 =
    if sel / 16 ^ i % 16 = 15 then 0xFF else if sel / 16 ^ i % 16 < k then x / 256 ^ (sel / 16 ^ i % 16) % 256 else 0) ∧
  (∀ (c w : Nat), ctrlMay .bfx c w = true ↔ c / 4096 = 0 ∧ c % 64 + (c / 64 % 64 + 1) ≤ w) ∧
  (∀ (c w : Nat), ctrlMay .bfi c w = true ↔ c / 2 ^ 18 = 0 ∧ c % 64 + (c / 4096 % 64 + 1) ≤ w ∧ c / 64 % 64 + (c / 4096 % 64 + 1) ≤ w)

/-- The repeat form (R329), and the address that an interrupt after a pass pushes (R295). -/
def Obligations.PlewinVRepeat : Prop :=
  (∀ (s : State) (n : Fin 12) (i : VInstr) (r : DataRow), fetches s n i → i.rep = true → r ∈ dataRows n (i.ops.length == 3) → i.op = r.op →
    ptrGet (s.eng n).ptrs 6 = 0 → exec r.cmd s = .next (engGoes s n (s.eng n).ptrs (iaOf s n + i.len))) ∧
  (∀ (s : State) (n : Fin 12) (i : VInstr) (r : DataRow) (places : List Place) (p vs : List Nat) (v : Nat) (s1 s2 : State), fetches s n i →
    i.rep = true → i.atomic = false → r ∈ dataRows n (i.ops.length == 3) → i.op = r.op → ptrGet (s.eng n).ptrs 6 ≠ 0 →
    specPlaces (vActor n) (iaOf s n) i.ops (s.eng n).ptrs s = .go (places, p) s1 →
    placesRead (vActor n) p (r.srcs.map (operand i places)) s1 = .go vs s2 → r.result i vs = some v →
    ∀ t, vCommit s2 n (iaOf s n) true { writes := [⟨(operand i places 0).1, (operand i places 0).2, v⟩], ptrs := p, pc := iaOf s n + i.len }
      = .go () t → exec r.cmd s = .next t) ∧
  (∀ (s : State) (n : Fin 12) (ia k v a b pc : Nat) (p : List Nat), isReg a = false → memSpan n a k = some b → memRo b = false →
    ia < 2 ^ 32 → pc < 2 ^ 32 → ptrGet p 6 < 2 ^ 32 →
    ∃ t, vCommit s n ia true { writes := [⟨.mem a, k, v⟩], ptrs := p, pc := pc } = .go () t ∧
      ptrGet (t.eng n).ptrs 6 = ptrGet p 6 - 1 ∧ iaOf t n = (if ptrGet p 6 - 1 = 0 then pc else ia) ∧
      vInterrupt t n = vEnter t n 1 ia)

/-- Handler entry, faults and double faults (R295, R296, R297). -/
def Obligations.PlewinVHandlerEntry : Prop :=
  (∀ (s : State) (n : Fin 12) (word resume b : Nat), isReg (addrAdd (ptrGet (s.eng n).ptrs 7) (-8)) = false →
    isReg (addrAdd (addrAdd (ptrGet (s.eng n).ptrs 7) (-8)) 4) = false →
    memSpan n (addrAdd (ptrGet (s.eng n).ptrs 7) (-8)) 4 = some b →
    memSpan n (addrAdd (addrAdd (ptrGet (s.eng n).ptrs 7) (-8)) 4) 4 = some (b + 4) → memRo b = false → memRo (b + 4) = false →
    ∃ t, t = vEnter s n word resume ∧ ptrGet (t.eng n).ptrs 7 = addrAdd (ptrGet (s.eng n).ptrs 7) (-8) ∧
      (∀ k < 7, ptrGet (t.eng n).ptrs k = ptrGet (s.eng n).ptrs k) ∧
      t.rdLe b 4 = resume % 2 ^ 32 ∧ t.rdLe (b + 4) 4 = s.fld (SYS_ENGSTAT_INT_EN n) + 2 * s.fld (SYS_ENGSTAT_IN_HANDLER n) +
        4 * (if n = 0 then 1 else s.fld (SYS_ENGCTL_WORLD n)) ∧
      (∀ x, x < b ∨ b + 8 ≤ x → t.rd8 x = s.rd8 x) ∧ t.fld (SYS_ENGSTAT_INT_EN n) = 0 ∧
      t.fld (SYS_ENGSTAT_IN_HANDLER n) = (if word = 0 then 1 else s.fld (SYS_ENGSTAT_IN_HANDLER n)) ∧
      iaOf t n = t.rdLe (localBase n + 16 * s.fld (SYS_ENGVEC_BASE n) + 4 * word) 4 ∧
      (∀ r, r ≠ SYS_ENGSTAT n → r ≠ SYS_ENGPC n → t.reg r = s.reg r)) ∧
  (∀ (s : State) (n : Fin 12) (cause addr ia : Nat), s.flag (SYS_ENGSTAT_IN_HANDLER n) = false → cause < 8 →
    vFault s n cause addr ia = vEnter (faultRecord s n cause addr ia) n 0 ia ∧
    (faultRecord s n cause addr ia).fld (SYS_ENGFAULT_CAUSE n) = cause ∧
    (faultRecord s n cause addr ia).fld (SYS_ENGFADDR_ADDR n) = addr % 2 ^ 32 ∧
    (faultRecord s n cause addr ia).fld (SYS_ENGFPC_PC n) = ia % 2 ^ 32) ∧
  (∀ (s : State) (n : Fin 12) (cause addr ia : Nat), s.flag (SYS_ENGSTAT_IN_HANDLER n) = true →
    ∃ t, t = vFault s n cause addr ia ∧ engState t n = 2 ∧ t.fld (SYS_ENGFAULT_DOUBLE n) = 1 ∧ t.fld (SYS_ENGCTL_RUN n) = 0 ∧
      t.reg (SYS_ENGFADDR n) = s.reg (SYS_ENGFADDR n) ∧ t.reg (SYS_ENGFPC n) = s.reg (SYS_ENGFPC n) ∧ t.mem = s.mem ∧
      t.events = s.events ++ [{ producer := 1, payload := n }]) ∧
  (∀ (s : State) (n : Fin 12) (word resume : Nat), isReg (addrAdd (ptrGet (s.eng n).ptrs 7) (-8)) = false →
    memSpan n (addrAdd (ptrGet (s.eng n).ptrs 7) (-8)) 4 = none →
    ∃ t, t = vEnter s n word resume ∧ engState t n = 2 ∧ t.fld (SYS_ENGFAULT_DOUBLE n) = 1 ∧ t.mem = s.mem ∧
      t.reg (SYS_ENGFADDR n) = s.reg (SYS_ENGFADDR n) ∧ t.reg (SYS_ENGFPC n) = s.reg (SYS_ENGFPC n))

/-- The faults of Plewin-V instructions (R283, R296, R322, R328, R332, R333). -/
def Obligations.PlewinVFaultsAreTaken : Prop :=
  (∀ (s : State) (n : Fin 12), vReady s n = true → iaOf s n < 0x80000 → (s.eng n).stale = [] →
    vDecode (vFetch s n (iaOf s n)) = .error .illegal → exec (.illegal n) s = .next (vFault s n 1 0 (iaOf s n))) ∧
  (∀ (s : State) (n : Fin 12), vReady s n = true → iaOf s n < 0x80000 → (s.eng n).stale = [] →
    vDecode (vFetch s n (iaOf s n)) = .error .fetch → exec (.illegal n) s = .next (vFault s n 4 0x80000 (iaOf s n)) ∧
      ∀ r ∈ dataRows n true, exec r.cmd s = .next (vFault s n 4 0x80000 (iaOf s n))) ∧
  (∀ (s : State) (n : Fin 12), vReady s n = true → 0x80000 ≤ iaOf s n →
    exec (.illegal n) s = .next (vFault s n 4 (iaOf s n) (iaOf s n)) ∧
      ∀ r ∈ dataRows n true, exec r.cmd s = .next (vFault s n 4 (iaOf s n) (iaOf s n))) ∧
  (∀ (s : State) (n : Fin 12) (i : VInstr) (r : DataRow) (c a : Nat) (s1 : State), fetches s n i → i.rep = false →
    r ∈ dataRows n (i.ops.length == 3) → i.op = r.op →
    specPlaces (vActor n) (iaOf s n) i.ops (s.eng n).ptrs s = .trap c a s1 → exec r.cmd s = .next (vFault s1 n c a (iaOf s n))) ∧
  (∀ (s : State) (n : Fin 12) (i : VInstr) (r : DataRow) (places : List Place) (p : List Nat) (s1 : State), fetches s n i → i.rep = false →
    i.atomic = false → r ∈ dataRows n (i.ops.length == 3) → i.op = r.op →
    specPlaces (vActor n) (iaOf s n) i.ops (s.eng n).ptrs s = .go (places, p) s1 →
    (∀ (c a : Nat) (s2 : State), placesRead (vActor n) p (r.srcs.map (operand i places)) s1 = .trap c a s2 →
      exec r.cmd s = .next (vFault s2 n c a (iaOf s n))) ∧
    (∀ (vs : List Nat) (s2 : State), placesRead (vActor n) p (r.srcs.map (operand i places)) s1 = .go vs s2 → r.result i vs = none →
      exec r.cmd s = .next (vFault s2 n 7 0 (iaOf s n))) ∧
    (∀ (vs : List Nat) (v a c x : Nat) (s2 s3 : State), placesRead (vActor n) p (r.srcs.map (operand i places)) s1 = .go vs s2 →
      r.result i vs = some v →
      vCommit s2 n (iaOf s n) false { writes := [⟨.mem a, (operand i places 0).2, v⟩], ptrs := p, pc := iaOf s n + i.len } = .trap c x s3 →
      (operand i places 0).1 = .mem a → s3 = s2 ∧ exec r.cmd s = .next (vFault s2 n c x (iaOf s n)))) ∧
  (∀ (a size : Nat) (s : State), a % size ≠ 0 → atomicCheck (.mem a) size s = .trap 5 a s) ∧
  (∀ (a size : Nat) (s : State), a % size = 0 → isReg a = true ∨ memRo a = true ∨ (0x10000000 ≤ a ∧ a < 0x14000000) →
    atomicCheck (.mem a) size s = .trap 2 a s)

/-- The words of a form decode to what the form means, whatever follows them (R334, R335, R336). -/
def Obligations.PlewinCDecodesEveryForm : Prop :=
  ∀ (f : CForm) (rest : List Nat), f.ok = true → cDecode (f.words ++ rest) = .ok f.instr

/-- Words that decode are those of a defined form; every other encoding is refused (R334, R335, R336). -/
def Obligations.PlewinCDecodesOnlyForms : Prop :=
  ∀ (l : List Nat) (i : CInstr), (∀ w ∈ l, w < 2 ^ 14) → cDecode l = .ok i →
    ∃ (f : CForm) (rest : List Nat), f.ok = true ∧ l = f.words ++ rest ∧ i = f.instr

/-- The worked case after R337. -/
def Obligations.PlewinCWorkedCaseDecodes : Prop :=
  cDecode [0x0232] = .ok ⟨.mov, [(.postinc 1, 4), (.postinc 2, 4)], 0, 1⟩ ∧
  cDecode [0x0878, 0x0001] = .ok ⟨.alu 2, [(.reg 3, 4), (.imm 1, 4)], 0, 2⟩ ∧
  cDecode [0x2478, 0x0000, 0x3FFD] = .ok ⟨.cb 1, [(.reg 3, 4), (.imm 0, 4)], -3, 3⟩

/-- The rows of Plewin-C, for Sorrel and for engines in recovery mode (R306, R307, R336). -/
def Obligations.PlewinCRowsComplete : Prop :=
  (∀ (s : State) (u : Fin 13) (i : CInstr) (places : List Place) (p : List Nat) (s1 : State), cFetches s u i →
    specPlaces (cActor u) 0 i.ops (cPtrs s u) s = .go (places, p) s1 →
    let at_ := fun k => (places.getD k (Place.val 0), (i.ops.getD k (.imm 0, 4)).2)
    let next := (cPc s u + i.len) % 2 ^ 14
    (∀ (c : Instr) (op : COp) (f : Nat → Nat → Nat) (b : Nat) (s2 t : State), (c, op, false, f) ∈ cDataRows u → i.op = op →
      placesRead (cActor u) p [at_ 1] s1 = .go [b] s2 →
      cCommit s2 u { writes := [⟨(at_ 0).1, (at_ 0).2, b⟩], ptrs := p, pc := next } = .go () t → exec c s = .next t) ∧
    (∀ (c : Instr) (op : COp) (f : Nat → Nat → Nat) (a b : Nat) (s2 t : State), (c, op, true, f) ∈ cDataRows u → i.op = op →
      placesRead (cActor u) p [at_ 0, at_ 1] s1 = .go [a, b] s2 →
      cCommit s2 u { writes := [⟨(at_ 0).1, (at_ 0).2, f a b⟩], ptrs := p, pc := next } = .go () t → exec c s = .next t) ∧
    (∀ (c : Instr) (k : Nat) (holds : Nat → Nat → Bool) (a b : Nat) (s2 : State),
      (c, k, holds) ∈ ([(.cCbeq u, 0, fun a b => a == b), (.cCbne u, 1, fun a b => a != b), (.cCbltu u, 2, fun a b => decide (a < b)),
        (.cCbgeu u, 3, fun a b => decide (b ≤ a))] : List (Instr × Nat × (Nat → Nat → Bool))) → i.op = .cb k →
      placesRead (cActor u) p [at_ 0, at_ 1] s1 = .go [a, b] s2 →
      exec c s = .next (cSet s2 u p (if holds a b then wrapOf 14 (cPc s u + i.branch) else next))) ∧
    (∀ (b : Nat) (s2 : State), i.op = .jmp → placesRead (cActor u) p [at_ 0] s1 = .go [b] s2 →
      exec (.cJmp u) s = .next (cSet s2 u p (b % 2 ^ 14))) ∧
    (∀ (b : Nat) (s2 t : State), i.op = .call → placesRead (cActor u) p [at_ 0] s1 = .go [b] s2 →
      cCommit s2 u { writes := [⟨.mem (addrAdd (ptrGet p 7) (-4)), 4, next⟩], ptrs := ptrSet p 7 (addrAdd (ptrGet p 7) (-4)), pc := b % 2 ^ 14 } = .go () t →
      exec (.cCall u) s = .next t) ∧
    (∀ (pc : Nat) (s2 : State), i.op = .ret → accRead (cActor u) (ptrGet p 7) 4 s1 = .go pc s2 →
      exec (.cRet u) s = .next (cSet s2 u (ptrSet p 7 (ptrGet p 7 + 4)) (pc % 2 ^ 14))) ∧
    (i.op = .nop → exec (.cNop u) s = .next (cSet s1 u p next)) ∧
    (i.op = .fence → exec (.cFence u) s = .next (cSet s1 u p next)) ∧
    (i.op = .wait → irqLevel s (cRing u) = true → exec (.cWait u) s = .next (cSet s1 u p next)) ∧
    (i.op = .wait → irqLevel s (cRing u) = false → exec (.cWait u) s = .next (cWait s u true))) ∧
  (∀ (s : State) (u : Fin 13), mainOn s = true → (if u.val < 12 then engState s u = 3 ∧ (s.eng u).waiting = true else s.srl.waiting = true) →
    irqLevel s (cRing u) = true → exec (.cWaitWake u) s = .next (cSet (cWait s u false) u (cPtrs s u) (cPc s u + 1)))

/-- Faults in Plewin-C are not vectored (R337).  FADDR of a fetch fault is the model's choice where the specification names no address
(the address of the fault is not part of this statement for an engine's fetch). -/
def Obligations.PlewinCFaults : Prop :=
  (∀ (s : State) (u : Fin 13), cReady s u = true → 12288 ≤ cPc s u →
    ∀ c ∈ cCmds u, ∃ addr, exec c s = .next (cFault s u 4 addr (cPc s u))) ∧
  (∀ (s : State) (u : Fin 13), cReady s u = true → cDecode (cFetch s (cPc s u)) = .error .illegal →
    ∀ c ∈ cCmds u, exec c s = .next (cFault s u 1 0 (cPc s u))) ∧
  (∀ (s : State) (u : Fin 13) (i : CInstr) (c a : Nat) (s1 : State), cFetches s u i →
    specPlaces (cActor u) 0 i.ops (cPtrs s u) s = .trap c a s1 →
    ∀ (cmd : Instr) (op : COp) (rd : Bool) (f : Nat → Nat → Nat), (cmd, op, rd, f) ∈ cDataRows u → i.op = op →
      exec cmd s = .next (cFault s1 u c a (cPc s u))) ∧
  (∀ (s : State) (u cause addr wa : Nat), u < 12 → cause < 8 → ∃ t, t = cFault s u cause addr wa ∧ engState t u = 2 ∧
    t.fld (SYS_ENGFAULT_CAUSE u) = cause ∧ t.fld (SYS_ENGFADDR_ADDR u) = addr % 2 ^ 32 ∧ t.fld (SYS_ENGFPC_PC u) = wa % 2 ^ 32 ∧
    t.events = s.events ++ [{ producer := 1, payload := u }]) ∧
  (∀ (s : State) (n : Fin 12), engState s n = 3 → exec (.interruptEntry n) s = .next s) ∧
  (∀ (s : State) (cause addr wa : Nat), ∃ t, t = cFault s 12 cause addr wa ∧ t.srl.pc = 0x10 ∧ t.fld SYS_SRLSTAT_STATE = 4 ∧
    ofLe (srlRead t 0xFFF0 4) = cause % 2 ^ 32 ∧ ofLe (srlRead t 0xFFF4 4) = addr % 2 ^ 32 ∧ ofLe (srlRead t 0xFFF8 4) = wa % 2 ^ 32 ∧
    t.fld (MBX_FULL_FULL 13) = 0 ∧ t.fld (MBX_DB_DB 13) = 0 ∧ t.fld (MBX_DBMASK_MASK 13) = 0 ∧
    t.engs = (pageReset s 13).engs ∧ keeps (pageReset s 13) t [SYS_SRLSTAT])

/-- EVENT_FIRE, RELAY_FIRE, SOFTWARE_TRIGGER, ASYNC_EDGE, IRQ_COALESCE_TIMEOUT, MBX_SEND, MAILBOX_RECORD_RECEIVED, MAILBOX_TIMEOUT,
FRAGMENT_TIMEOUT, MBX_SLOT_READ and DOORBELL_MASK_WRITE (R338 to R359). -/
def Obligations.EventCommandsComplete : Prop :=
  (∀ s : State, mainOn s = true → exec .eventFire s = .next (eventsEdge s)) ∧
  (∀ (s : State) (c : Fin 256) (p : Nat), mainOn s = true → s.reg IRQ_ALATCH = 0 →
    s.events = [{ producer := 0x3FF, payload := p, chan := some c.val }] → s.flag EVT_CTL_EN = true →
    (∀ k < 400, s.flag (EVT_TASK_EN k) = true → s.fld (EVT_TASK_CH k) ≠ c.val) →
    (∀ k < 16, bitOf (matrixRead s k (c.val / 32)) (c.val % 32) = false) → s.fld (IRQ_SRC_DEST c) = 0 → completes .eventFire s fun t =>
      t.events = [] ∧ bitOf (t.fld (EVT_FLAG_FLAG (c.val / 32))) (c.val % 32) = true ∧
      (∀ b < 32, b ≠ c.val % 32 → bitOf (t.fld (EVT_FLAG_FLAG (c.val / 32))) b = bitOf (s.fld (EVT_FLAG_FLAG (c.val / 32))) b) ∧
      keeps s t [EVT_FLAG (c.val / 32)]) ∧
  (∀ (s s' : State) (r : Fin 16) (k : Nat) (w : RelayWait), s.evt.relays.find? (·.1 = r.val) = some (k, w) → s.reachUp w.due = some s' →
    completes (.relayFire r) s fun t => t.evt.relays.find? (·.1 = r.val) = none ∧ keeps s t [] ∧
      t.events = s'.events ++ [{ producer := 416 + r.val, payload := w.payload, hops := w.hops, forced := true }]) ∧
  (∀ (s : State) (m : Master) (c : Byte) (p : BitVec 16), (chanRoute s m c.toNat) = true → completes (.softwareTrigger m c p) s fun t =>
    t.busResult = .ok ∧ keeps s t [] ∧ t.events = s.events ++ [{ producer := 0x3FF, payload := p.toNat, chan := some c.toNat }]) ∧
  (∀ (s : State) (m : Master) (c : Byte) (p : BitVec 16), (chanRoute s m c.toNat) = false → completes (.softwareTrigger m c p) s fun t =>
    t.busResult = .error ∧ keeps s t [] ∧ t.events = s.events) ∧
  (∀ (s : State) (k : Fin 18) (rising : Bool), s.fld PWR_RAILSTAT_PRESENT &&& 33 = 33 → edgeSelected s k rising = true →
    (k = 16 → sampleDriven s = false) → completes (.asyncEdge k rising) s fun t => bitOf (t.reg IRQ_ALATCH).toNat k = true ∧
      (∀ j < 32, j ≠ k.val → bitOf (t.reg IRQ_ALATCH).toNat j = bitOf (s.reg IRQ_ALATCH).toNat j) ∧ keeps s t [IRQ_ALATCH] ∧ t.events = s.events ∧
      (mainOn s = true → s.regionOn 9 = true → t.evt = s.evt)) ∧
  (∀ (s s' : State) (c : Fin 256), (stGet {} s.evt.batches c).count ≠ 0 → s.fld (IRQ_SRC_TIME c) ≠ 0 →
    s.reachUp (stGet {} s.evt.batches c).due = some s' → exec (.irqCoalesceTimeout c) s = .next (irqFlush s' c)) ∧
  (∀ (s s' : State) (c : Fin 256) (r : Fin 12), (stGet {} s.evt.batches c).count ≠ 0 → s.fld (IRQ_SRC_TIME c) ≠ 0 →
    s.reachUp (stGet {} s.evt.batches c).due = some s' → s.fld (IRQ_SRC_DEST c) = 2 ^ r.val → ringAdmits s c r = true →
    ringUsed (s.fld (IRQ_RSIZE_SIZE r)) (s.fld (IRQ_RHEAD_HEAD r)) (s.fld (IRQ_RTAIL_TAIL r)) + 1 < s.fld (IRQ_RSIZE_SIZE r) →
    completes (.irqCoalesceTimeout c) s fun t => (stGet {} t.evt.batches c).count = 0 ∧
      t.mem = (s.wrN (s.fld (IRQ_RBASE_BASE r) + 16 * s.fld (IRQ_RHEAD_HEAD r)) (irqRecord s c r (stGet {} s.evt.batches c))).mem ∧
      t.fld (IRQ_RHEAD_HEAD r) = ringNext (s.fld (IRQ_RSIZE_SIZE r)) (s.fld (IRQ_RHEAD_HEAD r)) % 2 ^ (IRQ_RHEAD_HEAD r).width ∧
      ∀ a, a ≠ IRQ_RHEAD r → t.reg a = s.reg a) ∧
  (∀ (s : State) (m : Master) (e : Fin 15) (w : Word), pageMay m e = true →
    exec (.mbxSend m e w) s = .next (mbxSendWrite { s with busResult := .ok } e w.toNat)) ∧
  (∀ (s : State) (m : Master) (e : Fin 15) (w : Word), pageMay m e = true → s.flag (MBX_SENDSTAT_BUSY e) = true →
    completes (.mbxSend m e w) s fun t => t.fld (MBX_SENDSTAT_OVERRUN e) = 1 ∧ t.mbxSends = s.mbxSends ∧ keeps s t [MBX_SENDSTAT e]) ∧
  (∀ (s : State) (m : Master) (e : Fin 15) (w : Word), pageMay m e = true → s.flag (MBX_SENDSTAT_BUSY e) = false → s.part.stack = false →
    bitsOf w.toNat 6 5 = 1 → bitsOf w.toNat 24 21 < 9 → completes (.mbxSend m e w) s fun t => t.fld (MBX_SENDSTAT_RESULT e) = 3 ∧
      t.fld (MBX_SENDSTAT_ERRKIND e) = 1 ∧ t.fld (MBX_SENDSTAT_BUSY e) = 0 ∧ t.busResult = .ok ∧ keeps s t [MBX_SENDSTAT e]) ∧
  (∀ (s : State) (peer : Nat) (l : List Byte), exec (.mailboxRecordReceived peer l) s = .next (mailboxRecord s peer l)) ∧
  (∀ (s : State) (peer : Nat) (l : List Byte), octAt l 0 = 0 → (∀ f ∈ s.mbxFrags, f.peer ≠ peer) → completes (.mailboxRecordReceived peer l) s fun t =>
    t.mbxFrags = s.mbxFrags ++ [{ peer := peer, body := l, cameAt := s.uptime }] ∧ keeps s t [] ∧ t.events = s.events) ∧
  (∀ (s : State) (peer e : Nat) (l : List Byte), octAt l 0 = 4 → pageOf (octAt l 3) = some e → completes (.mailboxRecordReceived peer l) s fun t =>
    t.fld (MBX_ABORT_TAG e) = leAt l 10 2 ∧ t.events = s.events ++ [{ producer := 496 + e, payload := leAt l 10 2 }] ∧ keeps s t [MBX_ABORT e]) ∧
  (∀ (s : State) (peer : Nat) (l : List Byte), octAt l 0 = 6 → completes (.mailboxRecordReceived peer l) s fun t =>
    t.fld MBX_PEERRST_FLAG = 1 ∧ t.fld MBX_PEERRST_INDEX = peer % 2 ^ MBX_PEERRST_INDEX.width ∧
    t.events = s.events ++ [{ producer := 510, payload := 0xFFFF }] ∧ keeps s t [MBX_PEERRST]) ∧
  (∀ (s : State) (peer e : Nat) (l : List Byte) (x : MbxSend), octAt l 0 = 1 ∨ octAt l 0 = 2 ∨ octAt l 0 = 3 ∨ octAt l 0 = 5 →
    pageOf (octAt l 3) = some e → s.mbxSends = [(e, x)] → x.peer = peer → x.mseq = leAt l 4 4 → completes (.mailboxRecordReceived peer l) s fun t =>
      t.mbxSends = [] ∧ t.fld (MBX_SENDSTAT_BUSY e) = 0 ∧ t.fld (MBX_SENDSTAT_RESULT e) = octAt l 0 ∧ keeps s t [MBX_SENDSTAT e]) ∧
  (∀ (s s' : State) (e : Fin 15) (k : Nat) (x : MbxSend), s.mbxSends.find? (·.1 = e.val) = some (k, x) →
    s.reachUp (x.sentAt + 1000000 * max 1 (s.fld MBX_CTL_TIMEOUT)) = some s' →
    exec (.mailboxTimeout e) s = .next (sendFinal { s' with mbxSends := stErase s'.mbxSends e } e 7 0 0)) ∧
  (∀ (s s' : State) (e : Fin 15) (k : Nat) (x : MbxSend), s.mbxSends.find? (·.1 = e.val) = some (k, x) →
    s.reachUp (x.sentAt + 1000000 * max 1 (s.fld MBX_CTL_TIMEOUT)) = some s' → completes (.mailboxTimeout e) s fun t =>
      t.fld (MBX_SENDSTAT_BUSY e) = 0 ∧ t.fld (MBX_SENDSTAT_RESULT e) = 7 ∧ t.mbxSends = stErase s.mbxSends e ∧ keeps s t [MBX_SENDSTAT e]) ∧
  (∀ (s s' : State) (f : MbxFrag) (rest : List MbxFrag) (e : Nat), s.mbxFrags = f :: rest → s.reachUp (f.cameAt + 1000000) = some s' →
    pageOf (octAt f.body 3) = some e →
    exec .fragmentTimeout s = .next ({ s' with mbxFrags := rest }.bump (MBX_CNT_FRAGDROP e))) ∧
  (∀ (s : State) (m : Master) (e : Fin 15) (i : Fin 8), pageMay m e = true → m.val = e.val → completes (.mbxSlotRead m e i) s fun t =>
    t.busResult = .ok ∧ t.busData = s.reg (MBX_SLOT e (16 * i.val + 15)) ∧ bitOf (t.fld (MBX_FULL_FULL e)) i = false ∧
      (∀ j < 8, j ≠ i.val → bitOf (t.fld (MBX_FULL_FULL e)) j = bitOf (s.fld (MBX_FULL_FULL e)) j) ∧ keeps s t [MBX_FULL e]) ∧
  (∀ (s : State) (m : Master) (e : Fin 15) (i : Fin 8), pageMay m e = true → m.val ≠ e.val → completes (.mbxSlotRead m e i) s fun t =>
    t.busResult = .ok ∧ t.busData = s.reg (MBX_SLOT e (16 * i.val + 15)) ∧ keeps s t []) ∧
  (∀ (s : State) (m : Master) (e : Fin 15) (w : Word), pageMay m e = true → completes (.doorbellMaskWrite m e w) s fun t =>
    t.busResult = .ok ∧ t.reg (MBX_DBMASK e) = w ∧ keeps s t [MBX_DBMASK e] ∧
      t.events = s.events ++ ((List.range 32).filter fun b => bitOf w.toNat b && !bitOf (s.fld (MBX_DBMASK_MASK e)) b &&
        bitOf (s.fld (MBX_DB_DB e)) b).map fun b => { producer := 480 + e.val, payload := b }) ∧
  (∀ (s : State) (m : Master) (e : Fin 15) (w : Word) (i : Fin 8), pageMay m e = false →
    exec (.mbxSend m e w) s = .next s.refuse ∧ exec (.mbxSlotRead m e i) s = .next s.refuse ∧
      exec (.doorbellMaskWrite m e w) s = .next s.refuse)

/-- TIMER_MATCH, TIMER_OVERFLOW, GROUP_LOAD, GROUP_STOP, TIMER_CHAIN_READ, RTC_SECOND, OSC_FAIL, OSC_RESTORE, RTC_TIME_READ,
RTC_YEAR_READ, FREEZE_LAPSE, RTC_APPLY, RTC_APPLY_EDGE, ALARM_ARM and OSF_CLEAR (R363 to R380). -/
def Obligations.TimerCommandsComplete : Prop :=
  (∀ (s : State) (n : Fin 32) (e : Nat × Bool), (chainTicks s (chainOf s (chainLow s n))).find? (·.1 = n.val) = some e →
    (tmrCount s n + 1) % 2 ^ 32 = s.fld (TMR_CMP_CMP n) →
    exec (.timerMatch n) s = .next (chainTick { cmpLanded s with tmrPresc := stSet 0 s.tmrPresc (chainLow s n) 0 } (chainLow s n))) ∧
  (∀ (s : State) (n : Fin 32), tmrSrc s n = false → chainUpper s 32 n = [] → tmrRun s n = true → tmrCount s n + 1 = s.fld (TMR_CMP_CMP n) →
    completes (.timerMatch n) s fun t => t.fld (TMR_CNT_COUNT n) = s.fld (TMR_CMP_CMP n) ∧ t.fld (TMR_STAT_MATCH n) = 1 ∧
      t.fld (TMR_CMP_CMP n) = (if s.flag (TMR_CTL_AUTO n) then (s.fld (TMR_CMP_CMP n) + s.fld (TMR_PER_PER n)) % 2 ^ 32 else s.fld (TMR_CMP_CMP n)) ∧
      t.events = s.events ++ (if s.flag (TMR_CTL_EV_MATCH n) then [{ producer := 512 + n, payload := 1, hops := stGet 0 s.tmrHops n }] else []) ∧
      keeps s t [TMR_CNT n, TMR_STAT n, TMR_CMP n]) ∧
  (∀ (s : State) (n : Fin 32), tmrSrc s n = false → chainUpper s 32 n = [] → tmrRun s n = true → tmrCount s n = 2 ^ 32 - 1 →
    s.fld (TMR_CMP_CMP n) ≠ 0 → completes (.timerOverflow n) s fun t => t.fld (TMR_CNT_COUNT n) = 0 ∧ t.fld (TMR_STAT_OVF n) = 1 ∧
      t.events = s.events ++ (if s.flag (TMR_CTL_EV_OVF n) then [{ producer := 512 + n, payload := 2, hops := stGet 0 s.tmrHops n }] else []) ∧
      keeps s t [TMR_CNT n, TMR_STAT n]) ∧
  (∀ (s : State) (n : Fin 32) (k : Nat), (chainTicks s (chainOf s (chainLow s n))).find? (·.1 = n.val) = some (k, true) →
    exec (.timerOverflow n) s = .next (chainTick { cmpLanded s with tmrPresc := stSet 0 s.tmrPresc (chainLow s n) 0 } (chainLow s n))) ∧
  (∀ (s : State) (g : Fin 16), exec (.groupLoad g) s = .next (forBelow 4 (fun s k => if bitOf g.val k then groupLoad s k 0 else s) s)) ∧
  (∀ (s : State) (g : Fin 16), completes (.groupLoad g) s fun t => t.mem = s.mem ∧ ∀ n < 32,
    if s.flag (TMR_CTL_GRP_EN n) = true ∧ bitOf g.val (s.fld (TMR_CTL_GROUP n)) = true then
      t.fld (TMR_CNT_COUNT n) = s.fld (TMR_PHASE_PHASE n) ∧ tmrRun t n = true ∧ stGet 0 t.tmrPresc n = 0
    else t.reg (TMR_CNT n) = s.reg (TMR_CNT n) ∧ t.reg (TMR_CTL n) = s.reg (TMR_CTL n) ∧ stGet 0 t.tmrPresc n = stGet 0 s.tmrPresc n) ∧
  (∀ (s : State) (g : Fin 16), completes (.groupStop g) s fun t => t.mem = s.mem ∧ ∀ n < 32,
    t.reg (TMR_CNT n) = s.reg (TMR_CNT n) ∧
    if s.flag (TMR_CTL_GRP_EN n) = true ∧ bitOf g.val (s.fld (TMR_CTL_GROUP n)) = true then tmrRun t n = false
    else t.reg (TMR_CTL n) = s.reg (TMR_CTL n)) ∧
  (∀ (s : State) (g : Fin 16), exec (.groupStop g) s = .next (forBelow 4 (fun s k => if bitOf g.val k then groupStop s k else s) s)) ∧
  (∀ (s : State) (m : Master) (n : Fin 32), tmrSrc s n = false → completes (.timerChainRead m n) s fun t =>
    t.busData = s.reg (TMR_CNT n) ∧ t.busResult = .ok ∧ keeps s t []) ∧
  (∀ (s : State) (m : Master) (n : Fin 32), tmrSrc s n = true → completes (.timerChainRead m n) s fun t =>
    t.busData = s.latch (tmrLatch m n) ∧ t.busResult = .ok ∧ keeps s t []) ∧
  (∀ s : State, s.flag RTC_STAT_OSC_OK = true → s.backupOn = true → s.flag RTC_STAT_APPLY_PEND = true → (rtcWritten s).valid = true →
    exec .rtcSecond s = .next (applyEdge s)) ∧
  (∀ s : State, s.flag RTC_STAT_OSC_OK = true → s.backupOn = true → s.flag RTC_STAT_APPLY_PEND = false → exec .rtcSecond s =
    .next (alarmEdge (if (rtcNow s).next.2 then osfSet (rtcSet s (rtcNow s).next.1) else rtcSet s (rtcNow s).next.1) (rtcSecs s))) ∧
  (∀ s : State, s.flag RTC_STAT_OSC_OK = true → s.backupOn = true → s.flag RTC_STAT_APPLY_PEND = false → s.flag RTC_ALMCTL_ARMED = false →
    completes .rtcSecond s fun t => rtcNow t = (rtcNow s).next.1 ∧ t.fld RTC_SUBSEC_SUBSEC = 0 ∧ t.rtcSecAt = s.uptime ∧
      ((rtcNow s).next.2 = true → t.fld RTC_STAT_OSF = 1) ∧ keeps s t (RTC_STAT :: rtcRegs)) ∧
  (∀ s : State, s.backupOn = true → s.flag RTC_STAT_OSC_OK = true → completes .oscFail s fun t => t.fld RTC_STAT_OSC_OK = 0 ∧ t.fld RTC_STAT_OSF = 1 ∧
    keeps s t [RTC_STAT, RTC_SUBSEC]) ∧
  (∀ s : State, s.backupOn = true → (s.rtcAlarmDue && s.flag RTC_ALMCTL_ARMED) = false → completes .oscRestore s fun t =>
    t.fld RTC_STAT_OSC_OK = 1 ∧ t.rtcSecAt = s.uptime ∧ keeps s t [RTC_STAT]) ∧
  (∀ (s : State) (i : Fin 9), s.flag RTC_STAT_FROZEN = true → i ≠ 6 → completes (.rtcTimeRead i) s fun t =>
    t.busData = s.rtcShadow.getD i 0 ∧ t.rtcShadow = s.rtcShadow ∧ keeps s t []) ∧
  (∀ (s : State) (i : Fin 9), s.flag RTC_STAT_FROZEN = false → i ≠ 6 → completes (.rtcTimeRead i) s fun t =>
    t.busData = (rtcTaken s).getD i 0 ∧ t.rtcShadow = rtcTaken s ∧ t.fld RTC_STAT_FROZEN = 1 ∧ t.rtcFrozenAt = s.uptime ∧
      keeps s t [RTC_STAT]) ∧
  (∀ s : State, s.flag RTC_STAT_FROZEN = true → completes .rtcYearRead s fun t =>
    t.busData = s.rtcShadow.getD 6 0 ∧ t.rtcShadow = [] ∧ t.fld RTC_STAT_FROZEN = 0 ∧ keeps s t [RTC_STAT]) ∧
  (∀ s s' : State, s.flag RTC_STAT_FROZEN = true → s.reachUp (s.rtcFrozenAt + 1000000000) = some s' → completes .freezeLapse s fun t =>
    t.fld RTC_STAT_FROZEN = 0 ∧ t.fld RTC_STAT_FREEZE_LAPSED = 1 ∧ t.rtcShadow = [] ∧ keeps s t [RTC_STAT]) ∧
  (∀ s : State, completes .rtcApply s fun t => t.fld RTC_STAT_APPLY_PEND = 1 ∧ keeps s t [RTC_STAT]) ∧
  (∀ s : State, exec .rtcApplyEdge s = .next (applyEdge s)) ∧
  (∀ s : State, s.flag RTC_STAT_APPLY_PEND = true → s.flag RTC_STAT_OSC_OK = true → (rtcWritten s).valid = true → s.flag RTC_ALMCTL_ARMED = false →
    completes .rtcApplyEdge s fun t => rtcNow t = rtcWritten s ∧ t.fld RTC_STAT_APPLY_PEND = 0 ∧ t.rtcSecAt = s.uptime ∧
      keeps s t (RTC_STAT :: rtcRegs)) ∧
  (∀ s : State, s.flag RTC_STAT_APPLY_PEND = true → s.flag RTC_STAT_OSC_OK = true → (rtcWritten s).valid = false →
    completes .rtcApplyEdge s fun t => t.fld RTC_STAT_APPLY_PEND = 0 ∧ t.fld RTC_STAT_APPLY_ERR = 1 ∧ keeps s t [RTC_STAT]) ∧
  (∀ (s : State) (wake : Bool), rtcSecs s < alarmTime s → completes (.alarmArm wake) s fun t =>
    t.fld RTC_ALMCTL_ARMED = 1 ∧ t.fld RTC_ALMCTL_WAKE_EN = b2n wake ∧ keeps s t [RTC_ALMCTL]) ∧
  (∀ s : State, s.flag RTC_STAT_OSC_OK = true → completes .osfClear s fun t => t.fld RTC_STAT_OSF = 0 ∧ keeps s t [RTC_STAT]) ∧
  (∀ s : State, s.flag RTC_STAT_OSC_OK = false → exec .osfClear s = .next s)

/-- BACKUP_POWER_UP, BACKUP_POWER_LOST, RAIL_LOST, RAILS_PRESENT, STARTUP_STEP_DONE, STARTUP_STEP_TIMEOUT, REG_EN_PULSE_END, PGOOD_LOW,
VOLTAGE_ACK, VOLTAGE_REQUEST_FAIL, PMBUS_TRANSACTION, PMBUS_TRANSACTION_DONE, PMBUS_ALERT, TAMPER_ASSERT, ZEROIZE_ERASE_DONE, HOT_SENSOR,
HOT_CLEAR and OVER_TEMPERATURE_SHUTDOWN (R386 to R394, R444, R506). -/
def Obligations.SupplyCommandsComplete : Prop :=
  (∀ (s : State) (vbat : Bool), completes (.backupPowerUp vbat) s fun t => t.backupOn = true ∧ t.phase = .starting ∧ t.startStep = 0 ∧
    t.cause = 1 ∧ t.resetCount = 0 ∧ t.wakeArmed = false ∧ t.wakeLatch = 0 ∧ t.fld RTC_STAT_OSF = 1 ∧ t.fld PWR_RAILSTAT_VBAT_OK = b2n vbat ∧
      t.fld PWR_RAILSTAT_REG_EN = 1 ∧ t.mem = []) ∧
  (∀ s : State, completes .backupPowerLost s fun t => t.backupOn = false ∧ t.phase = .held ∧ t.fld PWR_RAILSTAT_VBAT_OK = 0 ∧
    t.fld PWR_RAILSTAT_PGOOD = 0 ∧ t.mem = []) ∧
  (∀ (s : State) (r : Fin 128), r ≠ 0 → s.phase = .starting → completes (.railLost r) s fun t => t.phase = .held ∧ t.mem = [] ∧
    t.cause = s.cause ||| 1 ∧ t.fld PWR_RAILSTAT_PRESENT = s.fld PWR_RAILSTAT_PRESENT &&& (127 - r.val) ∧ t.fld PWR_RAILSTAT_PGOOD = 0) ∧
  (∀ (s : State) (r : Fin 128), r ≠ 0 → s.phase = .running → s.dormStep < 4 → exec (.railLost r) s = .next (brownOut (s.setFlds
    [(PWR_RAILSTAT_PRESENT, s.fld PWR_RAILSTAT_PRESENT &&& (127 - r.val)), (PWR_RAILSTAT_PGOOD, 0)]) r)) ∧
  (∀ s : State, s.phase = .held → s.backupOn = true → completes .railsPresent s fun t => t.phase = .starting ∧ t.startStep = 0 ∧
    t.fld PWR_RAILSTAT_PRESENT = 127 ∧ keeps s t [PWR_RAILSTAT]) ∧
  (∀ (s : State) (us : Nat), stepRuns s = true → s.startStep = 4 ∨ s.startStep = 5 ∨ s.startStep = 6 →
    (delayEntry s s.startStep).2 = true ∨ (delayEntry s s.startStep).1 ≤ us →
    completes (.startupStepDone us true) s fun t => t.startStep = s.startStep + 1 ∧ t.phase = s.phase ∧ t.stepRetry = false ∧
      t.fld (PWR_STEPTIME_US s.startStep) = min us (2 ^ 24 - 1) ∧ keeps s t [PWR_STEPTIME s.startStep]) ∧
  (∀ (s : State) (us : Nat), stepRuns s = true → s.startStep = 3 →
    (delayEntry s 3).2 = true ∨ (delayEntry s 3).1 ≤ us → completes (.startupStepDone us true) s fun t =>
    t.startStep = 4 ∧ t.fld SYS_CLKSTAT_ROOT_LOCK = 1 ∧ t.fld SYS_CLKSTAT_ON_FALLBACK = b2n !(s.flag SYS_CLKSTAT_REF_VALID)) ∧
  (∀ (s : State) (us : Nat), stepRuns s = true → s.startStep = 7 → (delayEntry s 7).2 = true ∨ (delayEntry s 7).1 ≤ us →
    exec (.startupStepDone us true) s = .next (logicRelease (stepTime s us))) ∧
  (∀ (s : State) (us : Nat), stepRuns s = true → s.startStep = 7 → (delayEntry s 7).2 = true ∨ (delayEntry s 7).1 ≤ us →
    completes (.startupStepDone us true) s fun t => t.phase = .running ∧ t.startStep = 8 ∧ t.venue = 0 ∧ t.uptime = 0 ∧
      t.reg SYS_RSTCAUSE = BitVec.ofNat 32 (s.cause + 2 ^ 24 * s.resetCount) ∧ keeps s t [PWR_STEPTIME 7, SYS_RSTCAUSE]) ∧
  (∀ (s : State) (us : Nat) (rails : Fin 128), stepRuns s = true → s.startStep = 3 ∨ s.startStep = 4 ∨ s.startStep = 5 →
    (delayEntry s s.startStep).2 = true → s.stepRetry = false → completes (.startupStepTimeout us rails) s fun t => t.stepRetry = true ∧
      t.startStep = s.startStep ∧ t.phase = s.phase ∧ bitOf (t.fld PWR_STEPTO_TIMEOUT) s.startStep = true ∧
      t.fld (PWR_STEPTIME_US s.startStep) = min us (2 ^ 24 - 1) ∧ keeps s t [PWR_STEPTO, PWR_STEPTIME s.startStep]) ∧
  (∀ (s : State) (us : Nat) (rails : Fin 128), stepRuns s = true → s.startStep = 3 ∨ s.startStep = 4 ∨ s.startStep = 5 →
    (delayEntry s s.startStep).2 = true → s.stepRetry = true → completes (.startupStepTimeout us rails) s fun t => t.phase = .pulse ∧
      t.fld PWR_RAILSTAT_REG_EN = 0 ∧ t.cause = 129 ∧ t.resetCount = min 255 (s.resetCount + 1) ∧ t.mem = []) ∧
  (∀ s : State, s.phase = .pulse → completes .regEnPulseEnd s fun t => t.phase = .starting ∧ t.startStep = 0 ∧ t.fld PWR_RAILSTAT_REG_EN = 1 ∧
    keeps s t [PWR_RAILSTAT]) ∧
  (∀ s : State, mainOn s = true → railsAll s = true → completes .pgoodLow s fun t => t.fld PWR_RAILSTAT_PGOOD = 0 ∧
    t.events = s.events ++ [{ producer := 68, payload := 0 }] ∧ keeps s t [PWR_RAILSTAT]) ∧
  (∀ (s : State) (v : VoltReq), s.voltReq = some v → s.gated = false → completes .voltageAck s fun t => t.voltReq = none ∧
    t.fld PWR_AVSSTAT_SET = v.value % 2 ^ PWR_AVSSTAT_SET.width ∧ t.fld PWR_RAILSTAT_PGOOD = 1 ∧ keeps s t [PWR_AVSSTAT, PWR_RAILSTAT]) ∧
  (∀ (s : State) (v : VoltReq), s.voltReq = some v → completes .voltageRequestFail s fun t => t.voltReq = none ∧
    t.fld PWR_PMBSTAT_RESULT = 5 ∧ (v.why = 1 → t.fld PWR_AVSSTAT_HELD = 1) ∧ t.events = s.events ++ [{ producer := 66, payload := 5 }] ∧
      keeps s t [PWR_PMBSTAT, PWR_AVSSTAT]) ∧
  (∀ (s : State) (w : Word), exec (.pmbusTransaction w) s = .next (pmbusGo s w.toNat)) ∧
  (∀ (s : State) (w : Word), s.flag PWR_PMBSTAT_BUSY = false → completes (.pmbusTransaction w) s fun t => t.fld PWR_PMBSTAT_BUSY = 1 ∧
    t.fld PWR_PMBSTAT_RESULT = 0 ∧ t.reg PWR_PMBCMD = BitVec.ofNat 32 (w.toNat % 2 ^ 14) ∧ keeps s t [PWR_PMBCMD, PWR_PMBSTAT] ∧
    t.out = s.out ++ [{ kind := .pmbus, nums := [bitsOf w.toNat 10 8, w.toNat % 256, s.fld PWR_PMBDATA_DATA, bitsOf w.toNat 12 11,
                                                  bitsOf w.toNat 13 13], octets := [] }]) ∧
  (∀ (s : State) (w : Word), s.flag PWR_PMBSTAT_BUSY = true → completes (.pmbusTransaction w) s fun t => t.fld PWR_PMBSTAT_OVERRUN = 1 ∧
    t.fld PWR_PMBSTAT_BUSY = 1 ∧ t.out = s.out ∧ keeps s t [PWR_PMBCMD, PWR_PMBSTAT]) ∧
  (∀ (s : State) (r : Fin 8) (d : Word), s.flag PWR_PMBSTAT_BUSY = true → completes (.pmbusTransactionDone r d) s fun t =>
    t.fld PWR_PMBSTAT_BUSY = 0 ∧ t.fld PWR_PMBSTAT_RESULT = r ∧
      t.fld PWR_PMBDATA_DATA = (if s.flag PWR_PMBCMD_READ = true ∧ r = 1 then d.toNat % 2 ^ PWR_PMBDATA_DATA.width else s.fld PWR_PMBDATA_DATA) ∧
      keeps s t [PWR_PMBSTAT, PWR_PMBDATA]) ∧
  (∀ (s : State) (l : List Word), completes (.pmbusAlert l) s fun t => t.fld PWR_PMBSTAT_ALERT = 1 ∧ keeps s t [PWR_PMBSTAT]) ∧
  (∀ s : State, s.backupOn = true → mainOn s = true → s.wakeArmed = false → exec .tamperAssert s = .next (zeroize (tamperRecord s))) ∧
  (∀ s : State, s.backupOn = true → mainOn s = false → completes .tamperAssert s fun t => t.wakeLatch = s.wakeLatch ||| 4 ∧
    (bram t).take 32 = List.replicate 32 0 ∧ ofLe (((bram t).drop 32).take 4) = rtcSecs s % 2 ^ 32 ∧
    octAt (bram t) 36 = min 255 (octAt (bram s) 36 + 1)) ∧
  (∀ s : State, s.flag KEY_STAT_ZEROIZING = true → exec .zeroizeEraseDone s = .next (zeroizeErased s)) ∧
  (∀ s : State, s.flag KEY_STAT_ZEROIZING = true → completes .zeroizeEraseDone s fun t => t.fld KEY_STAT_ZEROIZING = 0 ∧
    t.priv = { lc := 4 } ∧ { producer := 608, payload := 0 } ∈ t.events ∧ t.mem = s.mem) ∧
  (∀ (s : State) (c : Nat), 110 ≤ c → s.hotFired = false → completes (.hotSensor c) s fun t => t.hotFired = true ∧ t.hotNow = true ∧
    t.events = s.events ++ [{ producer := 69, payload := c % 2 ^ 32 }] ∧ keeps s t []) ∧
  (∀ s : State, completes .hotClear s fun t => t.hotFired = false ∧ t.hotNow = false ∧ keeps s t []) ∧
  (∀ s : State, s.phase = .running →
    completes .overTemperatureShutdown s fun t => t = startAt { brownOut s 0 with hotNow := true, hotFired := true } 0 ∧ t.phase = .starting ∧
      t.startStep = 0 ∧ t.hotNow = true)

/-- QUIET_REQUEST, QUIET_DRAIN_DONE, ACTIVE_REQUEST, DORMANT_REQUEST, DORMANT_DRAIN_DONE, DORMANT_REACHED, WAKE, WAKE_PORT_MATCH,
PERST_ASSERT, SOFTWARE_DEVICE_RESET, DEVICE_WATCHDOG_EXPIRY, DEVICE_WATCHDOG_KICK and RESET_DRAIN_DONE (R396 to R405). -/
def Obligations.PowerStateCommandsComplete : Prop :=
  (∀ s : State, exec .quietRequest s = .next (quietRequest s)) ∧
  (∀ s : State, s.fld PWR_STATE_CUR = 0 → completes .quietRequest s fun t => t.fld PWR_STATE_CUR = 2 ∧
    t.events = s.events ++ [{ producer := 65, payload := 2 }] ∧ keeps s t [PWR_STATE]) ∧
  (∀ s : State, s.fld PWR_STATE_CUR = 1 ∨ s.fld PWR_STATE_CUR = 2 → exec .quietRequest s = .next s) ∧
  (∀ s : State, s.fld PWR_STATE_CUR = 2 → s.detOff = true ∨ s.gated = true → s.rxLanes = [] → onAir s = false →
    completes .quietDrainDone s fun t => t.gated = true ∧ t.fld PWR_STATE_CUR = 1) ∧
  (∀ s : State, exec .activeRequest s = .next (activeRequest s)) ∧
  (∀ s : State, s.fld PWR_STATE_CUR = 2 → s.gated = false → completes .activeRequest s fun t => t.fld PWR_STATE_CUR = 0 ∧
    t.events = s.events ++ [{ producer := 65, payload := 0 }] ∧ keeps s t [PWR_STATE]) ∧
  (∀ s : State, s.fld PWR_STATE_CUR = 1 → s.flag PWR_AVS_EN = true → s.avsDead = false → s.voltReq = none → completes .activeRequest s fun t =>
    t.fld PWR_STATE_CUR = 3 ∧ t.voltReq = some { value := s.avsTarget, why := 1 } ∧ t.events = s.events ++ [{ producer := 65, payload := 3 }] ∧
      keeps s t [PWR_STATE]) ∧
  (∀ s : State, s.fld PWR_STATE_CUR = 0 ∨ s.fld PWR_STATE_CUR = 3 → exec .activeRequest s = .next s) ∧
  (∀ (s : State) (k : Byte), exec (.dormantRequest k) s = .next (dormantRequest s k.toNat)) ∧
  (∀ (s : State) (k : Byte), k ≠ 0x5D → completes (.dormantRequest k) s fun t => t.fld PWR_STATE_REFUSED = 1 ∧
    t.fld PWR_STATE_CUR = s.fld PWR_STATE_CUR ∧ t.dormStep = s.dormStep ∧ t.wakeArmed = s.wakeArmed ∧ keeps s t [PWR_STATE]) ∧
  (∀ s : State, s.fld PWR_STATE_CUR ≠ 4 → s.frames = [] → s.reqs = [] → completes (.dormantRequest 0x5D) s fun t => t.fld PWR_STATE_CUR = 4 ∧
    t.dormStep = 1 ∧ t.wakeArmed = true ∧ t.wakeLatch = 0 ∧ t.events = s.events ++ [{ producer := 65, payload := 4 }] ∧ keeps s t [PWR_STATE]) ∧
  (∀ s : State, s.dormStep = 1 → onAir s = false → s.flcRun = none →
    exec .dormantDrainDone s = .next (railsOff { mirrorWrite (enginesStop s) with dormStep := 2 })) ∧
  (∀ s : State, s.dormStep = 1 → onAir s = false → s.flcRun = none → s.flag PWR_PMBCFG_OFF_AT_DORMANT = false → completes .dormantDrainDone s fun t =>
    t.dormStep = 4 ∧ t.fld PWR_RAILSTAT_REG_EN = 0 ∧ (∀ n < 12, t.fld (SYS_ENGSTAT_STATE n) ≠ 1 ∧ t.fld (SYS_ENGSTAT_STATE n) ≠ 3) ∧ t.mem = s.mem) ∧
  (∀ (s : State) (ok : Bool), s.dormStep = 4 → completes (.dormantReached ok) s fun t => t.phase = .dormant ∧
    t.cause = (if ok then 0 else 2048) ∧ t.mem = [] ∧ (ok = true → t.fld PWR_RAILSTAT_PRESENT = 0 ∧ t.fld PWR_RAILSTAT_PGOOD = 0)) ∧
  (∀ s : State, s.phase = .dormant → s.wakeLatch ≠ 0 → completes .wake s fun t => t.phase = .starting ∧ t.startStep = 0 ∧
    t.fld PWR_RAILSTAT_REG_EN = 1 ∧ t.wakeArmed = false ∧ t.wakeLatch = 0 ∧ t.cause = (s.cause &&& 2048) + 4 + 256 * (s.wakeLatch % 8) ∧
      t.resetCount = min 255 (s.resetCount + 1)) ∧
  (∀ (s : State) (a : Fin 128), s.fld PWR_WAKECFG_ADDR = a.val → s.wakeArmed = true → s.flag PWR_WAKECFG_EN = true →
    completes (.wakePortMatch a) s fun t => t.wakeLatch = s.wakeLatch ||| 1 ∧ keeps s t []) ∧
  (∀ (s : State) (a : Fin 128), s.fld PWR_WAKECFG_ADDR = a.val → s.wakeArmed = false → mainOn s = true → s.flag PWR_WAKECFG_ACK_AWAKE = true →
    completes (.wakePortMatch a) s fun t => t.fld PWR_WAKESTAT_MATCHED = 1 ∧ t.events = s.events ++ [{ producer := 67, payload := 0 }] ∧
      keeps s t [PWR_WAKESTAT]) ∧
  (∀ (s : State) (a : Fin 128), s.fld PWR_WAKECFG_ADDR ≠ a.val → exec (.wakePortMatch a) s = .next s) ∧
  (∀ s : State, mainOn s = true → s.flag PWR_RSTCFG_PERST_DEV = true → s.draining = false → completes .perstAssert s fun t =>
    t.draining = true ∧ t.cause = 8 ∧ t.resetCount = min 255 (s.resetCount + 1) ∧ keeps s t []) ∧
  (∀ s : State, mainOn s = true → s.flag PWR_RSTCFG_PERST_DEV = false → exec .perstAssert s = .next (interfaceReset s .perst)) ∧
  (∀ (s : State) (k : Byte), exec (.softwareDeviceReset k) s = .next (softReset s k.toNat)) ∧
  (∀ s : State, s.phase = .running → s.draining = false → completes (.softwareDeviceReset 0xD5) s fun t => t.draining = true ∧ t.cause = 32 ∧
    t.resetCount = min 255 (s.resetCount + 1) ∧ keeps s t []) ∧
  (∀ (s : State) (k : Byte), k ≠ 0xD5 → exec (.softwareDeviceReset k) s = .next s) ∧
  (∀ s s' : State, mainOn s = true → s.fld PWR_WDT_LIMIT ≠ 0 → s.draining = false → s.fld SYS_SRLSTAT_STATE ≠ 3 →
    s.reachUp (s.wdtAt + 1000000 * s.fld PWR_WDT_LIMIT) = some s' → completes .deviceWatchdogExpiry s fun t =>
      t.draining = true ∧ t.cause = 16 ∧ t.wdtAt = s'.uptime ∧ t.resetCount = min 255 (s.resetCount + 1) ∧ keeps s t []) ∧
  (∀ (s : State) (m : Master), masterSecure s m = true → completes (.deviceWatchdogKick m) s fun t =>
    t.wdtAt = s.uptime ∧ t.busResult = .ok ∧ keeps s t []) ∧
  (∀ (s : State) (m : Master), masterSecure s m = false → exec (.deviceWatchdogKick m) s = .next s.refuse) ∧
  (∀ s : State, s.draining = true → onAir s = false → completes .resetDrainDone s fun t => t.phase = .starting ∧ t.startStep = 5 ∧
    t.draining = false)

/-- PROGRAM, ERASE, BLANK, LWRITE, LCONFIRM, LABANDON and FLASH_OPERATION_DONE (R414, R415, R421, R424). -/
def Obligations.FlashCommandsComplete : Prop :=
  (∀ (s : State) (op : Nat) (c : Instr) (m : Master) (k : Fin 4) (sector : Fin 1024) (page : Fin 128),
    (c, op) ∈ ([(.program m k sector page, 1), (.erase m k sector, 2), (.blank m k sector, 3)] : List (Instr × Nat)) → (op ≠ 1 → page = 0) →
    flcFree s m k op sector page → exec c s = .next (flcTaken s m k op sector page)) ∧
  (∀ (s : State) (op : Nat) (c : Instr) (m : Master) (k logical : Fin 4),
    (c, op) ∈ ([(.lwrite m k logical, 4), (.lconfirm m k logical, 5), (.labandon m k logical, 6)] : List (Instr × Nat)) →
    flcFree s m k op logical 0 → exec c s = .next (flcTaken s m k op logical 0)) ∧
  (∀ (s : State) (op : Nat) (c : Instr) (m : Master) (k : Fin 4) (sector : Fin 1024),
    (c, op) ∈ ([(.erase m k sector, 2), (.blank m k sector, 3)] : List (Instr × Nat)) → flcFree s m k op sector 0 → s.flcRun = none →
    s.flcQueue = [] → s.flag FLC_CTL_EN = true → s.flashDead = false → s.dormStep < 2 → completes c s fun t =>
      t.flcRun = some ({ who := k, op := op, sector := sector, src := s.fld (FLC_SRC_ADDR k), master := m }, { kind := op, sector := sector }) ∧
      t.flcQueue = [] ∧ t.fld (FLC_CSTAT_BUSY k) = 1 ∧ t.fld (FLC_CSTAT_RESULT k) = 0 ∧ t.fld FLC_STAT_BUSY = 1 ∧ t.flash = s.flash ∧
      (op = 2 → stGet false t.flashCells sector = true) ∧ keeps s t [FLC_CMD k, FLC_CSTAT k, FLC_STAT]) ∧
  (∀ (s : State) (m : Master) (k : Fin 4) (sector : Fin 1024) (page : Fin 128) (c : Instr),
    c ∈ [Instr.program m k sector page, .erase m k sector, .blank m k sector] → masterSecure s m = false → exec c s = .next s.refuse) ∧
  (∀ (s : State) (m : Master) (k logical : Fin 4) (c : Instr), c ∈ [Instr.lwrite m k logical, .lconfirm m k logical, .labandon m k logical] →
    masterSecure s m = false → exec c s = .next s.refuse) ∧
  (∀ (s : State) (j : FlcJob) (p : FlcPrim) (time : Nat) (timeout dirty : Bool) (level : Fin 9), s.flcRun = some (j, p) → j.who < 4 → j.op = 1 →
    p.kind = 1 → s.flcQueue = [] → s.dormStep ≠ 2 → completes (.flashOperationDone time timeout dirty level) s fun t =>
      t.flcRun = none ∧ t.fld (FLC_CSTAT_BUSY j.who) = 0 ∧ t.fld (FLC_CSTAT_RESULT j.who) = 1 ∧ t.fld (FLC_CSTAT_TIME j.who) = min time 65535 ∧
      t.fpage (128 * p.sector + p.page) = { written := true, data := p.data, root := s.priv.root.getD [], level := level,
                                            known := !(s.fpage (128 * p.sector + p.page)).written && (s.fpage (128 * p.sector + p.page)).known } ∧
      (∀ q, q ≠ 128 * p.sector + p.page → t.fpage q = s.fpage q) ∧ t.events = s.events ++ [{ producer := 576, payload := j.who + 16 }] ∧
      keeps s t [FLC_CSTAT j.who, FLC_STAT, FLC_PROG]) ∧
  (∀ (s : State) (j : FlcJob) (p : FlcPrim) (time : Nat) (dirty : Bool) (level : Fin 9), s.flcRun = some (j, p) → j.who < 4 → j.op = 2 →
    p.kind = 2 → s.flcQueue = [] → s.dormStep ≠ 2 → completes (.flashOperationDone time false dirty level) s fun t =>
      t.flcRun = none ∧ t.fld (FLC_CSTAT_BUSY j.who) = 0 ∧ t.fld (FLC_CSTAT_RESULT j.who) = 1 ∧ (∀ i < 128, t.fpage (128 * p.sector + i) = {}) ∧
      (∀ q, q < 128 * p.sector ∨ 128 * p.sector + 128 ≤ q → t.fpage q = s.fpage q) ∧ stGet false t.flashCells p.sector = false ∧ t.mem = s.mem)

/-- COUNTER_WRITE_DONE, ISVN_ADVANCE, LC_PROVISION, LC_ZEROIZE, INSTALL, INSTALL_PUB, DELETE, INSTALL_AUTHORITY, LC_DEPLOY, LC_RETURN and
RESERVATION_WRITE_DONE (R430 to R447). -/
def Obligations.KeyCommandsComplete : Prop :=
  (∀ s : State, stGet 0 s.counterWrites 0 ≠ 0 → s.keyUpd = none → completes (.counterWriteDone 0) s fun t =>
    t.priv = { s.priv with ku := max s.priv.ku (stGet 0 s.counterWrites 0) } ∧ stGet 0 t.counterWrites 0 = 0 ∧ keeps s t []) ∧
  (∀ (s : State) (u : KeyUpd), stGet 0 s.counterWrites 0 ≠ 0 → s.keyUpd = some u → completes (.counterWriteDone 0) s fun t =>
    t.priv.ku = max s.priv.ku (stGet 0 s.counterWrites 0) ∧ t.keyUpd = none ∧ t.fld KEY_UPDSTAT_BUSY = 0 ∧ t.fld KEY_UPDSTAT_RESULT = 1 ∧
    (u.op = 1 ∨ u.op = 2 → (t.slot u.slot).key = u.key ∧ (t.slot u.slot).attr = u.attr ∧ (t.slot u.slot).icv = u.icv) ∧
    (u.op = 3 → t.slot u.slot = {}) ∧ (u.op = 4 → t.priv.auth = some u.key) ∧
    (u.op = 5 → t.priv.lc = 2 ∧ t.priv.vendor = u.vendor) ∧ (u.op = 6 → t.priv.lc = 3 ∧ t.priv.auth = none) ∧ t.mem = s.mem) ∧
  (∀ s : State, stGet 0 s.counterWrites 1 ≠ 0 → completes (.counterWriteDone 1) s fun t =>
    t.priv = { s.priv with bsvn := max s.priv.bsvn (stGet 0 s.counterWrites 1) } ∧ keeps s t []) ∧
  (∀ s : State, stGet 0 s.counterWrites 2 ≠ 0 → completes (.counterWriteDone 2) s fun t =>
    t.priv = { s.priv with isvn := max s.priv.isvn (stGet 0 s.counterWrites 2) } ∧ keeps s t []) ∧
  (∀ (s : State) (m : Master) (v : Word), m = 13 ∨ m = 15 → s.priv.isvn < v.toNat → completes (.isvnAdvance m v) s fun t =>
    stGet 0 t.counterWrites 2 = max v.toNat (stGet 0 s.counterWrites 2) ∧ t.priv = s.priv ∧ t.busResult = .ok ∧ keeps s t []) ∧
  (∀ (s : State) (m : Master) (v : Word), m ≠ 13 → m ≠ 15 → exec (.isvnAdvance m v) s = .next s.refuse) ∧
  (∀ (s : State) (m : Master), m = 0 ∨ m = 13 → s.priv.lc = 0 ∨ s.priv.lc = 4 ∧ s.priv.root.isSome = true → s.flag KEY_STAT_ZEROIZING = false →
    s.phase = .running → s.draining = false → completes (.lcProvision m 0xC3) s fun t =>
      t.priv = { s.priv with lc := 1 } ∧ t.draining = true ∧ t.cause = 64 ∧ t.resetCount = min 255 (s.resetCount + 1) ∧ keeps s t []) ∧
  (∀ (s : State) (m : Master) (k : Byte), masterSecure s m = true → m ≠ 0 ∧ m ≠ 13 ∨ k ≠ 0xC3 → completes (.lcProvision m k) s fun t =>
    t.fld KEY_STAT_LC_REFUSED = 1 ∧ t.priv = s.priv ∧ keeps s t [KEY_STAT]) ∧
  (∀ (s : State) (m : Master), m = 0 ∨ m = 13 → completes (.lcZeroize m 0xC3) s fun t =>
    t.keySlots = [] ∧ t.keysDerived = false ∧ t.keyUpd = none ∧ t.counterWrites = [] ∧ t.cphRuns = [] ∧ t.priv = { s.priv with zeroPending := true } ∧
      t.fld KEY_STAT_ZEROIZING = 1 ∧ t.fld KEY_STAT_KEYLOST = 1 ∧ t.mem = s.mem) ∧
  (∀ (s : State) (op : Nat) (c : Instr) (stored : Bool) (u : KeyUpd),
    (c, op) ∈ ([(.install stored, 1), (.installPub stored, 2), (.delete stored, 3), (.installAuthority stored, 4), (.lcDeploy stored, 5),
      (.lcReturn stored, 6)] : List (Instr × Nat)) → keyPasses s op u →
    exec c s = .next (keyCommit (keyTaken s).2 u stored)) ∧
  (∀ (s : State) (op : Nat) (c : Instr) (u : KeyUpd),
    (c, op) ∈ ([(.install true, 1), (.installPub true, 2), (.delete true, 3), (.installAuthority true, 4), (.lcDeploy true, 5),
      (.lcReturn true, 6)] : List (Instr × Nat)) → keyPasses s op u → s.flashDead = false →
    keyProtected s = false → completes c s fun t =>
    t.keyUpd = some u ∧ stGet 0 t.counterWrites 0 = max u.counter (stGet 0 s.counterWrites 0) ∧ t.fld KEY_UPDSTAT_BUSY = 1 ∧ t.mem = s.mem) ∧
  (∀ (s : State) (n : Fin 256), (s.slot n).resWriting = true →
    exec (.reservationWriteDone n) s = .next ((s.reqs.map (·.1)).foldl secureAgain (resWritten s n))) ∧
  (∀ (s : State) (n : Fin 256), (s.slot n).resWriting = true → s.reqs = [] → completes (.reservationWriteDone n) s fun t =>
    t.slot n = { s.slot n with res := (s.slot n).res + 65536, resWriting := decide ((s.slot n).res + 32768 ≤ (s.slot n).txfc) } ∧
      (n.val, (s.slot n).res + 65536) ∈ t.priv.res ∧ keeps s t [])

/-- CCM_ENC, CCM_DEC, KW_WRAP, KW_UNWRAP, SHA256, ECDSA_VERIFY and CIPHER_OPERATION_DONE (R298, R445, R446, R450). -/
def Obligations.CipherCommandsComplete : Prop :=
  (∀ (s : State) (op : Nat) (c : Instr) (m : Master) (p : Fin 16) (k : Byte),
    (c, op) ∈ ([(.ccmEnc m p k, 1), (.ccmDec m p k, 2), (.kwWrap m p k, 3), (.kwUnwrap m p k, 4)] : List (Instr × Nat)) → cphFree s m p →
    exec c s = .next (cphStart (cphAsked s p op k.toNat false) p op k.toNat false)) ∧
  (∀ (s : State) (m : Master) (p : Fin 16), cphFree s m p → exec (.sha256 m p) s = .next (cphStart (cphAsked s p 5 0 false) p 5 0 false)) ∧
  (∀ (s : State) (m : Master) (p : Fin 16) (k : Byte) (rom : Bool), cphFree s m p →
    exec (.ecdsaVerify m p k rom) s = .next (cphStart (cphAsked s p 6 k.toNat rom) p 6 k.toNat rom)) ∧
  (∀ (s : State) (m : Master) (p : Fin 16), cphFree s m p → completes (.sha256 m p) s fun t =>
    t.fld (CPH_STAT_BUSY p) = 1 ∧ t.fld (CPH_STAT_RESULT p) = 0 ∧ t.mem = s.mem ∧ t.busResult = .ok) ∧
  (∀ (s : State) (m : Master) (p : Fin 16) (a n : Nat), cphFree s m p → pageOwner s p = some m.val → bitOf (pageWord s p) 5 = false →
    s.fld (CPH_SRC_ADDR p) = a → a < 0x10000000 → s.fld (CPH_LEN_LEN p) = n → 1 ≤ n → memRun m a n = true →
    opWritable m (s.fld (CPH_DST_ADDR p)) (sha256 (octNats (s.rdN ((memAddr m a).getD 0) n))).length = true → completes (.sha256 m p) s fun t =>
      ∃ r, t.cphRuns.find? (·.1 = p.val) = some (p.val, r) ∧ r.result = 1 ∧
        r.data = natOcts (sha256 (octNats (s.rdN ((memAddr m a).getD 0) n)))) ∧
  (∀ (s : State) (m : Master) (p : Fin 16) (k : Byte) (c : Instr), c ∈ [Instr.ccmEnc m p k, .ccmDec m p k, .kwWrap m p k, .kwUnwrap m p k] → p ≠ 15 →
    pageMayUse s p m = false → exec c s = .next s.refuse) ∧
  (∀ (s : State) (m : Master) (p : Fin 16) (k : Byte) (rom : Bool), p ≠ 15 → pageMayUse s p m = false →
    exec (.sha256 m p) s = .next s.refuse ∧ exec (.ecdsaVerify m p k rom) s = .next s.refuse) ∧
  (∀ (s : State) (p : Fin 16) (e : Nat × CphRun), p ≠ 15 → s.cphRuns.find? (·.1 = p.val) = some e → completes (.cipherOperationDone p) s fun t =>
    t.mem = (s.wrN e.2.dst e.2.data).mem ∧ t.fld (CPH_STAT_BUSY p) = 0 ∧ t.fld (CPH_STAT_RESULT p) = e.2.result % 2 ^ (CPH_STAT_RESULT p).width ∧
    t.fld (CPH_STAT_OUTLEN p) = e.2.outlen % 2 ^ (CPH_STAT_OUTLEN p).width ∧
    t.events = s.events ++ [{ producer := 640 + p, payload := e.2.result % 2 ^ 32 }] ∧ ∀ a, a ≠ CPH_STAT p → t.reg a = s.reg a)

/-- UPD_BLOCK, BLOCK_CRC_DONE, UPD_WINBASE, UPD_WINLEN, UPDATE_START, UPDATE_CHECKS_DONE, UPDATE_ABORT, UPDATE_COMMIT, UPDATE_RECOVER and
BLOCK_MAP_CLEAR (R455 to R465). -/
def Obligations.UpdateCommandsComplete : Prop :=
  (∀ (s : State) (m : Master) (b : Fin 2048), updMay m = true → s.flag UPD_STAT_BUSY = false → b.val < s.fld UPD_WINLEN_BLOCKS →
    completes (.updBlock m b) s fun t => t.upd = { s.upd with due := s.upd.due ++ [(b.val, s.fld UPD_BLKCRC_CRC)] } ∧ t.busResult = .ok ∧ keeps s t []) ∧
  (∀ (s : State) (m : Master) (b : Fin 2048), updMay m = true → s.flag UPD_STAT_BUSY = true → completes (.updBlock m b) s fun t =>
    t.upd = s.upd ∧ t.fld UPD_STAT_OVERRUN = 1 ∧ keeps s t [UPD_STAT]) ∧
  (∀ (s : State) (b : Nat) (l : List (Nat × Nat)) (crc : Nat), s.upd.due = (b, crc) :: l → b < 1536 → 0x01000000 ≤ s.fld UPD_WINBASE_BASE →
    s.fld UPD_WINBASE_BASE + 4096 * (b + 1) ≤ 0x01800000 → completes .blockCrcDone s fun t => t.upd.due = l ∧
      (∀ c < 1536, blockMarked t c =
        if c = b then crc32 (octNats (s.rdN (s.fld UPD_WINBASE_BASE + 4096 * b) 4096)) == crc else blockMarked s c) ∧
      t.fld UPD_RXSTAT_RECEIVED = ((List.range (s.fld UPD_WINLEN_BLOCKS)).filter (blockMarked t ·)).length ∧
      t.fld UPD_RXSTAT_COMPLETE = b2n (t.fld UPD_RXSTAT_RECEIVED == s.fld UPD_WINLEN_BLOCKS) ∧ t.mem = s.mem) ∧
  (∀ (s : State) (m : Master) (b : Word), updMay m = true → 0x01000000 ≤ b.toNat → b.toNat < 0x01800000 → completes (.updWinbase m b) s fun t =>
    t.fld UPD_WINBASE_BASE = b.toNat / 4096 * 4096 ∧
    t.fld UPD_WINLEN_BLOCKS = min (s.fld UPD_WINLEN_BLOCKS) ((0x01800000 - b.toNat / 4096 * 4096) / 4096) ∧ (∀ c < 1536, blockMarked t c = false) ∧
    t.upd.due = [] ∧ t.fld UPD_RXSTAT_RECEIVED = 0 ∧ t.fld UPD_RXSTAT_COMPLETE = 0) ∧
  (∀ (s : State) (m : Master) (n : Fin 2048), updMay m = true → completes (.updWinlen m n) s fun t =>
    t.fld UPD_WINLEN_BLOCKS = max 1 (min (min n.val 1536) ((0x01800000 - s.fld UPD_WINBASE_BASE) / 4096)) ∧ (∀ c < 1536, blockMarked t c = false) ∧
    t.upd.due = [] ∧ t.fld UPD_RXSTAT_RECEIVED = 0 ∧ t.fld UPD_RXSTAT_COMPLETE = 0) ∧
  (∀ (s : State) (m : Master) (k : Fin 2) (n : Fin 4), updMay m = true → s.flag UPD_CTL_EN = true →
    exec (.updateStart m k n) s = .next (updStart (updAsked s 1 k n) k n)) ∧
  (∀ (s : State) (m : Master) (n : Fin 4), updMay m = true → s.flag UPD_CTL_EN = true → s.flag UPD_STAT_BUSY = false → n.val < 2 →
    0x01000000 ≤ s.fld UPD_WINBASE_BASE → s.fld UPD_WINBASE_BASE ≤ 0x017FF000 → (s.rd8 (s.fld UPD_WINBASE_BASE + 7)).toNat ≠ n.val →
    bitOf (s.reg FLC_WPROT).toNat (4 + n) = false → s.fld CFG_BOOTSTAT_START_SLOT ≠ n.val → slotActive s n = false →
    s.flag UPD_RXSTAT_COMPLETE = true → completes (.updateStart m 1 n) s fun t => t.fld UPD_STAT_BUSY = 1 ∧ t.fld UPD_STAT_PHASE = 1 ∧
      t.fld UPD_STAT_RESULT = 0 ∧ t.fld UPD_PROGRESS_OUT = 0 ∧ t.upd.stage = 1 ∧ t.upd.kind = 1 ∧ t.upd.slot = n.val ∧
      t.upd.base = s.fld UPD_WINBASE_BASE ∧ t.busResult = .ok ∧ keeps s t [UPD_CMD, UPD_STAT, UPD_PROGRESS]) ∧
  (∀ s : State, s.upd.stage = 1 → s.upd.slot < 4 → (updChecks s).1 = 0 →
    flcRefuses s 15 2 (slotSector s s.upd.kind s.upd.slot) 0 = 0 → completes .updateChecksDone s fun t => t.upd.stage = 2 ∧
    t.fld UPD_STAT_PHASE = 2 ∧ (s.upd.kind = 0 → t.fld (UPD_SLOTSTAT_STATE s.upd.slot) = 1 ∧ t.fld (UPD_SLOTSTAT_AUTH s.upd.slot) = 0) ∧
    t.mem = s.mem) ∧
  (∀ s : State, s.upd.stage = 1 → (updChecks s).1 ≠ 0 → exec .updateChecksDone s = .next (applyFail (updChecks s).2 (updChecks s).1)) ∧
  (∀ (s : State) (m : Master), updMay m = true → s.flag UPD_CTL_EN = true → 1 ≤ s.upd.stage → s.upd.stage ≤ 5 → s.flcRun = none →
    completes (.updateAbort m) s fun t => t.upd.stage = 0 ∧ t.fld UPD_STAT_BUSY = 0 ∧ t.fld UPD_STAT_PHASE = 0 ∧ t.fld UPD_STAT_RESULT = 13 ∧
      t.flcQueue = s.flcQueue.filter (·.who ≠ 6) ∧ t.mem = s.mem) ∧
  (∀ (s : State) (m : Master) (j : FlcJob) (p : FlcPrim), updMay m = true → s.flag UPD_CTL_EN = true → 1 ≤ s.upd.stage → s.upd.stage ≤ 5 →
    s.flcRun = some (j, p) → j.who = 6 → completes (.updateAbort m) s fun t => t.upd = { s.upd with abort := true } ∧ keeps s t [UPD_CMD]) ∧
  (∀ (s : State) (m : Master) (n : Fin 4), m = 0 ∨ m = 12 → s.flag UPD_CTL_EN = true → s.fld UPD_STAT_RUNSLOT = n.val →
    s.fld (UPD_SLOTSTAT_STATE n) = 4 → s.fld SYS_SRLSTAT_STATE = 1 → s.flag UPD_STAT_BUSY = false →
    flcRefuses s 15 2 (128 * n.val + 127) 0 = 0 → completes (.updateCommit m n) s fun t =>
      t.fld UPD_STAT_BUSY = 1 ∧ t.fld UPD_STAT_PHASE = 5 ∧ t.fld UPD_STAT_RESULT = 0 ∧ (t.upd.stage = 6 ∨ t.upd.stage = 7) ∧ t.upd.slot = n.val ∧
      t.mem = s.mem) ∧
  (∀ (s : State) (n : Fin 4), s.flag UPD_CTL_EN = true → s.fld SYS_SRLSTAT_STATE = 4 → completes (.updateRecover 12 n) s fun t =>
    t.fld UPD_STAT_RESULT = 1 ∧ t.upd.reloadSlot = n.val ∧ t.reloadAt = s.uptime ∧ t.fld SYS_SRLSTAT_STATE = 3 ∧ t.fld SYS_SRLSTAT_LEAD_DOWN = 1) ∧
  (∀ (s : State) (m : Master), updMay m = true → s.flag UPD_CTL_EN = true → completes (.blockMapClear m) s fun t =>
    (∀ c < 1536, blockMarked t c = false) ∧ t.upd.due = [] ∧ t.fld UPD_RXSTAT_RECEIVED = 0 ∧ t.fld UPD_RXSTAT_COMPLETE = 0 ∧
      t.fld UPD_WINLEN_BLOCKS = s.fld UPD_WINLEN_BLOCKS ∧ t.mem = s.mem) ∧
  (∀ (s : State) (m : Master) (b : Word) (i : Fin 2048) (k : Fin 2) (n : Fin 4) (c : Instr), updMay m = false →
    c ∈ [Instr.updBlock m i, .updWinbase m b, .updWinlen m i, .updateStart m k n, .updateAbort m, .updateCommit m n, .updateRecover m n,
      .blockMapClear m] → exec c s = .next s.refuse)

/-- HOST_BAR2_ACCESS, HOST_TX_REQUEST_FETCH, HOST_BUFFER_READ_DONE, HIF_MODERATION_TIMEOUT, MSIX_UNMASK, BUS_MASTER_CHANGE,
HELD_DESCRIPTOR_DISCARD, INTERFACE_RESET and LINK_UP (R469 to R482). -/
def Obligations.HostCommandsComplete : Prop :=
  (∀ (s : State) (off : Nat) (n : Fin 513), hostUp s = true → s.upsets = [] → off ≤ 8388608 → completes (.hostBar2Access (.read off n) []) s fun t =>
    t.busResult = .ok ∧ keeps s t [] ∧ t.out = s.out ++ [{ kind := .completion, nums := [off], octets := s.rdN (0x01000000 + off) (min n.val (8388608 - off)) ++
                                                              List.replicate (n.val - min n.val (8388608 - off)) 0 }]) ∧
  (∀ (s : State) (off : Nat) (l : List (Option Byte)), hostUp s = true → off ≤ 8388608 → completes (.hostBar2Access (.write off l false) []) s fun t =>
    t.busResult = .ok ∧ (∀ a, t.rd8 a = if 0x01000000 + off ≤ a ∧ a < 0x01800000 then ((l.getD (a - (0x01000000 + off)) none).getD (s.rd8 a)) else s.rd8 a) ∧
    ∀ a, t.reg a = s.reg a) ∧
  (∀ (s : State) (off : Nat) (l : List (Option Byte)), hostUp s = true → completes (.hostBar2Access (.write off l true) []) s fun t =>
    t.reg HIF_ERR = s.reg HIF_ERR ||| 8#32 ∧ keeps s t [HIF_ERR]) ∧
  (∀ (s : State) (r : Fin 32) (l : List Byte), hostTurn s = some r.val → l.length = 32 → exec (.hostTxRequestFetch r l) s =
    .next (reqIntake (({ s with hif := { turn := r + 1 } }.bump HIF_TXREQ_COUNT).setFld (HIF_TXTAIL_TAIL r)
      (ringNext (s.fld (HIF_TXCFG_SIZE r)) (s.fld (HIF_TXTAIL_TAIL r)))) (12 + r) l)) ∧
  (∀ (s : State) (n : Nat) (q : TxReq) (l : List Byte), s.req n = some q → 12 ≤ q.src → q.src < 44 → q.phase = 2 → q.endAs ≠ 2 → q.frame = [] →
    (l.length = qLen q → exec (.hostBufferReadDone n .complete l) s = .next (bufferArrived s n l)) ∧
    (completes (.hostBufferReadDone n .badCompletion l) s fun t => (t.req n).map (·.endAs) = some 2 ∧ t.reg HIF_ERR = s.reg HIF_ERR ||| 5#32 ∧
      keeps s t [HIF_ERR]) ∧
    (completes (.hostBufferReadDone n .timeout l) s fun t => (t.req n).map (·.endAs) = some 2 ∧ t.reg HIF_ERR = s.reg HIF_ERR ||| 3#32 ∧
      keeps s t [HIF_ERR, HIF_CTO])) ∧
  (∀ (s s' : State) (src : Fin 65), bitOf (s.reg (modReg src)).toNat 31 = true → bitsOf (s.reg (modReg src)).toNat 23 8 ≠ 0 →
    stGet 0 s.modCount src ≠ 0 → s.reachUp (stGet 0 s.modDue src) = some s' → exec (.hifModerationTimeout src) s =
      .next (signalVec ((((List.range 65).filter fun i => i ≠ src.val && modTogether s' src i)).foldl modClear (modClear s' src))
        (bitsOf (s.reg (modReg src)).toNat 29 24))) ∧
  (∀ (s s' : State) (src : Fin 65), bitOf (s.reg (modReg src)).toNat 31 = true → bitsOf (s.reg (modReg src)).toNat 23 8 ≠ 0 →
    stGet 0 s.modCount src ≠ 0 → s.reachUp (stGet 0 s.modDue src) = some s' → vecOpen s (bitsOf (s.reg (modReg src)).toNat 29 24) = false →
    completes (.hifModerationTimeout src) s fun t => (t.vec (bitsOf (s.reg (modReg src)).toNat 29 24)).pending = true ∧ stGet 0 t.modCount src = 0 ∧
      t.out = s.out ∧ keeps s t []) ∧
  (∀ (s : State) (v : Fin 64) (a : BitVec 64) (d : Word) (masked : Bool), hostUp s = true → exec (.msixUnmask (.entry v a d masked)) s =
    .next (sendPending (s.setVec v { s.vec v with addr := a.toNat, data := d.toNat, unmasked := !masked }))) ∧
  (∀ (s : State) (e m : Bool), hostUp s = true → exec (.msixUnmask (.control e m)) s =
    .next (sendPending { s with msixEnable := e, msixMask := m })) ∧
  (∀ (s : State) (e d : Bool), hostUp s = true → exec (.busMasterChange e d) s =
    .next (heldFlush (sendPending (s.setFlds [(HIF_STAT_BME, b2n e), (HIF_STAT_D3, b2n d)])))) ∧
  (∀ (s s' : State) (h : HeldWrite), s.held.find? (·.kind == 0) = some h → s.reachUp (h.due + 10000000) = some s' → h.ring < 32 →
    completes .heldDescriptorDiscard s fun t => t.held = s.held.erase h ∧ rsvOf t (16 + h.ring) = rsvOf s (16 + h.ring) - 1 ∧
      (h.slot < s.fld LNK_BUFCFG_COUNT → stGet false t.bufUsed h.slot = false) ∧ keeps s t [LNK_BUFSTAT, HIF_RXCNT h.ring]) ∧
  (∀ (s : State) (c : HifCause), mainOn s = true → (c = .perst → s.flag PWR_RSTCFG_PERST_DEV = false) → completes (.interfaceReset c) s fun t =>
    t.held = [] ∧ t.msix = [] ∧ t.msixEnable = false ∧ t.msixMask = false ∧ t.modCount = [] ∧ t.fld HIF_STAT_RESETTING = 1 ∧
    t.fld HIF_STAT_LINK_UP = 0 ∧ (∀ a, hifCleared a = true → a ≠ HIF_STAT → t.reg a = resetWord a) ∧
    t.events.getLast? = some { producer := 704, payload := hifCode c }) ∧
  (∀ (s : State) (v w : Fin 5), mainOn s = true → s.flag HIF_STAT_LINK_UP = false → v ≠ 0 → w = 1 ∨ w = 2 ∨ w = 4 → completes (.linkUp v w) s fun t =>
    t.fld HIF_STAT_LINK_UP = 1 ∧ t.fld HIF_STAT_SPEED = v ∧ t.fld HIF_STAT_WIDTH = w ∧ t.fld HIF_STAT_RESETTING = 0 ∧
    t.events = s.events ++ [{ producer := 705, payload := v + 16 * w }] ∧ keeps s t [HIF_STAT])

/-- CORE_SAMPLE_PIN_EDGE, CORE_SAMPLE_TIME_TRIGGER, CORE_SAMPLE_RECORD_RECEIVED, SNAPSHOT_MOVE_DONE, SNAPSHOT_ARM, SNAPSHOT_DISARM,
SNAPSHOT_BCAST, BANK_RELEASE, COUNTER_CLEAR_ALL and COUNTER_FREEZE (R487 to R492). -/
def Obligations.SnapshotCommandsComplete : Prop :=
  (∀ (s : State) (rising boundary node : Bool), mainOn s = true → s.flag SNP_CTL_PIN_EN = true → edgeSelected s 16 rising = true →
    sampleDriven s = false → s.snp.moving = none → s.fld SNP_STAT_HELD ≠ 3 → s.flag SNP_STAT_ARMED = false →
    completes (.coreSamplePinEdge ⟨rising, boundary, node⟩) s fun t =>
      t.snp.moving = some (s.fld SNP_STAT_HELD % 2, if boundary then sampleWords s 1 false (boundaryMeets s node) s.nextBoundary
        else sampleWords s 1 false { node := node } s.venue) ∧ t.fld SNP_STAT_MOVING = 1 ∧
      t.fld SNP_STAT_NEXTSEQ = (s.fld SNP_STAT_NEXTSEQ + 1) % 2 ^ SNP_STAT_NEXTSEQ.width ∧ keeps s t [SNP_STAT, SNP_TRIGS]) ∧
  (∀ (s : State) (rising node : Bool) (m : Nat × List Word), mainOn s = true → s.flag SNP_CTL_PIN_EN = true → edgeSelected s 16 rising = true →
    sampleDriven s = false → s.flag SNP_STAT_ARMED = false → sampleJoin s 1 s.venue = some m →
    completes (.coreSamplePinEdge ⟨rising, false, node⟩) s fun t => t.snp = { s.snp with moving := some m } ∧ keeps s t [] ∧ t.events = s.events) ∧
  (∀ (s : State) (rising node : Bool), mainOn s = true → s.flag SNP_CTL_PIN_EN = true → edgeSelected s 16 rising = true → sampleDriven s = false →
    s.flag SNP_STAT_ARMED = false → s.snp.moving ≠ none ∨ s.fld SNP_STAT_HELD = 3 → sampleJoin s 1 s.venue = none →
    completes (.coreSamplePinEdge ⟨rising, false, node⟩) s fun t => t.snp = s.snp ∧ t.fld SNP_STAT_MISSED = 1 ∧ t.events = s.events ++ [{ producer := 738, payload := 0 }] ∧ keeps s t [SNP_STAT, SNP_MISSED]) ∧
  (∀ s : State, mainOn s = true → s.flag SNP_STAT_ARMED = true → s.venue ≤ s.snp.trigAt → s.snp.trigAt < s.nextBoundary →
    exec .coreSampleTimeTrigger s =
      .next (coreSample ((s.passTo s.snp.trigAt).setFld SNP_STAT_ARMED 0) 4 false {} s.snp.trigAt)) ∧
  (∀ (s : State) (w : BitVec 64), mainOn s = true → exec (.coreSampleRecordReceived w) s = .next (snapRecord (snapForward s w.toNat) w.toNat)) ∧
  (∀ (s : State) (w : BitVec 64), mainOn s = true → inStack s = false → s.flag SNP_CTL_FAB_EN = true → s.venue ≤ w.toNat →
    completes (.coreSampleRecordReceived w) s fun t => t.fld SNP_STAT_ARMED = 1 ∧ t.snp.trigAt = w.toNat ∧ t.reg SNP_TTRIGL = w.setWidth 32 ∧
      t.reg SNP_TTRIGH = (w >>> 32).setWidth 32 ∧ keeps s t [SNP_STAT, SNP_TTRIGL, SNP_TTRIGH]) ∧
  (∀ (s : State) (b : Nat) (l : List Word), s.snp.moving = some (b, l) → b < 2 → completes .snapshotMoveDone s fun t =>
    t.snp.moving = none ∧ (if b = 0 then t.snp.bank0 = l ∧ t.snp.bank1 = s.snp.bank1 else t.snp.bank1 = l ∧ t.snp.bank0 = s.snp.bank0) ∧
    t.fld SNP_STAT_MOVING = 0 ∧ t.fld SNP_STAT_HELD = s.fld SNP_STAT_HELD ||| 2 ^ b ∧
    t.events = s.events ++ [{ producer := 737, payload := b + 2 ^ 16 * ((l.headD 0).toNat % 2 ^ 16) }] ∧ keeps s t [SNP_STAT]) ∧
  (∀ s : State, s.venue ≤ (s.reg SNP_TTRIGL).toNat + 2 ^ 32 * (s.reg SNP_TTRIGH).toNat → completes .snapshotArm s fun t =>
    t.fld SNP_STAT_ARMED = 1 ∧ t.snp.trigAt = (s.reg SNP_TTRIGL).toNat + 2 ^ 32 * (s.reg SNP_TTRIGH).toNat ∧ keeps s t [SNP_STAT]) ∧
  (∀ s : State, (s.reg SNP_TTRIGL).toNat + 2 ^ 32 * (s.reg SNP_TTRIGH).toNat < s.venue → completes .snapshotArm s fun t =>
    t.fld SNP_STAT_ARMED = 0 ∧ (s.snp.moving = none → s.fld SNP_STAT_HELD ≠ 3 → t.fld SNP_STAT_MOVING = 1)) ∧
  (∀ s : State, completes .snapshotDisarm s fun t => t.fld SNP_STAT_ARMED = 0 ∧ t.snp = s.snp ∧ keeps s t [SNP_STAT]) ∧
  (∀ s : State, exec .snapshotBcast s = .next (snapBcast s)) ∧
  (∀ s : State, inStack s = false → inVenue s = true → (fabricUp s).length = 1 → s.venue ≤ (s.reg SNP_TTRIGL).toNat + 2 ^ 32 * (s.reg SNP_TTRIGH).toNat →
    completes .snapshotBcast s fun t => t.fld SNP_STAT_ARMED = 1 ∧ t.snp.trigAt = (s.reg SNP_TTRIGL).toNat + 2 ^ 32 * (s.reg SNP_TTRIGH).toNat ∧
      t.out = s.out ++ [{ kind := .fabricFrame, nums := [(fabricUp s).headD 0, 0xFFFF]
                          octets := frameOf s 0xFFFF 1 (recordOf 10 (leBytes 8 ((s.reg SNP_TTRIGL).toNat + 2 ^ 32 * (s.reg SNP_TTRIGH).toNat))) }] ∧
      keeps s t [SNP_STAT, VFB_TXFRM]) ∧
  (∀ (s : State) (b : Fin 4), completes (.bankRelease b) s fun t => t.fld SNP_STAT_HELD = s.fld SNP_STAT_HELD &&& (3 - b.val) ∧
    t.snp = s.snp ∧ keeps s t [SNP_STAT]) ∧
  (∀ s : State, exec .counterClearAll s = .next (clearAll s)) ∧
  (∀ s : State, stWf resetWord s.regs = true → s.venue ≤ s.deafTo → completes .counterClearAll s fun t => t.fld SNP_TRIGS_COUNT = 0 ∧
    t.fld SNP_MISSED_COUNT = 0 ∧ t.fld SNP_LATE_COUNT = 0 ∧ t.fld LNK_FCSERR_COUNT = 0 ∧ t.fld FLC_PROG_COUNT = 0 ∧ t.fld VFB_TXFRM_COUNT = 0 ∧
    (∀ a r, regRow a = some r → (t.reg a).toNat &&& r.rc = (resetWord a).toNat &&& r.rc ∨ (t.reg a).toNat &&& r.rc = 0) ∧
    (∀ a, (∀ r, regRow a = some r → r.rc = 0) → t.reg a = s.reg a) ∧ t.mem = s.mem) ∧
  (∀ (s : State) (f : Bool), completes (.counterFreeze f) s fun t => t.fld SNP_CNTCTL_FREEZE = b2n f ∧ t.mem = s.mem ∧
    (s.venue ≤ s.deafTo → keeps s t [SNP_CNTCTL]))

/-- EXTEST, CLAMP, HIGHZ, EXTEST_PULSE, EXTEST_TRAIN, IDCODE, SAMPLE_PRELOAD, BYPASS and PRIVATE_INSTRUCTION (R494 to R497). -/
def Obligations.TestPortCommandsComplete : Prop :=
  (∀ (s : State) (c : Instr) (n : Nat),
    (c, n) ∈ ([(.extest, 0), (.clamp, 4), (.highz, 5), (.extestPulse, 9), (.extestTrain, 10)] : List (Instr × Nat)) →
    s.flag SNP_TEST_ALLOW = true →
      exec c s = .next (((radioSilence s).setFld SNP_TEST_IR n).emit .balls (n :: s.snp.boundary.map b2n))) ∧
  (∀ (s : State) (c : Instr) (n : Nat),
    (c, n) ∈ ([(.extest, 0), (.clamp, 4), (.highz, 5), (.extestPulse, 9), (.extestTrain, 10)] : List (Instr × Nat)) →
    s.flag SNP_TEST_ALLOW = true → completes c s fun t => t.fld SNP_TEST_IR = n ∧ t.fld SNP_TEST_DIRTY = 1 ∧
      ∀ p ∈ allPorts s, t.fld (RFP_STAT_STATE p) = 0 ∧ t.fld (RFP_STAT_TARGET p) = 0 ∧ (t.portx p).pa = false) ∧
  (∀ (s : State) (c : Instr), c ∈ [Instr.extest, .clamp, .highz, .extestPulse, .extestTrain] → s.flag SNP_TEST_ALLOW = false →
    completes c s fun t => t.fld SNP_TEST_DENIED = 1 ∧ t.fld SNP_TEST_IR = 0xFF ∧ t.out = s.out ∧ keeps s t [SNP_TEST]) ∧
  (∀ s : State, completes .idcode s fun t => t.fld SNP_TEST_IR = 1 ∧ keeps s t [SNP_TEST]) ∧
  (∀ s : State, completes .bypass s fun t => t.fld SNP_TEST_IR = 0xFF ∧ keeps s t [SNP_TEST]) ∧
  (∀ (s : State) (l : List Bool), completes (.samplePreload l) s fun t => t.fld SNP_TEST_IR = 2 ∧ t.snp = { s.snp with boundary := l } ∧
    keeps s t [SNP_TEST]) ∧
  (∀ (s : State) (n : Fin 127), s.priv.lc = 0 ∨ s.priv.lc = 3 → completes (.privateInstruction n) s fun t =>
    t.fld SNP_TEST_IR = 0x80 + n ∧ t.fld SYS_SRLSTAT_STATE = 5 ∧ t.snp.wiped = true ∧
    (if s.snp.wiped then t.mem = s.mem ∧ t.keySlots = s.keySlots ∧ t.priv = s.priv
      else t.mem = [] ∧ t.keySlots = [] ∧ t.priv.verify = [] ∧ t.priv.res = []) ∧ ∀ a, a ≠ SNP_TEST → a ≠ SYS_SRLSTAT → t.reg a = s.reg a) ∧
  (∀ (s : State) (n : Fin 127), s.priv.lc ≠ 0 → s.priv.lc ≠ 3 → completes (.privateInstruction n) s fun t =>
    t.fld SNP_TEST_DENIED = 1 ∧ t.fld SNP_TEST_IR = 0xFF ∧ keeps s t [SNP_TEST])

/-- State.reset: power-on reset is asserted and start-up stands at step 0 (R402).  The part at reset is log entry 1; what the registers without a
reset value in the spec hold, and what memory that nothing has written reads as, is log entry 28. -/
def Obligations.ResetState : Prop :=
  State.reset.canonical ∧ State.reset.pending = [] ∧ State.reset.phase = .starting ∧ State.reset.startStep = 0 ∧
    (∀ a, State.reset.reg a = resetWord a) ∧ (∀ a, State.reset.rd8 a = 0) ∧ State.reset.planeA = [] ∧ State.reset.planeB = [] ∧
    State.reset.events = [] ∧ State.reset.out = [] ∧ (∀ f, State.reset.frame f = none) ∧ ∀ n, State.reset.req n = none

/-- The invariant that every step keeps: equal register and memory contents are equal data. -/
def Obligations.StepKeepsCanonicalForm : Prop :=
  ∀ s t : State, s.canonical → step s = .next t → t.canonical

/-- The shared writes, and the two resets, over the canonical form. -/
def Obligations.StoresKeepCanonicalForm : Prop :=
  (∀ (s : State) (a : Nat) (w : Word), s.canonical → (s.setReg a w).canonical) ∧
  (∀ (s : State) (f : Field) (v : Nat), s.canonical → (s.setFld f v).canonical ∧ (s.bumpBy f v).canonical) ∧
  (∀ (s : State) (a : Nat) (l : List Byte), s.canonical → (s.wrN a l).canonical) ∧
  (∀ (s : State) (a x : Nat) (l : List Byte), (s.wrN a l).rd8 x = if a ≤ x ∧ x < a + l.length then l.getD (x - a) 0 else s.rd8 x) ∧
  (∀ (s : State) (soft : Bool), s.canonical → (mainReset s soft).canonical) ∧
  (∀ (s : State) (c : HifCause), s.canonical → (interfaceReset s c).canonical)

/-- The counting of the shared operation bumpBy. -/
def Obligations.CountersSaturate : Prop :=
  (∀ (s : State) (f : Field) (n : Nat), s.frozen = false → f.lo + f.width ≤ 32 →
    (s.bumpBy f n).fld f = min (s.fld f + n) (2 ^ f.width - 1) ∧ keeps s (s.bumpBy f n) [f.addr] ∧
    ∀ i : Nat, i < f.lo ∨ f.lo + f.width ≤ i → ((s.bumpBy f n).reg f.addr).getLsbD i = (s.reg f.addr).getLsbD i) ∧
  (∀ (s : State) (f : Field) (n : Nat), s.frozen = true → s.bumpBy f n = s)

/-- The table of R301, with its refusals. -/
def Obligations.EngineRegistersHaveOwners : Prop :=
  (∀ (s : State) (n : Fin 12) (m : Master) (a : Nat) (w e : Word), mainOn s = true →
    a ∈ [SYS_ENGCTL n, SYS_ENGENTRY n, SYS_ENGWDT n, SYS_ENGREC n] → m ≠ 13 → n = 0 ∨ m ≠ 0 →
      exec (.registerWrite m (BitVec.ofNat 32 a) ⟨leBytes 4 w.toNat, e⟩) s = .next s.refuse) ∧
  (∀ (s : State) (n : Fin 12) (m : Master) (a : Nat) (w e : Word), mainOn s = true → a ∈ [SYS_ENGVEC n, SYS_ENGKICK n] →
    m ≠ 13 → m ≠ 0 → m.val ≠ n.val → exec (.registerWrite m (BitVec.ofNat 32 a) ⟨leBytes 4 w.toNat, e⟩) s = .next s.refuse) ∧
  (∀ (s : State) (n : Fin 12) (m : Master) (w e : Word), mainOn s = true → m = 13 ∨ m = 0 ∧ n ≠ 0 →
    completes (.registerWrite m (BitVec.ofNat 32 (SYS_ENGENTRY n)) ⟨leBytes 4 w.toNat, e⟩) s fun t =>
      t.fld (SYS_ENGENTRY_ADDR n) = fieldGet w (SYS_ENGENTRY_ADDR n).lo (SYS_ENGENTRY_ADDR n).width ∧ t.busResult = .ok ∧ keeps s t [SYS_ENGENTRY n]) ∧
  (∀ (s : State) (n : Fin 12) (m : Master) (w e : Word), mainOn s = true → m = 13 ∨ m = 0 ∨ m.val = n.val →
    completes (.registerWrite m (BitVec.ofNat 32 (SYS_ENGVEC n)) ⟨leBytes 4 w.toNat, e⟩) s fun t =>
      t.fld (SYS_ENGVEC_BASE n) = fieldGet w (SYS_ENGVEC_BASE n).lo (SYS_ENGVEC_BASE n).width ∧ t.busResult = .ok ∧ keeps s t [SYS_ENGVEC n]) ∧
  (∀ (s : State) (n : Fin 12) (m : Master) (l : Word), mainOn s = true → completes (.counterReadClear m (BitVec.ofNat 32 (SYS_ENGENTRY n)) l) s fun t =>
    t.busResult = .ok ∧ t.busData = s.reg (SYS_ENGENTRY n) ∧ keeps s t [])

/-- R300's two first targets. -/
def Obligations.KeyBlobRegionIsClosed : Prop :=
  (∀ (s : State) (m a n : Nat), masterSecure s m = false → 0x10000000 ≤ a → a + n ≤ 0x14000000 →
    (∃ x, a ≤ x ∧ x < a + n ∧ 0x10000000 + 65536 * keySector s ≤ x ∧ x < 0x10000000 + 65536 * generalSector s) →
    (busRead s m m a n).1 = [] ∧ (busRead s m m a n).2 = s.refuse) ∧
  (∀ (s : State) (m : Master) (a : BitVec 32) (landing : Word), mainOn s = true → masterSecure s m = false → 0x20130000 ≤ a.toNat → a.toNat < 0x20140000 →
    completes (.counterReadClear m a landing) s fun t => t.busResult = .error ∧ t.busData = 0 ∧ keeps s t []) ∧
  (∀ (s : State) (m : Master) (a : BitVec 32) (l : List Byte) (e : Word), mainOn s = true → l ≠ [] → masterSecure s m = false → 0x20130000 ≤ a.toNat →
    a.toNat < 0x20140000 → exec (.registerWrite m a ⟨l, e⟩) s = .next s.refuse)

/-- SECDED as the host meets it (R493). -/
def Obligations.MemoryErrors : Prop :=
  (∀ (s : State) (off : Nat) (n : Fin 513), hostUp s = true → s.frozen = false → s.upsets = [] → 1 ≤ n.val → off % 8 + n ≤ 8 → off < 8388608 →
    completes (.hostBar2Access (.read off n) [(0x01000000 + off, false)]) s fun t => t.busResult = .ok ∧ t.upsets = [] ∧
      t.fld SRAM_CORR_COUNT = min (s.fld SRAM_CORR_COUNT + 1) (2 ^ 32 - 1) ∧ keeps s t [SRAM_CORR] ∧
      t.out = s.out ++ [{ kind := .completion, nums := [off], octets := s.rdN (0x01000000 + off) n }]) ∧
  (∀ (s : State) (off : Nat) (n : Fin 513), hostUp s = true → s.frozen = false → s.upsets = [] → 1 ≤ n.val → off % 8 + n ≤ 8 → off < 8388608 →
    completes (.hostBar2Access (.read off n) [(0x01000000 + off, true)]) s fun t => t.busResult = .error ∧ t.out = s.out ∧
      t.upsets = [((0x01000000 + off) / 8 * 8, 2)] ∧ t.fld SRAM_UNCORR_COUNT = min (s.fld SRAM_UNCORR_COUNT + 1) (2 ^ 32 - 1) ∧
      t.events = s.events ++ [{ producer := 739, payload := (0x01000000 + off) / 8 * 8 }] ∧ keeps s t [SRAM_UNCORR]) ∧
  (∀ (s : State) (a : Nat) (b : Byte), stGet 0 (s.wr8 a b).upsets (a / 8 * 8) = 0)

/-- The model's choice for an event that is not due (log entry 29). -/
def Obligations.EventsOutOfPlace : Prop :=
  (∀ s : State, s.phase ≠ .dormant → exec .wake s = .next s) ∧
  (∀ s : State, s.draining = false → exec .resetDrainDone s = .next s) ∧
  (∀ s : State, s.phase ≠ .pulse → exec .regEnPulseEnd s = .next s) ∧
  (∀ (s : State) (ok : Bool), s.dormStep ≠ 4 → exec (.dormantReached ok) s = .next s) ∧
  (∀ s : State, s.dormStep ≠ 1 → exec .dormantDrainDone s = .next s) ∧
  (∀ s : State, s.fld PWR_STATE_CUR ≠ 2 → exec .quietDrainDone s = .next s) ∧
  (∀ s : State, s.voltReq = none → exec .voltageAck s = .next s ∧ exec .voltageRequestFail s = .next s) ∧
  (∀ (s : State) (us : Nat) (r : Bool), stepRuns s = false → exec (.startupStepDone us r) s = .next s) ∧
  (∀ (s : State) (us : Nat) (r : Fin 128), stepRuns s = false → exec (.startupStepTimeout us r) s = .next s) ∧
  (∀ s : State, s.fld PWR_WDT_LIMIT = 0 → exec .deviceWatchdogExpiry s = .next s) ∧
  (∀ s : State, s.flag KEY_STAT_ZEROIZING = false → exec .zeroizeEraseDone s = .next s) ∧
  (∀ (s : State) (k : Fin 3), stGet 0 s.counterWrites k = 0 → exec (.counterWriteDone k) s = .next s) ∧
  (∀ (s : State) (n : Fin 256), (s.slot n).resWriting = false → exec (.reservationWriteDone n) s = .next s) ∧
  (∀ (s : State) (p : Fin 16), s.cphRuns.find? (·.1 = p.val) = none → exec (.cipherOperationDone p) s = .next s) ∧
  (∀ s : State, s.upd.due = [] → exec .blockCrcDone s = .next s) ∧
  (∀ s : State, s.upd.stage ≠ 1 → exec .updateChecksDone s = .next s) ∧
  (∀ (s : State) (n : Nat) (e : ReadEnd) (l : List Byte), s.req n = none → exec (.hostBufferReadDone n e l) s = .next s) ∧
  (∀ (s : State) (r : Fin 32) (l : List Byte), hostTurn s ≠ some r.val → exec (.hostTxRequestFetch r l) s = .next s) ∧
  (∀ s : State, s.held.find? (·.kind == 0) = none → exec .heldDescriptorDiscard s = .next s) ∧
  (∀ (s : State) (v w : Fin 5), s.flag HIF_STAT_LINK_UP = true → exec (.linkUp v w) s = .next s) ∧
  (∀ s : State, s.snp.moving = none → exec .snapshotMoveDone s = .next s) ∧
  (∀ s : State, s.flag SNP_STAT_ARMED = false → exec .coreSampleTimeTrigger s = .next s) ∧
  (∀ s : State, s.flag RTC_STAT_OSC_OK = false → exec .rtcSecond s = .next s)

/-- The model's choice of an idle step (log entry 2). -/
def Obligations.IdleStep : Prop :=
  (∀ s : State, s.pending = [] → step s = .next (idle s)) ∧ (∀ s : State, s.pending = [] → mainOn s = false → step s = .next s)
end

