-- ==== Sys2Proof/Laws/Store.lean ====
section
/-! SUPPORT. Laws/Store.lean: what the sparse map and the bit fields do, said once. -/

namespace Sys2Proof.Machine

variable {α : Type}

theorem stGet_insert (d v : α) (m : Store α) (k j : Nat) :
    stGet d (stInsert v m k) j = if k = j then v else stGet d m j := by
  induction m with
  | nil => simp [stInsert, stGet]
  | cons e m ih =>
    obtain ⟨i, w⟩ := e
    simp only [stInsert]
    split
    · simp [stGet]
    · split
      · subst_vars
        by_cases h : i = j <;> simp [stGet, h]
      · simp only [stGet, ih]
        by_cases h : i = j
        · have : ¬ k = j := by omega
          simp [h, this]
        · simp [h]

theorem stRising_mono {m : Store α} {a b : Nat} (hab : a ≤ b) (h : stRising b m = true) : stRising a m = true := by
  cases m with
  | nil => rfl
  | cons e m =>
    simp only [stRising, Bool.and_eq_true, decide_eq_true_eq] at *
    exact ⟨le_trans hab h.1, h.2⟩

theorem stGet_below (d : α) {m : Store α} {lo k : Nat} (h : stRising lo m = true) (hk : k < lo) : stGet d m k = d := by
  induction m generalizing lo with
  | nil => rfl
  | cons e m ih =>
    simp only [stRising, Bool.and_eq_true, decide_eq_true_eq] at h
    have : ¬ e.1 = k := by omega
    simp only [stGet, this, if_false]
    exact ih h.2 (by omega)

theorem stGet_erase (d : α) (m : Store α) (k j : Nat) :
    stGet d (stErase m k) j = if k = j then d else stGet d m j := by
  induction m with
  | nil => simp [stErase, stGet]
  | cons e m ih =>
    obtain ⟨i, w⟩ := e
    simp only [stErase, stGet]
    split
    · subst_vars
      rw [ih]
      by_cases hj : i = j <;> simp [hj]
    · simp only [stGet, ih]
      by_cases hj : i = j
      · have : ¬ k = j := by omega
        simp [hj, this]
      · simp [hj]

/-- Reading a store after a write. -/
@[simp] theorem stGet_set [DecidableEq α] (d v : α) (m : Store α) (k j : Nat) :
    stGet d (stSet d m k v) j = if k = j then v else stGet d m j := by
  unfold stSet
  split
  · subst_vars
    exact stGet_erase _ m k j
  · exact stGet_insert d v m k j

/-- Reading a key after a write of another whose default differs. -/
theorem stGet_set_ne [DecidableEq α] (d d' v : α) (m : Store α) {k j : Nat} (h : k ≠ j) :
    stGet d' (stSet d m k v) j = stGet d' m j := by
  unfold stSet
  split
  · rw [stGet_erase, if_neg h]
  · rw [stGet_insert, if_neg h]

theorem stRising_insert (v : α) {m : Store α} {lo k : Nat} (h : stRising lo m = true) (hk : lo ≤ k) :
    stRising lo (stInsert v m k) = true := by
  induction m generalizing lo with
  | nil => simpa [stInsert, stRising] using hk
  | cons e m ih =>
    simp only [stRising, Bool.and_eq_true, decide_eq_true_eq] at h
    simp only [stInsert]
    split
    · simp only [stRising, Bool.and_eq_true, decide_eq_true_eq]
      exact ⟨hk, by omega, h.2⟩
    · split
      · subst_vars
        simp only [stRising, Bool.and_eq_true, decide_eq_true_eq]
        exact h
      · simp only [stRising, Bool.and_eq_true, decide_eq_true_eq]
        exact ⟨h.1, ih h.2 (by omega)⟩

theorem stRising_erase {m : Store α} {lo : Nat} (h : stRising lo m = true) (k : Nat) :
    stRising lo (stErase m k) = true := by
  induction m generalizing lo with
  | nil => rfl
  | cons e m ih =>
    simp only [stRising, Bool.and_eq_true, decide_eq_true_eq] at h
    simp only [stErase]
    split
    · exact stRising_mono (by omega) (ih h.2)
    · simp only [stRising, Bool.and_eq_true, decide_eq_true_eq]
      exact ⟨h.1, ih h.2⟩

theorem mem_stInsert {v : α} {m : Store α} {k : Nat} {e : Nat × α} (h : e ∈ stInsert v m k) : e = (k, v) ∨ e ∈ m := by
  induction m with
  | nil => simpa [stInsert] using h
  | cons f m ih =>
    simp only [stInsert] at h
    split at h
    · simpa using h
    · split at h
      · simp only [List.mem_cons] at h ⊢
        rcases h with h | h <;> simp [h]
      · simp only [List.mem_cons] at h ⊢
        rcases h with h | h
        · simp [h]
        · rcases ih h with h | h <;> simp [h]

theorem mem_stErase {m : Store α} {k : Nat} {e : Nat × α} (h : e ∈ stErase m k) : e ∈ m := by
  induction m with
  | nil => exact h
  | cons f m ih =>
    simp only [stErase] at h
    split at h
    · exact List.mem_cons_of_mem _ (ih h)
    · rcases List.mem_cons.mp h with h | h
      · simp [h]
      · exact List.mem_cons_of_mem _ (ih h)

/-- A write keeps the canonical form. -/
theorem stWf_set [DecidableEq α] (d : Nat → α) {m : Store α} (h : stWf d m = true) (k : Nat) (v : α) :
    stWf d (stSet (d k) m k v) = true := by
  simp only [stWf, Bool.and_eq_true, List.all_eq_true, decide_eq_true_eq] at h ⊢
  unfold stSet
  split
  · exact ⟨stRising_erase h.1 k, fun e he => h.2 e (mem_stErase he)⟩
  · rename_i hv
    refine ⟨stRising_insert v h.1 (Nat.zero_le k), fun e he => ?_⟩
    rcases mem_stInsert he with rfl | he
    · exact hv
    · exact h.2 e he

theorem stWf_rising [DecidableEq α] {d : Nat → α} {m : Store α} (h : stWf d m = true) : stRising 0 m = true := by
  simp only [stWf, Bool.and_eq_true] at h
  exact h.1

theorem fieldMask_getLsbD (lo width i : Nat) (h : lo + width ≤ 32) :
    (fieldMask lo width).getLsbD i = decide (lo ≤ i ∧ i < lo + width) := by
  simp only [fieldMask, BitVec.getLsbD_ofNat, Nat.mul_comm _ (2 ^ lo), Nat.testBit_two_pow_mul,
    Nat.testBit_two_pow_sub_one]
  by_cases h1 : lo ≤ i <;> by_cases h2 : i < lo + width <;> simp [h1, h2] <;> omega

theorem fieldGet_testBit (w : Word) (lo width i : Nat) :
    (fieldGet w lo width).testBit i = (decide (i < width) && w.getLsbD (lo + i)) := by
  simp only [fieldGet, Nat.testBit_mod_two_pow, Nat.testBit_div_two_pow]
  rw [Nat.add_comm i lo]; rfl

theorem fieldSet_getLsbD (w : Word) (lo width v i : Nat) (h : lo + width ≤ 32) :
    (fieldSet w lo width v).getLsbD i
      = if lo ≤ i ∧ i < lo + width then v.testBit (i - lo) else w.getLsbD i := by
  have hw : ¬ i < 32 → w.getLsbD i = false := fun h3 => BitVec.getLsbD_of_ge w i (by omega)
  simp only [fieldSet, BitVec.getLsbD_or, BitVec.getLsbD_and, BitVec.getLsbD_not, fieldMask_getLsbD _ _ _ h,
    BitVec.getLsbD_ofNat, Nat.mul_comm _ (2 ^ lo), Nat.testBit_two_pow_mul, Nat.testBit_mod_two_pow]
  by_cases h1 : lo ≤ i ∧ i < lo + width
  · have h3 : i < 32 := by omega
    have h4 : i - lo < width := by omega
    have h5 : i ≥ lo := h1.1
    simp [h1, h3, h4]
  · have h4 : (decide (i ≥ lo) && (decide (i - lo < width) && v.testBit (i - lo))) = false := by
      by_cases h5 : i ≥ lo <;> by_cases h6 : i - lo < width <;> simp [h5, h6]
      omega
    rw [h4]
    by_cases h3 : i < 32
    · simp [h1, h3]
    · simp [h1, h3, hw h3]

/-- A field reads back what was written into it, cut to its width. -/
theorem fieldGet_set_same (w : Word) (lo width v : Nat) (h : lo + width ≤ 32) :
    fieldGet (fieldSet w lo width v) lo width = v % 2 ^ width := by
  apply Nat.eq_of_testBit_eq
  intro i
  rw [fieldGet_testBit, fieldSet_getLsbD _ _ _ _ _ h, Nat.testBit_mod_two_pow]
  by_cases hi : i < width
  · have h1 : lo ≤ lo + i ∧ lo + i < lo + width := by omega
    simp only [hi, h1, and_self, if_true, decide_true, Bool.true_and]
    congr 1; omega
  · simp [hi]

/-- Writing one field leaves a field of the same word that shares no bit with it. -/
theorem fieldGet_set_other (w : Word) (lo width v lo' width' : Nat) (h : lo + width ≤ 32)
    (hd : lo + width ≤ lo' ∨ lo' + width' ≤ lo) :
    fieldGet (fieldSet w lo width v) lo' width' = fieldGet w lo' width' := by
  apply Nat.eq_of_testBit_eq
  intro i
  rw [fieldGet_testBit, fieldGet_testBit, fieldSet_getLsbD _ _ _ _ _ h]
  by_cases hi : i < width'
  · have h1 : ¬ (lo ≤ lo' + i ∧ lo' + i < lo + width) := by omega
    simp [h1]
  · simp [hi]

end Sys2Proof.Machine
end

