-- ==== Sys2Proof/Laws/State.lean ====
section
/-! SUPPORT. Laws/State.lean: what the shared operations over registers, events, outputs and memory do to each part of the state,
said once. -/

namespace Sys2Proof.Machine

/-! ### Registers -/

@[simp] theorem reg_setReg (s : State) (a b : Nat) (w : Word) : (s.setReg a w).reg b = if a = b then w else s.reg b := by
  unfold State.reg State.setReg
  by_cases h : a = b
  · subst h; simp
  · simp [stGet_set_ne _ _ _ _ h, h]

theorem reg_setFld (s : State) (f : Field) (v b : Nat) :
    (s.setFld f v).reg b = if f.addr = b then fieldSet (s.reg f.addr) f.lo f.width v else s.reg b := by
  simp [State.setFld]

theorem reg_setFld_ne (s : State) (f : Field) (v : Nat) {b : Nat} (h : f.addr ≠ b) : (s.setFld f v).reg b = s.reg b := by
  simp [reg_setFld, h]

/-- A field reads back what was stored, cut to its width. -/
theorem fld_setFld (s : State) (f : Field) (v : Nat) (h : f.lo + f.width ≤ 32) : (s.setFld f v).fld f = v % 2 ^ f.width := by
  simp [State.fld, reg_setFld, fieldGet_set_same _ _ _ _ h]

/-- Storing a field leaves every field that shares no bit with it. -/
theorem fld_setFld_ne (s : State) (f g : Field) (v : Nat)
    (h : f.addr ≠ g.addr ∨ (f.lo + f.width ≤ 32 ∧ (f.lo + f.width ≤ g.lo ∨ g.lo + g.width ≤ f.lo))) :
    (s.setFld f v).fld g = s.fld g := by
  unfold State.fld
  rw [reg_setFld]
  split
  · rename_i e
    rcases h with h | h
    · exact absurd e h
    · rw [e, fieldGet_set_other _ _ _ _ _ _ h.1 h.2]
  · rfl

/-- Storing fields leaves the registers of none of them. -/
theorem reg_setFlds_ne (s : State) (l : List (Field × Nat)) {b : Nat} (h : ∀ e ∈ l, e.1.addr ≠ b) : (s.setFlds l).reg b = s.reg b := by
  unfold State.setFlds
  induction l generalizing s with
  | nil => rfl
  | cons e l ih =>
    simp only [List.foldl_cons]
    rw [ih _ (fun x hx => h x (List.mem_cons_of_mem _ hx)), reg_setFld_ne _ _ _ (h e (List.mem_cons_self ..))]

/-- A counter changes its own register alone. -/
theorem reg_bumpBy_ne (s : State) (f : Field) (n : Nat) {b : Nat} (h : f.addr ≠ b) : (s.bumpBy f n).reg b = s.reg b := by
  unfold State.bumpBy
  split
  · rfl
  · exact reg_setFld_ne _ _ _ h

theorem reg_bump_ne (s : State) (f : Field) {b : Nat} (h : f.addr ≠ b) : (s.bump f).reg b = s.reg b := reg_bumpBy_ne _ _ _ h

@[simp] theorem reg_fire (s : State) (p v b : Nat) : (s.fire p v).reg b = s.reg b := rfl
@[simp] theorem reg_fireEv (s : State) (e : Event) (b : Nat) : (s.fireEv e).reg b = s.reg b := rfl
@[simp] theorem reg_emit (s : State) (k : OutKind) (l : List Nat) (o : List Byte) (b : Nat) : (s.emit k l o).reg b = s.reg b := rfl
@[simp] theorem reg_answer (s : State) (w : Word) (b : Nat) : (s.answer w).reg b = s.reg b := rfl
@[simp] theorem reg_refuse (s : State) (b : Nat) : s.refuse.reg b = s.reg b := rfl
@[simp] theorem reg_setLatch (s : State) (k : Nat) (w : Word) (b : Nat) : (s.setLatch k w).reg b = s.reg b := rfl
@[simp] theorem reg_wr8 (s : State) (a : Nat) (x : Byte) (b : Nat) : (s.wr8 a x).reg b = s.reg b := rfl

@[simp] theorem reg_wrN (s : State) (a : Nat) (l : List Byte) (b : Nat) : (s.wrN a l).reg b = s.reg b := by
  induction l generalizing s a with
  | nil => rfl
  | cons x l ih => simp [State.wrN, ih]

/-! ### Memory -/

@[simp] theorem mem_setReg (s : State) (a : Nat) (w : Word) : (s.setReg a w).mem = s.mem := rfl
@[simp] theorem mem_setFld (s : State) (f : Field) (v : Nat) : (s.setFld f v).mem = s.mem := rfl

@[simp] theorem mem_setFlds (s : State) (l : List (Field × Nat)) : (s.setFlds l).mem = s.mem := by
  unfold State.setFlds
  induction l generalizing s with
  | nil => rfl
  | cons e l ih => simp [ih]

@[simp] theorem mem_bumpBy (s : State) (f : Field) (n : Nat) : (s.bumpBy f n).mem = s.mem := by
  unfold State.bumpBy
  split <;> rfl

@[simp] theorem mem_bump (s : State) (f : Field) : (s.bump f).mem = s.mem := mem_bumpBy _ _ _
@[simp] theorem mem_fire (s : State) (p v : Nat) : (s.fire p v).mem = s.mem := rfl
@[simp] theorem mem_fireEv (s : State) (e : Event) : (s.fireEv e).mem = s.mem := rfl
@[simp] theorem mem_emit (s : State) (k : OutKind) (l : List Nat) (o : List Byte) : (s.emit k l o).mem = s.mem := rfl
@[simp] theorem mem_answer (s : State) (w : Word) : (s.answer w).mem = s.mem := rfl
@[simp] theorem mem_refuse (s : State) : s.refuse.mem = s.mem := rfl
@[simp] theorem mem_setLatch (s : State) (k : Nat) (w : Word) : (s.setLatch k w).mem = s.mem := rfl

/-- Reading an octet after writing one. -/
@[simp] theorem rd8_wr8 (s : State) (a b : Nat) (x : Byte) : (s.wr8 a x).rd8 b = if a = b then x else s.rd8 b := by
  simp [State.rd8, State.wr8]

/-- Octets outside those written read as before. -/
theorem rd8_wrN_ne (s : State) (a : Nat) (l : List Byte) {b : Nat} (h : b < a ∨ a + l.length ≤ b) :
    (s.wrN a l).rd8 b = s.rd8 b := by
  induction l generalizing s a with
  | nil => rfl
  | cons x l ih =>
    simp only [List.length_cons] at h
    rw [State.wrN, ih _ _ (by omega), rd8_wr8, if_neg (by omega)]

/-- The octets written read back. -/
theorem rd8_wrN (s : State) (a : Nat) (l : List Byte) (i : Nat) (h : i < l.length) : (s.wrN a l).rd8 (a + i) = l[i] := by
  induction l generalizing s a i with
  | nil => simp at h
  | cons x l ih =>
    rw [State.wrN]
    cases i with
    | zero => rw [rd8_wrN_ne _ _ _ (by omega)]; simp
    | succ i =>
      have := ih (s.wr8 a x) (a + 1) i (by simpa using h)
      rw [show a + (i + 1) = a + 1 + i by omega, this]; simp

/-- A write of an octet keeps the canonical form. -/
theorem wf_wr8 {s : State} (h : Memory.wf s.mem = true) (a : Nat) (x : Byte) : Memory.wf (s.wr8 a x).mem = true :=
  stWf_set _ h a x

/-- A write of octets keeps the canonical form. -/
theorem wf_wrN {s : State} (h : Memory.wf s.mem = true) (a : Nat) (l : List Byte) : Memory.wf (s.wrN a l).mem = true := by
  induction l generalizing s a with
  | nil => exact h
  | cons x l ih => exact ih (wf_wr8 h a x) (a + 1)

/-! ### Who is left alone by a register write -/

@[simp] theorem pending_setReg (s : State) (a : Nat) (w : Word) : (s.setReg a w).pending = s.pending := rfl
@[simp] theorem pending_setFld (s : State) (f : Field) (v : Nat) : (s.setFld f v).pending = s.pending := rfl
@[simp] theorem events_setReg (s : State) (a : Nat) (w : Word) : (s.setReg a w).events = s.events := rfl
@[simp] theorem events_setFld (s : State) (f : Field) (v : Nat) : (s.setFld f v).events = s.events := rfl
@[simp] theorem out_setFld (s : State) (f : Field) (v : Nat) : (s.setFld f v).out = s.out := rfl
@[simp] theorem phase_setReg (s : State) (a : Nat) (w : Word) : (s.setReg a w).phase = s.phase := rfl
@[simp] theorem phase_setFld (s : State) (f : Field) (v : Nat) : (s.setFld f v).phase = s.phase := rfl
@[simp] theorem venue_setFld (s : State) (f : Field) (v : Nat) : (s.setFld f v).venue = s.venue := rfl
@[simp] theorem uptime_setFld (s : State) (f : Field) (v : Nat) : (s.setFld f v).uptime = s.uptime := rfl
@[simp] theorem engs_setFld (s : State) (f : Field) (v : Nat) : (s.setFld f v).engs = s.engs := rfl

end Sys2Proof.Machine
end

