-- ==== Sys2Proof/Laws/Fields.lean ====
section
/-! SUPPORT. Laws/Fields.lean: for every shared update of the state, the fields that it leaves as they are. -/

namespace Sys2Proof.Machine

/-! ### setReg -/

@[simp] theorem part_setReg (s : State) (a : Nat) (w : Word) : (s.setReg a w).part = s.part := rfl
@[simp] theorem venue_setReg (s : State) (a : Nat) (w : Word) : (s.setReg a w).venue = s.venue := rfl
@[simp] theorem thirds_setReg (s : State) (a : Nat) (w : Word) : (s.setReg a w).thirds = s.thirds := rfl
@[simp] theorem out_setReg (s : State) (a : Nat) (w : Word) : (s.setReg a w).out = s.out := rfl
@[simp] theorem busData_setReg (s : State) (a : Nat) (w : Word) : (s.setReg a w).busData = s.busData := rfl
@[simp] theorem busResult_setReg (s : State) (a : Nat) (w : Word) : (s.setReg a w).busResult = s.busResult := rfl
@[simp] theorem free_setReg (s : State) (a : Nat) (w : Word) : (s.setReg a w).free = s.free := rfl
@[simp] theorem latches_setReg (s : State) (a : Nat) (w : Word) : (s.setReg a w).latches = s.latches := rfl
@[simp] theorem planeA_setReg (s : State) (a : Nat) (w : Word) : (s.setReg a w).planeA = s.planeA := rfl
@[simp] theorem planeB_setReg (s : State) (a : Nat) (w : Word) : (s.setReg a w).planeB = s.planeB := rfl
@[simp] theorem ref_setReg (s : State) (a : Nat) (w : Word) : (s.setReg a w).ref = s.ref := rfl
@[simp] theorem cut_setReg (s : State) (a : Nat) (w : Word) : (s.setReg a w).cut = s.cut := rfl
@[simp] theorem swapReq_setReg (s : State) (a : Nat) (w : Word) : (s.setReg a w).swapReq = s.swapReq := rfl
@[simp] theorem swapWait_setReg (s : State) (a : Nat) (w : Word) : (s.setReg a w).swapWait = s.swapWait := rfl
@[simp] theorem swapCut_setReg (s : State) (a : Nat) (w : Word) : (s.setReg a w).swapCut = s.swapCut := rfl
@[simp] theorem swapFail_setReg (s : State) (a : Nat) (w : Word) : (s.setReg a w).swapFail = s.swapFail := rfl
@[simp] theorem lastOrder_setReg (s : State) (a : Nat) (w : Word) : (s.setReg a w).lastOrder = s.lastOrder := rfl
@[simp] theorem cfg_setReg (s : State) (a : Nat) (w : Word) : (s.setReg a w).cfg = s.cfg := rfl
@[simp] theorem ports_setReg (s : State) (a : Nat) (w : Word) : (s.setReg a w).ports = s.ports := rfl
@[simp] theorem kept_setReg (s : State) (a : Nat) (w : Word) : (s.setReg a w).kept = s.kept := rfl
@[simp] theorem mirrorAt_setReg (s : State) (a : Nat) (w : Word) : (s.setReg a w).mirrorAt = s.mirrorAt := rfl
@[simp] theorem updTo_setReg (s : State) (a : Nat) (w : Word) : (s.setReg a w).updTo = s.updTo := rfl
@[simp] theorem syns_setReg (s : State) (a : Nat) (w : Word) : (s.setReg a w).syns = s.syns := rfl
@[simp] theorem loRetune_setReg (s : State) (a : Nat) (w : Word) : (s.setReg a w).loRetune = s.loRetune := rfl
@[simp] theorem loWaiting_setReg (s : State) (a : Nat) (w : Word) : (s.setReg a w).loWaiting = s.loWaiting := rfl
@[simp] theorem uptime_setReg (s : State) (a : Nat) (w : Word) : (s.setReg a w).uptime = s.uptime := rfl
@[simp] theorem groups_setReg (s : State) (a : Nat) (w : Word) : (s.setReg a w).groups = s.groups := rfl
@[simp] theorem rxLanes_setReg (s : State) (a : Nat) (w : Word) : (s.setReg a w).rxLanes = s.rxLanes := rfl
@[simp] theorem blanks_setReg (s : State) (a : Nat) (w : Word) : (s.setReg a w).blanks = s.blanks := rfl
@[simp] theorem deafTo_setReg (s : State) (a : Nat) (w : Word) : (s.setReg a w).deafTo = s.deafTo := rfl
@[simp] theorem deafMap_setReg (s : State) (a : Nat) (w : Word) : (s.setReg a w).deafMap = s.deafMap := rfl
@[simp] theorem cancels_setReg (s : State) (a : Nat) (w : Word) : (s.setReg a w).cancels = s.cancels := rfl
@[simp] theorem pairs_setReg (s : State) (a : Nat) (w : Word) : (s.setReg a w).pairs = s.pairs := rfl
@[simp] theorem gainAt_setReg (s : State) (a : Nat) (w : Word) : (s.setReg a w).gainAt = s.gainAt := rfl
@[simp] theorem bsetSweep_setReg (s : State) (a : Nat) (w : Word) : (s.setReg a w).bsetSweep = s.bsetSweep := rfl
@[simp] theorem sigAll_setReg (s : State) (a : Nat) (w : Word) : (s.setReg a w).sigAll = s.sigAll := rfl
@[simp] theorem frames_setReg (s : State) (a : Nat) (w : Word) : (s.setReg a w).frames = s.frames := rfl
@[simp] theorem bufUsed_setReg (s : State) (a : Nat) (w : Word) : (s.setReg a w).bufUsed = s.bufUsed := rfl
@[simp] theorem rsv_setReg (s : State) (a : Nat) (w : Word) : (s.setReg a w).rsv = s.rsv := rfl
@[simp] theorem persistOut_setReg (s : State) (a : Nat) (w : Word) : (s.setReg a w).persistOut = s.persistOut := rfl
@[simp] theorem reqs_setReg (s : State) (a : Nat) (w : Word) : (s.setReg a w).reqs = s.reqs := rfl
@[simp] theorem reqNext_setReg (s : State) (a : Nat) (w : Word) : (s.setReg a w).reqNext = s.reqNext := rfl
@[simp] theorem txLanes_setReg (s : State) (a : Nat) (w : Word) : (s.setReg a w).txLanes = s.txLanes := rfl
@[simp] theorem outs_setReg (s : State) (a : Nat) (w : Word) : (s.setReg a w).outs = s.outs := rfl
@[simp] theorem duty_setReg (s : State) (a : Nat) (w : Word) : (s.setReg a w).duty = s.duty := rfl
@[simp] theorem dutyRestored_setReg (s : State) (a : Nat) (w : Word) : (s.setReg a w).dutyRestored = s.dutyRestored := rfl
@[simp] theorem hopOcc_setReg (s : State) (a : Nat) (w : Word) : (s.setReg a w).hopOcc = s.hopOcc := rfl
@[simp] theorem killUntil_setReg (s : State) (a : Nat) (w : Word) : (s.setReg a w).killUntil = s.killUntil := rfl
@[simp] theorem relays_setReg (s : State) (a : Nat) (w : Word) : (s.setReg a w).relays = s.relays := rfl
@[simp] theorem importAsked_setReg (s : State) (a : Nat) (w : Word) : (s.setReg a w).importAsked = s.importAsked := rfl
@[simp] theorem importEnds_setReg (s : State) (a : Nat) (w : Word) : (s.setReg a w).importEnds = s.importEnds := rfl
@[simp] theorem importAnswers_setReg (s : State) (a : Nat) (w : Word) : (s.setReg a w).importAnswers = s.importAnswers := rfl
@[simp] theorem remoteDets_setReg (s : State) (a : Nat) (w : Word) : (s.setReg a w).remoteDets = s.remoteDets := rfl
@[simp] theorem contribs_setReg (s : State) (a : Nat) (w : Word) : (s.setReg a w).contribs = s.contribs := rfl
@[simp] theorem jointParts_setReg (s : State) (a : Nat) (w : Word) : (s.setReg a w).jointParts = s.jointParts := rfl
@[simp] theorem stk_setReg (s : State) (a : Nat) (w : Word) : (s.setReg a w).stk = s.stk := rfl
@[simp] theorem vfb_setReg (s : State) (a : Nat) (w : Word) : (s.setReg a w).vfb = s.vfb := rfl
@[simp] theorem fseqSeen_setReg (s : State) (a : Nat) (w : Word) : (s.setReg a w).fseqSeen = s.fseqSeen := rfl
@[simp] theorem restartDue_setReg (s : State) (a : Nat) (w : Word) : (s.setReg a w).restartDue = s.restartDue := rfl
@[simp] theorem engs_setReg (s : State) (a : Nat) (w : Word) : (s.setReg a w).engs = s.engs := rfl
@[simp] theorem srl_setReg (s : State) (a : Nat) (w : Word) : (s.setReg a w).srl = s.srl := rfl
@[simp] theorem reloadAt_setReg (s : State) (a : Nat) (w : Word) : (s.setReg a w).reloadAt = s.reloadAt := rfl
@[simp] theorem upsets_setReg (s : State) (a : Nat) (w : Word) : (s.setReg a w).upsets = s.upsets := rfl
@[simp] theorem evt_setReg (s : State) (a : Nat) (w : Word) : (s.setReg a w).evt = s.evt := rfl
@[simp] theorem mbxSends_setReg (s : State) (a : Nat) (w : Word) : (s.setReg a w).mbxSends = s.mbxSends := rfl
@[simp] theorem mbxSeq_setReg (s : State) (a : Nat) (w : Word) : (s.setReg a w).mbxSeq = s.mbxSeq := rfl
@[simp] theorem mbxFrags_setReg (s : State) (a : Nat) (w : Word) : (s.setReg a w).mbxFrags = s.mbxFrags := rfl
@[simp] theorem tmrPresc_setReg (s : State) (a : Nat) (w : Word) : (s.setReg a w).tmrPresc = s.tmrPresc := rfl
@[simp] theorem tmrHops_setReg (s : State) (a : Nat) (w : Word) : (s.setReg a w).tmrHops = s.tmrHops := rfl
@[simp] theorem rtcShadow_setReg (s : State) (a : Nat) (w : Word) : (s.setReg a w).rtcShadow = s.rtcShadow := rfl
@[simp] theorem rtcFrozenAt_setReg (s : State) (a : Nat) (w : Word) : (s.setReg a w).rtcFrozenAt = s.rtcFrozenAt := rfl
@[simp] theorem rtcSecAt_setReg (s : State) (a : Nat) (w : Word) : (s.setReg a w).rtcSecAt = s.rtcSecAt := rfl
@[simp] theorem rtcAlarmDue_setReg (s : State) (a : Nat) (w : Word) : (s.setReg a w).rtcAlarmDue = s.rtcAlarmDue := rfl
@[simp] theorem startStep_setReg (s : State) (a : Nat) (w : Word) : (s.setReg a w).startStep = s.startStep := rfl
@[simp] theorem stepRetry_setReg (s : State) (a : Nat) (w : Word) : (s.setReg a w).stepRetry = s.stepRetry := rfl
@[simp] theorem draining_setReg (s : State) (a : Nat) (w : Word) : (s.setReg a w).draining = s.draining := rfl
@[simp] theorem backupOn_setReg (s : State) (a : Nat) (w : Word) : (s.setReg a w).backupOn = s.backupOn := rfl
@[simp] theorem cause_setReg (s : State) (a : Nat) (w : Word) : (s.setReg a w).cause = s.cause := rfl
@[simp] theorem resetCount_setReg (s : State) (a : Nat) (w : Word) : (s.setReg a w).resetCount = s.resetCount := rfl
@[simp] theorem wakeArmed_setReg (s : State) (a : Nat) (w : Word) : (s.setReg a w).wakeArmed = s.wakeArmed := rfl
@[simp] theorem wakeLatch_setReg (s : State) (a : Nat) (w : Word) : (s.setReg a w).wakeLatch = s.wakeLatch := rfl
@[simp] theorem dormStep_setReg (s : State) (a : Nat) (w : Word) : (s.setReg a w).dormStep = s.dormStep := rfl
@[simp] theorem hwPmbus_setReg (s : State) (a : Nat) (w : Word) : (s.setReg a w).hwPmbus = s.hwPmbus := rfl
@[simp] theorem avsTarget_setReg (s : State) (a : Nat) (w : Word) : (s.setReg a w).avsTarget = s.avsTarget := rfl
@[simp] theorem avsCalm_setReg (s : State) (a : Nat) (w : Word) : (s.setReg a w).avsCalm = s.avsCalm := rfl
@[simp] theorem voltReq_setReg (s : State) (a : Nat) (w : Word) : (s.setReg a w).voltReq = s.voltReq := rfl
@[simp] theorem avsDead_setReg (s : State) (a : Nat) (w : Word) : (s.setReg a w).avsDead = s.avsDead := rfl
@[simp] theorem detOff_setReg (s : State) (a : Nat) (w : Word) : (s.setReg a w).detOff = s.detOff := rfl
@[simp] theorem gated_setReg (s : State) (a : Nat) (w : Word) : (s.setReg a w).gated = s.gated := rfl
@[simp] theorem wdtAt_setReg (s : State) (a : Nat) (w : Word) : (s.setReg a w).wdtAt = s.wdtAt := rfl
@[simp] theorem hotFired_setReg (s : State) (a : Nat) (w : Word) : (s.setReg a w).hotFired = s.hotFired := rfl
@[simp] theorem hotNow_setReg (s : State) (a : Nat) (w : Word) : (s.setReg a w).hotNow = s.hotNow := rfl
@[simp] theorem delays_setReg (s : State) (a : Nat) (w : Word) : (s.setReg a w).delays = s.delays := rfl
@[simp] theorem flash_setReg (s : State) (a : Nat) (w : Word) : (s.setReg a w).flash = s.flash := rfl
@[simp] theorem flashCells_setReg (s : State) (a : Nat) (w : Word) : (s.setReg a w).flashCells = s.flashCells := rfl
@[simp] theorem flashDead_setReg (s : State) (a : Nat) (w : Word) : (s.setReg a w).flashDead = s.flashDead := rfl
@[simp] theorem flcQueue_setReg (s : State) (a : Nat) (w : Word) : (s.setReg a w).flcQueue = s.flcQueue := rfl
@[simp] theorem flcRun_setReg (s : State) (a : Nat) (w : Word) : (s.setReg a w).flcRun = s.flcRun := rfl
@[simp] theorem loamRings_setReg (s : State) (a : Nat) (w : Word) : (s.setReg a w).loamRings = s.loamRings := rfl
@[simp] theorem loamErases_setReg (s : State) (a : Nat) (w : Word) : (s.setReg a w).loamErases = s.loamErases := rfl
@[simp] theorem loamSpares_setReg (s : State) (a : Nat) (w : Word) : (s.setReg a w).loamSpares = s.loamSpares := rfl
@[simp] theorem loamMarked_setReg (s : State) (a : Nat) (w : Word) : (s.setReg a w).loamMarked = s.loamMarked := rfl
@[simp] theorem loamWorn_setReg (s : State) (a : Nat) (w : Word) : (s.setReg a w).loamWorn = s.loamWorn := rfl
@[simp] theorem loamMapped_setReg (s : State) (a : Nat) (w : Word) : (s.setReg a w).loamMapped = s.loamMapped := rfl
@[simp] theorem priv_setReg (s : State) (a : Nat) (w : Word) : (s.setReg a w).priv = s.priv := rfl
@[simp] theorem keySlots_setReg (s : State) (a : Nat) (w : Word) : (s.setReg a w).keySlots = s.keySlots := rfl
@[simp] theorem keysDerived_setReg (s : State) (a : Nat) (w : Word) : (s.setReg a w).keysDerived = s.keysDerived := rfl
@[simp] theorem keyUpd_setReg (s : State) (a : Nat) (w : Word) : (s.setReg a w).keyUpd = s.keyUpd := rfl
@[simp] theorem counterWrites_setReg (s : State) (a : Nat) (w : Word) : (s.setReg a w).counterWrites = s.counterWrites := rfl
@[simp] theorem cphRuns_setReg (s : State) (a : Nat) (w : Word) : (s.setReg a w).cphRuns = s.cphRuns := rfl
@[simp] theorem msix_setReg (s : State) (a : Nat) (w : Word) : (s.setReg a w).msix = s.msix := rfl
@[simp] theorem msixEnable_setReg (s : State) (a : Nat) (w : Word) : (s.setReg a w).msixEnable = s.msixEnable := rfl
@[simp] theorem msixMask_setReg (s : State) (a : Nat) (w : Word) : (s.setReg a w).msixMask = s.msixMask := rfl
@[simp] theorem held_setReg (s : State) (a : Nat) (w : Word) : (s.setReg a w).held = s.held := rfl
@[simp] theorem modCount_setReg (s : State) (a : Nat) (w : Word) : (s.setReg a w).modCount = s.modCount := rfl
@[simp] theorem modDue_setReg (s : State) (a : Nat) (w : Word) : (s.setReg a w).modDue = s.modDue := rfl
@[simp] theorem upd_setReg (s : State) (a : Nat) (w : Word) : (s.setReg a w).upd = s.upd := rfl
@[simp] theorem hif_setReg (s : State) (a : Nat) (w : Word) : (s.setReg a w).hif = s.hif := rfl
@[simp] theorem snp_setReg (s : State) (a : Nat) (w : Word) : (s.setReg a w).snp = s.snp := rfl

/-! ### setFld -/

@[simp] theorem part_setFld (s : State) (f : Field) (v : Nat) : (s.setFld f v).part = s.part := rfl
@[simp] theorem thirds_setFld (s : State) (f : Field) (v : Nat) : (s.setFld f v).thirds = s.thirds := rfl
@[simp] theorem busData_setFld (s : State) (f : Field) (v : Nat) : (s.setFld f v).busData = s.busData := rfl
@[simp] theorem busResult_setFld (s : State) (f : Field) (v : Nat) : (s.setFld f v).busResult = s.busResult := rfl
@[simp] theorem free_setFld (s : State) (f : Field) (v : Nat) : (s.setFld f v).free = s.free := rfl
@[simp] theorem latches_setFld (s : State) (f : Field) (v : Nat) : (s.setFld f v).latches = s.latches := rfl
@[simp] theorem planeA_setFld (s : State) (f : Field) (v : Nat) : (s.setFld f v).planeA = s.planeA := rfl
@[simp] theorem planeB_setFld (s : State) (f : Field) (v : Nat) : (s.setFld f v).planeB = s.planeB := rfl
@[simp] theorem ref_setFld (s : State) (f : Field) (v : Nat) : (s.setFld f v).ref = s.ref := rfl
@[simp] theorem cut_setFld (s : State) (f : Field) (v : Nat) : (s.setFld f v).cut = s.cut := rfl
@[simp] theorem swapReq_setFld (s : State) (f : Field) (v : Nat) : (s.setFld f v).swapReq = s.swapReq := rfl
@[simp] theorem swapWait_setFld (s : State) (f : Field) (v : Nat) : (s.setFld f v).swapWait = s.swapWait := rfl
@[simp] theorem swapCut_setFld (s : State) (f : Field) (v : Nat) : (s.setFld f v).swapCut = s.swapCut := rfl
@[simp] theorem swapFail_setFld (s : State) (f : Field) (v : Nat) : (s.setFld f v).swapFail = s.swapFail := rfl
@[simp] theorem lastOrder_setFld (s : State) (f : Field) (v : Nat) : (s.setFld f v).lastOrder = s.lastOrder := rfl
@[simp] theorem cfg_setFld (s : State) (f : Field) (v : Nat) : (s.setFld f v).cfg = s.cfg := rfl
@[simp] theorem ports_setFld (s : State) (f : Field) (v : Nat) : (s.setFld f v).ports = s.ports := rfl
@[simp] theorem kept_setFld (s : State) (f : Field) (v : Nat) : (s.setFld f v).kept = s.kept := rfl
@[simp] theorem mirrorAt_setFld (s : State) (f : Field) (v : Nat) : (s.setFld f v).mirrorAt = s.mirrorAt := rfl
@[simp] theorem updTo_setFld (s : State) (f : Field) (v : Nat) : (s.setFld f v).updTo = s.updTo := rfl
@[simp] theorem syns_setFld (s : State) (f : Field) (v : Nat) : (s.setFld f v).syns = s.syns := rfl
@[simp] theorem loRetune_setFld (s : State) (f : Field) (v : Nat) : (s.setFld f v).loRetune = s.loRetune := rfl
@[simp] theorem loWaiting_setFld (s : State) (f : Field) (v : Nat) : (s.setFld f v).loWaiting = s.loWaiting := rfl
@[simp] theorem groups_setFld (s : State) (f : Field) (v : Nat) : (s.setFld f v).groups = s.groups := rfl
@[simp] theorem rxLanes_setFld (s : State) (f : Field) (v : Nat) : (s.setFld f v).rxLanes = s.rxLanes := rfl
@[simp] theorem blanks_setFld (s : State) (f : Field) (v : Nat) : (s.setFld f v).blanks = s.blanks := rfl
@[simp] theorem deafTo_setFld (s : State) (f : Field) (v : Nat) : (s.setFld f v).deafTo = s.deafTo := rfl
@[simp] theorem deafMap_setFld (s : State) (f : Field) (v : Nat) : (s.setFld f v).deafMap = s.deafMap := rfl
@[simp] theorem cancels_setFld (s : State) (f : Field) (v : Nat) : (s.setFld f v).cancels = s.cancels := rfl
@[simp] theorem pairs_setFld (s : State) (f : Field) (v : Nat) : (s.setFld f v).pairs = s.pairs := rfl
@[simp] theorem gainAt_setFld (s : State) (f : Field) (v : Nat) : (s.setFld f v).gainAt = s.gainAt := rfl
@[simp] theorem bsetSweep_setFld (s : State) (f : Field) (v : Nat) : (s.setFld f v).bsetSweep = s.bsetSweep := rfl
@[simp] theorem sigAll_setFld (s : State) (f : Field) (v : Nat) : (s.setFld f v).sigAll = s.sigAll := rfl
@[simp] theorem frames_setFld (s : State) (f : Field) (v : Nat) : (s.setFld f v).frames = s.frames := rfl
@[simp] theorem bufUsed_setFld (s : State) (f : Field) (v : Nat) : (s.setFld f v).bufUsed = s.bufUsed := rfl
@[simp] theorem rsv_setFld (s : State) (f : Field) (v : Nat) : (s.setFld f v).rsv = s.rsv := rfl
@[simp] theorem persistOut_setFld (s : State) (f : Field) (v : Nat) : (s.setFld f v).persistOut = s.persistOut := rfl
@[simp] theorem reqs_setFld (s : State) (f : Field) (v : Nat) : (s.setFld f v).reqs = s.reqs := rfl
@[simp] theorem reqNext_setFld (s : State) (f : Field) (v : Nat) : (s.setFld f v).reqNext = s.reqNext := rfl
@[simp] theorem txLanes_setFld (s : State) (f : Field) (v : Nat) : (s.setFld f v).txLanes = s.txLanes := rfl
@[simp] theorem outs_setFld (s : State) (f : Field) (v : Nat) : (s.setFld f v).outs = s.outs := rfl
@[simp] theorem duty_setFld (s : State) (f : Field) (v : Nat) : (s.setFld f v).duty = s.duty := rfl
@[simp] theorem dutyRestored_setFld (s : State) (f : Field) (v : Nat) : (s.setFld f v).dutyRestored = s.dutyRestored := rfl
@[simp] theorem hopOcc_setFld (s : State) (f : Field) (v : Nat) : (s.setFld f v).hopOcc = s.hopOcc := rfl
@[simp] theorem killUntil_setFld (s : State) (f : Field) (v : Nat) : (s.setFld f v).killUntil = s.killUntil := rfl
@[simp] theorem relays_setFld (s : State) (f : Field) (v : Nat) : (s.setFld f v).relays = s.relays := rfl
@[simp] theorem importAsked_setFld (s : State) (f : Field) (v : Nat) : (s.setFld f v).importAsked = s.importAsked := rfl
@[simp] theorem importEnds_setFld (s : State) (f : Field) (v : Nat) : (s.setFld f v).importEnds = s.importEnds := rfl
@[simp] theorem importAnswers_setFld (s : State) (f : Field) (v : Nat) : (s.setFld f v).importAnswers = s.importAnswers := rfl
@[simp] theorem remoteDets_setFld (s : State) (f : Field) (v : Nat) : (s.setFld f v).remoteDets = s.remoteDets := rfl
@[simp] theorem contribs_setFld (s : State) (f : Field) (v : Nat) : (s.setFld f v).contribs = s.contribs := rfl
@[simp] theorem jointParts_setFld (s : State) (f : Field) (v : Nat) : (s.setFld f v).jointParts = s.jointParts := rfl
@[simp] theorem stk_setFld (s : State) (f : Field) (v : Nat) : (s.setFld f v).stk = s.stk := rfl
@[simp] theorem vfb_setFld (s : State) (f : Field) (v : Nat) : (s.setFld f v).vfb = s.vfb := rfl
@[simp] theorem fseqSeen_setFld (s : State) (f : Field) (v : Nat) : (s.setFld f v).fseqSeen = s.fseqSeen := rfl
@[simp] theorem restartDue_setFld (s : State) (f : Field) (v : Nat) : (s.setFld f v).restartDue = s.restartDue := rfl
@[simp] theorem srl_setFld (s : State) (f : Field) (v : Nat) : (s.setFld f v).srl = s.srl := rfl
@[simp] theorem reloadAt_setFld (s : State) (f : Field) (v : Nat) : (s.setFld f v).reloadAt = s.reloadAt := rfl
@[simp] theorem upsets_setFld (s : State) (f : Field) (v : Nat) : (s.setFld f v).upsets = s.upsets := rfl
@[simp] theorem evt_setFld (s : State) (f : Field) (v : Nat) : (s.setFld f v).evt = s.evt := rfl
@[simp] theorem mbxSends_setFld (s : State) (f : Field) (v : Nat) : (s.setFld f v).mbxSends = s.mbxSends := rfl
@[simp] theorem mbxSeq_setFld (s : State) (f : Field) (v : Nat) : (s.setFld f v).mbxSeq = s.mbxSeq := rfl
@[simp] theorem mbxFrags_setFld (s : State) (f : Field) (v : Nat) : (s.setFld f v).mbxFrags = s.mbxFrags := rfl
@[simp] theorem tmrPresc_setFld (s : State) (f : Field) (v : Nat) : (s.setFld f v).tmrPresc = s.tmrPresc := rfl
@[simp] theorem tmrHops_setFld (s : State) (f : Field) (v : Nat) : (s.setFld f v).tmrHops = s.tmrHops := rfl
@[simp] theorem rtcShadow_setFld (s : State) (f : Field) (v : Nat) : (s.setFld f v).rtcShadow = s.rtcShadow := rfl
@[simp] theorem rtcFrozenAt_setFld (s : State) (f : Field) (v : Nat) : (s.setFld f v).rtcFrozenAt = s.rtcFrozenAt := rfl
@[simp] theorem rtcSecAt_setFld (s : State) (f : Field) (v : Nat) : (s.setFld f v).rtcSecAt = s.rtcSecAt := rfl
@[simp] theorem rtcAlarmDue_setFld (s : State) (f : Field) (v : Nat) : (s.setFld f v).rtcAlarmDue = s.rtcAlarmDue := rfl
@[simp] theorem startStep_setFld (s : State) (f : Field) (v : Nat) : (s.setFld f v).startStep = s.startStep := rfl
@[simp] theorem stepRetry_setFld (s : State) (f : Field) (v : Nat) : (s.setFld f v).stepRetry = s.stepRetry := rfl
@[simp] theorem draining_setFld (s : State) (f : Field) (v : Nat) : (s.setFld f v).draining = s.draining := rfl
@[simp] theorem backupOn_setFld (s : State) (f : Field) (v : Nat) : (s.setFld f v).backupOn = s.backupOn := rfl
@[simp] theorem cause_setFld (s : State) (f : Field) (v : Nat) : (s.setFld f v).cause = s.cause := rfl
@[simp] theorem resetCount_setFld (s : State) (f : Field) (v : Nat) : (s.setFld f v).resetCount = s.resetCount := rfl
@[simp] theorem wakeArmed_setFld (s : State) (f : Field) (v : Nat) : (s.setFld f v).wakeArmed = s.wakeArmed := rfl
@[simp] theorem wakeLatch_setFld (s : State) (f : Field) (v : Nat) : (s.setFld f v).wakeLatch = s.wakeLatch := rfl
@[simp] theorem dormStep_setFld (s : State) (f : Field) (v : Nat) : (s.setFld f v).dormStep = s.dormStep := rfl
@[simp] theorem hwPmbus_setFld (s : State) (f : Field) (v : Nat) : (s.setFld f v).hwPmbus = s.hwPmbus := rfl
@[simp] theorem avsTarget_setFld (s : State) (f : Field) (v : Nat) : (s.setFld f v).avsTarget = s.avsTarget := rfl
@[simp] theorem avsCalm_setFld (s : State) (f : Field) (v : Nat) : (s.setFld f v).avsCalm = s.avsCalm := rfl
@[simp] theorem voltReq_setFld (s : State) (f : Field) (v : Nat) : (s.setFld f v).voltReq = s.voltReq := rfl
@[simp] theorem avsDead_setFld (s : State) (f : Field) (v : Nat) : (s.setFld f v).avsDead = s.avsDead := rfl
@[simp] theorem detOff_setFld (s : State) (f : Field) (v : Nat) : (s.setFld f v).detOff = s.detOff := rfl
@[simp] theorem gated_setFld (s : State) (f : Field) (v : Nat) : (s.setFld f v).gated = s.gated := rfl
@[simp] theorem wdtAt_setFld (s : State) (f : Field) (v : Nat) : (s.setFld f v).wdtAt = s.wdtAt := rfl
@[simp] theorem hotFired_setFld (s : State) (f : Field) (v : Nat) : (s.setFld f v).hotFired = s.hotFired := rfl
@[simp] theorem hotNow_setFld (s : State) (f : Field) (v : Nat) : (s.setFld f v).hotNow = s.hotNow := rfl
@[simp] theorem delays_setFld (s : State) (f : Field) (v : Nat) : (s.setFld f v).delays = s.delays := rfl
@[simp] theorem flash_setFld (s : State) (f : Field) (v : Nat) : (s.setFld f v).flash = s.flash := rfl
@[simp] theorem flashCells_setFld (s : State) (f : Field) (v : Nat) : (s.setFld f v).flashCells = s.flashCells := rfl
@[simp] theorem flashDead_setFld (s : State) (f : Field) (v : Nat) : (s.setFld f v).flashDead = s.flashDead := rfl
@[simp] theorem flcQueue_setFld (s : State) (f : Field) (v : Nat) : (s.setFld f v).flcQueue = s.flcQueue := rfl
@[simp] theorem flcRun_setFld (s : State) (f : Field) (v : Nat) : (s.setFld f v).flcRun = s.flcRun := rfl
@[simp] theorem loamRings_setFld (s : State) (f : Field) (v : Nat) : (s.setFld f v).loamRings = s.loamRings := rfl
@[simp] theorem loamErases_setFld (s : State) (f : Field) (v : Nat) : (s.setFld f v).loamErases = s.loamErases := rfl
@[simp] theorem loamSpares_setFld (s : State) (f : Field) (v : Nat) : (s.setFld f v).loamSpares = s.loamSpares := rfl
@[simp] theorem loamMarked_setFld (s : State) (f : Field) (v : Nat) : (s.setFld f v).loamMarked = s.loamMarked := rfl
@[simp] theorem loamWorn_setFld (s : State) (f : Field) (v : Nat) : (s.setFld f v).loamWorn = s.loamWorn := rfl
@[simp] theorem loamMapped_setFld (s : State) (f : Field) (v : Nat) : (s.setFld f v).loamMapped = s.loamMapped := rfl
@[simp] theorem priv_setFld (s : State) (f : Field) (v : Nat) : (s.setFld f v).priv = s.priv := rfl
@[simp] theorem keySlots_setFld (s : State) (f : Field) (v : Nat) : (s.setFld f v).keySlots = s.keySlots := rfl
@[simp] theorem keysDerived_setFld (s : State) (f : Field) (v : Nat) : (s.setFld f v).keysDerived = s.keysDerived := rfl
@[simp] theorem keyUpd_setFld (s : State) (f : Field) (v : Nat) : (s.setFld f v).keyUpd = s.keyUpd := rfl
@[simp] theorem counterWrites_setFld (s : State) (f : Field) (v : Nat) : (s.setFld f v).counterWrites = s.counterWrites := rfl
@[simp] theorem cphRuns_setFld (s : State) (f : Field) (v : Nat) : (s.setFld f v).cphRuns = s.cphRuns := rfl
@[simp] theorem msix_setFld (s : State) (f : Field) (v : Nat) : (s.setFld f v).msix = s.msix := rfl
@[simp] theorem msixEnable_setFld (s : State) (f : Field) (v : Nat) : (s.setFld f v).msixEnable = s.msixEnable := rfl
@[simp] theorem msixMask_setFld (s : State) (f : Field) (v : Nat) : (s.setFld f v).msixMask = s.msixMask := rfl
@[simp] theorem held_setFld (s : State) (f : Field) (v : Nat) : (s.setFld f v).held = s.held := rfl
@[simp] theorem modCount_setFld (s : State) (f : Field) (v : Nat) : (s.setFld f v).modCount = s.modCount := rfl
@[simp] theorem modDue_setFld (s : State) (f : Field) (v : Nat) : (s.setFld f v).modDue = s.modDue := rfl
@[simp] theorem upd_setFld (s : State) (f : Field) (v : Nat) : (s.setFld f v).upd = s.upd := rfl
@[simp] theorem hif_setFld (s : State) (f : Field) (v : Nat) : (s.setFld f v).hif = s.hif := rfl
@[simp] theorem snp_setFld (s : State) (f : Field) (v : Nat) : (s.setFld f v).snp = s.snp := rfl

/-! ### setFlds -/

theorem setFlds_eq (s : State) (l : List (Field × Nat)) : s.setFlds l = { s with regs := (s.setFlds l).regs } := by
  induction l generalizing s with
  | nil => rfl
  | cons e l ih => exact ih (s.setFld e.1 e.2)

@[simp] theorem pending_setFlds (s : State) (l : List (Field × Nat)) : (s.setFlds l).pending = s.pending := by rw [setFlds_eq]
@[simp] theorem part_setFlds (s : State) (l : List (Field × Nat)) : (s.setFlds l).part = s.part := by rw [setFlds_eq]
@[simp] theorem venue_setFlds (s : State) (l : List (Field × Nat)) : (s.setFlds l).venue = s.venue := by rw [setFlds_eq]
@[simp] theorem thirds_setFlds (s : State) (l : List (Field × Nat)) : (s.setFlds l).thirds = s.thirds := by rw [setFlds_eq]
@[simp] theorem events_setFlds (s : State) (l : List (Field × Nat)) : (s.setFlds l).events = s.events := by rw [setFlds_eq]
@[simp] theorem out_setFlds (s : State) (l : List (Field × Nat)) : (s.setFlds l).out = s.out := by rw [setFlds_eq]
@[simp] theorem busData_setFlds (s : State) (l : List (Field × Nat)) : (s.setFlds l).busData = s.busData := by rw [setFlds_eq]
@[simp] theorem busResult_setFlds (s : State) (l : List (Field × Nat)) : (s.setFlds l).busResult = s.busResult := by rw [setFlds_eq]
@[simp] theorem free_setFlds (s : State) (l : List (Field × Nat)) : (s.setFlds l).free = s.free := by rw [setFlds_eq]
@[simp] theorem latches_setFlds (s : State) (l : List (Field × Nat)) : (s.setFlds l).latches = s.latches := by rw [setFlds_eq]
@[simp] theorem planeA_setFlds (s : State) (l : List (Field × Nat)) : (s.setFlds l).planeA = s.planeA := by rw [setFlds_eq]
@[simp] theorem planeB_setFlds (s : State) (l : List (Field × Nat)) : (s.setFlds l).planeB = s.planeB := by rw [setFlds_eq]
@[simp] theorem ref_setFlds (s : State) (l : List (Field × Nat)) : (s.setFlds l).ref = s.ref := by rw [setFlds_eq]
@[simp] theorem cut_setFlds (s : State) (l : List (Field × Nat)) : (s.setFlds l).cut = s.cut := by rw [setFlds_eq]
@[simp] theorem swapReq_setFlds (s : State) (l : List (Field × Nat)) : (s.setFlds l).swapReq = s.swapReq := by rw [setFlds_eq]
@[simp] theorem swapWait_setFlds (s : State) (l : List (Field × Nat)) : (s.setFlds l).swapWait = s.swapWait := by rw [setFlds_eq]
@[simp] theorem swapCut_setFlds (s : State) (l : List (Field × Nat)) : (s.setFlds l).swapCut = s.swapCut := by rw [setFlds_eq]
@[simp] theorem swapFail_setFlds (s : State) (l : List (Field × Nat)) : (s.setFlds l).swapFail = s.swapFail := by rw [setFlds_eq]
@[simp] theorem lastOrder_setFlds (s : State) (l : List (Field × Nat)) : (s.setFlds l).lastOrder = s.lastOrder := by rw [setFlds_eq]
@[simp] theorem cfg_setFlds (s : State) (l : List (Field × Nat)) : (s.setFlds l).cfg = s.cfg := by rw [setFlds_eq]
@[simp] theorem ports_setFlds (s : State) (l : List (Field × Nat)) : (s.setFlds l).ports = s.ports := by rw [setFlds_eq]
@[simp] theorem kept_setFlds (s : State) (l : List (Field × Nat)) : (s.setFlds l).kept = s.kept := by rw [setFlds_eq]
@[simp] theorem mirrorAt_setFlds (s : State) (l : List (Field × Nat)) : (s.setFlds l).mirrorAt = s.mirrorAt := by rw [setFlds_eq]
@[simp] theorem updTo_setFlds (s : State) (l : List (Field × Nat)) : (s.setFlds l).updTo = s.updTo := by rw [setFlds_eq]
@[simp] theorem syns_setFlds (s : State) (l : List (Field × Nat)) : (s.setFlds l).syns = s.syns := by rw [setFlds_eq]
@[simp] theorem loRetune_setFlds (s : State) (l : List (Field × Nat)) : (s.setFlds l).loRetune = s.loRetune := by rw [setFlds_eq]
@[simp] theorem loWaiting_setFlds (s : State) (l : List (Field × Nat)) : (s.setFlds l).loWaiting = s.loWaiting := by rw [setFlds_eq]
@[simp] theorem uptime_setFlds (s : State) (l : List (Field × Nat)) : (s.setFlds l).uptime = s.uptime := by rw [setFlds_eq]
@[simp] theorem groups_setFlds (s : State) (l : List (Field × Nat)) : (s.setFlds l).groups = s.groups := by rw [setFlds_eq]
@[simp] theorem rxLanes_setFlds (s : State) (l : List (Field × Nat)) : (s.setFlds l).rxLanes = s.rxLanes := by rw [setFlds_eq]
@[simp] theorem blanks_setFlds (s : State) (l : List (Field × Nat)) : (s.setFlds l).blanks = s.blanks := by rw [setFlds_eq]
@[simp] theorem deafTo_setFlds (s : State) (l : List (Field × Nat)) : (s.setFlds l).deafTo = s.deafTo := by rw [setFlds_eq]
@[simp] theorem deafMap_setFlds (s : State) (l : List (Field × Nat)) : (s.setFlds l).deafMap = s.deafMap := by rw [setFlds_eq]
@[simp] theorem cancels_setFlds (s : State) (l : List (Field × Nat)) : (s.setFlds l).cancels = s.cancels := by rw [setFlds_eq]
@[simp] theorem pairs_setFlds (s : State) (l : List (Field × Nat)) : (s.setFlds l).pairs = s.pairs := by rw [setFlds_eq]
@[simp] theorem gainAt_setFlds (s : State) (l : List (Field × Nat)) : (s.setFlds l).gainAt = s.gainAt := by rw [setFlds_eq]
@[simp] theorem bsetSweep_setFlds (s : State) (l : List (Field × Nat)) : (s.setFlds l).bsetSweep = s.bsetSweep := by rw [setFlds_eq]
@[simp] theorem sigAll_setFlds (s : State) (l : List (Field × Nat)) : (s.setFlds l).sigAll = s.sigAll := by rw [setFlds_eq]
@[simp] theorem frames_setFlds (s : State) (l : List (Field × Nat)) : (s.setFlds l).frames = s.frames := by rw [setFlds_eq]
@[simp] theorem bufUsed_setFlds (s : State) (l : List (Field × Nat)) : (s.setFlds l).bufUsed = s.bufUsed := by rw [setFlds_eq]
@[simp] theorem rsv_setFlds (s : State) (l : List (Field × Nat)) : (s.setFlds l).rsv = s.rsv := by rw [setFlds_eq]
@[simp] theorem persistOut_setFlds (s : State) (l : List (Field × Nat)) : (s.setFlds l).persistOut = s.persistOut := by rw [setFlds_eq]
@[simp] theorem reqs_setFlds (s : State) (l : List (Field × Nat)) : (s.setFlds l).reqs = s.reqs := by rw [setFlds_eq]
@[simp] theorem reqNext_setFlds (s : State) (l : List (Field × Nat)) : (s.setFlds l).reqNext = s.reqNext := by rw [setFlds_eq]
@[simp] theorem txLanes_setFlds (s : State) (l : List (Field × Nat)) : (s.setFlds l).txLanes = s.txLanes := by rw [setFlds_eq]
@[simp] theorem outs_setFlds (s : State) (l : List (Field × Nat)) : (s.setFlds l).outs = s.outs := by rw [setFlds_eq]
@[simp] theorem duty_setFlds (s : State) (l : List (Field × Nat)) : (s.setFlds l).duty = s.duty := by rw [setFlds_eq]
@[simp] theorem dutyRestored_setFlds (s : State) (l : List (Field × Nat)) : (s.setFlds l).dutyRestored = s.dutyRestored := by rw [setFlds_eq]
@[simp] theorem hopOcc_setFlds (s : State) (l : List (Field × Nat)) : (s.setFlds l).hopOcc = s.hopOcc := by rw [setFlds_eq]
@[simp] theorem killUntil_setFlds (s : State) (l : List (Field × Nat)) : (s.setFlds l).killUntil = s.killUntil := by rw [setFlds_eq]
@[simp] theorem relays_setFlds (s : State) (l : List (Field × Nat)) : (s.setFlds l).relays = s.relays := by rw [setFlds_eq]
@[simp] theorem importAsked_setFlds (s : State) (l : List (Field × Nat)) : (s.setFlds l).importAsked = s.importAsked := by rw [setFlds_eq]
@[simp] theorem importEnds_setFlds (s : State) (l : List (Field × Nat)) : (s.setFlds l).importEnds = s.importEnds := by rw [setFlds_eq]
@[simp] theorem importAnswers_setFlds (s : State) (l : List (Field × Nat)) : (s.setFlds l).importAnswers = s.importAnswers := by rw [setFlds_eq]
@[simp] theorem remoteDets_setFlds (s : State) (l : List (Field × Nat)) : (s.setFlds l).remoteDets = s.remoteDets := by rw [setFlds_eq]
@[simp] theorem contribs_setFlds (s : State) (l : List (Field × Nat)) : (s.setFlds l).contribs = s.contribs := by rw [setFlds_eq]
@[simp] theorem jointParts_setFlds (s : State) (l : List (Field × Nat)) : (s.setFlds l).jointParts = s.jointParts := by rw [setFlds_eq]
@[simp] theorem stk_setFlds (s : State) (l : List (Field × Nat)) : (s.setFlds l).stk = s.stk := by rw [setFlds_eq]
@[simp] theorem vfb_setFlds (s : State) (l : List (Field × Nat)) : (s.setFlds l).vfb = s.vfb := by rw [setFlds_eq]
@[simp] theorem fseqSeen_setFlds (s : State) (l : List (Field × Nat)) : (s.setFlds l).fseqSeen = s.fseqSeen := by rw [setFlds_eq]
@[simp] theorem restartDue_setFlds (s : State) (l : List (Field × Nat)) : (s.setFlds l).restartDue = s.restartDue := by rw [setFlds_eq]
@[simp] theorem engs_setFlds (s : State) (l : List (Field × Nat)) : (s.setFlds l).engs = s.engs := by rw [setFlds_eq]
@[simp] theorem srl_setFlds (s : State) (l : List (Field × Nat)) : (s.setFlds l).srl = s.srl := by rw [setFlds_eq]
@[simp] theorem reloadAt_setFlds (s : State) (l : List (Field × Nat)) : (s.setFlds l).reloadAt = s.reloadAt := by rw [setFlds_eq]
@[simp] theorem upsets_setFlds (s : State) (l : List (Field × Nat)) : (s.setFlds l).upsets = s.upsets := by rw [setFlds_eq]
@[simp] theorem evt_setFlds (s : State) (l : List (Field × Nat)) : (s.setFlds l).evt = s.evt := by rw [setFlds_eq]
@[simp] theorem mbxSends_setFlds (s : State) (l : List (Field × Nat)) : (s.setFlds l).mbxSends = s.mbxSends := by rw [setFlds_eq]
@[simp] theorem mbxSeq_setFlds (s : State) (l : List (Field × Nat)) : (s.setFlds l).mbxSeq = s.mbxSeq := by rw [setFlds_eq]
@[simp] theorem mbxFrags_setFlds (s : State) (l : List (Field × Nat)) : (s.setFlds l).mbxFrags = s.mbxFrags := by rw [setFlds_eq]
@[simp] theorem tmrPresc_setFlds (s : State) (l : List (Field × Nat)) : (s.setFlds l).tmrPresc = s.tmrPresc := by rw [setFlds_eq]
@[simp] theorem tmrHops_setFlds (s : State) (l : List (Field × Nat)) : (s.setFlds l).tmrHops = s.tmrHops := by rw [setFlds_eq]
@[simp] theorem rtcShadow_setFlds (s : State) (l : List (Field × Nat)) : (s.setFlds l).rtcShadow = s.rtcShadow := by rw [setFlds_eq]
@[simp] theorem rtcFrozenAt_setFlds (s : State) (l : List (Field × Nat)) : (s.setFlds l).rtcFrozenAt = s.rtcFrozenAt := by rw [setFlds_eq]
@[simp] theorem rtcSecAt_setFlds (s : State) (l : List (Field × Nat)) : (s.setFlds l).rtcSecAt = s.rtcSecAt := by rw [setFlds_eq]
@[simp] theorem rtcAlarmDue_setFlds (s : State) (l : List (Field × Nat)) : (s.setFlds l).rtcAlarmDue = s.rtcAlarmDue := by rw [setFlds_eq]
@[simp] theorem phase_setFlds (s : State) (l : List (Field × Nat)) : (s.setFlds l).phase = s.phase := by rw [setFlds_eq]
@[simp] theorem startStep_setFlds (s : State) (l : List (Field × Nat)) : (s.setFlds l).startStep = s.startStep := by rw [setFlds_eq]
@[simp] theorem stepRetry_setFlds (s : State) (l : List (Field × Nat)) : (s.setFlds l).stepRetry = s.stepRetry := by rw [setFlds_eq]
@[simp] theorem draining_setFlds (s : State) (l : List (Field × Nat)) : (s.setFlds l).draining = s.draining := by rw [setFlds_eq]
@[simp] theorem backupOn_setFlds (s : State) (l : List (Field × Nat)) : (s.setFlds l).backupOn = s.backupOn := by rw [setFlds_eq]
@[simp] theorem cause_setFlds (s : State) (l : List (Field × Nat)) : (s.setFlds l).cause = s.cause := by rw [setFlds_eq]
@[simp] theorem resetCount_setFlds (s : State) (l : List (Field × Nat)) : (s.setFlds l).resetCount = s.resetCount := by rw [setFlds_eq]
@[simp] theorem wakeArmed_setFlds (s : State) (l : List (Field × Nat)) : (s.setFlds l).wakeArmed = s.wakeArmed := by rw [setFlds_eq]
@[simp] theorem wakeLatch_setFlds (s : State) (l : List (Field × Nat)) : (s.setFlds l).wakeLatch = s.wakeLatch := by rw [setFlds_eq]
@[simp] theorem dormStep_setFlds (s : State) (l : List (Field × Nat)) : (s.setFlds l).dormStep = s.dormStep := by rw [setFlds_eq]
@[simp] theorem hwPmbus_setFlds (s : State) (l : List (Field × Nat)) : (s.setFlds l).hwPmbus = s.hwPmbus := by rw [setFlds_eq]
@[simp] theorem avsTarget_setFlds (s : State) (l : List (Field × Nat)) : (s.setFlds l).avsTarget = s.avsTarget := by rw [setFlds_eq]
@[simp] theorem avsCalm_setFlds (s : State) (l : List (Field × Nat)) : (s.setFlds l).avsCalm = s.avsCalm := by rw [setFlds_eq]
@[simp] theorem voltReq_setFlds (s : State) (l : List (Field × Nat)) : (s.setFlds l).voltReq = s.voltReq := by rw [setFlds_eq]
@[simp] theorem avsDead_setFlds (s : State) (l : List (Field × Nat)) : (s.setFlds l).avsDead = s.avsDead := by rw [setFlds_eq]
@[simp] theorem detOff_setFlds (s : State) (l : List (Field × Nat)) : (s.setFlds l).detOff = s.detOff := by rw [setFlds_eq]
@[simp] theorem gated_setFlds (s : State) (l : List (Field × Nat)) : (s.setFlds l).gated = s.gated := by rw [setFlds_eq]
@[simp] theorem wdtAt_setFlds (s : State) (l : List (Field × Nat)) : (s.setFlds l).wdtAt = s.wdtAt := by rw [setFlds_eq]
@[simp] theorem hotFired_setFlds (s : State) (l : List (Field × Nat)) : (s.setFlds l).hotFired = s.hotFired := by rw [setFlds_eq]
@[simp] theorem hotNow_setFlds (s : State) (l : List (Field × Nat)) : (s.setFlds l).hotNow = s.hotNow := by rw [setFlds_eq]
@[simp] theorem delays_setFlds (s : State) (l : List (Field × Nat)) : (s.setFlds l).delays = s.delays := by rw [setFlds_eq]
@[simp] theorem flash_setFlds (s : State) (l : List (Field × Nat)) : (s.setFlds l).flash = s.flash := by rw [setFlds_eq]
@[simp] theorem flashCells_setFlds (s : State) (l : List (Field × Nat)) : (s.setFlds l).flashCells = s.flashCells := by rw [setFlds_eq]
@[simp] theorem flashDead_setFlds (s : State) (l : List (Field × Nat)) : (s.setFlds l).flashDead = s.flashDead := by rw [setFlds_eq]
@[simp] theorem flcQueue_setFlds (s : State) (l : List (Field × Nat)) : (s.setFlds l).flcQueue = s.flcQueue := by rw [setFlds_eq]
@[simp] theorem flcRun_setFlds (s : State) (l : List (Field × Nat)) : (s.setFlds l).flcRun = s.flcRun := by rw [setFlds_eq]
@[simp] theorem loamRings_setFlds (s : State) (l : List (Field × Nat)) : (s.setFlds l).loamRings = s.loamRings := by rw [setFlds_eq]
@[simp] theorem loamErases_setFlds (s : State) (l : List (Field × Nat)) : (s.setFlds l).loamErases = s.loamErases := by rw [setFlds_eq]
@[simp] theorem loamSpares_setFlds (s : State) (l : List (Field × Nat)) : (s.setFlds l).loamSpares = s.loamSpares := by rw [setFlds_eq]
@[simp] theorem loamMarked_setFlds (s : State) (l : List (Field × Nat)) : (s.setFlds l).loamMarked = s.loamMarked := by rw [setFlds_eq]
@[simp] theorem loamWorn_setFlds (s : State) (l : List (Field × Nat)) : (s.setFlds l).loamWorn = s.loamWorn := by rw [setFlds_eq]
@[simp] theorem loamMapped_setFlds (s : State) (l : List (Field × Nat)) : (s.setFlds l).loamMapped = s.loamMapped := by rw [setFlds_eq]
@[simp] theorem priv_setFlds (s : State) (l : List (Field × Nat)) : (s.setFlds l).priv = s.priv := by rw [setFlds_eq]
@[simp] theorem keySlots_setFlds (s : State) (l : List (Field × Nat)) : (s.setFlds l).keySlots = s.keySlots := by rw [setFlds_eq]
@[simp] theorem keysDerived_setFlds (s : State) (l : List (Field × Nat)) : (s.setFlds l).keysDerived = s.keysDerived := by rw [setFlds_eq]
@[simp] theorem keyUpd_setFlds (s : State) (l : List (Field × Nat)) : (s.setFlds l).keyUpd = s.keyUpd := by rw [setFlds_eq]
@[simp] theorem counterWrites_setFlds (s : State) (l : List (Field × Nat)) : (s.setFlds l).counterWrites = s.counterWrites := by rw [setFlds_eq]
@[simp] theorem cphRuns_setFlds (s : State) (l : List (Field × Nat)) : (s.setFlds l).cphRuns = s.cphRuns := by rw [setFlds_eq]
@[simp] theorem msix_setFlds (s : State) (l : List (Field × Nat)) : (s.setFlds l).msix = s.msix := by rw [setFlds_eq]
@[simp] theorem msixEnable_setFlds (s : State) (l : List (Field × Nat)) : (s.setFlds l).msixEnable = s.msixEnable := by rw [setFlds_eq]
@[simp] theorem msixMask_setFlds (s : State) (l : List (Field × Nat)) : (s.setFlds l).msixMask = s.msixMask := by rw [setFlds_eq]
@[simp] theorem held_setFlds (s : State) (l : List (Field × Nat)) : (s.setFlds l).held = s.held := by rw [setFlds_eq]
@[simp] theorem modCount_setFlds (s : State) (l : List (Field × Nat)) : (s.setFlds l).modCount = s.modCount := by rw [setFlds_eq]
@[simp] theorem modDue_setFlds (s : State) (l : List (Field × Nat)) : (s.setFlds l).modDue = s.modDue := by rw [setFlds_eq]
@[simp] theorem upd_setFlds (s : State) (l : List (Field × Nat)) : (s.setFlds l).upd = s.upd := by rw [setFlds_eq]
@[simp] theorem hif_setFlds (s : State) (l : List (Field × Nat)) : (s.setFlds l).hif = s.hif := by rw [setFlds_eq]
@[simp] theorem snp_setFlds (s : State) (l : List (Field × Nat)) : (s.setFlds l).snp = s.snp := by rw [setFlds_eq]

/-! ### bumpBy -/

theorem bumpBy_eq (s : State) (f : Field) (n : Nat) : s.bumpBy f n = { s with regs := (s.bumpBy f n).regs } := by
  unfold State.bumpBy
  split <;> rfl

@[simp] theorem pending_bumpBy (s : State) (f : Field) (n : Nat) : (s.bumpBy f n).pending = s.pending := by rw [bumpBy_eq]
@[simp] theorem part_bumpBy (s : State) (f : Field) (n : Nat) : (s.bumpBy f n).part = s.part := by rw [bumpBy_eq]
@[simp] theorem venue_bumpBy (s : State) (f : Field) (n : Nat) : (s.bumpBy f n).venue = s.venue := by rw [bumpBy_eq]
@[simp] theorem thirds_bumpBy (s : State) (f : Field) (n : Nat) : (s.bumpBy f n).thirds = s.thirds := by rw [bumpBy_eq]
@[simp] theorem events_bumpBy (s : State) (f : Field) (n : Nat) : (s.bumpBy f n).events = s.events := by rw [bumpBy_eq]
@[simp] theorem out_bumpBy (s : State) (f : Field) (n : Nat) : (s.bumpBy f n).out = s.out := by rw [bumpBy_eq]
@[simp] theorem busData_bumpBy (s : State) (f : Field) (n : Nat) : (s.bumpBy f n).busData = s.busData := by rw [bumpBy_eq]
@[simp] theorem busResult_bumpBy (s : State) (f : Field) (n : Nat) : (s.bumpBy f n).busResult = s.busResult := by rw [bumpBy_eq]
@[simp] theorem free_bumpBy (s : State) (f : Field) (n : Nat) : (s.bumpBy f n).free = s.free := by rw [bumpBy_eq]
@[simp] theorem latches_bumpBy (s : State) (f : Field) (n : Nat) : (s.bumpBy f n).latches = s.latches := by rw [bumpBy_eq]
@[simp] theorem planeA_bumpBy (s : State) (f : Field) (n : Nat) : (s.bumpBy f n).planeA = s.planeA := by rw [bumpBy_eq]
@[simp] theorem planeB_bumpBy (s : State) (f : Field) (n : Nat) : (s.bumpBy f n).planeB = s.planeB := by rw [bumpBy_eq]
@[simp] theorem ref_bumpBy (s : State) (f : Field) (n : Nat) : (s.bumpBy f n).ref = s.ref := by rw [bumpBy_eq]
@[simp] theorem cut_bumpBy (s : State) (f : Field) (n : Nat) : (s.bumpBy f n).cut = s.cut := by rw [bumpBy_eq]
@[simp] theorem swapReq_bumpBy (s : State) (f : Field) (n : Nat) : (s.bumpBy f n).swapReq = s.swapReq := by rw [bumpBy_eq]
@[simp] theorem swapWait_bumpBy (s : State) (f : Field) (n : Nat) : (s.bumpBy f n).swapWait = s.swapWait := by rw [bumpBy_eq]
@[simp] theorem swapCut_bumpBy (s : State) (f : Field) (n : Nat) : (s.bumpBy f n).swapCut = s.swapCut := by rw [bumpBy_eq]
@[simp] theorem swapFail_bumpBy (s : State) (f : Field) (n : Nat) : (s.bumpBy f n).swapFail = s.swapFail := by rw [bumpBy_eq]
@[simp] theorem lastOrder_bumpBy (s : State) (f : Field) (n : Nat) : (s.bumpBy f n).lastOrder = s.lastOrder := by rw [bumpBy_eq]
@[simp] theorem cfg_bumpBy (s : State) (f : Field) (n : Nat) : (s.bumpBy f n).cfg = s.cfg := by rw [bumpBy_eq]
@[simp] theorem ports_bumpBy (s : State) (f : Field) (n : Nat) : (s.bumpBy f n).ports = s.ports := by rw [bumpBy_eq]
@[simp] theorem kept_bumpBy (s : State) (f : Field) (n : Nat) : (s.bumpBy f n).kept = s.kept := by rw [bumpBy_eq]
@[simp] theorem mirrorAt_bumpBy (s : State) (f : Field) (n : Nat) : (s.bumpBy f n).mirrorAt = s.mirrorAt := by rw [bumpBy_eq]
@[simp] theorem updTo_bumpBy (s : State) (f : Field) (n : Nat) : (s.bumpBy f n).updTo = s.updTo := by rw [bumpBy_eq]
@[simp] theorem syns_bumpBy (s : State) (f : Field) (n : Nat) : (s.bumpBy f n).syns = s.syns := by rw [bumpBy_eq]
@[simp] theorem loRetune_bumpBy (s : State) (f : Field) (n : Nat) : (s.bumpBy f n).loRetune = s.loRetune := by rw [bumpBy_eq]
@[simp] theorem loWaiting_bumpBy (s : State) (f : Field) (n : Nat) : (s.bumpBy f n).loWaiting = s.loWaiting := by rw [bumpBy_eq]
@[simp] theorem uptime_bumpBy (s : State) (f : Field) (n : Nat) : (s.bumpBy f n).uptime = s.uptime := by rw [bumpBy_eq]
@[simp] theorem groups_bumpBy (s : State) (f : Field) (n : Nat) : (s.bumpBy f n).groups = s.groups := by rw [bumpBy_eq]
@[simp] theorem rxLanes_bumpBy (s : State) (f : Field) (n : Nat) : (s.bumpBy f n).rxLanes = s.rxLanes := by rw [bumpBy_eq]
@[simp] theorem blanks_bumpBy (s : State) (f : Field) (n : Nat) : (s.bumpBy f n).blanks = s.blanks := by rw [bumpBy_eq]
@[simp] theorem deafTo_bumpBy (s : State) (f : Field) (n : Nat) : (s.bumpBy f n).deafTo = s.deafTo := by rw [bumpBy_eq]
@[simp] theorem deafMap_bumpBy (s : State) (f : Field) (n : Nat) : (s.bumpBy f n).deafMap = s.deafMap := by rw [bumpBy_eq]
@[simp] theorem cancels_bumpBy (s : State) (f : Field) (n : Nat) : (s.bumpBy f n).cancels = s.cancels := by rw [bumpBy_eq]
@[simp] theorem pairs_bumpBy (s : State) (f : Field) (n : Nat) : (s.bumpBy f n).pairs = s.pairs := by rw [bumpBy_eq]
@[simp] theorem gainAt_bumpBy (s : State) (f : Field) (n : Nat) : (s.bumpBy f n).gainAt = s.gainAt := by rw [bumpBy_eq]
@[simp] theorem bsetSweep_bumpBy (s : State) (f : Field) (n : Nat) : (s.bumpBy f n).bsetSweep = s.bsetSweep := by rw [bumpBy_eq]
@[simp] theorem sigAll_bumpBy (s : State) (f : Field) (n : Nat) : (s.bumpBy f n).sigAll = s.sigAll := by rw [bumpBy_eq]
@[simp] theorem frames_bumpBy (s : State) (f : Field) (n : Nat) : (s.bumpBy f n).frames = s.frames := by rw [bumpBy_eq]
@[simp] theorem bufUsed_bumpBy (s : State) (f : Field) (n : Nat) : (s.bumpBy f n).bufUsed = s.bufUsed := by rw [bumpBy_eq]
@[simp] theorem rsv_bumpBy (s : State) (f : Field) (n : Nat) : (s.bumpBy f n).rsv = s.rsv := by rw [bumpBy_eq]
@[simp] theorem persistOut_bumpBy (s : State) (f : Field) (n : Nat) : (s.bumpBy f n).persistOut = s.persistOut := by rw [bumpBy_eq]
@[simp] theorem reqs_bumpBy (s : State) (f : Field) (n : Nat) : (s.bumpBy f n).reqs = s.reqs := by rw [bumpBy_eq]
@[simp] theorem reqNext_bumpBy (s : State) (f : Field) (n : Nat) : (s.bumpBy f n).reqNext = s.reqNext := by rw [bumpBy_eq]
@[simp] theorem txLanes_bumpBy (s : State) (f : Field) (n : Nat) : (s.bumpBy f n).txLanes = s.txLanes := by rw [bumpBy_eq]
@[simp] theorem outs_bumpBy (s : State) (f : Field) (n : Nat) : (s.bumpBy f n).outs = s.outs := by rw [bumpBy_eq]
@[simp] theorem duty_bumpBy (s : State) (f : Field) (n : Nat) : (s.bumpBy f n).duty = s.duty := by rw [bumpBy_eq]
@[simp] theorem dutyRestored_bumpBy (s : State) (f : Field) (n : Nat) : (s.bumpBy f n).dutyRestored = s.dutyRestored := by rw [bumpBy_eq]
@[simp] theorem hopOcc_bumpBy (s : State) (f : Field) (n : Nat) : (s.bumpBy f n).hopOcc = s.hopOcc := by rw [bumpBy_eq]
@[simp] theorem killUntil_bumpBy (s : State) (f : Field) (n : Nat) : (s.bumpBy f n).killUntil = s.killUntil := by rw [bumpBy_eq]
@[simp] theorem relays_bumpBy (s : State) (f : Field) (n : Nat) : (s.bumpBy f n).relays = s.relays := by rw [bumpBy_eq]
@[simp] theorem importAsked_bumpBy (s : State) (f : Field) (n : Nat) : (s.bumpBy f n).importAsked = s.importAsked := by rw [bumpBy_eq]
@[simp] theorem importEnds_bumpBy (s : State) (f : Field) (n : Nat) : (s.bumpBy f n).importEnds = s.importEnds := by rw [bumpBy_eq]
@[simp] theorem importAnswers_bumpBy (s : State) (f : Field) (n : Nat) : (s.bumpBy f n).importAnswers = s.importAnswers := by rw [bumpBy_eq]
@[simp] theorem remoteDets_bumpBy (s : State) (f : Field) (n : Nat) : (s.bumpBy f n).remoteDets = s.remoteDets := by rw [bumpBy_eq]
@[simp] theorem contribs_bumpBy (s : State) (f : Field) (n : Nat) : (s.bumpBy f n).contribs = s.contribs := by rw [bumpBy_eq]
@[simp] theorem jointParts_bumpBy (s : State) (f : Field) (n : Nat) : (s.bumpBy f n).jointParts = s.jointParts := by rw [bumpBy_eq]
@[simp] theorem stk_bumpBy (s : State) (f : Field) (n : Nat) : (s.bumpBy f n).stk = s.stk := by rw [bumpBy_eq]
@[simp] theorem vfb_bumpBy (s : State) (f : Field) (n : Nat) : (s.bumpBy f n).vfb = s.vfb := by rw [bumpBy_eq]
@[simp] theorem fseqSeen_bumpBy (s : State) (f : Field) (n : Nat) : (s.bumpBy f n).fseqSeen = s.fseqSeen := by rw [bumpBy_eq]
@[simp] theorem restartDue_bumpBy (s : State) (f : Field) (n : Nat) : (s.bumpBy f n).restartDue = s.restartDue := by rw [bumpBy_eq]
@[simp] theorem engs_bumpBy (s : State) (f : Field) (n : Nat) : (s.bumpBy f n).engs = s.engs := by rw [bumpBy_eq]
@[simp] theorem srl_bumpBy (s : State) (f : Field) (n : Nat) : (s.bumpBy f n).srl = s.srl := by rw [bumpBy_eq]
@[simp] theorem reloadAt_bumpBy (s : State) (f : Field) (n : Nat) : (s.bumpBy f n).reloadAt = s.reloadAt := by rw [bumpBy_eq]
@[simp] theorem upsets_bumpBy (s : State) (f : Field) (n : Nat) : (s.bumpBy f n).upsets = s.upsets := by rw [bumpBy_eq]
@[simp] theorem evt_bumpBy (s : State) (f : Field) (n : Nat) : (s.bumpBy f n).evt = s.evt := by rw [bumpBy_eq]
@[simp] theorem mbxSends_bumpBy (s : State) (f : Field) (n : Nat) : (s.bumpBy f n).mbxSends = s.mbxSends := by rw [bumpBy_eq]
@[simp] theorem mbxSeq_bumpBy (s : State) (f : Field) (n : Nat) : (s.bumpBy f n).mbxSeq = s.mbxSeq := by rw [bumpBy_eq]
@[simp] theorem mbxFrags_bumpBy (s : State) (f : Field) (n : Nat) : (s.bumpBy f n).mbxFrags = s.mbxFrags := by rw [bumpBy_eq]
@[simp] theorem tmrPresc_bumpBy (s : State) (f : Field) (n : Nat) : (s.bumpBy f n).tmrPresc = s.tmrPresc := by rw [bumpBy_eq]
@[simp] theorem tmrHops_bumpBy (s : State) (f : Field) (n : Nat) : (s.bumpBy f n).tmrHops = s.tmrHops := by rw [bumpBy_eq]
@[simp] theorem rtcShadow_bumpBy (s : State) (f : Field) (n : Nat) : (s.bumpBy f n).rtcShadow = s.rtcShadow := by rw [bumpBy_eq]
@[simp] theorem rtcFrozenAt_bumpBy (s : State) (f : Field) (n : Nat) : (s.bumpBy f n).rtcFrozenAt = s.rtcFrozenAt := by rw [bumpBy_eq]
@[simp] theorem rtcSecAt_bumpBy (s : State) (f : Field) (n : Nat) : (s.bumpBy f n).rtcSecAt = s.rtcSecAt := by rw [bumpBy_eq]
@[simp] theorem rtcAlarmDue_bumpBy (s : State) (f : Field) (n : Nat) : (s.bumpBy f n).rtcAlarmDue = s.rtcAlarmDue := by rw [bumpBy_eq]
@[simp] theorem phase_bumpBy (s : State) (f : Field) (n : Nat) : (s.bumpBy f n).phase = s.phase := by rw [bumpBy_eq]
@[simp] theorem startStep_bumpBy (s : State) (f : Field) (n : Nat) : (s.bumpBy f n).startStep = s.startStep := by rw [bumpBy_eq]
@[simp] theorem stepRetry_bumpBy (s : State) (f : Field) (n : Nat) : (s.bumpBy f n).stepRetry = s.stepRetry := by rw [bumpBy_eq]
@[simp] theorem draining_bumpBy (s : State) (f : Field) (n : Nat) : (s.bumpBy f n).draining = s.draining := by rw [bumpBy_eq]
@[simp] theorem backupOn_bumpBy (s : State) (f : Field) (n : Nat) : (s.bumpBy f n).backupOn = s.backupOn := by rw [bumpBy_eq]
@[simp] theorem cause_bumpBy (s : State) (f : Field) (n : Nat) : (s.bumpBy f n).cause = s.cause := by rw [bumpBy_eq]
@[simp] theorem resetCount_bumpBy (s : State) (f : Field) (n : Nat) : (s.bumpBy f n).resetCount = s.resetCount := by rw [bumpBy_eq]
@[simp] theorem wakeArmed_bumpBy (s : State) (f : Field) (n : Nat) : (s.bumpBy f n).wakeArmed = s.wakeArmed := by rw [bumpBy_eq]
@[simp] theorem wakeLatch_bumpBy (s : State) (f : Field) (n : Nat) : (s.bumpBy f n).wakeLatch = s.wakeLatch := by rw [bumpBy_eq]
@[simp] theorem dormStep_bumpBy (s : State) (f : Field) (n : Nat) : (s.bumpBy f n).dormStep = s.dormStep := by rw [bumpBy_eq]
@[simp] theorem hwPmbus_bumpBy (s : State) (f : Field) (n : Nat) : (s.bumpBy f n).hwPmbus = s.hwPmbus := by rw [bumpBy_eq]
@[simp] theorem avsTarget_bumpBy (s : State) (f : Field) (n : Nat) : (s.bumpBy f n).avsTarget = s.avsTarget := by rw [bumpBy_eq]
@[simp] theorem avsCalm_bumpBy (s : State) (f : Field) (n : Nat) : (s.bumpBy f n).avsCalm = s.avsCalm := by rw [bumpBy_eq]
@[simp] theorem voltReq_bumpBy (s : State) (f : Field) (n : Nat) : (s.bumpBy f n).voltReq = s.voltReq := by rw [bumpBy_eq]
@[simp] theorem avsDead_bumpBy (s : State) (f : Field) (n : Nat) : (s.bumpBy f n).avsDead = s.avsDead := by rw [bumpBy_eq]
@[simp] theorem detOff_bumpBy (s : State) (f : Field) (n : Nat) : (s.bumpBy f n).detOff = s.detOff := by rw [bumpBy_eq]
@[simp] theorem gated_bumpBy (s : State) (f : Field) (n : Nat) : (s.bumpBy f n).gated = s.gated := by rw [bumpBy_eq]
@[simp] theorem wdtAt_bumpBy (s : State) (f : Field) (n : Nat) : (s.bumpBy f n).wdtAt = s.wdtAt := by rw [bumpBy_eq]
@[simp] theorem hotFired_bumpBy (s : State) (f : Field) (n : Nat) : (s.bumpBy f n).hotFired = s.hotFired := by rw [bumpBy_eq]
@[simp] theorem hotNow_bumpBy (s : State) (f : Field) (n : Nat) : (s.bumpBy f n).hotNow = s.hotNow := by rw [bumpBy_eq]
@[simp] theorem delays_bumpBy (s : State) (f : Field) (n : Nat) : (s.bumpBy f n).delays = s.delays := by rw [bumpBy_eq]
@[simp] theorem flash_bumpBy (s : State) (f : Field) (n : Nat) : (s.bumpBy f n).flash = s.flash := by rw [bumpBy_eq]
@[simp] theorem flashCells_bumpBy (s : State) (f : Field) (n : Nat) : (s.bumpBy f n).flashCells = s.flashCells := by rw [bumpBy_eq]
@[simp] theorem flashDead_bumpBy (s : State) (f : Field) (n : Nat) : (s.bumpBy f n).flashDead = s.flashDead := by rw [bumpBy_eq]
@[simp] theorem flcQueue_bumpBy (s : State) (f : Field) (n : Nat) : (s.bumpBy f n).flcQueue = s.flcQueue := by rw [bumpBy_eq]
@[simp] theorem flcRun_bumpBy (s : State) (f : Field) (n : Nat) : (s.bumpBy f n).flcRun = s.flcRun := by rw [bumpBy_eq]
@[simp] theorem loamRings_bumpBy (s : State) (f : Field) (n : Nat) : (s.bumpBy f n).loamRings = s.loamRings := by rw [bumpBy_eq]
@[simp] theorem loamErases_bumpBy (s : State) (f : Field) (n : Nat) : (s.bumpBy f n).loamErases = s.loamErases := by rw [bumpBy_eq]
@[simp] theorem loamSpares_bumpBy (s : State) (f : Field) (n : Nat) : (s.bumpBy f n).loamSpares = s.loamSpares := by rw [bumpBy_eq]
@[simp] theorem loamMarked_bumpBy (s : State) (f : Field) (n : Nat) : (s.bumpBy f n).loamMarked = s.loamMarked := by rw [bumpBy_eq]
@[simp] theorem loamWorn_bumpBy (s : State) (f : Field) (n : Nat) : (s.bumpBy f n).loamWorn = s.loamWorn := by rw [bumpBy_eq]
@[simp] theorem loamMapped_bumpBy (s : State) (f : Field) (n : Nat) : (s.bumpBy f n).loamMapped = s.loamMapped := by rw [bumpBy_eq]
@[simp] theorem priv_bumpBy (s : State) (f : Field) (n : Nat) : (s.bumpBy f n).priv = s.priv := by rw [bumpBy_eq]
@[simp] theorem keySlots_bumpBy (s : State) (f : Field) (n : Nat) : (s.bumpBy f n).keySlots = s.keySlots := by rw [bumpBy_eq]
@[simp] theorem keysDerived_bumpBy (s : State) (f : Field) (n : Nat) : (s.bumpBy f n).keysDerived = s.keysDerived := by rw [bumpBy_eq]
@[simp] theorem keyUpd_bumpBy (s : State) (f : Field) (n : Nat) : (s.bumpBy f n).keyUpd = s.keyUpd := by rw [bumpBy_eq]
@[simp] theorem counterWrites_bumpBy (s : State) (f : Field) (n : Nat) : (s.bumpBy f n).counterWrites = s.counterWrites := by rw [bumpBy_eq]
@[simp] theorem cphRuns_bumpBy (s : State) (f : Field) (n : Nat) : (s.bumpBy f n).cphRuns = s.cphRuns := by rw [bumpBy_eq]
@[simp] theorem msix_bumpBy (s : State) (f : Field) (n : Nat) : (s.bumpBy f n).msix = s.msix := by rw [bumpBy_eq]
@[simp] theorem msixEnable_bumpBy (s : State) (f : Field) (n : Nat) : (s.bumpBy f n).msixEnable = s.msixEnable := by rw [bumpBy_eq]
@[simp] theorem msixMask_bumpBy (s : State) (f : Field) (n : Nat) : (s.bumpBy f n).msixMask = s.msixMask := by rw [bumpBy_eq]
@[simp] theorem held_bumpBy (s : State) (f : Field) (n : Nat) : (s.bumpBy f n).held = s.held := by rw [bumpBy_eq]
@[simp] theorem modCount_bumpBy (s : State) (f : Field) (n : Nat) : (s.bumpBy f n).modCount = s.modCount := by rw [bumpBy_eq]
@[simp] theorem modDue_bumpBy (s : State) (f : Field) (n : Nat) : (s.bumpBy f n).modDue = s.modDue := by rw [bumpBy_eq]
@[simp] theorem upd_bumpBy (s : State) (f : Field) (n : Nat) : (s.bumpBy f n).upd = s.upd := by rw [bumpBy_eq]
@[simp] theorem hif_bumpBy (s : State) (f : Field) (n : Nat) : (s.bumpBy f n).hif = s.hif := by rw [bumpBy_eq]
@[simp] theorem snp_bumpBy (s : State) (f : Field) (n : Nat) : (s.bumpBy f n).snp = s.snp := by rw [bumpBy_eq]

/-! ### bump -/

theorem bump_eq (s : State) (f : Field) : s.bump f = { s with regs := (s.bump f).regs } := bumpBy_eq s f 1

@[simp] theorem pending_bump (s : State) (f : Field) : (s.bump f).pending = s.pending := by rw [bump_eq]
@[simp] theorem part_bump (s : State) (f : Field) : (s.bump f).part = s.part := by rw [bump_eq]
@[simp] theorem venue_bump (s : State) (f : Field) : (s.bump f).venue = s.venue := by rw [bump_eq]
@[simp] theorem thirds_bump (s : State) (f : Field) : (s.bump f).thirds = s.thirds := by rw [bump_eq]
@[simp] theorem events_bump (s : State) (f : Field) : (s.bump f).events = s.events := by rw [bump_eq]
@[simp] theorem out_bump (s : State) (f : Field) : (s.bump f).out = s.out := by rw [bump_eq]
@[simp] theorem busData_bump (s : State) (f : Field) : (s.bump f).busData = s.busData := by rw [bump_eq]
@[simp] theorem busResult_bump (s : State) (f : Field) : (s.bump f).busResult = s.busResult := by rw [bump_eq]
@[simp] theorem free_bump (s : State) (f : Field) : (s.bump f).free = s.free := by rw [bump_eq]
@[simp] theorem latches_bump (s : State) (f : Field) : (s.bump f).latches = s.latches := by rw [bump_eq]
@[simp] theorem planeA_bump (s : State) (f : Field) : (s.bump f).planeA = s.planeA := by rw [bump_eq]
@[simp] theorem planeB_bump (s : State) (f : Field) : (s.bump f).planeB = s.planeB := by rw [bump_eq]
@[simp] theorem ref_bump (s : State) (f : Field) : (s.bump f).ref = s.ref := by rw [bump_eq]
@[simp] theorem cut_bump (s : State) (f : Field) : (s.bump f).cut = s.cut := by rw [bump_eq]
@[simp] theorem swapReq_bump (s : State) (f : Field) : (s.bump f).swapReq = s.swapReq := by rw [bump_eq]
@[simp] theorem swapWait_bump (s : State) (f : Field) : (s.bump f).swapWait = s.swapWait := by rw [bump_eq]
@[simp] theorem swapCut_bump (s : State) (f : Field) : (s.bump f).swapCut = s.swapCut := by rw [bump_eq]
@[simp] theorem swapFail_bump (s : State) (f : Field) : (s.bump f).swapFail = s.swapFail := by rw [bump_eq]
@[simp] theorem lastOrder_bump (s : State) (f : Field) : (s.bump f).lastOrder = s.lastOrder := by rw [bump_eq]
@[simp] theorem cfg_bump (s : State) (f : Field) : (s.bump f).cfg = s.cfg := by rw [bump_eq]
@[simp] theorem ports_bump (s : State) (f : Field) : (s.bump f).ports = s.ports := by rw [bump_eq]
@[simp] theorem kept_bump (s : State) (f : Field) : (s.bump f).kept = s.kept := by rw [bump_eq]
@[simp] theorem mirrorAt_bump (s : State) (f : Field) : (s.bump f).mirrorAt = s.mirrorAt := by rw [bump_eq]
@[simp] theorem updTo_bump (s : State) (f : Field) : (s.bump f).updTo = s.updTo := by rw [bump_eq]
@[simp] theorem syns_bump (s : State) (f : Field) : (s.bump f).syns = s.syns := by rw [bump_eq]
@[simp] theorem loRetune_bump (s : State) (f : Field) : (s.bump f).loRetune = s.loRetune := by rw [bump_eq]
@[simp] theorem loWaiting_bump (s : State) (f : Field) : (s.bump f).loWaiting = s.loWaiting := by rw [bump_eq]
@[simp] theorem uptime_bump (s : State) (f : Field) : (s.bump f).uptime = s.uptime := by rw [bump_eq]
@[simp] theorem groups_bump (s : State) (f : Field) : (s.bump f).groups = s.groups := by rw [bump_eq]
@[simp] theorem rxLanes_bump (s : State) (f : Field) : (s.bump f).rxLanes = s.rxLanes := by rw [bump_eq]
@[simp] theorem blanks_bump (s : State) (f : Field) : (s.bump f).blanks = s.blanks := by rw [bump_eq]
@[simp] theorem deafTo_bump (s : State) (f : Field) : (s.bump f).deafTo = s.deafTo := by rw [bump_eq]
@[simp] theorem deafMap_bump (s : State) (f : Field) : (s.bump f).deafMap = s.deafMap := by rw [bump_eq]
@[simp] theorem cancels_bump (s : State) (f : Field) : (s.bump f).cancels = s.cancels := by rw [bump_eq]
@[simp] theorem pairs_bump (s : State) (f : Field) : (s.bump f).pairs = s.pairs := by rw [bump_eq]
@[simp] theorem gainAt_bump (s : State) (f : Field) : (s.bump f).gainAt = s.gainAt := by rw [bump_eq]
@[simp] theorem bsetSweep_bump (s : State) (f : Field) : (s.bump f).bsetSweep = s.bsetSweep := by rw [bump_eq]
@[simp] theorem sigAll_bump (s : State) (f : Field) : (s.bump f).sigAll = s.sigAll := by rw [bump_eq]
@[simp] theorem frames_bump (s : State) (f : Field) : (s.bump f).frames = s.frames := by rw [bump_eq]
@[simp] theorem bufUsed_bump (s : State) (f : Field) : (s.bump f).bufUsed = s.bufUsed := by rw [bump_eq]
@[simp] theorem rsv_bump (s : State) (f : Field) : (s.bump f).rsv = s.rsv := by rw [bump_eq]
@[simp] theorem persistOut_bump (s : State) (f : Field) : (s.bump f).persistOut = s.persistOut := by rw [bump_eq]
@[simp] theorem reqs_bump (s : State) (f : Field) : (s.bump f).reqs = s.reqs := by rw [bump_eq]
@[simp] theorem reqNext_bump (s : State) (f : Field) : (s.bump f).reqNext = s.reqNext := by rw [bump_eq]
@[simp] theorem txLanes_bump (s : State) (f : Field) : (s.bump f).txLanes = s.txLanes := by rw [bump_eq]
@[simp] theorem outs_bump (s : State) (f : Field) : (s.bump f).outs = s.outs := by rw [bump_eq]
@[simp] theorem duty_bump (s : State) (f : Field) : (s.bump f).duty = s.duty := by rw [bump_eq]
@[simp] theorem dutyRestored_bump (s : State) (f : Field) : (s.bump f).dutyRestored = s.dutyRestored := by rw [bump_eq]
@[simp] theorem hopOcc_bump (s : State) (f : Field) : (s.bump f).hopOcc = s.hopOcc := by rw [bump_eq]
@[simp] theorem killUntil_bump (s : State) (f : Field) : (s.bump f).killUntil = s.killUntil := by rw [bump_eq]
@[simp] theorem relays_bump (s : State) (f : Field) : (s.bump f).relays = s.relays := by rw [bump_eq]
@[simp] theorem importAsked_bump (s : State) (f : Field) : (s.bump f).importAsked = s.importAsked := by rw [bump_eq]
@[simp] theorem importEnds_bump (s : State) (f : Field) : (s.bump f).importEnds = s.importEnds := by rw [bump_eq]
@[simp] theorem importAnswers_bump (s : State) (f : Field) : (s.bump f).importAnswers = s.importAnswers := by rw [bump_eq]
@[simp] theorem remoteDets_bump (s : State) (f : Field) : (s.bump f).remoteDets = s.remoteDets := by rw [bump_eq]
@[simp] theorem contribs_bump (s : State) (f : Field) : (s.bump f).contribs = s.contribs := by rw [bump_eq]
@[simp] theorem jointParts_bump (s : State) (f : Field) : (s.bump f).jointParts = s.jointParts := by rw [bump_eq]
@[simp] theorem stk_bump (s : State) (f : Field) : (s.bump f).stk = s.stk := by rw [bump_eq]
@[simp] theorem vfb_bump (s : State) (f : Field) : (s.bump f).vfb = s.vfb := by rw [bump_eq]
@[simp] theorem fseqSeen_bump (s : State) (f : Field) : (s.bump f).fseqSeen = s.fseqSeen := by rw [bump_eq]
@[simp] theorem restartDue_bump (s : State) (f : Field) : (s.bump f).restartDue = s.restartDue := by rw [bump_eq]
@[simp] theorem engs_bump (s : State) (f : Field) : (s.bump f).engs = s.engs := by rw [bump_eq]
@[simp] theorem srl_bump (s : State) (f : Field) : (s.bump f).srl = s.srl := by rw [bump_eq]
@[simp] theorem reloadAt_bump (s : State) (f : Field) : (s.bump f).reloadAt = s.reloadAt := by rw [bump_eq]
@[simp] theorem upsets_bump (s : State) (f : Field) : (s.bump f).upsets = s.upsets := by rw [bump_eq]
@[simp] theorem evt_bump (s : State) (f : Field) : (s.bump f).evt = s.evt := by rw [bump_eq]
@[simp] theorem mbxSends_bump (s : State) (f : Field) : (s.bump f).mbxSends = s.mbxSends := by rw [bump_eq]
@[simp] theorem mbxSeq_bump (s : State) (f : Field) : (s.bump f).mbxSeq = s.mbxSeq := by rw [bump_eq]
@[simp] theorem mbxFrags_bump (s : State) (f : Field) : (s.bump f).mbxFrags = s.mbxFrags := by rw [bump_eq]
@[simp] theorem tmrPresc_bump (s : State) (f : Field) : (s.bump f).tmrPresc = s.tmrPresc := by rw [bump_eq]
@[simp] theorem tmrHops_bump (s : State) (f : Field) : (s.bump f).tmrHops = s.tmrHops := by rw [bump_eq]
@[simp] theorem rtcShadow_bump (s : State) (f : Field) : (s.bump f).rtcShadow = s.rtcShadow := by rw [bump_eq]
@[simp] theorem rtcFrozenAt_bump (s : State) (f : Field) : (s.bump f).rtcFrozenAt = s.rtcFrozenAt := by rw [bump_eq]
@[simp] theorem rtcSecAt_bump (s : State) (f : Field) : (s.bump f).rtcSecAt = s.rtcSecAt := by rw [bump_eq]
@[simp] theorem rtcAlarmDue_bump (s : State) (f : Field) : (s.bump f).rtcAlarmDue = s.rtcAlarmDue := by rw [bump_eq]
@[simp] theorem phase_bump (s : State) (f : Field) : (s.bump f).phase = s.phase := by rw [bump_eq]
@[simp] theorem startStep_bump (s : State) (f : Field) : (s.bump f).startStep = s.startStep := by rw [bump_eq]
@[simp] theorem stepRetry_bump (s : State) (f : Field) : (s.bump f).stepRetry = s.stepRetry := by rw [bump_eq]
@[simp] theorem draining_bump (s : State) (f : Field) : (s.bump f).draining = s.draining := by rw [bump_eq]
@[simp] theorem backupOn_bump (s : State) (f : Field) : (s.bump f).backupOn = s.backupOn := by rw [bump_eq]
@[simp] theorem cause_bump (s : State) (f : Field) : (s.bump f).cause = s.cause := by rw [bump_eq]
@[simp] theorem resetCount_bump (s : State) (f : Field) : (s.bump f).resetCount = s.resetCount := by rw [bump_eq]
@[simp] theorem wakeArmed_bump (s : State) (f : Field) : (s.bump f).wakeArmed = s.wakeArmed := by rw [bump_eq]
@[simp] theorem wakeLatch_bump (s : State) (f : Field) : (s.bump f).wakeLatch = s.wakeLatch := by rw [bump_eq]
@[simp] theorem dormStep_bump (s : State) (f : Field) : (s.bump f).dormStep = s.dormStep := by rw [bump_eq]
@[simp] theorem hwPmbus_bump (s : State) (f : Field) : (s.bump f).hwPmbus = s.hwPmbus := by rw [bump_eq]
@[simp] theorem avsTarget_bump (s : State) (f : Field) : (s.bump f).avsTarget = s.avsTarget := by rw [bump_eq]
@[simp] theorem avsCalm_bump (s : State) (f : Field) : (s.bump f).avsCalm = s.avsCalm := by rw [bump_eq]
@[simp] theorem voltReq_bump (s : State) (f : Field) : (s.bump f).voltReq = s.voltReq := by rw [bump_eq]
@[simp] theorem avsDead_bump (s : State) (f : Field) : (s.bump f).avsDead = s.avsDead := by rw [bump_eq]
@[simp] theorem detOff_bump (s : State) (f : Field) : (s.bump f).detOff = s.detOff := by rw [bump_eq]
@[simp] theorem gated_bump (s : State) (f : Field) : (s.bump f).gated = s.gated := by rw [bump_eq]
@[simp] theorem wdtAt_bump (s : State) (f : Field) : (s.bump f).wdtAt = s.wdtAt := by rw [bump_eq]
@[simp] theorem hotFired_bump (s : State) (f : Field) : (s.bump f).hotFired = s.hotFired := by rw [bump_eq]
@[simp] theorem hotNow_bump (s : State) (f : Field) : (s.bump f).hotNow = s.hotNow := by rw [bump_eq]
@[simp] theorem delays_bump (s : State) (f : Field) : (s.bump f).delays = s.delays := by rw [bump_eq]
@[simp] theorem flash_bump (s : State) (f : Field) : (s.bump f).flash = s.flash := by rw [bump_eq]
@[simp] theorem flashCells_bump (s : State) (f : Field) : (s.bump f).flashCells = s.flashCells := by rw [bump_eq]
@[simp] theorem flashDead_bump (s : State) (f : Field) : (s.bump f).flashDead = s.flashDead := by rw [bump_eq]
@[simp] theorem flcQueue_bump (s : State) (f : Field) : (s.bump f).flcQueue = s.flcQueue := by rw [bump_eq]
@[simp] theorem flcRun_bump (s : State) (f : Field) : (s.bump f).flcRun = s.flcRun := by rw [bump_eq]
@[simp] theorem loamRings_bump (s : State) (f : Field) : (s.bump f).loamRings = s.loamRings := by rw [bump_eq]
@[simp] theorem loamErases_bump (s : State) (f : Field) : (s.bump f).loamErases = s.loamErases := by rw [bump_eq]
@[simp] theorem loamSpares_bump (s : State) (f : Field) : (s.bump f).loamSpares = s.loamSpares := by rw [bump_eq]
@[simp] theorem loamMarked_bump (s : State) (f : Field) : (s.bump f).loamMarked = s.loamMarked := by rw [bump_eq]
@[simp] theorem loamWorn_bump (s : State) (f : Field) : (s.bump f).loamWorn = s.loamWorn := by rw [bump_eq]
@[simp] theorem loamMapped_bump (s : State) (f : Field) : (s.bump f).loamMapped = s.loamMapped := by rw [bump_eq]
@[simp] theorem priv_bump (s : State) (f : Field) : (s.bump f).priv = s.priv := by rw [bump_eq]
@[simp] theorem keySlots_bump (s : State) (f : Field) : (s.bump f).keySlots = s.keySlots := by rw [bump_eq]
@[simp] theorem keysDerived_bump (s : State) (f : Field) : (s.bump f).keysDerived = s.keysDerived := by rw [bump_eq]
@[simp] theorem keyUpd_bump (s : State) (f : Field) : (s.bump f).keyUpd = s.keyUpd := by rw [bump_eq]
@[simp] theorem counterWrites_bump (s : State) (f : Field) : (s.bump f).counterWrites = s.counterWrites := by rw [bump_eq]
@[simp] theorem cphRuns_bump (s : State) (f : Field) : (s.bump f).cphRuns = s.cphRuns := by rw [bump_eq]
@[simp] theorem msix_bump (s : State) (f : Field) : (s.bump f).msix = s.msix := by rw [bump_eq]
@[simp] theorem msixEnable_bump (s : State) (f : Field) : (s.bump f).msixEnable = s.msixEnable := by rw [bump_eq]
@[simp] theorem msixMask_bump (s : State) (f : Field) : (s.bump f).msixMask = s.msixMask := by rw [bump_eq]
@[simp] theorem held_bump (s : State) (f : Field) : (s.bump f).held = s.held := by rw [bump_eq]
@[simp] theorem modCount_bump (s : State) (f : Field) : (s.bump f).modCount = s.modCount := by rw [bump_eq]
@[simp] theorem modDue_bump (s : State) (f : Field) : (s.bump f).modDue = s.modDue := by rw [bump_eq]
@[simp] theorem upd_bump (s : State) (f : Field) : (s.bump f).upd = s.upd := by rw [bump_eq]
@[simp] theorem hif_bump (s : State) (f : Field) : (s.bump f).hif = s.hif := by rw [bump_eq]
@[simp] theorem snp_bump (s : State) (f : Field) : (s.bump f).snp = s.snp := by rw [bump_eq]

/-! ### fire -/

@[simp] theorem pending_fire (s : State) (p v : Nat) : (s.fire p v).pending = s.pending := rfl
@[simp] theorem part_fire (s : State) (p v : Nat) : (s.fire p v).part = s.part := rfl
@[simp] theorem regs_fire (s : State) (p v : Nat) : (s.fire p v).regs = s.regs := rfl
@[simp] theorem venue_fire (s : State) (p v : Nat) : (s.fire p v).venue = s.venue := rfl
@[simp] theorem thirds_fire (s : State) (p v : Nat) : (s.fire p v).thirds = s.thirds := rfl
@[simp] theorem out_fire (s : State) (p v : Nat) : (s.fire p v).out = s.out := rfl
@[simp] theorem busData_fire (s : State) (p v : Nat) : (s.fire p v).busData = s.busData := rfl
@[simp] theorem busResult_fire (s : State) (p v : Nat) : (s.fire p v).busResult = s.busResult := rfl
@[simp] theorem free_fire (s : State) (p v : Nat) : (s.fire p v).free = s.free := rfl
@[simp] theorem latches_fire (s : State) (p v : Nat) : (s.fire p v).latches = s.latches := rfl
@[simp] theorem planeA_fire (s : State) (p v : Nat) : (s.fire p v).planeA = s.planeA := rfl
@[simp] theorem planeB_fire (s : State) (p v : Nat) : (s.fire p v).planeB = s.planeB := rfl
@[simp] theorem ref_fire (s : State) (p v : Nat) : (s.fire p v).ref = s.ref := rfl
@[simp] theorem cut_fire (s : State) (p v : Nat) : (s.fire p v).cut = s.cut := rfl
@[simp] theorem swapReq_fire (s : State) (p v : Nat) : (s.fire p v).swapReq = s.swapReq := rfl
@[simp] theorem swapWait_fire (s : State) (p v : Nat) : (s.fire p v).swapWait = s.swapWait := rfl
@[simp] theorem swapCut_fire (s : State) (p v : Nat) : (s.fire p v).swapCut = s.swapCut := rfl
@[simp] theorem swapFail_fire (s : State) (p v : Nat) : (s.fire p v).swapFail = s.swapFail := rfl
@[simp] theorem lastOrder_fire (s : State) (p v : Nat) : (s.fire p v).lastOrder = s.lastOrder := rfl
@[simp] theorem cfg_fire (s : State) (p v : Nat) : (s.fire p v).cfg = s.cfg := rfl
@[simp] theorem ports_fire (s : State) (p v : Nat) : (s.fire p v).ports = s.ports := rfl
@[simp] theorem kept_fire (s : State) (p v : Nat) : (s.fire p v).kept = s.kept := rfl
@[simp] theorem mirrorAt_fire (s : State) (p v : Nat) : (s.fire p v).mirrorAt = s.mirrorAt := rfl
@[simp] theorem updTo_fire (s : State) (p v : Nat) : (s.fire p v).updTo = s.updTo := rfl
@[simp] theorem syns_fire (s : State) (p v : Nat) : (s.fire p v).syns = s.syns := rfl
@[simp] theorem loRetune_fire (s : State) (p v : Nat) : (s.fire p v).loRetune = s.loRetune := rfl
@[simp] theorem loWaiting_fire (s : State) (p v : Nat) : (s.fire p v).loWaiting = s.loWaiting := rfl
@[simp] theorem uptime_fire (s : State) (p v : Nat) : (s.fire p v).uptime = s.uptime := rfl
@[simp] theorem groups_fire (s : State) (p v : Nat) : (s.fire p v).groups = s.groups := rfl
@[simp] theorem rxLanes_fire (s : State) (p v : Nat) : (s.fire p v).rxLanes = s.rxLanes := rfl
@[simp] theorem blanks_fire (s : State) (p v : Nat) : (s.fire p v).blanks = s.blanks := rfl
@[simp] theorem deafTo_fire (s : State) (p v : Nat) : (s.fire p v).deafTo = s.deafTo := rfl
@[simp] theorem deafMap_fire (s : State) (p v : Nat) : (s.fire p v).deafMap = s.deafMap := rfl
@[simp] theorem cancels_fire (s : State) (p v : Nat) : (s.fire p v).cancels = s.cancels := rfl
@[simp] theorem pairs_fire (s : State) (p v : Nat) : (s.fire p v).pairs = s.pairs := rfl
@[simp] theorem gainAt_fire (s : State) (p v : Nat) : (s.fire p v).gainAt = s.gainAt := rfl
@[simp] theorem bsetSweep_fire (s : State) (p v : Nat) : (s.fire p v).bsetSweep = s.bsetSweep := rfl
@[simp] theorem sigAll_fire (s : State) (p v : Nat) : (s.fire p v).sigAll = s.sigAll := rfl
@[simp] theorem frames_fire (s : State) (p v : Nat) : (s.fire p v).frames = s.frames := rfl
@[simp] theorem bufUsed_fire (s : State) (p v : Nat) : (s.fire p v).bufUsed = s.bufUsed := rfl
@[simp] theorem rsv_fire (s : State) (p v : Nat) : (s.fire p v).rsv = s.rsv := rfl
@[simp] theorem persistOut_fire (s : State) (p v : Nat) : (s.fire p v).persistOut = s.persistOut := rfl
@[simp] theorem reqs_fire (s : State) (p v : Nat) : (s.fire p v).reqs = s.reqs := rfl
@[simp] theorem reqNext_fire (s : State) (p v : Nat) : (s.fire p v).reqNext = s.reqNext := rfl
@[simp] theorem txLanes_fire (s : State) (p v : Nat) : (s.fire p v).txLanes = s.txLanes := rfl
@[simp] theorem outs_fire (s : State) (p v : Nat) : (s.fire p v).outs = s.outs := rfl
@[simp] theorem duty_fire (s : State) (p v : Nat) : (s.fire p v).duty = s.duty := rfl
@[simp] theorem dutyRestored_fire (s : State) (p v : Nat) : (s.fire p v).dutyRestored = s.dutyRestored := rfl
@[simp] theorem hopOcc_fire (s : State) (p v : Nat) : (s.fire p v).hopOcc = s.hopOcc := rfl
@[simp] theorem killUntil_fire (s : State) (p v : Nat) : (s.fire p v).killUntil = s.killUntil := rfl
@[simp] theorem relays_fire (s : State) (p v : Nat) : (s.fire p v).relays = s.relays := rfl
@[simp] theorem importAsked_fire (s : State) (p v : Nat) : (s.fire p v).importAsked = s.importAsked := rfl
@[simp] theorem importEnds_fire (s : State) (p v : Nat) : (s.fire p v).importEnds = s.importEnds := rfl
@[simp] theorem importAnswers_fire (s : State) (p v : Nat) : (s.fire p v).importAnswers = s.importAnswers := rfl
@[simp] theorem remoteDets_fire (s : State) (p v : Nat) : (s.fire p v).remoteDets = s.remoteDets := rfl
@[simp] theorem contribs_fire (s : State) (p v : Nat) : (s.fire p v).contribs = s.contribs := rfl
@[simp] theorem jointParts_fire (s : State) (p v : Nat) : (s.fire p v).jointParts = s.jointParts := rfl
@[simp] theorem stk_fire (s : State) (p v : Nat) : (s.fire p v).stk = s.stk := rfl
@[simp] theorem vfb_fire (s : State) (p v : Nat) : (s.fire p v).vfb = s.vfb := rfl
@[simp] theorem fseqSeen_fire (s : State) (p v : Nat) : (s.fire p v).fseqSeen = s.fseqSeen := rfl
@[simp] theorem restartDue_fire (s : State) (p v : Nat) : (s.fire p v).restartDue = s.restartDue := rfl
@[simp] theorem engs_fire (s : State) (p v : Nat) : (s.fire p v).engs = s.engs := rfl
@[simp] theorem srl_fire (s : State) (p v : Nat) : (s.fire p v).srl = s.srl := rfl
@[simp] theorem reloadAt_fire (s : State) (p v : Nat) : (s.fire p v).reloadAt = s.reloadAt := rfl
@[simp] theorem upsets_fire (s : State) (p v : Nat) : (s.fire p v).upsets = s.upsets := rfl
@[simp] theorem evt_fire (s : State) (p v : Nat) : (s.fire p v).evt = s.evt := rfl
@[simp] theorem mbxSends_fire (s : State) (p v : Nat) : (s.fire p v).mbxSends = s.mbxSends := rfl
@[simp] theorem mbxSeq_fire (s : State) (p v : Nat) : (s.fire p v).mbxSeq = s.mbxSeq := rfl
@[simp] theorem mbxFrags_fire (s : State) (p v : Nat) : (s.fire p v).mbxFrags = s.mbxFrags := rfl
@[simp] theorem tmrPresc_fire (s : State) (p v : Nat) : (s.fire p v).tmrPresc = s.tmrPresc := rfl
@[simp] theorem tmrHops_fire (s : State) (p v : Nat) : (s.fire p v).tmrHops = s.tmrHops := rfl
@[simp] theorem rtcShadow_fire (s : State) (p v : Nat) : (s.fire p v).rtcShadow = s.rtcShadow := rfl
@[simp] theorem rtcFrozenAt_fire (s : State) (p v : Nat) : (s.fire p v).rtcFrozenAt = s.rtcFrozenAt := rfl
@[simp] theorem rtcSecAt_fire (s : State) (p v : Nat) : (s.fire p v).rtcSecAt = s.rtcSecAt := rfl
@[simp] theorem rtcAlarmDue_fire (s : State) (p v : Nat) : (s.fire p v).rtcAlarmDue = s.rtcAlarmDue := rfl
@[simp] theorem phase_fire (s : State) (p v : Nat) : (s.fire p v).phase = s.phase := rfl
@[simp] theorem startStep_fire (s : State) (p v : Nat) : (s.fire p v).startStep = s.startStep := rfl
@[simp] theorem stepRetry_fire (s : State) (p v : Nat) : (s.fire p v).stepRetry = s.stepRetry := rfl
@[simp] theorem draining_fire (s : State) (p v : Nat) : (s.fire p v).draining = s.draining := rfl
@[simp] theorem backupOn_fire (s : State) (p v : Nat) : (s.fire p v).backupOn = s.backupOn := rfl
@[simp] theorem cause_fire (s : State) (p v : Nat) : (s.fire p v).cause = s.cause := rfl
@[simp] theorem resetCount_fire (s : State) (p v : Nat) : (s.fire p v).resetCount = s.resetCount := rfl
@[simp] theorem wakeArmed_fire (s : State) (p v : Nat) : (s.fire p v).wakeArmed = s.wakeArmed := rfl
@[simp] theorem wakeLatch_fire (s : State) (p v : Nat) : (s.fire p v).wakeLatch = s.wakeLatch := rfl
@[simp] theorem dormStep_fire (s : State) (p v : Nat) : (s.fire p v).dormStep = s.dormStep := rfl
@[simp] theorem hwPmbus_fire (s : State) (p v : Nat) : (s.fire p v).hwPmbus = s.hwPmbus := rfl
@[simp] theorem avsTarget_fire (s : State) (p v : Nat) : (s.fire p v).avsTarget = s.avsTarget := rfl
@[simp] theorem avsCalm_fire (s : State) (p v : Nat) : (s.fire p v).avsCalm = s.avsCalm := rfl
@[simp] theorem voltReq_fire (s : State) (p v : Nat) : (s.fire p v).voltReq = s.voltReq := rfl
@[simp] theorem avsDead_fire (s : State) (p v : Nat) : (s.fire p v).avsDead = s.avsDead := rfl
@[simp] theorem detOff_fire (s : State) (p v : Nat) : (s.fire p v).detOff = s.detOff := rfl
@[simp] theorem gated_fire (s : State) (p v : Nat) : (s.fire p v).gated = s.gated := rfl
@[simp] theorem wdtAt_fire (s : State) (p v : Nat) : (s.fire p v).wdtAt = s.wdtAt := rfl
@[simp] theorem hotFired_fire (s : State) (p v : Nat) : (s.fire p v).hotFired = s.hotFired := rfl
@[simp] theorem hotNow_fire (s : State) (p v : Nat) : (s.fire p v).hotNow = s.hotNow := rfl
@[simp] theorem delays_fire (s : State) (p v : Nat) : (s.fire p v).delays = s.delays := rfl
@[simp] theorem flash_fire (s : State) (p v : Nat) : (s.fire p v).flash = s.flash := rfl
@[simp] theorem flashCells_fire (s : State) (p v : Nat) : (s.fire p v).flashCells = s.flashCells := rfl
@[simp] theorem flashDead_fire (s : State) (p v : Nat) : (s.fire p v).flashDead = s.flashDead := rfl
@[simp] theorem flcQueue_fire (s : State) (p v : Nat) : (s.fire p v).flcQueue = s.flcQueue := rfl
@[simp] theorem flcRun_fire (s : State) (p v : Nat) : (s.fire p v).flcRun = s.flcRun := rfl
@[simp] theorem loamRings_fire (s : State) (p v : Nat) : (s.fire p v).loamRings = s.loamRings := rfl
@[simp] theorem loamErases_fire (s : State) (p v : Nat) : (s.fire p v).loamErases = s.loamErases := rfl
@[simp] theorem loamSpares_fire (s : State) (p v : Nat) : (s.fire p v).loamSpares = s.loamSpares := rfl
@[simp] theorem loamMarked_fire (s : State) (p v : Nat) : (s.fire p v).loamMarked = s.loamMarked := rfl
@[simp] theorem loamWorn_fire (s : State) (p v : Nat) : (s.fire p v).loamWorn = s.loamWorn := rfl
@[simp] theorem loamMapped_fire (s : State) (p v : Nat) : (s.fire p v).loamMapped = s.loamMapped := rfl
@[simp] theorem priv_fire (s : State) (p v : Nat) : (s.fire p v).priv = s.priv := rfl
@[simp] theorem keySlots_fire (s : State) (p v : Nat) : (s.fire p v).keySlots = s.keySlots := rfl
@[simp] theorem keysDerived_fire (s : State) (p v : Nat) : (s.fire p v).keysDerived = s.keysDerived := rfl
@[simp] theorem keyUpd_fire (s : State) (p v : Nat) : (s.fire p v).keyUpd = s.keyUpd := rfl
@[simp] theorem counterWrites_fire (s : State) (p v : Nat) : (s.fire p v).counterWrites = s.counterWrites := rfl
@[simp] theorem cphRuns_fire (s : State) (p v : Nat) : (s.fire p v).cphRuns = s.cphRuns := rfl
@[simp] theorem msix_fire (s : State) (p v : Nat) : (s.fire p v).msix = s.msix := rfl
@[simp] theorem msixEnable_fire (s : State) (p v : Nat) : (s.fire p v).msixEnable = s.msixEnable := rfl
@[simp] theorem msixMask_fire (s : State) (p v : Nat) : (s.fire p v).msixMask = s.msixMask := rfl
@[simp] theorem held_fire (s : State) (p v : Nat) : (s.fire p v).held = s.held := rfl
@[simp] theorem modCount_fire (s : State) (p v : Nat) : (s.fire p v).modCount = s.modCount := rfl
@[simp] theorem modDue_fire (s : State) (p v : Nat) : (s.fire p v).modDue = s.modDue := rfl
@[simp] theorem upd_fire (s : State) (p v : Nat) : (s.fire p v).upd = s.upd := rfl
@[simp] theorem hif_fire (s : State) (p v : Nat) : (s.fire p v).hif = s.hif := rfl
@[simp] theorem snp_fire (s : State) (p v : Nat) : (s.fire p v).snp = s.snp := rfl

/-! ### emit -/

@[simp] theorem pending_emit (s : State) (k : OutKind) (l : List Nat) (o : List Byte) : (s.emit k l o).pending = s.pending := rfl
@[simp] theorem part_emit (s : State) (k : OutKind) (l : List Nat) (o : List Byte) : (s.emit k l o).part = s.part := rfl
@[simp] theorem regs_emit (s : State) (k : OutKind) (l : List Nat) (o : List Byte) : (s.emit k l o).regs = s.regs := rfl
@[simp] theorem venue_emit (s : State) (k : OutKind) (l : List Nat) (o : List Byte) : (s.emit k l o).venue = s.venue := rfl
@[simp] theorem thirds_emit (s : State) (k : OutKind) (l : List Nat) (o : List Byte) : (s.emit k l o).thirds = s.thirds := rfl
@[simp] theorem events_emit (s : State) (k : OutKind) (l : List Nat) (o : List Byte) : (s.emit k l o).events = s.events := rfl
@[simp] theorem busData_emit (s : State) (k : OutKind) (l : List Nat) (o : List Byte) : (s.emit k l o).busData = s.busData := rfl
@[simp] theorem busResult_emit (s : State) (k : OutKind) (l : List Nat) (o : List Byte) : (s.emit k l o).busResult = s.busResult := rfl
@[simp] theorem free_emit (s : State) (k : OutKind) (l : List Nat) (o : List Byte) : (s.emit k l o).free = s.free := rfl
@[simp] theorem latches_emit (s : State) (k : OutKind) (l : List Nat) (o : List Byte) : (s.emit k l o).latches = s.latches := rfl
@[simp] theorem planeA_emit (s : State) (k : OutKind) (l : List Nat) (o : List Byte) : (s.emit k l o).planeA = s.planeA := rfl
@[simp] theorem planeB_emit (s : State) (k : OutKind) (l : List Nat) (o : List Byte) : (s.emit k l o).planeB = s.planeB := rfl
@[simp] theorem ref_emit (s : State) (k : OutKind) (l : List Nat) (o : List Byte) : (s.emit k l o).ref = s.ref := rfl
@[simp] theorem cut_emit (s : State) (k : OutKind) (l : List Nat) (o : List Byte) : (s.emit k l o).cut = s.cut := rfl
@[simp] theorem swapReq_emit (s : State) (k : OutKind) (l : List Nat) (o : List Byte) : (s.emit k l o).swapReq = s.swapReq := rfl
@[simp] theorem swapWait_emit (s : State) (k : OutKind) (l : List Nat) (o : List Byte) : (s.emit k l o).swapWait = s.swapWait := rfl
@[simp] theorem swapCut_emit (s : State) (k : OutKind) (l : List Nat) (o : List Byte) : (s.emit k l o).swapCut = s.swapCut := rfl
@[simp] theorem swapFail_emit (s : State) (k : OutKind) (l : List Nat) (o : List Byte) : (s.emit k l o).swapFail = s.swapFail := rfl
@[simp] theorem lastOrder_emit (s : State) (k : OutKind) (l : List Nat) (o : List Byte) : (s.emit k l o).lastOrder = s.lastOrder := rfl
@[simp] theorem cfg_emit (s : State) (k : OutKind) (l : List Nat) (o : List Byte) : (s.emit k l o).cfg = s.cfg := rfl
@[simp] theorem ports_emit (s : State) (k : OutKind) (l : List Nat) (o : List Byte) : (s.emit k l o).ports = s.ports := rfl
@[simp] theorem kept_emit (s : State) (k : OutKind) (l : List Nat) (o : List Byte) : (s.emit k l o).kept = s.kept := rfl
@[simp] theorem mirrorAt_emit (s : State) (k : OutKind) (l : List Nat) (o : List Byte) : (s.emit k l o).mirrorAt = s.mirrorAt := rfl
@[simp] theorem updTo_emit (s : State) (k : OutKind) (l : List Nat) (o : List Byte) : (s.emit k l o).updTo = s.updTo := rfl
@[simp] theorem syns_emit (s : State) (k : OutKind) (l : List Nat) (o : List Byte) : (s.emit k l o).syns = s.syns := rfl
@[simp] theorem loRetune_emit (s : State) (k : OutKind) (l : List Nat) (o : List Byte) : (s.emit k l o).loRetune = s.loRetune := rfl
@[simp] theorem loWaiting_emit (s : State) (k : OutKind) (l : List Nat) (o : List Byte) : (s.emit k l o).loWaiting = s.loWaiting := rfl
@[simp] theorem uptime_emit (s : State) (k : OutKind) (l : List Nat) (o : List Byte) : (s.emit k l o).uptime = s.uptime := rfl
@[simp] theorem groups_emit (s : State) (k : OutKind) (l : List Nat) (o : List Byte) : (s.emit k l o).groups = s.groups := rfl
@[simp] theorem rxLanes_emit (s : State) (k : OutKind) (l : List Nat) (o : List Byte) : (s.emit k l o).rxLanes = s.rxLanes := rfl
@[simp] theorem blanks_emit (s : State) (k : OutKind) (l : List Nat) (o : List Byte) : (s.emit k l o).blanks = s.blanks := rfl
@[simp] theorem deafTo_emit (s : State) (k : OutKind) (l : List Nat) (o : List Byte) : (s.emit k l o).deafTo = s.deafTo := rfl
@[simp] theorem deafMap_emit (s : State) (k : OutKind) (l : List Nat) (o : List Byte) : (s.emit k l o).deafMap = s.deafMap := rfl
@[simp] theorem cancels_emit (s : State) (k : OutKind) (l : List Nat) (o : List Byte) : (s.emit k l o).cancels = s.cancels := rfl
@[simp] theorem pairs_emit (s : State) (k : OutKind) (l : List Nat) (o : List Byte) : (s.emit k l o).pairs = s.pairs := rfl
@[simp] theorem gainAt_emit (s : State) (k : OutKind) (l : List Nat) (o : List Byte) : (s.emit k l o).gainAt = s.gainAt := rfl
@[simp] theorem bsetSweep_emit (s : State) (k : OutKind) (l : List Nat) (o : List Byte) : (s.emit k l o).bsetSweep = s.bsetSweep := rfl
@[simp] theorem sigAll_emit (s : State) (k : OutKind) (l : List Nat) (o : List Byte) : (s.emit k l o).sigAll = s.sigAll := rfl
@[simp] theorem frames_emit (s : State) (k : OutKind) (l : List Nat) (o : List Byte) : (s.emit k l o).frames = s.frames := rfl
@[simp] theorem bufUsed_emit (s : State) (k : OutKind) (l : List Nat) (o : List Byte) : (s.emit k l o).bufUsed = s.bufUsed := rfl
@[simp] theorem rsv_emit (s : State) (k : OutKind) (l : List Nat) (o : List Byte) : (s.emit k l o).rsv = s.rsv := rfl
@[simp] theorem persistOut_emit (s : State) (k : OutKind) (l : List Nat) (o : List Byte) : (s.emit k l o).persistOut = s.persistOut := rfl
@[simp] theorem reqs_emit (s : State) (k : OutKind) (l : List Nat) (o : List Byte) : (s.emit k l o).reqs = s.reqs := rfl
@[simp] theorem reqNext_emit (s : State) (k : OutKind) (l : List Nat) (o : List Byte) : (s.emit k l o).reqNext = s.reqNext := rfl
@[simp] theorem txLanes_emit (s : State) (k : OutKind) (l : List Nat) (o : List Byte) : (s.emit k l o).txLanes = s.txLanes := rfl
@[simp] theorem outs_emit (s : State) (k : OutKind) (l : List Nat) (o : List Byte) : (s.emit k l o).outs = s.outs := rfl
@[simp] theorem duty_emit (s : State) (k : OutKind) (l : List Nat) (o : List Byte) : (s.emit k l o).duty = s.duty := rfl
@[simp] theorem dutyRestored_emit (s : State) (k : OutKind) (l : List Nat) (o : List Byte) : (s.emit k l o).dutyRestored = s.dutyRestored := rfl
@[simp] theorem hopOcc_emit (s : State) (k : OutKind) (l : List Nat) (o : List Byte) : (s.emit k l o).hopOcc = s.hopOcc := rfl
@[simp] theorem killUntil_emit (s : State) (k : OutKind) (l : List Nat) (o : List Byte) : (s.emit k l o).killUntil = s.killUntil := rfl
@[simp] theorem relays_emit (s : State) (k : OutKind) (l : List Nat) (o : List Byte) : (s.emit k l o).relays = s.relays := rfl
@[simp] theorem importAsked_emit (s : State) (k : OutKind) (l : List Nat) (o : List Byte) : (s.emit k l o).importAsked = s.importAsked := rfl
@[simp] theorem importEnds_emit (s : State) (k : OutKind) (l : List Nat) (o : List Byte) : (s.emit k l o).importEnds = s.importEnds := rfl
@[simp] theorem importAnswers_emit (s : State) (k : OutKind) (l : List Nat) (o : List Byte) : (s.emit k l o).importAnswers = s.importAnswers := rfl
@[simp] theorem remoteDets_emit (s : State) (k : OutKind) (l : List Nat) (o : List Byte) : (s.emit k l o).remoteDets = s.remoteDets := rfl
@[simp] theorem contribs_emit (s : State) (k : OutKind) (l : List Nat) (o : List Byte) : (s.emit k l o).contribs = s.contribs := rfl
@[simp] theorem jointParts_emit (s : State) (k : OutKind) (l : List Nat) (o : List Byte) : (s.emit k l o).jointParts = s.jointParts := rfl
@[simp] theorem stk_emit (s : State) (k : OutKind) (l : List Nat) (o : List Byte) : (s.emit k l o).stk = s.stk := rfl
@[simp] theorem vfb_emit (s : State) (k : OutKind) (l : List Nat) (o : List Byte) : (s.emit k l o).vfb = s.vfb := rfl
@[simp] theorem fseqSeen_emit (s : State) (k : OutKind) (l : List Nat) (o : List Byte) : (s.emit k l o).fseqSeen = s.fseqSeen := rfl
@[simp] theorem restartDue_emit (s : State) (k : OutKind) (l : List Nat) (o : List Byte) : (s.emit k l o).restartDue = s.restartDue := rfl
@[simp] theorem engs_emit (s : State) (k : OutKind) (l : List Nat) (o : List Byte) : (s.emit k l o).engs = s.engs := rfl
@[simp] theorem srl_emit (s : State) (k : OutKind) (l : List Nat) (o : List Byte) : (s.emit k l o).srl = s.srl := rfl
@[simp] theorem reloadAt_emit (s : State) (k : OutKind) (l : List Nat) (o : List Byte) : (s.emit k l o).reloadAt = s.reloadAt := rfl
@[simp] theorem upsets_emit (s : State) (k : OutKind) (l : List Nat) (o : List Byte) : (s.emit k l o).upsets = s.upsets := rfl
@[simp] theorem evt_emit (s : State) (k : OutKind) (l : List Nat) (o : List Byte) : (s.emit k l o).evt = s.evt := rfl
@[simp] theorem mbxSends_emit (s : State) (k : OutKind) (l : List Nat) (o : List Byte) : (s.emit k l o).mbxSends = s.mbxSends := rfl
@[simp] theorem mbxSeq_emit (s : State) (k : OutKind) (l : List Nat) (o : List Byte) : (s.emit k l o).mbxSeq = s.mbxSeq := rfl
@[simp] theorem mbxFrags_emit (s : State) (k : OutKind) (l : List Nat) (o : List Byte) : (s.emit k l o).mbxFrags = s.mbxFrags := rfl
@[simp] theorem tmrPresc_emit (s : State) (k : OutKind) (l : List Nat) (o : List Byte) : (s.emit k l o).tmrPresc = s.tmrPresc := rfl
@[simp] theorem tmrHops_emit (s : State) (k : OutKind) (l : List Nat) (o : List Byte) : (s.emit k l o).tmrHops = s.tmrHops := rfl
@[simp] theorem rtcShadow_emit (s : State) (k : OutKind) (l : List Nat) (o : List Byte) : (s.emit k l o).rtcShadow = s.rtcShadow := rfl
@[simp] theorem rtcFrozenAt_emit (s : State) (k : OutKind) (l : List Nat) (o : List Byte) : (s.emit k l o).rtcFrozenAt = s.rtcFrozenAt := rfl
@[simp] theorem rtcSecAt_emit (s : State) (k : OutKind) (l : List Nat) (o : List Byte) : (s.emit k l o).rtcSecAt = s.rtcSecAt := rfl
@[simp] theorem rtcAlarmDue_emit (s : State) (k : OutKind) (l : List Nat) (o : List Byte) : (s.emit k l o).rtcAlarmDue = s.rtcAlarmDue := rfl
@[simp] theorem phase_emit (s : State) (k : OutKind) (l : List Nat) (o : List Byte) : (s.emit k l o).phase = s.phase := rfl
@[simp] theorem startStep_emit (s : State) (k : OutKind) (l : List Nat) (o : List Byte) : (s.emit k l o).startStep = s.startStep := rfl
@[simp] theorem stepRetry_emit (s : State) (k : OutKind) (l : List Nat) (o : List Byte) : (s.emit k l o).stepRetry = s.stepRetry := rfl
@[simp] theorem draining_emit (s : State) (k : OutKind) (l : List Nat) (o : List Byte) : (s.emit k l o).draining = s.draining := rfl
@[simp] theorem backupOn_emit (s : State) (k : OutKind) (l : List Nat) (o : List Byte) : (s.emit k l o).backupOn = s.backupOn := rfl
@[simp] theorem cause_emit (s : State) (k : OutKind) (l : List Nat) (o : List Byte) : (s.emit k l o).cause = s.cause := rfl
@[simp] theorem resetCount_emit (s : State) (k : OutKind) (l : List Nat) (o : List Byte) : (s.emit k l o).resetCount = s.resetCount := rfl
@[simp] theorem wakeArmed_emit (s : State) (k : OutKind) (l : List Nat) (o : List Byte) : (s.emit k l o).wakeArmed = s.wakeArmed := rfl
@[simp] theorem wakeLatch_emit (s : State) (k : OutKind) (l : List Nat) (o : List Byte) : (s.emit k l o).wakeLatch = s.wakeLatch := rfl
@[simp] theorem dormStep_emit (s : State) (k : OutKind) (l : List Nat) (o : List Byte) : (s.emit k l o).dormStep = s.dormStep := rfl
@[simp] theorem hwPmbus_emit (s : State) (k : OutKind) (l : List Nat) (o : List Byte) : (s.emit k l o).hwPmbus = s.hwPmbus := rfl
@[simp] theorem avsTarget_emit (s : State) (k : OutKind) (l : List Nat) (o : List Byte) : (s.emit k l o).avsTarget = s.avsTarget := rfl
@[simp] theorem avsCalm_emit (s : State) (k : OutKind) (l : List Nat) (o : List Byte) : (s.emit k l o).avsCalm = s.avsCalm := rfl
@[simp] theorem voltReq_emit (s : State) (k : OutKind) (l : List Nat) (o : List Byte) : (s.emit k l o).voltReq = s.voltReq := rfl
@[simp] theorem avsDead_emit (s : State) (k : OutKind) (l : List Nat) (o : List Byte) : (s.emit k l o).avsDead = s.avsDead := rfl
@[simp] theorem detOff_emit (s : State) (k : OutKind) (l : List Nat) (o : List Byte) : (s.emit k l o).detOff = s.detOff := rfl
@[simp] theorem gated_emit (s : State) (k : OutKind) (l : List Nat) (o : List Byte) : (s.emit k l o).gated = s.gated := rfl
@[simp] theorem wdtAt_emit (s : State) (k : OutKind) (l : List Nat) (o : List Byte) : (s.emit k l o).wdtAt = s.wdtAt := rfl
@[simp] theorem hotFired_emit (s : State) (k : OutKind) (l : List Nat) (o : List Byte) : (s.emit k l o).hotFired = s.hotFired := rfl
@[simp] theorem hotNow_emit (s : State) (k : OutKind) (l : List Nat) (o : List Byte) : (s.emit k l o).hotNow = s.hotNow := rfl
@[simp] theorem delays_emit (s : State) (k : OutKind) (l : List Nat) (o : List Byte) : (s.emit k l o).delays = s.delays := rfl
@[simp] theorem flash_emit (s : State) (k : OutKind) (l : List Nat) (o : List Byte) : (s.emit k l o).flash = s.flash := rfl
@[simp] theorem flashCells_emit (s : State) (k : OutKind) (l : List Nat) (o : List Byte) : (s.emit k l o).flashCells = s.flashCells := rfl
@[simp] theorem flashDead_emit (s : State) (k : OutKind) (l : List Nat) (o : List Byte) : (s.emit k l o).flashDead = s.flashDead := rfl
@[simp] theorem flcQueue_emit (s : State) (k : OutKind) (l : List Nat) (o : List Byte) : (s.emit k l o).flcQueue = s.flcQueue := rfl
@[simp] theorem flcRun_emit (s : State) (k : OutKind) (l : List Nat) (o : List Byte) : (s.emit k l o).flcRun = s.flcRun := rfl
@[simp] theorem loamRings_emit (s : State) (k : OutKind) (l : List Nat) (o : List Byte) : (s.emit k l o).loamRings = s.loamRings := rfl
@[simp] theorem loamErases_emit (s : State) (k : OutKind) (l : List Nat) (o : List Byte) : (s.emit k l o).loamErases = s.loamErases := rfl
@[simp] theorem loamSpares_emit (s : State) (k : OutKind) (l : List Nat) (o : List Byte) : (s.emit k l o).loamSpares = s.loamSpares := rfl
@[simp] theorem loamMarked_emit (s : State) (k : OutKind) (l : List Nat) (o : List Byte) : (s.emit k l o).loamMarked = s.loamMarked := rfl
@[simp] theorem loamWorn_emit (s : State) (k : OutKind) (l : List Nat) (o : List Byte) : (s.emit k l o).loamWorn = s.loamWorn := rfl
@[simp] theorem loamMapped_emit (s : State) (k : OutKind) (l : List Nat) (o : List Byte) : (s.emit k l o).loamMapped = s.loamMapped := rfl
@[simp] theorem priv_emit (s : State) (k : OutKind) (l : List Nat) (o : List Byte) : (s.emit k l o).priv = s.priv := rfl
@[simp] theorem keySlots_emit (s : State) (k : OutKind) (l : List Nat) (o : List Byte) : (s.emit k l o).keySlots = s.keySlots := rfl
@[simp] theorem keysDerived_emit (s : State) (k : OutKind) (l : List Nat) (o : List Byte) : (s.emit k l o).keysDerived = s.keysDerived := rfl
@[simp] theorem keyUpd_emit (s : State) (k : OutKind) (l : List Nat) (o : List Byte) : (s.emit k l o).keyUpd = s.keyUpd := rfl
@[simp] theorem counterWrites_emit (s : State) (k : OutKind) (l : List Nat) (o : List Byte) : (s.emit k l o).counterWrites = s.counterWrites := rfl
@[simp] theorem cphRuns_emit (s : State) (k : OutKind) (l : List Nat) (o : List Byte) : (s.emit k l o).cphRuns = s.cphRuns := rfl
@[simp] theorem msix_emit (s : State) (k : OutKind) (l : List Nat) (o : List Byte) : (s.emit k l o).msix = s.msix := rfl
@[simp] theorem msixEnable_emit (s : State) (k : OutKind) (l : List Nat) (o : List Byte) : (s.emit k l o).msixEnable = s.msixEnable := rfl
@[simp] theorem msixMask_emit (s : State) (k : OutKind) (l : List Nat) (o : List Byte) : (s.emit k l o).msixMask = s.msixMask := rfl
@[simp] theorem held_emit (s : State) (k : OutKind) (l : List Nat) (o : List Byte) : (s.emit k l o).held = s.held := rfl
@[simp] theorem modCount_emit (s : State) (k : OutKind) (l : List Nat) (o : List Byte) : (s.emit k l o).modCount = s.modCount := rfl
@[simp] theorem modDue_emit (s : State) (k : OutKind) (l : List Nat) (o : List Byte) : (s.emit k l o).modDue = s.modDue := rfl
@[simp] theorem upd_emit (s : State) (k : OutKind) (l : List Nat) (o : List Byte) : (s.emit k l o).upd = s.upd := rfl
@[simp] theorem hif_emit (s : State) (k : OutKind) (l : List Nat) (o : List Byte) : (s.emit k l o).hif = s.hif := rfl
@[simp] theorem snp_emit (s : State) (k : OutKind) (l : List Nat) (o : List Byte) : (s.emit k l o).snp = s.snp := rfl

/-! ### refuse -/

@[simp] theorem pending_refuse (s : State) : (s.refuse).pending = s.pending := rfl
@[simp] theorem part_refuse (s : State) : (s.refuse).part = s.part := rfl
@[simp] theorem regs_refuse (s : State) : (s.refuse).regs = s.regs := rfl
@[simp] theorem venue_refuse (s : State) : (s.refuse).venue = s.venue := rfl
@[simp] theorem thirds_refuse (s : State) : (s.refuse).thirds = s.thirds := rfl
@[simp] theorem events_refuse (s : State) : (s.refuse).events = s.events := rfl
@[simp] theorem out_refuse (s : State) : (s.refuse).out = s.out := rfl
@[simp] theorem free_refuse (s : State) : (s.refuse).free = s.free := rfl
@[simp] theorem latches_refuse (s : State) : (s.refuse).latches = s.latches := rfl
@[simp] theorem planeA_refuse (s : State) : (s.refuse).planeA = s.planeA := rfl
@[simp] theorem planeB_refuse (s : State) : (s.refuse).planeB = s.planeB := rfl
@[simp] theorem ref_refuse (s : State) : (s.refuse).ref = s.ref := rfl
@[simp] theorem cut_refuse (s : State) : (s.refuse).cut = s.cut := rfl
@[simp] theorem swapReq_refuse (s : State) : (s.refuse).swapReq = s.swapReq := rfl
@[simp] theorem swapWait_refuse (s : State) : (s.refuse).swapWait = s.swapWait := rfl
@[simp] theorem swapCut_refuse (s : State) : (s.refuse).swapCut = s.swapCut := rfl
@[simp] theorem swapFail_refuse (s : State) : (s.refuse).swapFail = s.swapFail := rfl
@[simp] theorem lastOrder_refuse (s : State) : (s.refuse).lastOrder = s.lastOrder := rfl
@[simp] theorem cfg_refuse (s : State) : (s.refuse).cfg = s.cfg := rfl
@[simp] theorem ports_refuse (s : State) : (s.refuse).ports = s.ports := rfl
@[simp] theorem kept_refuse (s : State) : (s.refuse).kept = s.kept := rfl
@[simp] theorem mirrorAt_refuse (s : State) : (s.refuse).mirrorAt = s.mirrorAt := rfl
@[simp] theorem updTo_refuse (s : State) : (s.refuse).updTo = s.updTo := rfl
@[simp] theorem syns_refuse (s : State) : (s.refuse).syns = s.syns := rfl
@[simp] theorem loRetune_refuse (s : State) : (s.refuse).loRetune = s.loRetune := rfl
@[simp] theorem loWaiting_refuse (s : State) : (s.refuse).loWaiting = s.loWaiting := rfl
@[simp] theorem uptime_refuse (s : State) : (s.refuse).uptime = s.uptime := rfl
@[simp] theorem groups_refuse (s : State) : (s.refuse).groups = s.groups := rfl
@[simp] theorem rxLanes_refuse (s : State) : (s.refuse).rxLanes = s.rxLanes := rfl
@[simp] theorem blanks_refuse (s : State) : (s.refuse).blanks = s.blanks := rfl
@[simp] theorem deafTo_refuse (s : State) : (s.refuse).deafTo = s.deafTo := rfl
@[simp] theorem deafMap_refuse (s : State) : (s.refuse).deafMap = s.deafMap := rfl
@[simp] theorem cancels_refuse (s : State) : (s.refuse).cancels = s.cancels := rfl
@[simp] theorem pairs_refuse (s : State) : (s.refuse).pairs = s.pairs := rfl
@[simp] theorem gainAt_refuse (s : State) : (s.refuse).gainAt = s.gainAt := rfl
@[simp] theorem bsetSweep_refuse (s : State) : (s.refuse).bsetSweep = s.bsetSweep := rfl
@[simp] theorem sigAll_refuse (s : State) : (s.refuse).sigAll = s.sigAll := rfl
@[simp] theorem frames_refuse (s : State) : (s.refuse).frames = s.frames := rfl
@[simp] theorem bufUsed_refuse (s : State) : (s.refuse).bufUsed = s.bufUsed := rfl
@[simp] theorem rsv_refuse (s : State) : (s.refuse).rsv = s.rsv := rfl
@[simp] theorem persistOut_refuse (s : State) : (s.refuse).persistOut = s.persistOut := rfl
@[simp] theorem reqs_refuse (s : State) : (s.refuse).reqs = s.reqs := rfl
@[simp] theorem reqNext_refuse (s : State) : (s.refuse).reqNext = s.reqNext := rfl
@[simp] theorem txLanes_refuse (s : State) : (s.refuse).txLanes = s.txLanes := rfl
@[simp] theorem outs_refuse (s : State) : (s.refuse).outs = s.outs := rfl
@[simp] theorem duty_refuse (s : State) : (s.refuse).duty = s.duty := rfl
@[simp] theorem dutyRestored_refuse (s : State) : (s.refuse).dutyRestored = s.dutyRestored := rfl
@[simp] theorem hopOcc_refuse (s : State) : (s.refuse).hopOcc = s.hopOcc := rfl
@[simp] theorem killUntil_refuse (s : State) : (s.refuse).killUntil = s.killUntil := rfl
@[simp] theorem relays_refuse (s : State) : (s.refuse).relays = s.relays := rfl
@[simp] theorem importAsked_refuse (s : State) : (s.refuse).importAsked = s.importAsked := rfl
@[simp] theorem importEnds_refuse (s : State) : (s.refuse).importEnds = s.importEnds := rfl
@[simp] theorem importAnswers_refuse (s : State) : (s.refuse).importAnswers = s.importAnswers := rfl
@[simp] theorem remoteDets_refuse (s : State) : (s.refuse).remoteDets = s.remoteDets := rfl
@[simp] theorem contribs_refuse (s : State) : (s.refuse).contribs = s.contribs := rfl
@[simp] theorem jointParts_refuse (s : State) : (s.refuse).jointParts = s.jointParts := rfl
@[simp] theorem stk_refuse (s : State) : (s.refuse).stk = s.stk := rfl
@[simp] theorem vfb_refuse (s : State) : (s.refuse).vfb = s.vfb := rfl
@[simp] theorem fseqSeen_refuse (s : State) : (s.refuse).fseqSeen = s.fseqSeen := rfl
@[simp] theorem restartDue_refuse (s : State) : (s.refuse).restartDue = s.restartDue := rfl
@[simp] theorem engs_refuse (s : State) : (s.refuse).engs = s.engs := rfl
@[simp] theorem srl_refuse (s : State) : (s.refuse).srl = s.srl := rfl
@[simp] theorem reloadAt_refuse (s : State) : (s.refuse).reloadAt = s.reloadAt := rfl
@[simp] theorem upsets_refuse (s : State) : (s.refuse).upsets = s.upsets := rfl
@[simp] theorem evt_refuse (s : State) : (s.refuse).evt = s.evt := rfl
@[simp] theorem mbxSends_refuse (s : State) : (s.refuse).mbxSends = s.mbxSends := rfl
@[simp] theorem mbxSeq_refuse (s : State) : (s.refuse).mbxSeq = s.mbxSeq := rfl
@[simp] theorem mbxFrags_refuse (s : State) : (s.refuse).mbxFrags = s.mbxFrags := rfl
@[simp] theorem tmrPresc_refuse (s : State) : (s.refuse).tmrPresc = s.tmrPresc := rfl
@[simp] theorem tmrHops_refuse (s : State) : (s.refuse).tmrHops = s.tmrHops := rfl
@[simp] theorem rtcShadow_refuse (s : State) : (s.refuse).rtcShadow = s.rtcShadow := rfl
@[simp] theorem rtcFrozenAt_refuse (s : State) : (s.refuse).rtcFrozenAt = s.rtcFrozenAt := rfl
@[simp] theorem rtcSecAt_refuse (s : State) : (s.refuse).rtcSecAt = s.rtcSecAt := rfl
@[simp] theorem rtcAlarmDue_refuse (s : State) : (s.refuse).rtcAlarmDue = s.rtcAlarmDue := rfl
@[simp] theorem phase_refuse (s : State) : (s.refuse).phase = s.phase := rfl
@[simp] theorem startStep_refuse (s : State) : (s.refuse).startStep = s.startStep := rfl
@[simp] theorem stepRetry_refuse (s : State) : (s.refuse).stepRetry = s.stepRetry := rfl
@[simp] theorem draining_refuse (s : State) : (s.refuse).draining = s.draining := rfl
@[simp] theorem backupOn_refuse (s : State) : (s.refuse).backupOn = s.backupOn := rfl
@[simp] theorem cause_refuse (s : State) : (s.refuse).cause = s.cause := rfl
@[simp] theorem resetCount_refuse (s : State) : (s.refuse).resetCount = s.resetCount := rfl
@[simp] theorem wakeArmed_refuse (s : State) : (s.refuse).wakeArmed = s.wakeArmed := rfl
@[simp] theorem wakeLatch_refuse (s : State) : (s.refuse).wakeLatch = s.wakeLatch := rfl
@[simp] theorem dormStep_refuse (s : State) : (s.refuse).dormStep = s.dormStep := rfl
@[simp] theorem hwPmbus_refuse (s : State) : (s.refuse).hwPmbus = s.hwPmbus := rfl
@[simp] theorem avsTarget_refuse (s : State) : (s.refuse).avsTarget = s.avsTarget := rfl
@[simp] theorem avsCalm_refuse (s : State) : (s.refuse).avsCalm = s.avsCalm := rfl
@[simp] theorem voltReq_refuse (s : State) : (s.refuse).voltReq = s.voltReq := rfl
@[simp] theorem avsDead_refuse (s : State) : (s.refuse).avsDead = s.avsDead := rfl
@[simp] theorem detOff_refuse (s : State) : (s.refuse).detOff = s.detOff := rfl
@[simp] theorem gated_refuse (s : State) : (s.refuse).gated = s.gated := rfl
@[simp] theorem wdtAt_refuse (s : State) : (s.refuse).wdtAt = s.wdtAt := rfl
@[simp] theorem hotFired_refuse (s : State) : (s.refuse).hotFired = s.hotFired := rfl
@[simp] theorem hotNow_refuse (s : State) : (s.refuse).hotNow = s.hotNow := rfl
@[simp] theorem delays_refuse (s : State) : (s.refuse).delays = s.delays := rfl
@[simp] theorem flash_refuse (s : State) : (s.refuse).flash = s.flash := rfl
@[simp] theorem flashCells_refuse (s : State) : (s.refuse).flashCells = s.flashCells := rfl
@[simp] theorem flashDead_refuse (s : State) : (s.refuse).flashDead = s.flashDead := rfl
@[simp] theorem flcQueue_refuse (s : State) : (s.refuse).flcQueue = s.flcQueue := rfl
@[simp] theorem flcRun_refuse (s : State) : (s.refuse).flcRun = s.flcRun := rfl
@[simp] theorem loamRings_refuse (s : State) : (s.refuse).loamRings = s.loamRings := rfl
@[simp] theorem loamErases_refuse (s : State) : (s.refuse).loamErases = s.loamErases := rfl
@[simp] theorem loamSpares_refuse (s : State) : (s.refuse).loamSpares = s.loamSpares := rfl
@[simp] theorem loamMarked_refuse (s : State) : (s.refuse).loamMarked = s.loamMarked := rfl
@[simp] theorem loamWorn_refuse (s : State) : (s.refuse).loamWorn = s.loamWorn := rfl
@[simp] theorem loamMapped_refuse (s : State) : (s.refuse).loamMapped = s.loamMapped := rfl
@[simp] theorem priv_refuse (s : State) : (s.refuse).priv = s.priv := rfl
@[simp] theorem keySlots_refuse (s : State) : (s.refuse).keySlots = s.keySlots := rfl
@[simp] theorem keysDerived_refuse (s : State) : (s.refuse).keysDerived = s.keysDerived := rfl
@[simp] theorem keyUpd_refuse (s : State) : (s.refuse).keyUpd = s.keyUpd := rfl
@[simp] theorem counterWrites_refuse (s : State) : (s.refuse).counterWrites = s.counterWrites := rfl
@[simp] theorem cphRuns_refuse (s : State) : (s.refuse).cphRuns = s.cphRuns := rfl
@[simp] theorem msix_refuse (s : State) : (s.refuse).msix = s.msix := rfl
@[simp] theorem msixEnable_refuse (s : State) : (s.refuse).msixEnable = s.msixEnable := rfl
@[simp] theorem msixMask_refuse (s : State) : (s.refuse).msixMask = s.msixMask := rfl
@[simp] theorem held_refuse (s : State) : (s.refuse).held = s.held := rfl
@[simp] theorem modCount_refuse (s : State) : (s.refuse).modCount = s.modCount := rfl
@[simp] theorem modDue_refuse (s : State) : (s.refuse).modDue = s.modDue := rfl
@[simp] theorem upd_refuse (s : State) : (s.refuse).upd = s.upd := rfl
@[simp] theorem hif_refuse (s : State) : (s.refuse).hif = s.hif := rfl
@[simp] theorem snp_refuse (s : State) : (s.refuse).snp = s.snp := rfl

/-! ### answer -/

@[simp] theorem pending_answer (s : State) (w : Word) : (s.answer w).pending = s.pending := rfl
@[simp] theorem part_answer (s : State) (w : Word) : (s.answer w).part = s.part := rfl
@[simp] theorem regs_answer (s : State) (w : Word) : (s.answer w).regs = s.regs := rfl
@[simp] theorem venue_answer (s : State) (w : Word) : (s.answer w).venue = s.venue := rfl
@[simp] theorem thirds_answer (s : State) (w : Word) : (s.answer w).thirds = s.thirds := rfl
@[simp] theorem events_answer (s : State) (w : Word) : (s.answer w).events = s.events := rfl
@[simp] theorem out_answer (s : State) (w : Word) : (s.answer w).out = s.out := rfl
@[simp] theorem free_answer (s : State) (w : Word) : (s.answer w).free = s.free := rfl
@[simp] theorem latches_answer (s : State) (w : Word) : (s.answer w).latches = s.latches := rfl
@[simp] theorem planeA_answer (s : State) (w : Word) : (s.answer w).planeA = s.planeA := rfl
@[simp] theorem planeB_answer (s : State) (w : Word) : (s.answer w).planeB = s.planeB := rfl
@[simp] theorem ref_answer (s : State) (w : Word) : (s.answer w).ref = s.ref := rfl
@[simp] theorem cut_answer (s : State) (w : Word) : (s.answer w).cut = s.cut := rfl
@[simp] theorem swapReq_answer (s : State) (w : Word) : (s.answer w).swapReq = s.swapReq := rfl
@[simp] theorem swapWait_answer (s : State) (w : Word) : (s.answer w).swapWait = s.swapWait := rfl
@[simp] theorem swapCut_answer (s : State) (w : Word) : (s.answer w).swapCut = s.swapCut := rfl
@[simp] theorem swapFail_answer (s : State) (w : Word) : (s.answer w).swapFail = s.swapFail := rfl
@[simp] theorem lastOrder_answer (s : State) (w : Word) : (s.answer w).lastOrder = s.lastOrder := rfl
@[simp] theorem cfg_answer (s : State) (w : Word) : (s.answer w).cfg = s.cfg := rfl
@[simp] theorem ports_answer (s : State) (w : Word) : (s.answer w).ports = s.ports := rfl
@[simp] theorem kept_answer (s : State) (w : Word) : (s.answer w).kept = s.kept := rfl
@[simp] theorem mirrorAt_answer (s : State) (w : Word) : (s.answer w).mirrorAt = s.mirrorAt := rfl
@[simp] theorem updTo_answer (s : State) (w : Word) : (s.answer w).updTo = s.updTo := rfl
@[simp] theorem syns_answer (s : State) (w : Word) : (s.answer w).syns = s.syns := rfl
@[simp] theorem loRetune_answer (s : State) (w : Word) : (s.answer w).loRetune = s.loRetune := rfl
@[simp] theorem loWaiting_answer (s : State) (w : Word) : (s.answer w).loWaiting = s.loWaiting := rfl
@[simp] theorem uptime_answer (s : State) (w : Word) : (s.answer w).uptime = s.uptime := rfl
@[simp] theorem groups_answer (s : State) (w : Word) : (s.answer w).groups = s.groups := rfl
@[simp] theorem rxLanes_answer (s : State) (w : Word) : (s.answer w).rxLanes = s.rxLanes := rfl
@[simp] theorem blanks_answer (s : State) (w : Word) : (s.answer w).blanks = s.blanks := rfl
@[simp] theorem deafTo_answer (s : State) (w : Word) : (s.answer w).deafTo = s.deafTo := rfl
@[simp] theorem deafMap_answer (s : State) (w : Word) : (s.answer w).deafMap = s.deafMap := rfl
@[simp] theorem cancels_answer (s : State) (w : Word) : (s.answer w).cancels = s.cancels := rfl
@[simp] theorem pairs_answer (s : State) (w : Word) : (s.answer w).pairs = s.pairs := rfl
@[simp] theorem gainAt_answer (s : State) (w : Word) : (s.answer w).gainAt = s.gainAt := rfl
@[simp] theorem bsetSweep_answer (s : State) (w : Word) : (s.answer w).bsetSweep = s.bsetSweep := rfl
@[simp] theorem sigAll_answer (s : State) (w : Word) : (s.answer w).sigAll = s.sigAll := rfl
@[simp] theorem frames_answer (s : State) (w : Word) : (s.answer w).frames = s.frames := rfl
@[simp] theorem bufUsed_answer (s : State) (w : Word) : (s.answer w).bufUsed = s.bufUsed := rfl
@[simp] theorem rsv_answer (s : State) (w : Word) : (s.answer w).rsv = s.rsv := rfl
@[simp] theorem persistOut_answer (s : State) (w : Word) : (s.answer w).persistOut = s.persistOut := rfl
@[simp] theorem reqs_answer (s : State) (w : Word) : (s.answer w).reqs = s.reqs := rfl
@[simp] theorem reqNext_answer (s : State) (w : Word) : (s.answer w).reqNext = s.reqNext := rfl
@[simp] theorem txLanes_answer (s : State) (w : Word) : (s.answer w).txLanes = s.txLanes := rfl
@[simp] theorem outs_answer (s : State) (w : Word) : (s.answer w).outs = s.outs := rfl
@[simp] theorem duty_answer (s : State) (w : Word) : (s.answer w).duty = s.duty := rfl
@[simp] theorem dutyRestored_answer (s : State) (w : Word) : (s.answer w).dutyRestored = s.dutyRestored := rfl
@[simp] theorem hopOcc_answer (s : State) (w : Word) : (s.answer w).hopOcc = s.hopOcc := rfl
@[simp] theorem killUntil_answer (s : State) (w : Word) : (s.answer w).killUntil = s.killUntil := rfl
@[simp] theorem relays_answer (s : State) (w : Word) : (s.answer w).relays = s.relays := rfl
@[simp] theorem importAsked_answer (s : State) (w : Word) : (s.answer w).importAsked = s.importAsked := rfl
@[simp] theorem importEnds_answer (s : State) (w : Word) : (s.answer w).importEnds = s.importEnds := rfl
@[simp] theorem importAnswers_answer (s : State) (w : Word) : (s.answer w).importAnswers = s.importAnswers := rfl
@[simp] theorem remoteDets_answer (s : State) (w : Word) : (s.answer w).remoteDets = s.remoteDets := rfl
@[simp] theorem contribs_answer (s : State) (w : Word) : (s.answer w).contribs = s.contribs := rfl
@[simp] theorem jointParts_answer (s : State) (w : Word) : (s.answer w).jointParts = s.jointParts := rfl
@[simp] theorem stk_answer (s : State) (w : Word) : (s.answer w).stk = s.stk := rfl
@[simp] theorem vfb_answer (s : State) (w : Word) : (s.answer w).vfb = s.vfb := rfl
@[simp] theorem fseqSeen_answer (s : State) (w : Word) : (s.answer w).fseqSeen = s.fseqSeen := rfl
@[simp] theorem restartDue_answer (s : State) (w : Word) : (s.answer w).restartDue = s.restartDue := rfl
@[simp] theorem engs_answer (s : State) (w : Word) : (s.answer w).engs = s.engs := rfl
@[simp] theorem srl_answer (s : State) (w : Word) : (s.answer w).srl = s.srl := rfl
@[simp] theorem reloadAt_answer (s : State) (w : Word) : (s.answer w).reloadAt = s.reloadAt := rfl
@[simp] theorem upsets_answer (s : State) (w : Word) : (s.answer w).upsets = s.upsets := rfl
@[simp] theorem evt_answer (s : State) (w : Word) : (s.answer w).evt = s.evt := rfl
@[simp] theorem mbxSends_answer (s : State) (w : Word) : (s.answer w).mbxSends = s.mbxSends := rfl
@[simp] theorem mbxSeq_answer (s : State) (w : Word) : (s.answer w).mbxSeq = s.mbxSeq := rfl
@[simp] theorem mbxFrags_answer (s : State) (w : Word) : (s.answer w).mbxFrags = s.mbxFrags := rfl
@[simp] theorem tmrPresc_answer (s : State) (w : Word) : (s.answer w).tmrPresc = s.tmrPresc := rfl
@[simp] theorem tmrHops_answer (s : State) (w : Word) : (s.answer w).tmrHops = s.tmrHops := rfl
@[simp] theorem rtcShadow_answer (s : State) (w : Word) : (s.answer w).rtcShadow = s.rtcShadow := rfl
@[simp] theorem rtcFrozenAt_answer (s : State) (w : Word) : (s.answer w).rtcFrozenAt = s.rtcFrozenAt := rfl
@[simp] theorem rtcSecAt_answer (s : State) (w : Word) : (s.answer w).rtcSecAt = s.rtcSecAt := rfl
@[simp] theorem rtcAlarmDue_answer (s : State) (w : Word) : (s.answer w).rtcAlarmDue = s.rtcAlarmDue := rfl
@[simp] theorem phase_answer (s : State) (w : Word) : (s.answer w).phase = s.phase := rfl
@[simp] theorem startStep_answer (s : State) (w : Word) : (s.answer w).startStep = s.startStep := rfl
@[simp] theorem stepRetry_answer (s : State) (w : Word) : (s.answer w).stepRetry = s.stepRetry := rfl
@[simp] theorem draining_answer (s : State) (w : Word) : (s.answer w).draining = s.draining := rfl
@[simp] theorem backupOn_answer (s : State) (w : Word) : (s.answer w).backupOn = s.backupOn := rfl
@[simp] theorem cause_answer (s : State) (w : Word) : (s.answer w).cause = s.cause := rfl
@[simp] theorem resetCount_answer (s : State) (w : Word) : (s.answer w).resetCount = s.resetCount := rfl
@[simp] theorem wakeArmed_answer (s : State) (w : Word) : (s.answer w).wakeArmed = s.wakeArmed := rfl
@[simp] theorem wakeLatch_answer (s : State) (w : Word) : (s.answer w).wakeLatch = s.wakeLatch := rfl
@[simp] theorem dormStep_answer (s : State) (w : Word) : (s.answer w).dormStep = s.dormStep := rfl
@[simp] theorem hwPmbus_answer (s : State) (w : Word) : (s.answer w).hwPmbus = s.hwPmbus := rfl
@[simp] theorem avsTarget_answer (s : State) (w : Word) : (s.answer w).avsTarget = s.avsTarget := rfl
@[simp] theorem avsCalm_answer (s : State) (w : Word) : (s.answer w).avsCalm = s.avsCalm := rfl
@[simp] theorem voltReq_answer (s : State) (w : Word) : (s.answer w).voltReq = s.voltReq := rfl
@[simp] theorem avsDead_answer (s : State) (w : Word) : (s.answer w).avsDead = s.avsDead := rfl
@[simp] theorem detOff_answer (s : State) (w : Word) : (s.answer w).detOff = s.detOff := rfl
@[simp] theorem gated_answer (s : State) (w : Word) : (s.answer w).gated = s.gated := rfl
@[simp] theorem wdtAt_answer (s : State) (w : Word) : (s.answer w).wdtAt = s.wdtAt := rfl
@[simp] theorem hotFired_answer (s : State) (w : Word) : (s.answer w).hotFired = s.hotFired := rfl
@[simp] theorem hotNow_answer (s : State) (w : Word) : (s.answer w).hotNow = s.hotNow := rfl
@[simp] theorem delays_answer (s : State) (w : Word) : (s.answer w).delays = s.delays := rfl
@[simp] theorem flash_answer (s : State) (w : Word) : (s.answer w).flash = s.flash := rfl
@[simp] theorem flashCells_answer (s : State) (w : Word) : (s.answer w).flashCells = s.flashCells := rfl
@[simp] theorem flashDead_answer (s : State) (w : Word) : (s.answer w).flashDead = s.flashDead := rfl
@[simp] theorem flcQueue_answer (s : State) (w : Word) : (s.answer w).flcQueue = s.flcQueue := rfl
@[simp] theorem flcRun_answer (s : State) (w : Word) : (s.answer w).flcRun = s.flcRun := rfl
@[simp] theorem loamRings_answer (s : State) (w : Word) : (s.answer w).loamRings = s.loamRings := rfl
@[simp] theorem loamErases_answer (s : State) (w : Word) : (s.answer w).loamErases = s.loamErases := rfl
@[simp] theorem loamSpares_answer (s : State) (w : Word) : (s.answer w).loamSpares = s.loamSpares := rfl
@[simp] theorem loamMarked_answer (s : State) (w : Word) : (s.answer w).loamMarked = s.loamMarked := rfl
@[simp] theorem loamWorn_answer (s : State) (w : Word) : (s.answer w).loamWorn = s.loamWorn := rfl
@[simp] theorem loamMapped_answer (s : State) (w : Word) : (s.answer w).loamMapped = s.loamMapped := rfl
@[simp] theorem priv_answer (s : State) (w : Word) : (s.answer w).priv = s.priv := rfl
@[simp] theorem keySlots_answer (s : State) (w : Word) : (s.answer w).keySlots = s.keySlots := rfl
@[simp] theorem keysDerived_answer (s : State) (w : Word) : (s.answer w).keysDerived = s.keysDerived := rfl
@[simp] theorem keyUpd_answer (s : State) (w : Word) : (s.answer w).keyUpd = s.keyUpd := rfl
@[simp] theorem counterWrites_answer (s : State) (w : Word) : (s.answer w).counterWrites = s.counterWrites := rfl
@[simp] theorem cphRuns_answer (s : State) (w : Word) : (s.answer w).cphRuns = s.cphRuns := rfl
@[simp] theorem msix_answer (s : State) (w : Word) : (s.answer w).msix = s.msix := rfl
@[simp] theorem msixEnable_answer (s : State) (w : Word) : (s.answer w).msixEnable = s.msixEnable := rfl
@[simp] theorem msixMask_answer (s : State) (w : Word) : (s.answer w).msixMask = s.msixMask := rfl
@[simp] theorem held_answer (s : State) (w : Word) : (s.answer w).held = s.held := rfl
@[simp] theorem modCount_answer (s : State) (w : Word) : (s.answer w).modCount = s.modCount := rfl
@[simp] theorem modDue_answer (s : State) (w : Word) : (s.answer w).modDue = s.modDue := rfl
@[simp] theorem upd_answer (s : State) (w : Word) : (s.answer w).upd = s.upd := rfl
@[simp] theorem hif_answer (s : State) (w : Word) : (s.answer w).hif = s.hif := rfl
@[simp] theorem snp_answer (s : State) (w : Word) : (s.answer w).snp = s.snp := rfl

/-! ### wr8 -/

@[simp] theorem pending_wr8 (s : State) (a : Nat) (b : Byte) : (s.wr8 a b).pending = s.pending := rfl
@[simp] theorem part_wr8 (s : State) (a : Nat) (b : Byte) : (s.wr8 a b).part = s.part := rfl
@[simp] theorem regs_wr8 (s : State) (a : Nat) (b : Byte) : (s.wr8 a b).regs = s.regs := rfl
@[simp] theorem venue_wr8 (s : State) (a : Nat) (b : Byte) : (s.wr8 a b).venue = s.venue := rfl
@[simp] theorem thirds_wr8 (s : State) (a : Nat) (b : Byte) : (s.wr8 a b).thirds = s.thirds := rfl
@[simp] theorem events_wr8 (s : State) (a : Nat) (b : Byte) : (s.wr8 a b).events = s.events := rfl
@[simp] theorem out_wr8 (s : State) (a : Nat) (b : Byte) : (s.wr8 a b).out = s.out := rfl
@[simp] theorem busData_wr8 (s : State) (a : Nat) (b : Byte) : (s.wr8 a b).busData = s.busData := rfl
@[simp] theorem busResult_wr8 (s : State) (a : Nat) (b : Byte) : (s.wr8 a b).busResult = s.busResult := rfl
@[simp] theorem free_wr8 (s : State) (a : Nat) (b : Byte) : (s.wr8 a b).free = s.free := rfl
@[simp] theorem latches_wr8 (s : State) (a : Nat) (b : Byte) : (s.wr8 a b).latches = s.latches := rfl
@[simp] theorem planeA_wr8 (s : State) (a : Nat) (b : Byte) : (s.wr8 a b).planeA = s.planeA := rfl
@[simp] theorem planeB_wr8 (s : State) (a : Nat) (b : Byte) : (s.wr8 a b).planeB = s.planeB := rfl
@[simp] theorem ref_wr8 (s : State) (a : Nat) (b : Byte) : (s.wr8 a b).ref = s.ref := rfl
@[simp] theorem cut_wr8 (s : State) (a : Nat) (b : Byte) : (s.wr8 a b).cut = s.cut := rfl
@[simp] theorem swapReq_wr8 (s : State) (a : Nat) (b : Byte) : (s.wr8 a b).swapReq = s.swapReq := rfl
@[simp] theorem swapWait_wr8 (s : State) (a : Nat) (b : Byte) : (s.wr8 a b).swapWait = s.swapWait := rfl
@[simp] theorem swapCut_wr8 (s : State) (a : Nat) (b : Byte) : (s.wr8 a b).swapCut = s.swapCut := rfl
@[simp] theorem swapFail_wr8 (s : State) (a : Nat) (b : Byte) : (s.wr8 a b).swapFail = s.swapFail := rfl
@[simp] theorem lastOrder_wr8 (s : State) (a : Nat) (b : Byte) : (s.wr8 a b).lastOrder = s.lastOrder := rfl
@[simp] theorem cfg_wr8 (s : State) (a : Nat) (b : Byte) : (s.wr8 a b).cfg = s.cfg := rfl
@[simp] theorem ports_wr8 (s : State) (a : Nat) (b : Byte) : (s.wr8 a b).ports = s.ports := rfl
@[simp] theorem kept_wr8 (s : State) (a : Nat) (b : Byte) : (s.wr8 a b).kept = s.kept := rfl
@[simp] theorem mirrorAt_wr8 (s : State) (a : Nat) (b : Byte) : (s.wr8 a b).mirrorAt = s.mirrorAt := rfl
@[simp] theorem updTo_wr8 (s : State) (a : Nat) (b : Byte) : (s.wr8 a b).updTo = s.updTo := rfl
@[simp] theorem syns_wr8 (s : State) (a : Nat) (b : Byte) : (s.wr8 a b).syns = s.syns := rfl
@[simp] theorem loRetune_wr8 (s : State) (a : Nat) (b : Byte) : (s.wr8 a b).loRetune = s.loRetune := rfl
@[simp] theorem loWaiting_wr8 (s : State) (a : Nat) (b : Byte) : (s.wr8 a b).loWaiting = s.loWaiting := rfl
@[simp] theorem uptime_wr8 (s : State) (a : Nat) (b : Byte) : (s.wr8 a b).uptime = s.uptime := rfl
@[simp] theorem groups_wr8 (s : State) (a : Nat) (b : Byte) : (s.wr8 a b).groups = s.groups := rfl
@[simp] theorem rxLanes_wr8 (s : State) (a : Nat) (b : Byte) : (s.wr8 a b).rxLanes = s.rxLanes := rfl
@[simp] theorem blanks_wr8 (s : State) (a : Nat) (b : Byte) : (s.wr8 a b).blanks = s.blanks := rfl
@[simp] theorem deafTo_wr8 (s : State) (a : Nat) (b : Byte) : (s.wr8 a b).deafTo = s.deafTo := rfl
@[simp] theorem deafMap_wr8 (s : State) (a : Nat) (b : Byte) : (s.wr8 a b).deafMap = s.deafMap := rfl
@[simp] theorem cancels_wr8 (s : State) (a : Nat) (b : Byte) : (s.wr8 a b).cancels = s.cancels := rfl
@[simp] theorem pairs_wr8 (s : State) (a : Nat) (b : Byte) : (s.wr8 a b).pairs = s.pairs := rfl
@[simp] theorem gainAt_wr8 (s : State) (a : Nat) (b : Byte) : (s.wr8 a b).gainAt = s.gainAt := rfl
@[simp] theorem bsetSweep_wr8 (s : State) (a : Nat) (b : Byte) : (s.wr8 a b).bsetSweep = s.bsetSweep := rfl
@[simp] theorem sigAll_wr8 (s : State) (a : Nat) (b : Byte) : (s.wr8 a b).sigAll = s.sigAll := rfl
@[simp] theorem frames_wr8 (s : State) (a : Nat) (b : Byte) : (s.wr8 a b).frames = s.frames := rfl
@[simp] theorem bufUsed_wr8 (s : State) (a : Nat) (b : Byte) : (s.wr8 a b).bufUsed = s.bufUsed := rfl
@[simp] theorem rsv_wr8 (s : State) (a : Nat) (b : Byte) : (s.wr8 a b).rsv = s.rsv := rfl
@[simp] theorem persistOut_wr8 (s : State) (a : Nat) (b : Byte) : (s.wr8 a b).persistOut = s.persistOut := rfl
@[simp] theorem reqs_wr8 (s : State) (a : Nat) (b : Byte) : (s.wr8 a b).reqs = s.reqs := rfl
@[simp] theorem reqNext_wr8 (s : State) (a : Nat) (b : Byte) : (s.wr8 a b).reqNext = s.reqNext := rfl
@[simp] theorem txLanes_wr8 (s : State) (a : Nat) (b : Byte) : (s.wr8 a b).txLanes = s.txLanes := rfl
@[simp] theorem outs_wr8 (s : State) (a : Nat) (b : Byte) : (s.wr8 a b).outs = s.outs := rfl
@[simp] theorem duty_wr8 (s : State) (a : Nat) (b : Byte) : (s.wr8 a b).duty = s.duty := rfl
@[simp] theorem dutyRestored_wr8 (s : State) (a : Nat) (b : Byte) : (s.wr8 a b).dutyRestored = s.dutyRestored := rfl
@[simp] theorem hopOcc_wr8 (s : State) (a : Nat) (b : Byte) : (s.wr8 a b).hopOcc = s.hopOcc := rfl
@[simp] theorem killUntil_wr8 (s : State) (a : Nat) (b : Byte) : (s.wr8 a b).killUntil = s.killUntil := rfl
@[simp] theorem relays_wr8 (s : State) (a : Nat) (b : Byte) : (s.wr8 a b).relays = s.relays := rfl
@[simp] theorem importAsked_wr8 (s : State) (a : Nat) (b : Byte) : (s.wr8 a b).importAsked = s.importAsked := rfl
@[simp] theorem importEnds_wr8 (s : State) (a : Nat) (b : Byte) : (s.wr8 a b).importEnds = s.importEnds := rfl
@[simp] theorem importAnswers_wr8 (s : State) (a : Nat) (b : Byte) : (s.wr8 a b).importAnswers = s.importAnswers := rfl
@[simp] theorem remoteDets_wr8 (s : State) (a : Nat) (b : Byte) : (s.wr8 a b).remoteDets = s.remoteDets := rfl
@[simp] theorem contribs_wr8 (s : State) (a : Nat) (b : Byte) : (s.wr8 a b).contribs = s.contribs := rfl
@[simp] theorem jointParts_wr8 (s : State) (a : Nat) (b : Byte) : (s.wr8 a b).jointParts = s.jointParts := rfl
@[simp] theorem stk_wr8 (s : State) (a : Nat) (b : Byte) : (s.wr8 a b).stk = s.stk := rfl
@[simp] theorem vfb_wr8 (s : State) (a : Nat) (b : Byte) : (s.wr8 a b).vfb = s.vfb := rfl
@[simp] theorem fseqSeen_wr8 (s : State) (a : Nat) (b : Byte) : (s.wr8 a b).fseqSeen = s.fseqSeen := rfl
@[simp] theorem restartDue_wr8 (s : State) (a : Nat) (b : Byte) : (s.wr8 a b).restartDue = s.restartDue := rfl
@[simp] theorem engs_wr8 (s : State) (a : Nat) (b : Byte) : (s.wr8 a b).engs = s.engs := rfl
@[simp] theorem srl_wr8 (s : State) (a : Nat) (b : Byte) : (s.wr8 a b).srl = s.srl := rfl
@[simp] theorem reloadAt_wr8 (s : State) (a : Nat) (b : Byte) : (s.wr8 a b).reloadAt = s.reloadAt := rfl
@[simp] theorem evt_wr8 (s : State) (a : Nat) (b : Byte) : (s.wr8 a b).evt = s.evt := rfl
@[simp] theorem mbxSends_wr8 (s : State) (a : Nat) (b : Byte) : (s.wr8 a b).mbxSends = s.mbxSends := rfl
@[simp] theorem mbxSeq_wr8 (s : State) (a : Nat) (b : Byte) : (s.wr8 a b).mbxSeq = s.mbxSeq := rfl
@[simp] theorem mbxFrags_wr8 (s : State) (a : Nat) (b : Byte) : (s.wr8 a b).mbxFrags = s.mbxFrags := rfl
@[simp] theorem tmrPresc_wr8 (s : State) (a : Nat) (b : Byte) : (s.wr8 a b).tmrPresc = s.tmrPresc := rfl
@[simp] theorem tmrHops_wr8 (s : State) (a : Nat) (b : Byte) : (s.wr8 a b).tmrHops = s.tmrHops := rfl
@[simp] theorem rtcShadow_wr8 (s : State) (a : Nat) (b : Byte) : (s.wr8 a b).rtcShadow = s.rtcShadow := rfl
@[simp] theorem rtcFrozenAt_wr8 (s : State) (a : Nat) (b : Byte) : (s.wr8 a b).rtcFrozenAt = s.rtcFrozenAt := rfl
@[simp] theorem rtcSecAt_wr8 (s : State) (a : Nat) (b : Byte) : (s.wr8 a b).rtcSecAt = s.rtcSecAt := rfl
@[simp] theorem rtcAlarmDue_wr8 (s : State) (a : Nat) (b : Byte) : (s.wr8 a b).rtcAlarmDue = s.rtcAlarmDue := rfl
@[simp] theorem phase_wr8 (s : State) (a : Nat) (b : Byte) : (s.wr8 a b).phase = s.phase := rfl
@[simp] theorem startStep_wr8 (s : State) (a : Nat) (b : Byte) : (s.wr8 a b).startStep = s.startStep := rfl
@[simp] theorem stepRetry_wr8 (s : State) (a : Nat) (b : Byte) : (s.wr8 a b).stepRetry = s.stepRetry := rfl
@[simp] theorem draining_wr8 (s : State) (a : Nat) (b : Byte) : (s.wr8 a b).draining = s.draining := rfl
@[simp] theorem backupOn_wr8 (s : State) (a : Nat) (b : Byte) : (s.wr8 a b).backupOn = s.backupOn := rfl
@[simp] theorem cause_wr8 (s : State) (a : Nat) (b : Byte) : (s.wr8 a b).cause = s.cause := rfl
@[simp] theorem resetCount_wr8 (s : State) (a : Nat) (b : Byte) : (s.wr8 a b).resetCount = s.resetCount := rfl
@[simp] theorem wakeArmed_wr8 (s : State) (a : Nat) (b : Byte) : (s.wr8 a b).wakeArmed = s.wakeArmed := rfl
@[simp] theorem wakeLatch_wr8 (s : State) (a : Nat) (b : Byte) : (s.wr8 a b).wakeLatch = s.wakeLatch := rfl
@[simp] theorem dormStep_wr8 (s : State) (a : Nat) (b : Byte) : (s.wr8 a b).dormStep = s.dormStep := rfl
@[simp] theorem hwPmbus_wr8 (s : State) (a : Nat) (b : Byte) : (s.wr8 a b).hwPmbus = s.hwPmbus := rfl
@[simp] theorem avsTarget_wr8 (s : State) (a : Nat) (b : Byte) : (s.wr8 a b).avsTarget = s.avsTarget := rfl
@[simp] theorem avsCalm_wr8 (s : State) (a : Nat) (b : Byte) : (s.wr8 a b).avsCalm = s.avsCalm := rfl
@[simp] theorem voltReq_wr8 (s : State) (a : Nat) (b : Byte) : (s.wr8 a b).voltReq = s.voltReq := rfl
@[simp] theorem avsDead_wr8 (s : State) (a : Nat) (b : Byte) : (s.wr8 a b).avsDead = s.avsDead := rfl
@[simp] theorem detOff_wr8 (s : State) (a : Nat) (b : Byte) : (s.wr8 a b).detOff = s.detOff := rfl
@[simp] theorem gated_wr8 (s : State) (a : Nat) (b : Byte) : (s.wr8 a b).gated = s.gated := rfl
@[simp] theorem wdtAt_wr8 (s : State) (a : Nat) (b : Byte) : (s.wr8 a b).wdtAt = s.wdtAt := rfl
@[simp] theorem hotFired_wr8 (s : State) (a : Nat) (b : Byte) : (s.wr8 a b).hotFired = s.hotFired := rfl
@[simp] theorem hotNow_wr8 (s : State) (a : Nat) (b : Byte) : (s.wr8 a b).hotNow = s.hotNow := rfl
@[simp] theorem delays_wr8 (s : State) (a : Nat) (b : Byte) : (s.wr8 a b).delays = s.delays := rfl
@[simp] theorem flash_wr8 (s : State) (a : Nat) (b : Byte) : (s.wr8 a b).flash = s.flash := rfl
@[simp] theorem flashCells_wr8 (s : State) (a : Nat) (b : Byte) : (s.wr8 a b).flashCells = s.flashCells := rfl
@[simp] theorem flashDead_wr8 (s : State) (a : Nat) (b : Byte) : (s.wr8 a b).flashDead = s.flashDead := rfl
@[simp] theorem flcQueue_wr8 (s : State) (a : Nat) (b : Byte) : (s.wr8 a b).flcQueue = s.flcQueue := rfl
@[simp] theorem flcRun_wr8 (s : State) (a : Nat) (b : Byte) : (s.wr8 a b).flcRun = s.flcRun := rfl
@[simp] theorem loamRings_wr8 (s : State) (a : Nat) (b : Byte) : (s.wr8 a b).loamRings = s.loamRings := rfl
@[simp] theorem loamErases_wr8 (s : State) (a : Nat) (b : Byte) : (s.wr8 a b).loamErases = s.loamErases := rfl
@[simp] theorem loamSpares_wr8 (s : State) (a : Nat) (b : Byte) : (s.wr8 a b).loamSpares = s.loamSpares := rfl
@[simp] theorem loamMarked_wr8 (s : State) (a : Nat) (b : Byte) : (s.wr8 a b).loamMarked = s.loamMarked := rfl
@[simp] theorem loamWorn_wr8 (s : State) (a : Nat) (b : Byte) : (s.wr8 a b).loamWorn = s.loamWorn := rfl
@[simp] theorem loamMapped_wr8 (s : State) (a : Nat) (b : Byte) : (s.wr8 a b).loamMapped = s.loamMapped := rfl
@[simp] theorem priv_wr8 (s : State) (a : Nat) (b : Byte) : (s.wr8 a b).priv = s.priv := rfl
@[simp] theorem keySlots_wr8 (s : State) (a : Nat) (b : Byte) : (s.wr8 a b).keySlots = s.keySlots := rfl
@[simp] theorem keysDerived_wr8 (s : State) (a : Nat) (b : Byte) : (s.wr8 a b).keysDerived = s.keysDerived := rfl
@[simp] theorem keyUpd_wr8 (s : State) (a : Nat) (b : Byte) : (s.wr8 a b).keyUpd = s.keyUpd := rfl
@[simp] theorem counterWrites_wr8 (s : State) (a : Nat) (b : Byte) : (s.wr8 a b).counterWrites = s.counterWrites := rfl
@[simp] theorem cphRuns_wr8 (s : State) (a : Nat) (b : Byte) : (s.wr8 a b).cphRuns = s.cphRuns := rfl
@[simp] theorem msix_wr8 (s : State) (a : Nat) (b : Byte) : (s.wr8 a b).msix = s.msix := rfl
@[simp] theorem msixEnable_wr8 (s : State) (a : Nat) (b : Byte) : (s.wr8 a b).msixEnable = s.msixEnable := rfl
@[simp] theorem msixMask_wr8 (s : State) (a : Nat) (b : Byte) : (s.wr8 a b).msixMask = s.msixMask := rfl
@[simp] theorem held_wr8 (s : State) (a : Nat) (b : Byte) : (s.wr8 a b).held = s.held := rfl
@[simp] theorem modCount_wr8 (s : State) (a : Nat) (b : Byte) : (s.wr8 a b).modCount = s.modCount := rfl
@[simp] theorem modDue_wr8 (s : State) (a : Nat) (b : Byte) : (s.wr8 a b).modDue = s.modDue := rfl
@[simp] theorem upd_wr8 (s : State) (a : Nat) (b : Byte) : (s.wr8 a b).upd = s.upd := rfl
@[simp] theorem hif_wr8 (s : State) (a : Nat) (b : Byte) : (s.wr8 a b).hif = s.hif := rfl
@[simp] theorem snp_wr8 (s : State) (a : Nat) (b : Byte) : (s.wr8 a b).snp = s.snp := rfl

/-! ### wrN -/

theorem wrN_eq (s : State) (a : Nat) (l : List Byte) : s.wrN a l = { s with mem := (s.wrN a l).mem, upsets := (s.wrN a l).upsets } := by
  induction l generalizing s a with
  | nil => rfl
  | cons b l ih => exact ih (s.wr8 a b) (a + 1)

@[simp] theorem pending_wrN (s : State) (a : Nat) (l : List Byte) : (s.wrN a l).pending = s.pending := by rw [wrN_eq]
@[simp] theorem part_wrN (s : State) (a : Nat) (l : List Byte) : (s.wrN a l).part = s.part := by rw [wrN_eq]
@[simp] theorem regs_wrN (s : State) (a : Nat) (l : List Byte) : (s.wrN a l).regs = s.regs := by rw [wrN_eq]
@[simp] theorem venue_wrN (s : State) (a : Nat) (l : List Byte) : (s.wrN a l).venue = s.venue := by rw [wrN_eq]
@[simp] theorem thirds_wrN (s : State) (a : Nat) (l : List Byte) : (s.wrN a l).thirds = s.thirds := by rw [wrN_eq]
@[simp] theorem events_wrN (s : State) (a : Nat) (l : List Byte) : (s.wrN a l).events = s.events := by rw [wrN_eq]
@[simp] theorem out_wrN (s : State) (a : Nat) (l : List Byte) : (s.wrN a l).out = s.out := by rw [wrN_eq]
@[simp] theorem busData_wrN (s : State) (a : Nat) (l : List Byte) : (s.wrN a l).busData = s.busData := by rw [wrN_eq]
@[simp] theorem busResult_wrN (s : State) (a : Nat) (l : List Byte) : (s.wrN a l).busResult = s.busResult := by rw [wrN_eq]
@[simp] theorem free_wrN (s : State) (a : Nat) (l : List Byte) : (s.wrN a l).free = s.free := by rw [wrN_eq]
@[simp] theorem latches_wrN (s : State) (a : Nat) (l : List Byte) : (s.wrN a l).latches = s.latches := by rw [wrN_eq]
@[simp] theorem planeA_wrN (s : State) (a : Nat) (l : List Byte) : (s.wrN a l).planeA = s.planeA := by rw [wrN_eq]
@[simp] theorem planeB_wrN (s : State) (a : Nat) (l : List Byte) : (s.wrN a l).planeB = s.planeB := by rw [wrN_eq]
@[simp] theorem ref_wrN (s : State) (a : Nat) (l : List Byte) : (s.wrN a l).ref = s.ref := by rw [wrN_eq]
@[simp] theorem cut_wrN (s : State) (a : Nat) (l : List Byte) : (s.wrN a l).cut = s.cut := by rw [wrN_eq]
@[simp] theorem swapReq_wrN (s : State) (a : Nat) (l : List Byte) : (s.wrN a l).swapReq = s.swapReq := by rw [wrN_eq]
@[simp] theorem swapWait_wrN (s : State) (a : Nat) (l : List Byte) : (s.wrN a l).swapWait = s.swapWait := by rw [wrN_eq]
@[simp] theorem swapCut_wrN (s : State) (a : Nat) (l : List Byte) : (s.wrN a l).swapCut = s.swapCut := by rw [wrN_eq]
@[simp] theorem swapFail_wrN (s : State) (a : Nat) (l : List Byte) : (s.wrN a l).swapFail = s.swapFail := by rw [wrN_eq]
@[simp] theorem lastOrder_wrN (s : State) (a : Nat) (l : List Byte) : (s.wrN a l).lastOrder = s.lastOrder := by rw [wrN_eq]
@[simp] theorem cfg_wrN (s : State) (a : Nat) (l : List Byte) : (s.wrN a l).cfg = s.cfg := by rw [wrN_eq]
@[simp] theorem ports_wrN (s : State) (a : Nat) (l : List Byte) : (s.wrN a l).ports = s.ports := by rw [wrN_eq]
@[simp] theorem kept_wrN (s : State) (a : Nat) (l : List Byte) : (s.wrN a l).kept = s.kept := by rw [wrN_eq]
@[simp] theorem mirrorAt_wrN (s : State) (a : Nat) (l : List Byte) : (s.wrN a l).mirrorAt = s.mirrorAt := by rw [wrN_eq]
@[simp] theorem updTo_wrN (s : State) (a : Nat) (l : List Byte) : (s.wrN a l).updTo = s.updTo := by rw [wrN_eq]
@[simp] theorem syns_wrN (s : State) (a : Nat) (l : List Byte) : (s.wrN a l).syns = s.syns := by rw [wrN_eq]
@[simp] theorem loRetune_wrN (s : State) (a : Nat) (l : List Byte) : (s.wrN a l).loRetune = s.loRetune := by rw [wrN_eq]
@[simp] theorem loWaiting_wrN (s : State) (a : Nat) (l : List Byte) : (s.wrN a l).loWaiting = s.loWaiting := by rw [wrN_eq]
@[simp] theorem uptime_wrN (s : State) (a : Nat) (l : List Byte) : (s.wrN a l).uptime = s.uptime := by rw [wrN_eq]
@[simp] theorem groups_wrN (s : State) (a : Nat) (l : List Byte) : (s.wrN a l).groups = s.groups := by rw [wrN_eq]
@[simp] theorem rxLanes_wrN (s : State) (a : Nat) (l : List Byte) : (s.wrN a l).rxLanes = s.rxLanes := by rw [wrN_eq]
@[simp] theorem blanks_wrN (s : State) (a : Nat) (l : List Byte) : (s.wrN a l).blanks = s.blanks := by rw [wrN_eq]
@[simp] theorem deafTo_wrN (s : State) (a : Nat) (l : List Byte) : (s.wrN a l).deafTo = s.deafTo := by rw [wrN_eq]
@[simp] theorem deafMap_wrN (s : State) (a : Nat) (l : List Byte) : (s.wrN a l).deafMap = s.deafMap := by rw [wrN_eq]
@[simp] theorem cancels_wrN (s : State) (a : Nat) (l : List Byte) : (s.wrN a l).cancels = s.cancels := by rw [wrN_eq]
@[simp] theorem pairs_wrN (s : State) (a : Nat) (l : List Byte) : (s.wrN a l).pairs = s.pairs := by rw [wrN_eq]
@[simp] theorem gainAt_wrN (s : State) (a : Nat) (l : List Byte) : (s.wrN a l).gainAt = s.gainAt := by rw [wrN_eq]
@[simp] theorem bsetSweep_wrN (s : State) (a : Nat) (l : List Byte) : (s.wrN a l).bsetSweep = s.bsetSweep := by rw [wrN_eq]
@[simp] theorem sigAll_wrN (s : State) (a : Nat) (l : List Byte) : (s.wrN a l).sigAll = s.sigAll := by rw [wrN_eq]
@[simp] theorem frames_wrN (s : State) (a : Nat) (l : List Byte) : (s.wrN a l).frames = s.frames := by rw [wrN_eq]
@[simp] theorem bufUsed_wrN (s : State) (a : Nat) (l : List Byte) : (s.wrN a l).bufUsed = s.bufUsed := by rw [wrN_eq]
@[simp] theorem rsv_wrN (s : State) (a : Nat) (l : List Byte) : (s.wrN a l).rsv = s.rsv := by rw [wrN_eq]
@[simp] theorem persistOut_wrN (s : State) (a : Nat) (l : List Byte) : (s.wrN a l).persistOut = s.persistOut := by rw [wrN_eq]
@[simp] theorem reqs_wrN (s : State) (a : Nat) (l : List Byte) : (s.wrN a l).reqs = s.reqs := by rw [wrN_eq]
@[simp] theorem reqNext_wrN (s : State) (a : Nat) (l : List Byte) : (s.wrN a l).reqNext = s.reqNext := by rw [wrN_eq]
@[simp] theorem txLanes_wrN (s : State) (a : Nat) (l : List Byte) : (s.wrN a l).txLanes = s.txLanes := by rw [wrN_eq]
@[simp] theorem outs_wrN (s : State) (a : Nat) (l : List Byte) : (s.wrN a l).outs = s.outs := by rw [wrN_eq]
@[simp] theorem duty_wrN (s : State) (a : Nat) (l : List Byte) : (s.wrN a l).duty = s.duty := by rw [wrN_eq]
@[simp] theorem dutyRestored_wrN (s : State) (a : Nat) (l : List Byte) : (s.wrN a l).dutyRestored = s.dutyRestored := by rw [wrN_eq]
@[simp] theorem hopOcc_wrN (s : State) (a : Nat) (l : List Byte) : (s.wrN a l).hopOcc = s.hopOcc := by rw [wrN_eq]
@[simp] theorem killUntil_wrN (s : State) (a : Nat) (l : List Byte) : (s.wrN a l).killUntil = s.killUntil := by rw [wrN_eq]
@[simp] theorem relays_wrN (s : State) (a : Nat) (l : List Byte) : (s.wrN a l).relays = s.relays := by rw [wrN_eq]
@[simp] theorem importAsked_wrN (s : State) (a : Nat) (l : List Byte) : (s.wrN a l).importAsked = s.importAsked := by rw [wrN_eq]
@[simp] theorem importEnds_wrN (s : State) (a : Nat) (l : List Byte) : (s.wrN a l).importEnds = s.importEnds := by rw [wrN_eq]
@[simp] theorem importAnswers_wrN (s : State) (a : Nat) (l : List Byte) : (s.wrN a l).importAnswers = s.importAnswers := by rw [wrN_eq]
@[simp] theorem remoteDets_wrN (s : State) (a : Nat) (l : List Byte) : (s.wrN a l).remoteDets = s.remoteDets := by rw [wrN_eq]
@[simp] theorem contribs_wrN (s : State) (a : Nat) (l : List Byte) : (s.wrN a l).contribs = s.contribs := by rw [wrN_eq]
@[simp] theorem jointParts_wrN (s : State) (a : Nat) (l : List Byte) : (s.wrN a l).jointParts = s.jointParts := by rw [wrN_eq]
@[simp] theorem stk_wrN (s : State) (a : Nat) (l : List Byte) : (s.wrN a l).stk = s.stk := by rw [wrN_eq]
@[simp] theorem vfb_wrN (s : State) (a : Nat) (l : List Byte) : (s.wrN a l).vfb = s.vfb := by rw [wrN_eq]
@[simp] theorem fseqSeen_wrN (s : State) (a : Nat) (l : List Byte) : (s.wrN a l).fseqSeen = s.fseqSeen := by rw [wrN_eq]
@[simp] theorem restartDue_wrN (s : State) (a : Nat) (l : List Byte) : (s.wrN a l).restartDue = s.restartDue := by rw [wrN_eq]
@[simp] theorem engs_wrN (s : State) (a : Nat) (l : List Byte) : (s.wrN a l).engs = s.engs := by rw [wrN_eq]
@[simp] theorem srl_wrN (s : State) (a : Nat) (l : List Byte) : (s.wrN a l).srl = s.srl := by rw [wrN_eq]
@[simp] theorem reloadAt_wrN (s : State) (a : Nat) (l : List Byte) : (s.wrN a l).reloadAt = s.reloadAt := by rw [wrN_eq]
@[simp] theorem evt_wrN (s : State) (a : Nat) (l : List Byte) : (s.wrN a l).evt = s.evt := by rw [wrN_eq]
@[simp] theorem mbxSends_wrN (s : State) (a : Nat) (l : List Byte) : (s.wrN a l).mbxSends = s.mbxSends := by rw [wrN_eq]
@[simp] theorem mbxSeq_wrN (s : State) (a : Nat) (l : List Byte) : (s.wrN a l).mbxSeq = s.mbxSeq := by rw [wrN_eq]
@[simp] theorem mbxFrags_wrN (s : State) (a : Nat) (l : List Byte) : (s.wrN a l).mbxFrags = s.mbxFrags := by rw [wrN_eq]
@[simp] theorem tmrPresc_wrN (s : State) (a : Nat) (l : List Byte) : (s.wrN a l).tmrPresc = s.tmrPresc := by rw [wrN_eq]
@[simp] theorem tmrHops_wrN (s : State) (a : Nat) (l : List Byte) : (s.wrN a l).tmrHops = s.tmrHops := by rw [wrN_eq]
@[simp] theorem rtcShadow_wrN (s : State) (a : Nat) (l : List Byte) : (s.wrN a l).rtcShadow = s.rtcShadow := by rw [wrN_eq]
@[simp] theorem rtcFrozenAt_wrN (s : State) (a : Nat) (l : List Byte) : (s.wrN a l).rtcFrozenAt = s.rtcFrozenAt := by rw [wrN_eq]
@[simp] theorem rtcSecAt_wrN (s : State) (a : Nat) (l : List Byte) : (s.wrN a l).rtcSecAt = s.rtcSecAt := by rw [wrN_eq]
@[simp] theorem rtcAlarmDue_wrN (s : State) (a : Nat) (l : List Byte) : (s.wrN a l).rtcAlarmDue = s.rtcAlarmDue := by rw [wrN_eq]
@[simp] theorem phase_wrN (s : State) (a : Nat) (l : List Byte) : (s.wrN a l).phase = s.phase := by rw [wrN_eq]
@[simp] theorem startStep_wrN (s : State) (a : Nat) (l : List Byte) : (s.wrN a l).startStep = s.startStep := by rw [wrN_eq]
@[simp] theorem stepRetry_wrN (s : State) (a : Nat) (l : List Byte) : (s.wrN a l).stepRetry = s.stepRetry := by rw [wrN_eq]
@[simp] theorem draining_wrN (s : State) (a : Nat) (l : List Byte) : (s.wrN a l).draining = s.draining := by rw [wrN_eq]
@[simp] theorem backupOn_wrN (s : State) (a : Nat) (l : List Byte) : (s.wrN a l).backupOn = s.backupOn := by rw [wrN_eq]
@[simp] theorem cause_wrN (s : State) (a : Nat) (l : List Byte) : (s.wrN a l).cause = s.cause := by rw [wrN_eq]
@[simp] theorem resetCount_wrN (s : State) (a : Nat) (l : List Byte) : (s.wrN a l).resetCount = s.resetCount := by rw [wrN_eq]
@[simp] theorem wakeArmed_wrN (s : State) (a : Nat) (l : List Byte) : (s.wrN a l).wakeArmed = s.wakeArmed := by rw [wrN_eq]
@[simp] theorem wakeLatch_wrN (s : State) (a : Nat) (l : List Byte) : (s.wrN a l).wakeLatch = s.wakeLatch := by rw [wrN_eq]
@[simp] theorem dormStep_wrN (s : State) (a : Nat) (l : List Byte) : (s.wrN a l).dormStep = s.dormStep := by rw [wrN_eq]
@[simp] theorem hwPmbus_wrN (s : State) (a : Nat) (l : List Byte) : (s.wrN a l).hwPmbus = s.hwPmbus := by rw [wrN_eq]
@[simp] theorem avsTarget_wrN (s : State) (a : Nat) (l : List Byte) : (s.wrN a l).avsTarget = s.avsTarget := by rw [wrN_eq]
@[simp] theorem avsCalm_wrN (s : State) (a : Nat) (l : List Byte) : (s.wrN a l).avsCalm = s.avsCalm := by rw [wrN_eq]
@[simp] theorem voltReq_wrN (s : State) (a : Nat) (l : List Byte) : (s.wrN a l).voltReq = s.voltReq := by rw [wrN_eq]
@[simp] theorem avsDead_wrN (s : State) (a : Nat) (l : List Byte) : (s.wrN a l).avsDead = s.avsDead := by rw [wrN_eq]
@[simp] theorem detOff_wrN (s : State) (a : Nat) (l : List Byte) : (s.wrN a l).detOff = s.detOff := by rw [wrN_eq]
@[simp] theorem gated_wrN (s : State) (a : Nat) (l : List Byte) : (s.wrN a l).gated = s.gated := by rw [wrN_eq]
@[simp] theorem wdtAt_wrN (s : State) (a : Nat) (l : List Byte) : (s.wrN a l).wdtAt = s.wdtAt := by rw [wrN_eq]
@[simp] theorem hotFired_wrN (s : State) (a : Nat) (l : List Byte) : (s.wrN a l).hotFired = s.hotFired := by rw [wrN_eq]
@[simp] theorem hotNow_wrN (s : State) (a : Nat) (l : List Byte) : (s.wrN a l).hotNow = s.hotNow := by rw [wrN_eq]
@[simp] theorem delays_wrN (s : State) (a : Nat) (l : List Byte) : (s.wrN a l).delays = s.delays := by rw [wrN_eq]
@[simp] theorem flash_wrN (s : State) (a : Nat) (l : List Byte) : (s.wrN a l).flash = s.flash := by rw [wrN_eq]
@[simp] theorem flashCells_wrN (s : State) (a : Nat) (l : List Byte) : (s.wrN a l).flashCells = s.flashCells := by rw [wrN_eq]
@[simp] theorem flashDead_wrN (s : State) (a : Nat) (l : List Byte) : (s.wrN a l).flashDead = s.flashDead := by rw [wrN_eq]
@[simp] theorem flcQueue_wrN (s : State) (a : Nat) (l : List Byte) : (s.wrN a l).flcQueue = s.flcQueue := by rw [wrN_eq]
@[simp] theorem flcRun_wrN (s : State) (a : Nat) (l : List Byte) : (s.wrN a l).flcRun = s.flcRun := by rw [wrN_eq]
@[simp] theorem loamRings_wrN (s : State) (a : Nat) (l : List Byte) : (s.wrN a l).loamRings = s.loamRings := by rw [wrN_eq]
@[simp] theorem loamErases_wrN (s : State) (a : Nat) (l : List Byte) : (s.wrN a l).loamErases = s.loamErases := by rw [wrN_eq]
@[simp] theorem loamSpares_wrN (s : State) (a : Nat) (l : List Byte) : (s.wrN a l).loamSpares = s.loamSpares := by rw [wrN_eq]
@[simp] theorem loamMarked_wrN (s : State) (a : Nat) (l : List Byte) : (s.wrN a l).loamMarked = s.loamMarked := by rw [wrN_eq]
@[simp] theorem loamWorn_wrN (s : State) (a : Nat) (l : List Byte) : (s.wrN a l).loamWorn = s.loamWorn := by rw [wrN_eq]
@[simp] theorem loamMapped_wrN (s : State) (a : Nat) (l : List Byte) : (s.wrN a l).loamMapped = s.loamMapped := by rw [wrN_eq]
@[simp] theorem priv_wrN (s : State) (a : Nat) (l : List Byte) : (s.wrN a l).priv = s.priv := by rw [wrN_eq]
@[simp] theorem keySlots_wrN (s : State) (a : Nat) (l : List Byte) : (s.wrN a l).keySlots = s.keySlots := by rw [wrN_eq]
@[simp] theorem keysDerived_wrN (s : State) (a : Nat) (l : List Byte) : (s.wrN a l).keysDerived = s.keysDerived := by rw [wrN_eq]
@[simp] theorem keyUpd_wrN (s : State) (a : Nat) (l : List Byte) : (s.wrN a l).keyUpd = s.keyUpd := by rw [wrN_eq]
@[simp] theorem counterWrites_wrN (s : State) (a : Nat) (l : List Byte) : (s.wrN a l).counterWrites = s.counterWrites := by rw [wrN_eq]
@[simp] theorem cphRuns_wrN (s : State) (a : Nat) (l : List Byte) : (s.wrN a l).cphRuns = s.cphRuns := by rw [wrN_eq]
@[simp] theorem msix_wrN (s : State) (a : Nat) (l : List Byte) : (s.wrN a l).msix = s.msix := by rw [wrN_eq]
@[simp] theorem msixEnable_wrN (s : State) (a : Nat) (l : List Byte) : (s.wrN a l).msixEnable = s.msixEnable := by rw [wrN_eq]
@[simp] theorem msixMask_wrN (s : State) (a : Nat) (l : List Byte) : (s.wrN a l).msixMask = s.msixMask := by rw [wrN_eq]
@[simp] theorem held_wrN (s : State) (a : Nat) (l : List Byte) : (s.wrN a l).held = s.held := by rw [wrN_eq]
@[simp] theorem modCount_wrN (s : State) (a : Nat) (l : List Byte) : (s.wrN a l).modCount = s.modCount := by rw [wrN_eq]
@[simp] theorem modDue_wrN (s : State) (a : Nat) (l : List Byte) : (s.wrN a l).modDue = s.modDue := by rw [wrN_eq]
@[simp] theorem upd_wrN (s : State) (a : Nat) (l : List Byte) : (s.wrN a l).upd = s.upd := by rw [wrN_eq]
@[simp] theorem hif_wrN (s : State) (a : Nat) (l : List Byte) : (s.wrN a l).hif = s.hif := by rw [wrN_eq]
@[simp] theorem snp_wrN (s : State) (a : Nat) (l : List Byte) : (s.wrN a l).snp = s.snp := by rw [wrN_eq]

end Sys2Proof.Machine
end

