-- ==== Sys2Proof/Laws/Ops.lean ====
section
/-! SUPPORT. Laws/Ops.lean: what the shared operations over time, memory, loops and errors of memory can do, said once. -/

namespace Sys2Proof.Machine

/-! ### Time -/

/-- Passing time changes the times and the count alone. -/
theorem passTo_leaves (s : State) (t : Nat) :
    (s.passTo t).regs = s.regs ∧ (s.passTo t).mem = s.mem ∧ (s.passTo t).events = s.events ∧ (s.passTo t).out = s.out ∧
      (s.passTo t).pending = s.pending ∧ (s.passTo t).phase = s.phase := by
  unfold State.passTo
  dsimp only
  split
  · split <;> exact ⟨rfl, rfl, rfl, rfl, rfl, rfl⟩
  · exact ⟨rfl, rfl, rfl, rfl, rfl, rfl⟩

/-- What reaching an instant can give: the state itself where the instant is not ahead, or the state with the time passed. -/
theorem reachUp_cases {s t : State} {u : Nat} (h : s.reachUp u = some t) :
    (u ≤ s.uptime ∧ t = s) ∨
      (s.uptime < u ∧ s.venue + (u - s.uptime) < s.nextBoundary ∧ t = s.passTo (s.venue + (u - s.uptime))) := by
  unfold State.reachUp at h
  split at h
  · exact .inl ⟨‹_›, (Option.some.inj h).symm⟩
  · split at h
    · exact .inr ⟨by omega, ‹_›, (Option.some.inj h).symm⟩
    · cases h

/-- An instant that is not ahead is reached at once. -/
theorem reachUp_past {s : State} {u : Nat} (h : u ≤ s.uptime) : s.reachUp u = some s := by
  unfold State.reachUp
  rw [if_pos h]

/-- Reaching an instant leaves every register and all of memory. -/
theorem reachUp_leaves {s t : State} {u : Nat} (h : s.reachUp u = some t) : t.regs = s.regs ∧ t.mem = s.mem ∧ t.events = s.events := by
  rcases reachUp_cases h with ⟨-, rfl⟩ | ⟨-, -, rfl⟩
  · exact ⟨rfl, rfl, rfl⟩
  · exact ⟨(passTo_leaves s _).1, (passTo_leaves s _).2.1, (passTo_leaves s _).2.2.1⟩

/-! ### Loops -/

/-- What every pass of a loop keeps, the loop keeps. -/
theorem forBelow_keeps {P : State → Prop} (n : Nat) (f : State → Nat → State) (h : ∀ s k, k < n → P s → P (f s k)) {s : State} (hs : P s) :
    P (forBelow n f s) := by
  have go : ∀ (l : List Nat) (s : State), (∀ k ∈ l, k < n) → P s → P (l.foldl f s) := by
    intro l
    induction l with
    | nil => exact fun s _ hs => hs
    | cons k l ih =>
      exact fun s hl hs => ih _ (fun j hj => hl j (List.mem_cons_of_mem _ hj)) (h s k (hl k (List.mem_cons_self ..)) hs)
  exact go _ s (fun k hk => List.mem_range.mp hk) hs

/-! ### Octets -/

/-- Reads depend on memory alone. -/
theorem rdN_congr {s t : State} (h : s.mem = t.mem) (a n : Nat) : s.rdN a n = t.rdN a n := by
  induction n generalizing a with
  | zero => rfl
  | succ n ih => simp only [State.rdN, State.rd8, h, ih]

@[simp] theorem rdN_length (s : State) (a n : Nat) : (s.rdN a n).length = n := by
  induction n generalizing a with
  | zero => rfl
  | succ n ih => simp [State.rdN, ih]

/-- A read that meets no error changes nothing. -/
theorem eccRead_clean {s : State} (h : s.upsets = []) (a n : Nat) : s.eccRead a n = (false, s) := by
  unfold State.eccRead
  induction wordsOf a n with
  | nil => rfl
  | cons w l ih => simp only [List.foldl_cons, h, stGet] at *; exact ih

end Sys2Proof.Machine
end

