-- ==== Sys2Proof/WellFormed.lean ====
section
/-! DEFINITION. WellFormed.lean: which commands can come: a bus write is 1, 2, 4 or 8 octets wide (R19, R282), and what arrives has the
length that the spec gives it. -/

namespace Sys2Proof

/-- A command that can come. -/
def Instr.wellFormed : Instr → Bool
  | .registerWrite _ _ data => data.octets.length == 1 || data.octets.length == 2 || data.octets.length == 4 || data.octets.length == 8
  | .counterReadClear .. => true
  | .shadowWrite .. => true
  | .ringBaseWrite .. => true
  | .epochRead .. => true
  | .refLost => true
  | .fallbackSwitch => true
  | .fallbackLock => true
  | .refValidQualified => true
  | .rootLockReturn => true
  | .refSrcSelect .. => true
  | .returnRequest => true
  | .epochBoundary .. => true
  | .stagingCut => true
  | .commitArm .. => true
  | .commitCancel .. => true
  | .loadStart .. => true
  | .loadBegin => true
  | .loadHeaderChecked => true
  | .loadHashDone => true
  | .loadSignatureVerified => true
  | .loadRegionChecked => true
  | .loadAbort => true
  | .swapArm => true
  | .swapCancel => true
  | .venueOrder .. => true
  | .bootselGo .. => true
  | .bootselComplete => true
  | .portStateRequest .. => true
  | .bandOverride .. => true
  | .portTransitionDone .. => true
  | .loRetuneDone .. => true
  | .synLockLoss .. => true
  | .spareTakeoverDone .. => true
  | .synCalibrationDone .. => true
  | .synFailedClear .. => true
  | .spareRecal => true
  | .calibrationDue .. => true
  | .calibrationRequest .. => true
  | .calibrationDone .. => true
  | .txPortWalk .. => true
  | .txPaOn .. => true
  | .txAirStart .. => true
  | .txEnd .. => true
  | .txRampDownEnd .. => true
  | .coexGntWithdrawn .. => true
  | .coexCutReport => true
  | .aagcStepDown .. => true
  | .aagcStepUp .. => true
  | .detection .. => true
  | .windowGroupClose .. => true
  | .separation .. => true
  | .blankingStart .. => true
  | .signatureInvalidate .. => true
  | .signatureInvalidateAll => true
  | .signatureSweep => true
  | .signatureBsetSweep => true
  | .syncMatch .. => true
  | .syncTimeout .. => true
  | .headerCheck _ octets => decide (octets.length ≤ 2047)
  | .pilotLockLoss .. => true
  | .rxLaneAbort .. => true
  | .txLaneAbort .. => true
  | .lookupPoint _ octets _ => decide (octets.length ≤ 2047)
  | .assocPanCheck .. => true
  | .securityPoint _ octets => decide (octets.length ≤ 2047)
  | .frameEnd _ psdu _ _ => decide (psdu.length ≤ 2047)
  | .frameVerdict .. => true
  | .micResult .. => true
  | .descriptorWrite .. => true
  | .ackFreeze .. => true
  | .ackCommit .. => true
  | .nodeRecordWrite .. => true
  | .nodeRecordWriteIf .. => true
  | .nodeRecordFree .. => true
  | .nodeRecordPersist .. => true
  | .nodeRecordAlloc => true
  | .nodeRecordBadOp .. => true
  | .bufferFree .. => true
  | .slotStart => true
  | .txRequestIntake .. => true
  | .txPlace .. => true
  | .txBufferFetched .. => true
  | .txDeadline .. => true
  | .txCommit .. => true
  | .ackWaitExpiry .. => true
  | .dutyMinuteBoundary => true
  | .dutyClear => true
  | .keepaliveSweep => true
  | .staleExpiry .. => true
  | .floodDecision .. => true
  | .floodRecordReceived .. => true
  | .siltSweep => true
  | .siltFlush => true
  | .importCmd => true
  | .importReqReceived .. => true
  | .importAnswer => true
  | .importEndReceived .. => true
  | .importTimeout => true
  | .mark => true
  | .syncCellSend => true
  | .syncCellReceived .. => true
  | .stackSyncEdge .. => true
  | .imageCellReceived _ _ octets => octets.length == 36
  | .detectCellReceived .. => true
  | .laneOpenReceived .. => true
  | .sumsCellReceived .. => true
  | .laneCloseReceived .. => true
  | .halfStreamTimeout .. => true
  | .ringLinkDown .. => true
  | .ringLinkUp .. => true
  | .leaderLost => true
  | .leaderRejoin => true
  | .fabricCellReceived .. => true
  | .fabricFrameReceived .. => true
  | .sendRingEntry .. => true
  | .ptpSyncSend => true
  | .ptpSyncReceived .. => true
  | .ptpDelayReqSend => true
  | .ptpDelayReqReceived .. => true
  | .ptpDelayRespReceived .. => true
  | .venueTimeStep => true
  | .beaconSend => true
  | .beaconReceived .. => true
  | .beaconTimeout => true
  | .masterTakeover => true
  | .backupTakeover => true
  | .orderGo => true
  | .venueTimeRead .. => true
  | .interruptEntry .. => true
  | .watchdogExpiry .. => true
  | .watchdogKick .. => true
  | .engineRun .. => true
  | .engineStop .. => true
  | .engineHeld .. => true
  | .engineReset .. => true
  | .engineResetDone .. => true
  | .worldLock .. => true
  | .sorrelStartup .. => true
  | .leadReload .. => true
  | .leadReloadSectionLoaded => true
  | .leadReady .. => true
  | .autonomyOver => true
  | .nop .. => true
  | .fence .. => true
  | .syncI .. => true
  | .ei .. => true
  | .di .. => true
  | .wfi .. => true
  | .wfiWake .. => true
  | .ret .. => true
  | .reti .. => true
  | .mov .. => true
  | .lea .. => true
  | .push .. => true
  | .pop .. => true
  | .swap .. => true
  | .cas .. => true
  | .not .. => true
  | .neg .. => true
  | .add .. => true
  | .sub .. => true
  | .mul .. => true
  | .mulhu .. => true
  | .mulhs .. => true
  | .divu .. => true
  | .divs .. => true
  | .remu .. => true
  | .rems .. => true
  | .and .. => true
  | .or .. => true
  | .xor .. => true
  | .andn .. => true
  | .shl .. => true
  | .shr .. => true
  | .sar .. => true
  | .zxw .. => true
  | .sxw .. => true
  | .zxd .. => true
  | .sxd .. => true
  | .cbEq .. => true
  | .cbNe .. => true
  | .cbLt .. => true
  | .cbGe .. => true
  | .cbLtu .. => true
  | .cbGeu .. => true
  | .br .. => true
  | .call .. => true
  | .jmp .. => true
  | .calli .. => true
  | .bfi .. => true
  | .bfx .. => true
  | .bfxs .. => true
  | .clz .. => true
  | .bperm .. => true
  | .setEq .. => true
  | .setNe .. => true
  | .setLt .. => true
  | .setGe .. => true
  | .setLtu .. => true
  | .setGeu .. => true
  | .illegal .. => true
  | .cMov .. => true
  | .cAdd .. => true
  | .cSub .. => true
  | .cAnd .. => true
  | .cOr .. => true
  | .cXor .. => true
  | .cShl .. => true
  | .cShr .. => true
  | .cCbeq .. => true
  | .cCbne .. => true
  | .cCbltu .. => true
  | .cCbgeu .. => true
  | .cMovb .. => true
  | .cJmp .. => true
  | .cCall .. => true
  | .cNop .. => true
  | .cFence .. => true
  | .cRet .. => true
  | .cWait .. => true
  | .cWaitWake .. => true
  | .eventFire => true
  | .relayFire .. => true
  | .softwareTrigger .. => true
  | .asyncEdge .. => true
  | .irqCoalesceTimeout .. => true
  | .mbxSend .. => true
  | .mailboxRecordReceived .. => true
  | .mailboxTimeout .. => true
  | .fragmentTimeout => true
  | .mbxSlotRead .. => true
  | .doorbellMaskWrite .. => true
  | .timerMatch .. => true
  | .timerOverflow .. => true
  | .groupLoad .. => true
  | .groupStop .. => true
  | .timerChainRead .. => true
  | .rtcSecond => true
  | .oscFail => true
  | .oscRestore => true
  | .rtcTimeRead .. => true
  | .rtcYearRead => true
  | .freezeLapse => true
  | .rtcApply => true
  | .rtcApplyEdge => true
  | .alarmArm .. => true
  | .osfClear => true
  | .tamperAssert => true
  | .zeroizeEraseDone => true
  | .backupPowerUp .. => true
  | .railLost .. => true
  | .railsPresent => true
  | .startupStepDone .. => true
  | .startupStepTimeout .. => true
  | .pgoodLow => true
  | .voltageAck => true
  | .voltageRequestFail => true
  | .pmbusTransaction .. => true
  | .pmbusTransactionDone .. => true
  | .pmbusAlert .. => true
  | .quietRequest => true
  | .quietDrainDone => true
  | .activeRequest => true
  | .dormantRequest .. => true
  | .dormantDrainDone => true
  | .dormantReached .. => true
  | .wake => true
  | .wakePortMatch .. => true
  | .perstAssert => true
  | .softwareDeviceReset .. => true
  | .deviceWatchdogExpiry => true
  | .deviceWatchdogKick .. => true
  | .resetDrainDone => true
  | .hotSensor .. => true
  | .overTemperatureShutdown => true
  | .program .. => true
  | .erase .. => true
  | .blank .. => true
  | .lwrite .. => true
  | .lconfirm .. => true
  | .labandon .. => true
  | .flashOperationDone .. => true
  | .counterWriteDone .. => true
  | .isvnAdvance .. => true
  | .lcProvision .. => true
  | .lcZeroize .. => true
  | .install .. => true
  | .installPub .. => true
  | .delete .. => true
  | .installAuthority .. => true
  | .lcDeploy .. => true
  | .lcReturn .. => true
  | .reservationWriteDone .. => true
  | .ccmEnc .. => true
  | .ccmDec .. => true
  | .kwWrap .. => true
  | .kwUnwrap .. => true
  | .sha256 .. => true
  | .ecdsaVerify .. => true
  | .cipherOperationDone .. => true
  | .updBlock .. => true
  | .blockCrcDone => true
  | .updWinbase .. => true
  | .updWinlen .. => true
  | .updateStart .. => true
  | .updateChecksDone => true
  | .updateAbort .. => true
  | .updateCommit .. => true
  | .updateRecover .. => true
  | .blockMapClear .. => true
  | .hostBar2Access .. => true
  | .hostTxRequestFetch _ octets => octets.length == 32
  | .hostBufferReadDone .. => true
  | .hifModerationTimeout .. => true
  | .msixUnmask .. => true
  | .busMasterChange .. => true
  | .heldDescriptorDiscard => true
  | .interfaceReset .. => true
  | .linkUp .. => true
  | .coreSamplePinEdge .. => true
  | .coreSampleTimeTrigger => true
  | .coreSampleRecordReceived .. => true
  | .snapshotMoveDone => true
  | .snapshotArm => true
  | .snapshotDisarm => true
  | .snapshotBcast => true
  | .bankRelease .. => true
  | .counterClearAll => true
  | .counterFreeze .. => true
  | .extest => true
  | .idcode => true
  | .samplePreload .. => true
  | .clamp => true
  | .highz => true
  | .extestPulse => true
  | .extestTrain => true
  | .bypass => true
  | .privateInstruction .. => true
  | .refValidRise => true
  | .fabricPortDown .. => true
  | .fabricPortUp .. => true
  | .backupPowerLost => true
  | .hotClear => true
  | .regEnPulseEnd => true
  | .hopSecondBoundary => true
  | .beaconTimeMissed => true
  | .coexReqRise .. => true

end Sys2Proof
end

