-- ==== Sys2Proof/Tests/Slice0.lean ====
section
/-! SUPPORT. Tests/Slice0.lean: tests of the model by hand, and for every statement with hypotheses a state and operands that meet
them. -/

namespace Sys2Proof.Tests

open Sys2Proof.Machine

set_option Elab.async false

/-- A device that runs, right after start-up and before anything was configured. -/
def on : State := { State.reset with phase := .running }

theorem test_wf_register_write_width : Instr.wellFormed (.registerWrite 12 0x20000008#32 ⟨[0, 0, 0], 0⟩) = false := by decide

theorem witness_BusCommandsComplete :
    (mainOn on = true ∧ ([1, 2] : List Byte) ≠ [] ∧ isReg (0x017FFFFE#32).toNat = false ∧
      memSpan 12 (0x017FFFFE#32).toNat 2 = some 0x017FFFFE ∧ memRo 0x017FFFFE = false) ∧
    (0x01000000 ≤ (0x017FFFFF#32).toNat ∧ (0x017FFFFF#32).toNat < 0x01800000) := by decide

theorem witness_RegisterAccessOfAnotherWidth :
    (mainOn on = true ∧ ([1] : List Byte) ≠ [] ∧ isReg (0x21FFFFFC#32).toNat = true ∧ ([1] : List Byte).length ≠ 4) ∧
    (isReg (0x20000001#32).toNat = true ∧ (0x20000001#32).toNat % 4 ≠ 0) := by decide

/-- A device that runs on its reference, and one that runs on the fallback with its reference back. -/
def onRef : State := on.setFlds [(SYS_CLKSTAT_REF_VALID, 1), (SYS_CLKSTAT_ON_FALLBACK, 0)]
def onFallback : State := on.setFlds [(SYS_CLKSTAT_REF_VALID, 1), (SYS_CLKSTAT_ON_FALLBACK, 1)]
def onStage (n : Nat) : State := { on with ref := { stage := n } }

theorem witness_ReferenceCommandsComplete :
    (onRef.flag SYS_CLKSTAT_REF_VALID = true ∧ (onRef.flag SYS_CLKSTAT_ON_FALLBACK && !onRef.ref.ret) = false) ∧
    (onFallback.flag SYS_CLKSTAT_REF_VALID = true ∧ onFallback.flag SYS_CLKSTAT_ON_FALLBACK = true ∧ onFallback.ref.ret = false) ∧
    (onStage 1).ref.stage = 1 ∧ (onStage 2).ref.stage = 2 ∧ { on with ref := { ret := true } }.ref.ret = true ∧
    2 ≤ on.part.fabricPorts := by decide

theorem witness_CoherenceCommandsComplete :
    on.cut.done = false ∧ cutPassed on = false ∧ on.swapReq = none ∧
    ({ on with swapReq := some { mask := 2, build := 0, target := 7 } }.swapReq.isSome = true ∧
      requestCut { on with swapReq := some { mask := 2, build := 0, target := 7 } } = false) := by decide

def aLoad : LoadRun := { slot := 0, mask := 0 }
def onLoad (phase : Nat) (r : LoadRun) : State :=
  { on with cfg := { on.cfg with load := some r } }.setFlds [(SYS_SRLSTAT_STATE, 1), (CFG_LOADSTAT_PHASE, phase), (CFG_LOADSTAT_BUSY, 1)]

theorem witness_LoadCommandsComplete :
    on.flag CFG_LOADSTAT_BUSY = false ∧ (onLoad 0 aLoad).flag CFG_LOADSTAT_BUSY = true ∧
    ((onLoad 0 aLoad).cfg.load = some aLoad ∧ (onLoad 0 aLoad).fld SYS_SRLSTAT_STATE = 1) ∧ (onLoad 1 aLoad).fld CFG_LOADSTAT_PHASE = 1 ∧
    (onLoad 2 aLoad).fld CFG_LOADSTAT_PHASE = 2 ∧ (onLoad 3 aLoad).fld CFG_LOADSTAT_PHASE = 3 ∧ (onLoad 4 aLoad).fld CFG_LOADSTAT_PHASE = 4 ∧
    (loadPresent { aLoad with dirs := [{ id := 1, off := 0, len := 0, crc := 0 }] } 1 = none ∧
      (([{ id := 1, off := 0, len := 0, crc := 0 }] : List BsDir).find? (·.id = 1)).isSome = true) ∧
    on.flag CFG_BOOTSTAT_BOOTSEL_BUSY = false ∧ (on.flcQueue = [] ∧ on.flcRun = none) ∧ (pageRead on 0).1.isSome = true := by decide

theorem witness_PortCommandsComplete :
    (portHere on 47 = true ∧ portRole on 47 = 0) ∧ (on.setFld (RFP_STAT_INTRANSIT 47) 1).flag (RFP_STAT_INTRANSIT 47) = true ∧
    (on.flag (RFP_CALSTAT_DUE 0) = false ∧
      on.fld RFP_CALGLB_DUE_DELTA < ((200 : Int) - signedOf 8 (on.fld (RFP_CALSTAT_TEMP_AT_CAL 0))).natAbs) ∧
    ((on.setPortx 3 { on.portx 3 with calRun := 8 }).portx 3).calRun ≠ 0 := by decide

def onSyn (k taking : Nat) (cal after : Bool) (l : List (Field × Nat)) : State :=
  (on.setSyn k { on.syn k with taking := taking, calibrating := cal, lockedAfterCal := after }).setFlds l

theorem witness_SynthesizerCommandsComplete :
    bitOf { on with loRetune := 2 }.loRetune (1 : Fin 2) = true ∧
    (synPresent (onSyn 1 0 false false [(SYN_STAT_ASSIGN 1, 2), (SYN_STAT_LOCK 1, 1), (SYS_CLKSTAT_ROOT_LOCK, 1), (SYS_CLKSTAT_REF_VALID, 1), (SYS_CLKSTAT_ON_FALLBACK, 0)]) 1 = true ∧
      (onSyn 1 0 false false [(SYN_STAT_ASSIGN 1, 2), (SYN_STAT_LOCK 1, 1), (SYS_CLKSTAT_ROOT_LOCK, 1), (SYS_CLKSTAT_REF_VALID, 1), (SYS_CLKSTAT_ON_FALLBACK, 0)]).fld (SYN_STAT_ASSIGN 1) ≠ 0 ∧
      (onSyn 1 0 false false [(SYN_STAT_ASSIGN 1, 2), (SYN_STAT_LOCK 1, 1), (SYS_CLKSTAT_ROOT_LOCK, 1), (SYS_CLKSTAT_REF_VALID, 1), (SYS_CLKSTAT_ON_FALLBACK, 0)]).flag (SYN_STAT_LOCK 1) = true ∧
      refInUse (onSyn 1 0 false false [(SYN_STAT_ASSIGN 1, 2), (SYN_STAT_LOCK 1, 1), (SYS_CLKSTAT_ROOT_LOCK, 1), (SYS_CLKSTAT_REF_VALID, 1), (SYS_CLKSTAT_ON_FALLBACK, 0)]) = true) ∧
    ((onSyn 2 1 false false []).syn (2 : Fin 3)).taking ≠ 0 ∧
    (((onSyn 0 0 true false [(SYN_STAT_ASSIGN 0, 1)]).syn (0 : Fin 3)).calibrating = true ∧
      (onSyn 0 0 true false [(SYN_STAT_ASSIGN 0, 1)]).fld (SYN_STAT_ASSIGN 0) ≠ 0) ∧
    ((onSyn 2 0 false true [(SYN_STAT_FAILED 2, 1)]).flag (SYN_STAT_FAILED 2) = true ∧
      (onSyn 2 0 false true [(SYN_STAT_FAILED 2, 1)]).fld (SYN_STAT_ASSIGN 2) = 0 ∧
      ((onSyn 2 0 false true [(SYN_STAT_FAILED 2, 1)]).syn (2 : Fin 3)).lockedAfterCal = true ∧
      ((onSyn 2 0 false true [(SYN_STAT_FAILED 2, 1)]).syn (2 : Fin 3)).calibrating = false) ∧
    (spareSyn on).isSome = true := by decide

def onTx (n : Nat) (l : TxLane) : State := txLanePut on n l

theorem witness_TransmitLaneCommandsComplete :
    (((onTx 95 { owner := 2, committed := true }).txl (95 : Fin 96)).stage = 0 ∧ ((onTx 95 { owner := 2, committed := true }).txl (95 : Fin 96)).owner = 2 ∧
      ((onTx 95 { owner := 2, committed := true }).txl (95 : Fin 96)).committed = true) ∧
    (((onTx 0 { stage := 2, committed := true }).txl (0 : Fin 96)).stage = 2 ∧ (onTx 0 { stage := 2, committed := true }).flag COX_CTL_EN = false) ∧
    (coxGoverns (on.setFlds [(COX_CTL_EN, 1), (COX_CTL_BAND_A, 1)]) 0 = true ∧ (false != on.flag COX_CTL_GNT_INV) = false) ∧
    (((onTx 0 { stage := 3, owner := 2 }).txl (0 : Fin 96)).stage = 3 ∧ ((onTx 0 { stage := 3, owner := 2 }).txl (0 : Fin 96)).cut = 0 ∧
      ((onTx 0 { stage := 3, owner := 2 }).txl (0 : Fin 96)).owner = 2) ∧
    ((onTx 0 { stage := 4 }).txl (0 : Fin 96)).stage = 4 ∧ ((onTx 0 { stage := 5 }).txl (0 : Fin 96)).stage = 5 ∧
    (((onTx 0 { stage := 5, owner := 2, ref := 7, cut := 7 }).txLanes.filter (·.2.cut = 7)).map (·.1)) ≠ [] := by decide

def onGain (idx : Nat) : State :=
  on.setFlds [(CAP_CTL_AAGC_EN, 1), (CAP_PALIGN_VALID 47, 1), (RFP_STAT_STATE 47, 3), (CAP_PGAIN_IDX 47, idx)]
def onGroup (closed : Bool) : State := on.setGroups 347 [{ start := 0, closeAt := 5, closed := closed, depth := 1, corrMax := 0 }]

/-- Bin 347 carries profile 2, which is valid, and detection is on in band B. -/
def onBin : State :=
  ((on.setPlane (on.actB 2) 2 { tables := [(tableKey 5 0 347, 0x9#32)] }).setPlane (on.actB 6) 6
    { tables := [(tableKey 7 0 8, 1#32)] }).setFld SPX_CTL_DET_EN_B.active 1

theorem witness_SpatialCommandsComplete :
    (gainLoop ((onGain 19).advance 0) 47 0 = true ∧ 0 ≤ (onGain 19).act CAP_AAGC_HI_THR ∧ (onGain 19).fld (CAP_PGAIN_IDX 47) < 20) ∧
    ((onGain 1).act CAP_AAGC_LO_THR < 255 ∧ (onGain 1).act CAP_AAGC_HOLD_UP ≤ 1000000 ∧ 0 < (onGain 1).fld (CAP_PGAIN_IDX 47)) ∧
    (onBin.detOff = false ∧ binPresent onBin (347 : Fin 348) = true ∧ binDet (onBin.advance 0) (347 : Fin 348) = true ∧
      detOn onBin (347 : Fin 348) = true ∧ (binProfs onBin (347 : Fin 348)).contains 2 = true ∧ pwValid (profWords onBin (2 : Fin 16)) = true ∧
      groupThr (onBin.advance (detWinNs (profWords onBin (2 : Fin 16)))) 347 0 ≤ 1000000 ∧ blankedAt onBin (347 : Fin 348) 0 = false ∧ onBin.flag STK_STAT_JOINT = false) ∧
    (groupDue ((onGroup false).binGroups (347 : Fin 348))).isSome = true ∧
    ((((onGroup true).binGroups (347 : Fin 348)).find? (·.closed)).isSome = true ∧ (onGroup true).flag STK_STAT_JOINT = false) ∧
    (({ on with blanks := [{ band := 0, scope := 0, start := 9, stop := 12, lane := 96 }] }).blanks.find?
      (fun b : Blank => b.lane == (95 : Fin 96).val + 1 && b.blanks && !b.applied)).isSome = true ∧
    sigValid (on.wr8 (sigAddr 16383 + 2) 1) (16383 : Fin 16384) = true := by decide

def aDet : Detection := { prof := 3, start := 0, snr := 40, beam := 0, sig := [] }
def onRx (state : Nat) (x : RxLane) : State := (on.setRxl 383 x).setFld (PHY_RXSTAT_STATE 383) state
/-- Lane 383 receives a frame of five octets, number 5 in the link controller. -/
def onData : State := (onRx 2 { det := aDet, headed := true, len := 5, frame := 6 }).setFrame 5 { det := aDet, lane := 383 }
def anMrfsk : RxLane := { det := aDet, words := [0x5, 0, 0, 0], trk := 0x100 }

theorem witness_ReceiveLaneCommandsComplete :
    (((onRx 1 { det := aDet }).rxl (383 : Fin 384)).isSome = true ∧ rxState (onRx 1 { det := aDet }) (383 : Fin 384) = 1 ∧
      syncFits { det := aDet } 4 4 = true) ∧
    (rxState (onRx 2 anMrfsk) (383 : Fin 384) = 2 ∧ anMrfsk.headed = false ∧ pwMode anMrfsk.words = 2 ∧ bitOf anMrfsk.trk 8 = true ∧
      bitsOf anMrfsk.trk 23 16 < 255) ∧
    (headerLen [0, 0, 0, 0] ≤ ([5] : List Byte).length ∧
      (headerOf { det := aDet, words := [0x3F801, 0, 0, 0] } [5]).toBool = true ∧
      (headerOf { det := aDet, words := [0x3F801, 0, 0, 0] } [0]).toBool = false) ∧
    (rxState (onRx 2 { det := aDet, headed := true, dropped := true }) (383 : Fin 384) = 2 ∧
      (onRx 2 { det := aDet, headed := true, dropped := true }).blanks = []) ∧
    (((onData.frame 5).map fun f => (f.secured, f.test8, f.ackLane)) = some (false, false, none) ∧ rxState onData (383 : Fin 384) = 2 ∧
      (onData.rxl (383 : Fin 384)).map (·.frame) = some 6 ∧ onData.blanks = [] ∧
      rxOctets [] false 0 ([1, 0, 7, 0, 0] : List Byte) = [1, 0, 7, 0, 0] ∧ (fcfOf ([1, 0, 7] : List Byte)).type = 1 ∧
      (fcfOf ([1, 0, 7] : List Byte)).sec = false ∧ (fcfOf ([1, 0, 7] : List Byte)).addrEnd ≤ 3) ∧
    (((onTx 95 { owner := 2 }).txl (95 : Fin 96)).owner = 2 ∧ ((onTx 95 { owner := 2 }).txl (95 : Fin 96)).stage < 2) := by decide

def onFrame (x : RxFrame) : State := on.setFrame 5 x

theorem witness_LinkCommandsComplete :
    (((onRx 2 { det := aDet, headed := true }).rxl (383 : Fin 384)).map (·.headed)) = some true ∧
    (((onFrame { det := aDet, test8 := true }).frame 5).map (·.test8)) = some true ∧
    fcsGood false (List.replicate 5 1) = false ∧
    (((onFrame { det := aDet, slot := some 0, dest := some 0, deliver := true }).frame 5).isSome = true) ∧
    (((onFrame { det := aDet, ack := 2, outcome := 1, ackLane := some 95 }).frame 5).map (·.ack)) = some 2 ∧
    (recLe on 16383 0 2 = on.fld LNK_UPDARG_ARG % 65536 ∧ recLe (on.wr8 (recAddr 16383) 1) 16383 0 2 ≠ (on.wr8 (recAddr 16383) 1).fld LNK_UPDARG_ARG % 65536) ∧
    (recState on 16383 = 0 ∧ recState (on.wr8 (recAddr 16383 + 2) 3) 16383 ≠ 0) ∧
    (updBusy on = false ∧ updBusy { on with updTo := 9 } = true) ∧
    (leAt (updImage (on.setReg (LNK_UPDDATA 0) 0x10000#32 |>.setReg (LNK_UPDDATA 3) 0xFFFE#32)) 2 1 ≠ 0 ∧
      leAt (updImage (on.setReg (LNK_UPDDATA 0) 0x10000#32 |>.setReg (LNK_UPDDATA 3) 0xFFFE#32)) 12 2 = 0xFFFE ∧
      extRecord on (List.replicate 8 0) = none) ∧
    ((onFrame { det := aDet, outcome := 1, secured := true }).frame 5).map (fun x => (x.outcome, x.secured, x.micDone, x.key)) =
      some (1, true, false, []) ∧
    4095 < (on.setFld LNK_BUFCFG_COUNT 4096).fld LNK_BUFCFG_COUNT := by decide

def aReq : TxReq := { src := 0, raw := List.replicate 32 0 }
def onReq (q : TxReq) : State := on.setReq 7 q

theorem witness_TransmitCommandsComplete :
    ceilTo slotNs on.venue < on.nextBoundary ∧
    (intakeOpen (on.setFlds [(TXS_RSIZE_SIZE 11, 4), (TXS_QSIZE_SIZE 11, 4), (TXS_QHEAD_HEAD 11, 1)]) (11 : Fin 12) = true ∧
      on.upsets = []) ∧
    (on.priv.lc = 0 ∧ ({ on with priv := { on.priv with lc := 1 } } : State).priv.lc ≠ 0) ∧
    ((offer (onReq aReq) 7).req 7).isSome = true ∧
    ((((onReq { aReq with phase := 7, attempts := 9 }).req 7).map (·.phase)) = some 7 ∧ ¬(9 < qRetries aReq + 1 ∧ aReq.endAs = 0)) ∧
    (0 < qRetries aReq + 1 ∧ staleOut (on.advance 0) { aReq with phase := 7 } = false) ∧
    (4 ≤ ({ aReq with phase := 4, lane := 95 } : TxReq).phase ∧ ((onTx 95 { owner := 2, ref := 7 }).txl 95).ref = 7 ∧
      ((onTx 95 { owner := 2, ref := 7 }).txl 95).committed = false) ∧
    ((secureAgain ((onReq { aReq with phase := 3 }).advance 0) 7).req 7).isSome = true ∧ (freeTx on).isSome = true ∧
    (recState (on.wr8 (recAddr 16383 + 2) 3) 16383 = 3 ∧
      60000 ≤ (({ on.wr8 (recAddr 16383 + 2) 3 with uptime := 60000000000 } : State).ms + 2 ^ 32 - recLe on 16383 52 4) % 2 ^ 32) := by decide

/-- A device whose frame 5 is a local flood; one in whose cache the key of the flood lives, heard from the fabric. -/
def aFlood : RxFrame :=
  { det := aDet, flood := true, micDone := true, fld := [0x40001, 0, 0x0A], octets := [0x41, 0x88, 0, 0, 0, 255, 255, 0, 0] ++
      [0xF1, 1, 0, 0, 0, 0, 0, 0, 0, 0, 0, 0, 8] ++ [0, 0] }
def onFlood : State := on.setFrame 5 aFlood
def heardKey (s : State) : State := (siltLookup s 10 (List.replicate 8 0) 0 1 1 0 false).2

/-- A device in a stack of three as member 2, with HOLD 10 s and imports enabled. -/
def onFlooding (l : List (Field × Nat)) : State :=
  (((on.setPlane (on.actB 12) 12 { payload := [1, 0, 0, 0, 2, 3, 1, 3] }).setFld (planeState (on.actB 12) 12) 2).setFlds l).setFlds
    [(FLD_SILT_HOLD.active, 10), (FLD_CTL_IMPORT_EN.active, 1)]

theorem witness_FloodCommandsComplete :
    ((onFlood.frame 5).map (·.flood) = some true ∧ bitOf (octAt (macPayload aFlood) 12) 3 = true ∧
      min (octAt (macPayload aFlood) 1) (bitsOf (aFlood.fld.getD 0 0) 23 16) < 2) ∧
    (inStack (onFlooding []) = true ∧ (onFlooding []).act FLD_CTL_IMPORT_EN ≠ 0 ∧ neighbours (onFlooding []) = [4096, 4097]) ∧
    ((onFlooding []).importAnswers.any (·.sender = 4096)) = false ∧
    ((0 + 2 ^ 48 - leAt (List.replicate 24 0) 12 6) % 2 ^ 48 < (onFlooding []).act FLD_SILT_HOLD * 10 ^ 9) ∧
    (neighbours (onFlooding [])).contains 7 = false ∧
    (on.setFld FLD_STAT_IMPORT 1).fld FLD_STAT_IMPORT = 1 ∧ on.fld FLD_STAT_IMPORT ≠ 1 := by decide

theorem witness_FloodCommandsComplete_keys :
    siltFind onFlood (aFlood.fld.getD 2 0 % 256) (((macPayload aFlood).drop 4).take 8) (leAt (macPayload aFlood) 2 2) = none ∧
    (siltFind (heardKey onFlood) 10 (((macPayload aFlood).drop 4).take 8) (leAt (macPayload aFlood) 2 2)).map (siltSource (heardKey onFlood)) =
      some 1 ∧
    (siltFind (heardKey (onFlooding [])) ((onFlooding []).act FLD_SILT_HOLD)
      (leBytes 4 ((onFlooding []).fld FLD_MARKL_ORIG_LO) ++ leBytes 4 ((onFlooding []).fld FLD_MARKH_ORIG_HI))
      ((onFlooding []).fld FLD_MARKSEQ_SEQ)).isSome = true ∧
    siltFind (onFlooding []) ((onFlooding []).act FLD_SILT_HOLD) (List.replicate 8 0) 0 = none := by decide +kernel

/-- Without neighbours: a stack of one member. -/
theorem witness_FloodCommandsComplete_alone :
    neighbours ((onFlooding []).setPlane (on.actB 12) 12 { payload := [1, 0, 0, 0, 2, 0, 1, 3] }) = [] ∧
    (({ onFlooding [(FLD_STAT_IMPORT, 1)] with importAsked := [4096, 4097] } : State).importAsked.contains 4097 = true ∧
      (onFlooding [(FLD_STAT_IMPORT, 1)]).fld FLD_STAT_IMPORT = 1) := by decide

/-- A device in a stack as member `m` whose leader is member 1. -/
def onStack (m : Byte) (l : List (Field × Nat)) : State :=
  ((on.setPlane (on.actB 12) 12 { payload := [1, 0, 0, 0, m, 3, 1, 3] }).setFld (planeState (on.actB 12) 12) 2).setFlds l

theorem witness_StackCommandsComplete :
    (isLeader (onStack 1 [(STK_STAT_RING0_UP, 1)]) = true ∧ ringUp (onStack 1 [(STK_STAT_RING0_UP, 1)]) ≠ 0) ∧ (inStack (onStack 2 []) = true ∧ isLeader (onStack 2 []) = false) ∧
    (1 ≤ (leAt (List.replicate 36 255) 0 2 + 65536 - recLe ((onStack 2 []).wrN (recAddr 16383) [0, 128]) 16383 0 2) % 65536 ∧
      (leAt (List.replicate 36 255) 0 2 + 65536 - recLe ((onStack 2 []).wrN (recAddr 16383) [0, 128]) 16383 0 2) % 65536 ≤ 32767) ∧
    32767 < (leAt (List.replicate 36 255) 0 2 + 65536 - recLe (onStack 2 []) 16383 0 2) % 65536 ∧
    (7 : Fin 8).val ≠ stkMember (onStack 2 []) ∧ (4095 : Fin 4096).val / 512 ≠ stkMember (onStack 2 []) ∧
    (({ onStack 2 [] with jointParts := [(4095, {})] } : State).jointParts.find? (fun e : Nat × JointPart => e.1 = (4095 : Fin 4096).val)).isSome = true ∧
    bitOf (ringUp (onStack 2 [(STK_STAT_RING1_UP, 1)])) (1 : Fin 2) = true ∧ (1 : Fin 2).val = halfDir (onStack 2 []) 7 ∧ ringEnabled (onStack 2 []) (1 : Fin 2) = true ∧
    (onStack 2 [(STK_STAT_LEADER_OK, 1)]).flag STK_STAT_LEADER_OK = true ∧ (onStack 2 []).flag STK_STAT_LEADER_OK = false := by decide

/-- A device of venue 1 with index 2 whose master has index `master`, in venue-time state `st`. -/
def onVenue (master : Byte) (st : Nat) : State :=
  ((on.setPlane (on.actB 13) 13 { payload := [1, 0, 0, 0, 2, 0, master, 0, 3, 0, 3, 0] }).setFld (planeState (on.actB 13) 13) 2).setFlds
    [(VFB_CTL_PTP_EN, 1), (VFB_STAT_PORT0_UP, 1), (VFB_STAT_STATE, st), (VFB_SQSIZE_SIZE, 4)]

/-- A fabric frame without records from device 1 to device 2 of venue 1. -/
def aFrame (seq : Nat) : List Byte := [1, 0] ++ leBytes 4 1 ++ leBytes 2 1 ++ leBytes 2 2 ++ leBytes 4 seq ++ [0, 0]

/-- A cell of TYPE 7 from member 0 to member 2. -/
def aCell : List Byte := cellOf 7 0 2 (List.replicate 60 0)

theorem witness_FabricCommandsComplete_cell :
    aCell.length = 64 ∧ leAt aCell 0 2 % 16 = 7 ∧ leAt aCell 2 2 = crcMsb 16 0x1021 0xFFFF (octNats (aCell.drop 4)) := by decide +kernel

theorem witness_FabricCommandsComplete :
    (inStack (onStack 2 []) = true ∧ ([] : List Byte).length ≠ 64) ∧
    (bitsOf (leAt aCell 0 2) 6 4 ≠ stkMember (onStack 2 []) ∧ bitsOf (leAt aCell 0 2) 10 7 = stkMember (onStack 2 [])) ∧
    (fabricUp (onVenue 1 2)).contains (0 : Fin 2).val = true ∧ 3 < (onVenue 1 2).fld VFB_SQSIZE_SIZE ∧
    (onVenue 1 2).fld VFB_SQSIZE_SIZE ≤ 4 ∧ ptpMaster (onVenue 1 2) = false ∧ inVenue (onVenue 1 2) = true ∧
    (leAt (aFrame 7) 2 4 = venueId (onVenue 1 2) ∧ leAt (aFrame 7) 8 2 = myIndex (onVenue 1 2) ∧ octAt (aFrame 7) 0 = 1 ∧
      octAt (aFrame 7) 14 = 0 ∧ (stGet [] (onVenue 1 2).fseqSeen (leAt (aFrame 7) 6 2)).contains 7 = false) ∧ (1 : Fin 2).val < on.part.fabricPorts := by decide

def upLate (s : State) : State := { s with uptime := 3000000000 }

theorem witness_VenueTimeCommandsComplete :
    ptpMaster (onVenue 2 4) = true ∧ (ptpOn (onVenue 2 4) (0 : Fin 2) = true ∧ 0 < (onVenue 2 4).nextBoundary) ∧
    (ptpSlave (onVenue 1 2) = true ∧ ptpOn (onVenue 1 2) 0 = true ∧ timingPort ((onVenue 1 2).advance 0) = 1 ∧
      (let s : State := { onVenue 1 2 with vfb := { (onVenue 1 2).vfb with sync0At := 1 } }
       ptpSlave s = true ∧ ptpOn s (timingPort s) = true ∧ timingPort s = (0 : Fin 2).val)) ∧
    (inVenue (onVenue 1 5) = true ∧ leAt (leBytes 4 7 ++ [1, 0, 0, 0]) 4 2 = masterIndex (onVenue 1 5) ∧ (onVenue 1 5).vfb.lastBseq = none) ∧
    (vfbState (onVenue 2 2) = 2 ∧ myIndex (onVenue 2 2) = masterIndex (onVenue 2 2) ∧
      beaconTime (onVenue 2 2).venue < (onVenue 2 2).nextBoundary) ∧
    ((upLate on).venue % periodNs = 0 ∧ 0 + 1000000 ≤ (upLate on).uptime) ∧
    (beaconTime (onVenue 2 4).venue ≠ (onVenue 2 4).vfb.sentAt ∧ beaconTime (onVenue 2 4).venue < (onVenue 2 4).nextBoundary) := by decide

theorem witness_VenueTimeCommandsComplete_states :
    (vfbState (upLate (onVenue 1 2)) = 2 ∧ ((upLate (onVenue 1 2)).reachUp 385000000).isSome = true) ∧
    (vfbState (upLate (onVenue 2 1)) = 1 ∧ myIndex (onVenue 2 1) = masterIndex (onVenue 2 1) ∧
      (((upLate (onVenue 2 1)).reachUp 1000000000).map fun s => decide (beaconTime s.venue < s.nextBoundary)) = some true) ∧
    ((upLate { onVenue 3 3 with vfb := { (onVenue 3 3).vfb with wasLocked := true } }).vfb.wasLocked = true ∧ vfbState (onVenue 3 3) = 3) ∧
    (3 = backupIndex (onVenue 1 1) ∧ ((upLate (onVenue 1 1)).reachUp 2000000000).isSome = true) := by decide

def onEng (n st : Nat) (x : EngX) : State := (on.setEng n x).setFlds [(SYS_ENGSTAT_STATE n, st), (SYS_ENGWDT_LIMIT n, 1), (SYS_ENGSTAT_INT_EN n, 1), (IRQ_RHEAD_HEAD n, 1)]
def upFar (s : State) : State := { s with uptime := 60000000 }
def onSorrel (st : Nat) : State := on.setFlds [(SYS_SRLSTAT_STATE, st), (SYS_SRLSTAT_LEAD_DOWN, 1)]

theorem witness_EngineCommandsComplete :
    (vReady (onEng 11 1 {}) (11 : Fin 12) = true ∧ (onEng 11 1 {}).flag (SYS_ENGSTAT_INT_EN 11) = true ∧ irqLevel (onEng 11 1 {}) 11 = true) ∧
    (engState (onEng 11 1 {}) 11 = 1 ∧ (onEng 11 1 {}).fld (SYS_ENGWDT_LIMIT 11) ≠ 0 ∧ ((onEng 11 1 {}).reachUp 1000).isSome = true) ∧
    (engState (onEng 0 1 {}) 0 = 1 ∧ (onEng 0 1 {}).fld (SYS_ENGWDT_LIMIT 0) ≠ 0 ∧ ((onEng 0 1 {}).reachUp 1000).isSome = true) ∧
    engMay 11 11 true = true ∧ engMay 13 11 false = true ∧ (engState (onEng 11 0 {}) 11 = 0 ∧ (onEng 11 0 {}).flag (SYS_ENGCTL_RUN 11) = false) ∧ engState (onEng 11 3 {}) 11 = 3 ∧
    engState (onEng 11 4 {}) 11 = 4 ∧ leadOrSorrel 13 = true ∧
    (on.fld SYS_SRLSTAT_STATE = 0 ∧ (keyStart on true).flag SYS_RSTCAUSE_WAKE = false ∧ bitOf (keyStart on true).wakeLatch 2 = false ∧
      on.flag SYS_RSTCAUSE_WAKE = false ∧ bitOf on.wakeLatch 2 = false) ∧
    (onSorrel 1).fld SYS_SRLSTAT_STATE = 1 ∧ ((onSorrel 3).fld SYS_SRLSTAT_STATE = 3 ∧ (onSorrel 3).flag SYS_SRLSTAT_LEAD_DOWN = true ∧
      (onSorrel 3).flag (SYS_ENGCTL_RUN 0) = false) ∧
    (((onSorrel 3).eng 0).late = false ∧ ((onSorrel 3).reachUp ((onSorrel 3).reloadAt + 5000000)).isSome = true ∧
      ((upFar (onSorrel 3)).reachUp ((onSorrel 3).reloadAt + 50000000)).isSome = true) := by decide

/-- BFI.D [P1 + P2 * 8 - 1], [[0x04000010]], #-8 under SPACE 3 and REP: field 5 to 7, length 9. -/
def aForm : VForm :=
  { prefixes := [.nonSpec, .space 3, .repeated, .width 3], op := .bfi, long := false, ctrl := 0x81C5
    ops := [.index8 1 2 3 0xFF, .minda 0x10, .quick 8], disp := 0 }

theorem witness_PlewinVDecodesEveryForm : aForm.ok = true := by decide +kernel

theorem test_form_bytes :
    aForm.bytes = [0x6A, 0x67, 0x68, 0x63, 0xF0, 0x00, 0xC5, 0x81, 0x00, 0x69, 0x1A, 0xFF, 0xA0, 0x10, 0x00, 0x00, 0x00, 0xC8] := by
  decide +kernel

/-- The third instruction of the specification's worked case: BFX.H [P0], [P1+14], POS 9, LEN 4. -/
theorem witness_PlewinVDecodesOnlyForms : vDecode [0x61, 0xF0, 0x01, 0xC9, 0x00, 0x10, 0x41, 0x0E] =
    .ok { op := .bfx, width := 2, rep := false, atomic := false, ctrl := 0xC9, ops := [(.ind 0, 2), (.disp 1 14, 2)], disp := 0, len := 8 } := by
  decide +kernel

/-- An engine that runs at address 0, with pointers, and its local memory from there. -/
def onCode (n : Nat) (p : List Nat) (l : List Byte) : State :=
  ((on.setEng n { on.eng n with ptrs := p }).wrN (localBase n) l).setFld (SYS_ENGSTAT_STATE n) 1

/-- A store faults nothing. -/
def runOk {α : Type} (r : Run α) : Bool := match r with | .go _ _ => true | .trap _ _ _ => false

/-- What `fetches` asks, but for the instruction. -/
def fetchesOk (s : State) (n : Nat) : Bool :=
  vReady s n && decide (iaOf s n < 0x80000) && (s.eng n).stale.isEmpty && s.upsets.isEmpty

theorem witness_PlewinVDataRowsComplete_fetch :
    fetchesOk (onCode 11 [0, 0x2000] [0x20, 0x11, 0x01, 0xC8]) 11 = true ∧
    vDecode (vFetch (onCode 11 [0, 0x2000] [0x20, 0x11, 0x01, 0xC8]) 11 0) = .ok { op := .alu 0, width := 4, rep := false, atomic := false, ctrl := 0, ops := [(.ind 1, 4), (.reg 1, 4), (.imm (-8), 4)], disp := 0, len := 4 } := by
  decide +kernel

theorem witness_PlewinVDataRowsComplete_store :
    runOk (specPlaces (vActor 11) 0 [(.ind 1, 4), (.reg 1, 4), (.imm (-8), 4)] [0, 0x2000] (onCode 11 [0, 0x2000] [])) = true ∧
    runOk (placesRead (vActor 11) [0, 0x2000] [(.reg 1, 4), (.val 8, 4)] (onCode 11 [0, 0x2000] [])) = true ∧
    (alu 0 32 0x2000 0xFFFFFFF8).isSome = true ∧
    runOk (vCommit (onCode 11 [0, 0x2000] []) 11 0 false { writes := [⟨.mem 0x2000, 4, 0x1FF8⟩], ptrs := [0, 0x2000], pc := 4 }) = true := by
  decide +kernel

theorem witness_PlewinVRegisterForms :
    fetchesOk (onCode 0 [5, 6] [0x21, 0x07, 0x00, 0xC9]) 0 = true ∧
    vDecode (vFetch (onCode 0 [5, 6] [0x21, 0x07, 0x00, 0xC9]) 0 0) = .ok { op := .alu 1, width := 4, rep := false, atomic := false, ctrl := 0, ops := [(.reg 7, 4), (.reg 0, 4), (.imm (-7), 4)], disp := 0, len := 4 } ∧
    ([Spec.reg 0, .imm (-7)].map (plainSource [5, 6])) = [5, 0xFFFFFFF9].map some ∧ alu 1 32 5 0xFFFFFFF9 = some 12 := by
  decide +kernel

theorem witness_PlewinVStoresAndLoads :
    (isReg 0x017FFFFF = false ∧ memSpan 3 0x017FFFFF 1 = some 0x017FFFFF ∧ memRo 0x017FFFFF = false) ∧
    (memSpan 3 0x7FFFC 4 = some 0x0437FFFC ∧ memRo 0x0437FFFC = false) ∧ (memSpan 3 0 8 = some 0x04300000 ∧ on.upsets = []) := by decide

theorem witness_PlewinVControlRowsComplete_plain :
    ([[0x00], [0x01], [0x02], [0x03], [0x04], [0x05], [0x06], [0x07], [0x46, 0xFE, 0xFF], [0x47, 0x10, 0x00]] : List (List Byte)).all
      (fun l => fetchesOk (onCode 7 [0, 0, 0, 0, 0, 0, 0, 0x100] l) 7 &&
        match vDecode (vFetch (onCode 7 [0, 0, 0, 0, 0, 0, 0, 0x100] l) 7 0) with
        | .ok i => i.ops.isEmpty && !i.rep && !i.atomic
        | .error _ => false) = true := by decide +kernel

theorem witness_PlewinVControlRowsComplete_operands :
    runOk (placesRead (vActor 7) [5] [(.reg 0, 4), (.val 8, 4)] (onCode 7 [5] [0x44, 0x00, 0xC8, 0x10, 0x00])) = true ∧
    runOk (placesRead (vActor 7) [5] [(.reg 0, 4)] (onCode 7 [5] [0x50, 0x00])) = true ∧
    runOk (accRead (vActor 7) 0x100 4 (onCode 7 [] [])) = true ∧
    runOk (vCommit (onCode 7 [] []) 7 0 false { writes := [⟨.mem 0xFC, 4, 5⟩], ptrs := [], pc := 16 }) = true := by decide +kernel

theorem witness_PlewinVControlRowsComplete_wait :
    irqLevel (onEng 7 1 { waiting := true }) 7 = true ∧ irqLevel on 7 = false ∧ mainOn (onEng 7 1 { waiting := true }) = true ∧
    engState (onEng 7 1 { waiting := true }) 7 = 1 ∧ ((onEng 7 1 { waiting := true }).eng 7).waiting = true ∧
    (onEng 7 1 {}).flag (SYS_ENGSTAT_INT_EN 7) = true ∧ on.flag (SYS_ENGSTAT_INT_EN 7) = false := by decide

def opsRead (s : State) (l : List Byte) : Bool :=
  match vDecode l with
  | .ok i => (match specPlaces (vActor 7) 0 i.ops (s.eng 7).ptrs s with
    | .go r t => runOk (placesRead (vActor 7) r.2 ((List.range i.ops.length).map (operand i r.1)) t) &&
        (!i.atomic || runOk (atomicCheck (operand i r.1 0).1 i.width t))
    | .trap _ _ _ => false)
  | .error _ => false

theorem witness_PlewinVMemoryRowsComplete :
    ([[0x09, 0x00, 0x41, 0xFF], [0x0A, 0xC7], [0x0B, 0x12], [0x0C, 0x11, 0x12], [0x69, 0x0C, 0x11, 0x12], [0x0D, 0x11, 0x02, 0xC1],
      [0x69, 0x10, 0x11, 0xC1]] : List (List Byte)).all (opsRead (onCode 7 [0, 0x200, 0x300, 0, 0, 0, 0, 0x400] [])) = true := by decide +kernel

theorem witness_PlewinVAlu :
    fetchesOk (onCode 11 [0, 0x2000] [0x63, 0x26, 0x11, 0xC8, 0xC0]) 11 = true ∧
    vDecode (vFetch (onCode 11 [0, 0x2000] [0x63, 0x26, 0x11, 0xC8, 0xC0]) 11 0) = .ok { op := .alu 6, width := 8, rep := false, atomic := false, ctrl := 0, ops := [(.ind 1, 8), (.imm (-8), 8), (.imm 0, 8)], disp := 0, len := 5 } ∧
    runOk (specPlaces (vActor 11) 0 [(.ind 1, 8), (.imm (-8), 8), (.imm 0, 8)] [0, 0x2000] (onCode 11 [0, 0x2000] [])) = true ∧
    ¬(5 ≤ (6 : Fin 16).val ∧ (6 : Fin 16).val ≤ 8 ∧ (1#64) = 0) ∧
    runOk (vCommit (onCode 11 [0, 0x2000] []) 11 0 false { writes := [⟨.mem 0x2000, 8, 5⟩], ptrs := [0, 0x2000], pc := 5 }) = true := by
  decide +kernel

theorem witness_PlewinVBranches :
    fetchesOk (onCode 11 [0, 0x2000] [0x60, 0x4A, 0x21, 0xC8, 0xFC, 0xFF, 0xFF, 0xFF]) 11 = true ∧
    vDecode (vFetch (onCode 11 [0, 0x2000] [0x60, 0x4A, 0x21, 0xC8, 0xFC, 0xFF, 0xFF, 0xFF]) 11 0) = .ok { op := .cb 2, width := 1, rep := false, atomic := false, ctrl := 0, ops := [(.postinc 1, 1), (.imm (-8), 1)], disp := -4, len := 8 } ∧
    runOk (placesRead (vActor 11) [0, 0x2001] [(.mem 0x2000, 1), (.val 0xF8, 1)] (onCode 11 [0, 0x2000] [])) = true := by decide +kernel

def aField (width ctrl : Nat) : VInstr :=
  { op := .bfx, width := width, rep := false, atomic := false, ctrl := ctrl, ops := [], disp := 0, len := 8 }

theorem witness_PlewinVFieldOperations :
    ((aField 8 0xFC0).ctrl / 4096 = 0 ∧ (aField 8 0xFC0).ctrl % 64 + (aField 8 0xFC0).ctrl / 64 + 1 ≤ 8 * (aField 8 0xFC0).width) ∧
    ((aField 4 0x71FF).ctrl / 2 ^ 18 = 0) ∧ ((aField 8 0x71C5).ctrl % 64 + (aField 8 0x71C5).ctrl / 4096 + 1 ≤ 64 ∧
      (aField 8 0x71C5).ctrl / 64 % 64 + (aField 8 0x71C5).ctrl / 4096 + 1 ≤ 64) ∧ bitOf 0x80000000 31 = true := by decide

theorem test_bperm_reverse : bpermOf 4 0x11223344 0x88880123 = 0x44332211 := by decide

theorem witness_PlewinVRepeat :
    fetchesOk (onCode 5 [0, 0x1000, 0x2000, 0, 0, 0, 4] [0x63, 0x68, 0x08, 0x21, 0x22]) 5 = true ∧
    vDecode (vFetch (onCode 5 [0, 0x1000, 0x2000, 0, 0, 0, 4] [0x63, 0x68, 0x08, 0x21, 0x22]) 5 0) = .ok { op := .mov, width := 8, rep := true, atomic := false, ctrl := 0, ops := [(.postinc 1, 8), (.postinc 2, 8)], disp := 0, len := 5 } ∧
    ptrGet ((onCode 5 [0, 0x1000, 0x2000, 0, 0, 0, 4] []).eng 5).ptrs 6 ≠ 0 ∧ ptrGet ((onCode 5 [0, 0x1000, 0x2000] []).eng 5).ptrs 6 = 0 ∧
    runOk (placesRead (vActor 5) [0, 0x1008, 0x2008, 0, 0, 0, 4, 0] [(.mem 0x2000, 8)] (onCode 5 [] [])) = true ∧
    (isReg 0x1000 = false ∧ memSpan 5 0x1000 8 = some 0x04501000 ∧ memRo 0x04501000 = false) := by decide +kernel

theorem witness_PlewinVHandlerEntry :
    ((isReg (addrAdd 0x7FFFC (-8)) = false ∧ isReg (addrAdd (addrAdd 0x7FFFC (-8)) 4) = false) ∧
      memSpan 11 (addrAdd 0x7FFFC (-8)) 4 = some 0x04B7FFF4 ∧ memSpan 11 (addrAdd (addrAdd 0x7FFFC (-8)) 4) 4 = some (0x04B7FFF4 + 4) ∧
      memRo 0x04B7FFF4 = false ∧ memRo (0x04B7FFF4 + 4) = false) ∧
    on.flag (SYS_ENGSTAT_IN_HANDLER 11) = false ∧ (on.setFld (SYS_ENGSTAT_IN_HANDLER 11) 1).flag (SYS_ENGSTAT_IN_HANDLER 11) = true ∧
    (isReg (addrAdd 0x90000 (-8)) = false ∧ memSpan 5 (addrAdd 0x90000 (-8)) 4 = none) := by decide

theorem witness_PlewinVFaultsAreTaken :
    (vReady (onCode 3 [] [0x6B]) 3 = true ∧ iaOf (onCode 3 [] [0x6B]) 3 < 0x80000 ∧ ((onCode 3 [] [0x6B]).eng 3).stale = [] ∧
      vDecode (vFetch (onCode 3 [] [0x6B]) 3 0) = .error .illegal) ∧
    vDecode (vFetch ((onCode 3 [] []).wrN (localBase 3 + 0x7FFFF) [0x08]) 3 0x7FFFF) = .error .fetch ∧
    0x80000 ≤ iaOf ((onCode 3 [] []).setFld (SYS_ENGPC_PC 3) 0x80000) 3 ∧
    runOk (specPlaces (vActor 3) 0 [(.mind 0 0, 4), (.imm 1, 4)] [0x04C00010] (onCode 3 [] [])) = false ∧
    runOk (placesRead (vActor 3) [0x04C00010] [(.mem 0x04C00010, 4)] (onCode 3 [] [])) = false ∧
    runOk (vCommit (onCode 3 [] []) 3 0 false { writes := [⟨.mem 0x04C00010, 4, 1⟩], ptrs := [], pc := 5 }) = false ∧
    alu 5 32 1 0 = none ∧ 0x2042 % 4 ≠ 0 ∧ isReg 0x20000000 = true := by decide +kernel

theorem witness_PlewinCDecodesEveryForm :
    ({ op := .cb 3, ops := [.mind 7 0x7FF, .imm28 0x8000001], branch := 0x3FFD } : CForm).ok = true := by decide

theorem witness_PlewinCDecodesOnlyForms :
    (∀ w ∈ [0x2478, 0, 0x3FFD], w < 2 ^ 14) ∧
    cDecode [0x2478, 0, 0x3FFD] = .ok ⟨.cb 1, [(.reg 3, 4), (.imm 0, 4)], -3, 3⟩ := by decide

/-- An engine in recovery mode, or Sorrel, at word 8192 of the patch RAM with these words there. -/
def onWords (u : Nat) (p : List Nat) (l : List Nat) : State :=
  let s := { on with srl := { on.srl with patch := (List.range l.length).map fun k => (8192 + k, l.getD k 0), ptrs := p, pc := 8192 } }
  if u < 12 then ((s.setEng u { s.eng u with ptrs := p }).setFld (SYS_ENGSTAT_STATE u) 3).setFld (SYS_ENGPC_PC u) 8192 else s

def cReads (u : Nat) (l : List Nat) : Bool :=
  let s := onWords u [0, 0x01000000, 0x200, 0, 0, 0, 0, 0x400] l
  match cDecode (cFetch s (cPc s u)) with
  | .ok i => cReady s u && (match specPlaces (cActor u) 0 i.ops (cPtrs s u) s with
    | .go r t => runOk (placesRead (cActor u) r.2 ((List.range i.ops.length).map fun k => (r.1.getD k (.val 0), 4)) t)
    | .trap _ _ _ => false)
  | .error _ => false

theorem witness_PlewinCRowsComplete :
    ([[0x0232], [0x0878, 1], [0x2478, 0, 0x3FFD], [0x3402], [0x3422], [0x3800], [0x3820], [0x3840], [0x3860], [0x3022]] : List (List Nat)).all
      (fun l => cReads 11 l && cReads 12 l) = true := by decide +kernel

theorem witness_PlewinCRowsComplete_wait :
    irqLevel (on.setFld (IRQ_RHEAD_HEAD 13) 1) (cRing (12 : Fin 13)) = true ∧ irqLevel on (cRing (12 : Fin 13)) = false ∧
    ({ on with srl := { on.srl with waiting := true } } : State).srl.waiting = true ∧ mainOn on = true ∧
    runOk (cCommit (onWords 12 [] []) 12 { writes := [⟨.mem 0xFFFC, 4, 5⟩], ptrs := [], pc := 0 }) = true := by decide +kernel

theorem witness_PlewinCFaults :
    (cReady ({ on with srl := { on.srl with pc := 12288 } }) (12 : Fin 13) = true ∧
      12288 ≤ cPc ({ on with srl := { on.srl with pc := 12288 } }) (12 : Fin 13)) ∧
    (cReady (onWords 12 [] [0x3FFF]) (12 : Fin 13) = true ∧
      cDecode (cFetch (onWords 12 [] [0x3FFF]) (cPc (onWords 12 [] [0x3FFF]) (12 : Fin 13))) = .error .illegal) ∧
    runOk (specPlaces (cActor 12) 0 [(.mind 0 0, 4), (.imm 1, 4)] [0x04C00010] (onWords 12 [] [])) = false ∧
    engState (onWords 11 [] []) (11 : Fin 12) = 3 := by decide +kernel

def anOn : State := on.setFld PWR_RAILSTAT_PRESENT 127

theorem witness_EventCommandsComplete :
    mainOn on = true ∧
    (let s : State := { on.setFlds [(IRQ_SRC_TIME 255, 1), (IRQ_SRC_DEST 255, 2048), (IRQ_RSIZE_SIZE 11, 4)] with
       evt := { on.evt with batches := [(255, { count := 1 })] } }
     (stGet {} s.evt.batches 255).count ≠ 0 ∧ s.fld (IRQ_SRC_TIME 255) ≠ 0 ∧ (s.reachUp (stGet {} s.evt.batches 255).due).isSome = true ∧
       s.fld (IRQ_SRC_DEST 255) = 2 ^ 11 ∧ ringAdmits s 255 11 = true ∧
       ringUsed (s.fld (IRQ_RSIZE_SIZE 11)) (s.fld (IRQ_RHEAD_HEAD 11)) (s.fld (IRQ_RTAIL_TAIL 11)) + 1 < s.fld (IRQ_RSIZE_SIZE 11)) ∧
    (({ on with part := .thv4824 } : State).part.stack = false ∧ bitsOf (32#32).toNat 6 5 = 1 ∧ bitsOf (32#32).toNat 24 21 < 9) ∧
    (octAt [4, 0, 0, 18] 0 = 4 ∧ pageOf (octAt [4, 0, 0, 18] 3) = some 14 ∧ octAt [6] 0 = 6 ∧ on.mbxFrags = [] ∧
      leAt [5, 0, 0, 18, 9, 0, 0, 0] 4 4 = 9 ∧ octAt [5, 0, 0, 18, 9, 0, 0, 0] 0 = 5) ∧
    (let s : State := { on with uptime := 10 ^ 9, mbxSends := [(14, { mseq := 9, peer := 3, tag := 0, sentAt := 0 })] }
     (s.mbxSends.find? (fun e : Nat × MbxSend => e.1 = (14 : Fin 15).val)).isSome = true ∧
       (s.reachUp (0 + 1000000 * max 1 (s.fld MBX_CTL_TIMEOUT))).isSome = true) ∧
    (({ on with mbxFrags := [{ peer := 3, body := [0, 0, 0, 18], cameAt := 0 }] , uptime := 10 ^ 6 } : State).reachUp (0 + 1000000)).isSome = true ∧
    ((({ on with evt := { on.evt with relays := [(15, { due := 0, hops := 1, payload := 3 })] } } : State).evt.relays.find?
      (fun e : Nat × RelayWait => e.1 = (15 : Fin 16).val)).isSome = true ∧ (on.reachUp 0).isSome = true) ∧
    (chanRoute on 13 255) = true ∧ (chanRoute on 12 0) = false ∧
    (({ anOn with phase := .held } : State).fld PWR_RAILSTAT_PRESENT &&& 33 = 33 ∧
      edgeSelected { anOn with phase := .held } 17 false = true ∧ sampleDriven anOn = false) ∧
    (stGet {} ({ on.evt with batches := [(255, { count := 1 })] } : EvtX).batches 255).count ≠ 0 ∧
    (on.setFld (IRQ_SRC_TIME 255) 1).fld (IRQ_SRC_TIME 255) ≠ 0 ∧ pageMay 14 14 = true ∧ pageMay 13 3 = true ∧ pageMay 14 13 = false ∧
    (on.setFld (MBX_SENDSTAT_BUSY 14) 1).flag (MBX_SENDSTAT_BUSY 14) = true ∧ pageOf 18 = some 14 := by decide

theorem witness_EventCommandsComplete_fire :
    (let s : State := { on.setFld EVT_CTL_EN 1 with events := [{ producer := 0x3FF, payload := 5, chan := some (255 : Fin 256).val }] }
     s.reg IRQ_ALATCH = 0 ∧ s.flag EVT_CTL_EN = true ∧ (∀ k < 400, s.flag (EVT_TASK_EN k) = true → s.fld (EVT_TASK_CH k) ≠ 255) ∧
       (∀ k < 16, bitOf (matrixRead s k (255 / 32)) (255 % 32) = false) ∧ s.fld (IRQ_SRC_DEST 255) = 0) := by decide +kernel

/-- Timer 31 runs and stands before its compare value, or before its overflow. -/
def onTimer (count cmp : Nat) : State := on.setFlds [(TMR_CTL_RUN 31, 1), (TMR_CNT_COUNT 31, count), (TMR_CMP_CMP 31, cmp)]

theorem witness_TimerCommandsComplete :
    (((chainTicks (onTimer 4 5) (chainOf (onTimer 4 5) (chainLow (onTimer 4 5) 31))).find? (fun e : Nat × Bool => e.1 = (31 : Fin 32).val)).isSome = true ∧
      (tmrCount (onTimer 4 5) 31 + 1) % 2 ^ 32 = (onTimer 4 5).fld (TMR_CMP_CMP 31)) ∧
    (((chainTicks (onTimer 0xFFFFFFFF 0) (chainOf (onTimer 0xFFFFFFFF 0) (chainLow (onTimer 0xFFFFFFFF 0) 31))).find?
      (fun e : Nat × Bool => e.1 = (31 : Fin 32).val)).map (·.2)) = some true ∧
    (tmrSrc (onTimer 4 5) 31 = false ∧ chainUpper (onTimer 4 5) 32 31 = [] ∧ tmrRun (onTimer 4 5) 31 = true ∧
      tmrCount (onTimer 4 5) 31 + 1 = (onTimer 4 5).fld (TMR_CMP_CMP 31)) ∧
    (tmrCount (onTimer 0xFFFFFFFF 1) 31 = 2 ^ 32 - 1 ∧ (onTimer 0xFFFFFFFF 1).fld (TMR_CMP_CMP 31) ≠ 0) ∧
    on.flag RTC_ALMCTL_ARMED = false ∧ ((on.setFld RTC_STAT_APPLY_PEND 1).flag RTC_STAT_APPLY_PEND = true ∧
      (rtcWritten (on.setFld RTC_STAT_APPLY_PEND 1)).valid = false) ∧
    tmrSrc on 31 = false ∧ (on.setFld RTC_STAT_OSC_OK 1).flag RTC_STAT_OSC_OK = true ∧ on.backupOn = true ∧
    (on.rtcAlarmDue && on.flag RTC_ALMCTL_ARMED) = false ∧ (on.setFld RTC_STAT_FROZEN 1).flag RTC_STAT_FROZEN = true ∧
    on.flag RTC_STAT_APPLY_PEND = false ∧ ((on.setFld RTC_STAT_APPLY_PEND 1).flag RTC_STAT_APPLY_PEND = true ∧
      (rtcWritten (on.setFlds [(RTC_WSHADOW_VALUE 3, 1), (RTC_WSHADOW_VALUE 4, 1)])).valid = true) ∧
    ({ on.setFld RTC_STAT_FROZEN 1 with uptime := 1000000000 }.reachUp (on.rtcFrozenAt + 1000000000)).isSome = true ∧
    on.flag RTC_STAT_FROZEN = false ∧ rtcSecs on < alarmTime (on.setFld RTC_ALARM_SECS 0xFFFFFFFF) ∧
    (on.setFld RTC_STAT_OSC_OK 0).flag RTC_STAT_OSC_OK = false := by decide

theorem witness_TimerCommandsComplete_source :
    tmrSrc ((on.setFlds [(TMR_CTL_SRC 31, 1)])) 31 = true := by decide

def onStep (n : Nat) : State := { State.reset with phase := .starting, startStep := n }

theorem witness_SupplyCommandsComplete :
    (127 : Fin 128) ≠ 0 ∧ (onStep 0).phase = .starting ∧ (on.phase = .running ∧ on.dormStep < 4) ∧
    (({ on with phase := .held } : State).phase = .held ∧ on.backupOn = true) ∧ (stepRuns (onStep 6) = true ∧ (onStep 6).startStep = 6) ∧
    stepRuns (onStep 3) = true ∧ stepRuns (onStep 7) = true ∧
    (stepRuns (onStep 4) = true ∧ (delayEntry (onStep 4) 4).2 = true ∧ (onStep 4).stepRetry = false) ∧
    ((delayEntry (onStep 3) 3).2 = true ∧ (delayEntry (onStep 6) 6).2 = true ∧ (delayEntry (onStep 7) 7).2 = true ∧
      ({ onStep 5 with stepRetry := true } : State).stepRetry = true ∧ (delayEntry (onStep 5) 5).2 = true) ∧
    on.flag PWR_PMBSTAT_BUSY = false ∧
    ({ on with phase := .pulse } : State).phase = .pulse ∧ (mainOn on = true ∧ railsAll (on.setFld PWR_RAILSTAT_PRESENT 127) = true) ∧
    (({ on with voltReq := some { value := 1, why := 1 } } : State).voltReq.isSome = true ∧ on.gated = false) ∧
    (on.setFld PWR_PMBSTAT_BUSY 1).flag PWR_PMBSTAT_BUSY = true ∧ on.wakeArmed = false ∧ mainOn { on with phase := .held } = false ∧
    (on.setFld KEY_STAT_ZEROIZING 1).flag KEY_STAT_ZEROIZING = true ∧ on.hotFired = false := by decide

theorem witness_PowerStateCommandsComplete :
    (({ on.setFld PWR_STATE_CUR 2 with detOff := true } : State).fld PWR_STATE_CUR = 2 ∧ on.rxLanes = [] ∧ onAir on = false) ∧
    (({ on with dormStep := 1 } : State).dormStep = 1 ∧ on.flcRun = none ∧ (on.setFld PWR_PMBCFG_OFF_AT_DORMANT 0).flag PWR_PMBCFG_OFF_AT_DORMANT = false) ∧
    (on.fld PWR_STATE_CUR = 0 ∧ on.gated = false ∧ on.frames = [] ∧ on.reqs = [] ∧ on.phase = .running ∧ on.avsDead = false ∧ on.voltReq = none ∧
      (on.setFlds [(PWR_STATE_CUR, 1), (PWR_AVS_EN, 1)]).fld PWR_STATE_CUR = 1 ∧
      (on.setFlds [(PWR_STATE_CUR, 1), (PWR_AVS_EN, 1)]).flag PWR_AVS_EN = true) ∧ ({ on with dormStep := 4 } : State).dormStep = 4 ∧
    (({ on with phase := .dormant, wakeLatch := 1 } : State).phase = .dormant ∧ ({ on with wakeLatch := 1 } : State).wakeLatch ≠ 0) ∧
    ((on.setFlds [(PWR_WAKECFG_ADDR, 127), (PWR_WAKECFG_EN, 1), (PWR_WAKECFG_ACK_AWAKE, 1)]).fld PWR_WAKECFG_ADDR = (127 : Fin 128).val ∧
      (on.setFlds [(PWR_WAKECFG_ADDR, 127), (PWR_WAKECFG_EN, 1), (PWR_WAKECFG_ACK_AWAKE, 1)]).flag PWR_WAKECFG_EN = true ∧
      (on.setFlds [(PWR_WAKECFG_ADDR, 127), (PWR_WAKECFG_EN, 1), (PWR_WAKECFG_ACK_AWAKE, 1)]).flag PWR_WAKECFG_ACK_AWAKE = true) ∧
    ((on.setFld PWR_RSTCFG_PERST_DEV 1).flag PWR_RSTCFG_PERST_DEV = true ∧ on.draining = false) ∧
    (on.setFld PWR_RSTCFG_PERST_DEV 0).flag PWR_RSTCFG_PERST_DEV = false ∧
    ((on.setFld PWR_WDT_LIMIT 1).fld PWR_WDT_LIMIT ≠ 0 ∧ (on.setFld PWR_WDT_LIMIT 1).fld SYS_SRLSTAT_STATE ≠ 3 ∧ ((on.setFld PWR_WDT_LIMIT 1).reachUp ((on.setFld PWR_WDT_LIMIT 1).wdtAt + 1000000)).isSome = true) ∧
    masterSecure on 13 = true ∧ masterSecure on 12 = false ∧ ({ on with draining := true } : State).draining = true := by decide

/-- The flash controller is enabled, with an operation that runs or none. -/
def onFlash (r : Option (FlcJob × FlcPrim)) : State := { on.setFld FLC_CTL_EN 1 with flcRun := r }

theorem witness_FlashCommandsComplete :
    (masterSecure (onFlash none) 13 = true ∧ (onFlash none).flag UPD_STAT_BUSY = false ∧ (onFlash none).flag (FLC_CSTAT_BUSY 3) = false ∧
      flcRefuses (onFlash none) 13 1 1023 127 = 0 ∧ flcRefuses (onFlash none) 13 2 1023 0 = 0 ∧ flcRefuses (onFlash none) 13 3 1023 0 = 0) ∧
    (flcRefuses (onFlash none) 13 4 3 0 = 0 ∧ flcRefuses (onFlash none) 13 5 3 0 = 0 ∧ flcRefuses (onFlash none) 13 6 3 0 = 0) ∧
    ((onFlash none).flcRun = none ∧ (onFlash none).flcQueue = [] ∧ (onFlash none).flag FLC_CTL_EN = true ∧ (onFlash none).flashDead = false ∧
      (onFlash none).dormStep < 2) ∧ masterSecure on 12 = false ∧
    (onFlash (some ({ who := 3, op := 1, sector := 1023 }, { kind := 1, sector := 1023, page := 127 }))).flcRun.isSome = true ∧
    (onFlash (some ({ who := 0, op := 2, sector := 0 }, { kind := 2, sector := 0 }))).flcRun.isSome = true ∧ on.dormStep ≠ 2 := by decide

--<MSG
/-- An LC_DEPLOY message with counter 1 for the fingerprint of zeros.  Its signature is that of a key made for it: with both numbers equal
to the digest, the sum of the base point and the authority key has the digest as its x-coordinate. -/
def msgDigest : Nat := 0x899dc5a5263dd8e9b8f53caa012eb1ab615d79e3744c756cc4397da772481465

def msgDeploy : List Byte :=
  leBytes 4 0x554B4854 ++ leBytes 2 1 ++ leBytes 2 5 ++ List.replicate 32 0 ++ leBytes 4 1 ++ leBytes 4 1 ++ List.replicate 144 0 ++
    beBytes 32 msgDigest ++ beBytes 32 msgDigest

def msgAuthority : List Byte := beBytes 32 0xce954bfb56bef9aa721e457c3378a15ca6641842f4250cfb18a483349fbc2127 ++
  beBytes 32 0x18b0dd6de0030437b4b52867a84465bbb2f4cde6accff4497ec27c19545ef999

/-- A PROVISIONED device whose key-update unit is given that message. -/
def onMsg : State :=
  { (on.wrN 0x01000000 msgDeploy).setFlds [(KEY_UPDSTAT_BUSY, 1), (KEY_UPDADDR_ADDR, 0x01000000)] with
    priv := { on.priv with lc := 1, auth := some msgAuthority } }

theorem msg_block_0 : shaBlock shaInit (octNats ((msgDeploy.drop 0).take 64)) =
    [0xbaf9ba9c, 0x547dabab, 0x19d16909, 0xc4dba5d3, 0xaa8a5359, 0xab12ea66, 0xb3f69be6, 0x4e870f27] := by decide +kernel

theorem msg_block_1 : shaBlock [0xbaf9ba9c, 0x547dabab, 0x19d16909, 0xc4dba5d3, 0xaa8a5359, 0xab12ea66, 0xb3f69be6, 0x4e870f27] (octNats ((msgDeploy.drop 64).take 64)) =
    [0xac5cf16d, 0x55882295, 0x028aea4a, 0xfcaafe84, 0xc5eda830, 0xb66e9324, 0x8342f201, 0x55e4797f] := by decide +kernel

theorem msg_block_2 : shaBlock [0xac5cf16d, 0x55882295, 0x028aea4a, 0xfcaafe84, 0xc5eda830, 0xb66e9324, 0x8342f201, 0x55e4797f] (octNats ((msgDeploy.drop 128).take 64)) =
    [0xb54aadf8, 0x533020f6, 0x3066c7e0, 0x716fa2e8, 0x36626b20, 0xc6b9c962, 0x22821b2d, 0xe227e3fd] := by decide +kernel

theorem msg_block_3 : shaBlock [0xb54aadf8, 0x533020f6, 0x3066c7e0, 0x716fa2e8, 0x36626b20, 0xc6b9c962, 0x22821b2d, 0xe227e3fd] (0x80 :: List.replicate 61 0 ++ [6, 0]) =
    [0x899dc5a5, 0x263dd8e9, 0xb8f53caa, 0x012eb1ab, 0x615d79e3, 0x744c756c, 0xc4397da7, 0x72481465] := by decide +kernel

theorem msg_blocks : blocksOf 64 (octNats (msgDeploy.take 192) ++ 0x80 :: List.replicate ((55 + 64 * ((octNats (msgDeploy.take 192)).length / 64 + 2) -
    (octNats (msgDeploy.take 192)).length) % 64) 0 ++ octNats (beBytes 8 (8 * (octNats (msgDeploy.take 192)).length))) =
    [octNats ((msgDeploy.drop 0).take 64),
      octNats ((msgDeploy.drop 64).take 64),
      octNats ((msgDeploy.drop 128).take 64),
      0x80 :: List.replicate 61 0 ++ [6, 0]] := by decide +kernel

theorem msg_hash : sha256 (octNats (msgDeploy.take 192)) = octNats (beBytes 32 msgDigest) := by
  unfold sha256
  simp only [msg_blocks, List.foldl_cons, List.foldl_nil, msg_block_0, msg_block_1, msg_block_2, msg_block_3]
  decide +kernel

theorem msg_signature : ecdsaVerify (octNats msgAuthority) (octNats (beBytes 32 msgDigest)) (octNats ((msgDeploy.drop 192).take 32))
    (octNats ((msgDeploy.drop 224).take 32)) = true := by decide +kernel

theorem msg_read : (keyTaken onMsg).1 = msgDeploy ∧ (keyTaken onMsg).2.priv = onMsg.priv := by decide +kernel

theorem witness_KeyCommandsComplete_message :
    keyPasses onMsg 5 { op := 5, slot := 0, counter := 1, attr := 0, icv := false, key := List.replicate 64 0, vendor := true } ∧
      onMsg.flashDead = false ∧ keyProtected onMsg = false := by
  refine ⟨⟨by decide +kernel, by decide +kernel, by decide +kernel, by decide +kernel, ?_⟩, by decide +kernel, by decide +kernel⟩
  rw [msg_read.1]
  have ha : (keyTaken onMsg).2.priv.auth = some msgAuthority := by rw [msg_read.2]; rfl
  unfold msgCheck msgLate
  rw [if_neg (by decide +kernel), if_neg (by decide +kernel), if_neg (by decide +kernel), if_neg (by decide +kernel)]
  simp only [ha, msg_hash, msg_signature]
  decide +kernel
--MSG>

theorem witness_KeyCommandsComplete :
    (stGet 0 ({ on with counterWrites := [(0, 1)] } : State).counterWrites 0 ≠ 0 ∧ on.keyUpd = none) ∧
    (stGet 0 ({ on with counterWrites := [(1, 1)] } : State).counterWrites 1 ≠ 0 ∧ stGet 0 ({ on with counterWrites := [(2, 1)] } : State).counterWrites 2 ≠ 0) ∧
    on.priv.isvn < (1#32).toNat ∧ (on.priv.lc = 0 ∧ on.flag KEY_STAT_ZEROIZING = false ∧ on.phase = .running ∧ on.draining = false) ∧
    masterSecure on 15 = true ∧ on.reqs = [] ∧
    (({ on with keySlots := [(255, { resWriting := true })] } : State).slot (255 : Fin 256).val).resWriting = true := by decide

/-- Cipher page 14 is in use, by Sorrel, and its registers name a source of one octet and a destination in SRAM. -/
def onPage (busy : Nat) : State :=
  { on.setFlds [(CPH_CTL_EN, 1), (CFG_RGN_STATE_A 10, 2), (CPH_STAT_BUSY 14, busy), (CPH_SRC_ADDR 14, 0x01000000), (CPH_LEN_LEN 14, 1),
      (CPH_DST_ADDR 14, 0x01000100)] with planeA := [(10, { tables := [(tableKey 20 0 14, 77#32)] })] }

theorem witness_CipherCommandsComplete :
    ((14 : Nat) < 15 ∧ pageMayUse (onPage 0) 14 13 = true ∧ (onPage 0).flag (CPH_STAT_BUSY 14) = false ∧ (onPage 0).flag CPH_CTL_EN = true) ∧
    (pageOwner (onPage 0) 14 = some 13 ∧ bitOf (pageWord (onPage 0) 14) 5 = false ∧ (onPage 0).fld (CPH_SRC_ADDR 14) = 0x01000000 ∧
      (onPage 0).fld (CPH_LEN_LEN 14) = 1 ∧ memRun 13 0x01000000 1 = true) ∧
    pageMayUse (onPage 0) 14 12 = false ∧
    ({ onPage 1 with cphRuns := [(14, { dst := 0x01000100, data := [1], result := 1, outlen := 1 })] } : State).cphRuns.find?
      (fun e : Nat × CphRun => e.1 = (14 : Fin 16).val) = some (14, { dst := 0x01000100, data := [1], result := 1, outlen := 1 }) := by decide

theorem witness_CipherCommandsComplete_digest : opWritable 13 ((onPage 0).fld (CPH_DST_ADDR 14))
    (sha256 (octNats ((onPage 0).rdN ((memAddr 13 0x01000000).getD 0) 1))).length = true := by decide +kernel

--<CON
/-- The header of a bitstream container whose base has no octets, signed as the message above is. -/
def conDigest : Nat := 0xad8857d954bd645b57f25ef15d331404e0d75586324a052ec166402d114cacf8

def conHead : List Byte :=
  leBytes 4 0x43444854 ++ leBytes 2 1 ++ leBytes 1 1 ++ leBytes 1 1 ++ leBytes 4 0 ++ leBytes 4 0 ++ leBytes 4 1 ++ leBytes 4 1 ++ leBytes 4 0 ++
    leBytes 4 0 ++ beBytes 32 0xe3b0c44298fc1c149afbf4c8996fb92427ae41e4649b934ca495991b7852b855 ++ List.replicate 112 0 ++
    leBytes 4 0x47534854 ++ leBytes 2 1 ++ List.replicate 10 0 ++ beBytes 32 conDigest ++ beBytes 32 conDigest

def conKey : List Byte := beBytes 32 0xd747dc9dba1c93a656def0e15a1961f926103d38a198c57ec7cdf07e2fd148eb ++
  beBytes 32 0x80054617beab2af9ba7df6def089a93d9559a39aa193ec63b62a1dfad4584094

/-- A DEPLOYED device with that key in VERIFY slot 1, whose apply stands before its checks. -/
def onCon : State :=
  { (on.wrN 0x01000000 conHead).setFlds [(UPD_CTL_EN, 1), (UPD_STAT_BUSY, 1), (UPD_STAT_PHASE, 1), (UPD_WINBASE_BASE, 0x01000000), (UPD_WINLEN_BLOCKS, 1)] with
    priv := { on.priv with lc := 2 }
    keySlots := [(1, { attr := 5 + 2 ^ 6 + 2 ^ 9 + 2 ^ 10 + 2 ^ 28, key := conKey })]
    upd := { on.upd with stage := 1, kind := 1, base := 0x01000000 } }

theorem con_block_0 : shaBlock shaInit (octNats ((conHead.drop 0).take 64)) =
    [0x39a94886, 0x362e3e95, 0x7cae91c6, 0x245f0b55, 0x9c0802cf, 0xe6955e13, 0x9faafc30, 0xd224871b] := by decide +kernel

theorem con_block_1 : shaBlock [0x39a94886, 0x362e3e95, 0x7cae91c6, 0x245f0b55, 0x9c0802cf, 0xe6955e13, 0x9faafc30, 0xd224871b] (octNats ((conHead.drop 64).take 64)) =
    [0xe9514c29, 0xa23db7e9, 0xfe30ede8, 0x72bdee89, 0x259e1c7a, 0xa685b6b6, 0x69641f1b, 0xa900dc5f] := by decide +kernel

theorem con_block_2 : shaBlock [0xe9514c29, 0xa23db7e9, 0xfe30ede8, 0x72bdee89, 0x259e1c7a, 0xa685b6b6, 0x69641f1b, 0xa900dc5f] (octNats ((conHead.drop 128).take 64)) =
    [0x1cf337cd, 0xcd221867, 0x1fd044e3, 0xd6c6e68e, 0xa1b0822d, 0x20a5ce71, 0xa0cdc564, 0x701783b0] := by decide +kernel

theorem con_block_3 : shaBlock [0x1cf337cd, 0xcd221867, 0x1fd044e3, 0xd6c6e68e, 0xa1b0822d, 0x20a5ce71, 0xa0cdc564, 0x701783b0] (0x80 :: List.replicate 61 0 ++ [6, 0]) =
    [0xad8857d9, 0x54bd645b, 0x57f25ef1, 0x5d331404, 0xe0d75586, 0x324a052e, 0xc166402d, 0x114cacf8] := by decide +kernel

theorem con_blocks : blocksOf 64 (octNats (conHead.take 192) ++ 0x80 :: List.replicate ((55 + 64 * ((octNats (conHead.take 192)).length / 64 + 2) -
    (octNats (conHead.take 192)).length) % 64) 0 ++ octNats (beBytes 8 (8 * (octNats (conHead.take 192)).length))) =
    [octNats ((conHead.drop 0).take 64),
      octNats ((conHead.drop 64).take 64),
      octNats ((conHead.drop 128).take 64),
      0x80 :: List.replicate 61 0 ++ [6, 0]] := by decide +kernel

theorem con_hash : sha256 (octNats (conHead.take 192)) = octNats (beBytes 32 conDigest) := by
  unfold sha256
  simp only [con_blocks, List.foldl_cons, List.foldl_nil, con_block_0, con_block_1, con_block_2, con_block_3]
  decide +kernel

theorem con_signed : signatureGood (some (octNats conKey)) conHead 256 = true := by
  unfold signatureGood
  simp only [show 256 - 64 = 192 from rfl, con_hash]
  decide +kernel

theorem con_read : conOctets onCon 0 256 = (conHead, onCon) := by
  unfold conOctets sourceRead
  rw [if_neg (by decide +kernel), if_pos (by decide +kernel)]
  exact Prod.ext (by decide +kernel) rfl

theorem con_signer : signerKey onCon (leOf conHead 20 4) (onCon.upd.kind == 0) = some (octNats conKey) := by decide +kernel

theorem witness_UpdateCommandsComplete_checks : onCon.upd.stage = 1 ∧ onCon.upd.slot < 4 ∧
    flcRefuses onCon 15 2 (slotSector onCon onCon.upd.kind onCon.upd.slot) 0 = 0 ∧ (updChecks onCon).1 = 0 := by
  refine ⟨by decide +kernel, by decide +kernel, by decide +kernel, ?_⟩
  unfold updChecks
  simp only [con_read, con_signer, con_signed]
  decide +kernel
--CON>

/-- The update engine is enabled, idle or with an apply under way. -/
def onUpd (x : UpdX) : State :=
  { on.setFlds [(UPD_CTL_EN, 1), (UPD_WINBASE_BASE, 0x017FF000), (UPD_WINLEN_BLOCKS, 1), (UPD_RXSTAT_COMPLETE, 1), (CFG_BOOTSTAT_START_SLOT, 0),
      (UPD_SLOTSTAT_STATE 3, 4), (UPD_STAT_RUNSLOT, 3), (SYS_SRLSTAT_STATE, 1)] with upd := x }

theorem witness_UpdateCommandsComplete :
    (updMay 13 = true ∧ updMay 14 = false ∧ (onUpd {}).flag UPD_STAT_BUSY = false ∧ (0 : Fin 2048).val < (onUpd {}).fld UPD_WINLEN_BLOCKS ∧
      (on.setFld UPD_STAT_BUSY 1).flag UPD_STAT_BUSY = true) ∧
    ((onUpd { due := [(0, 7)] }).upd.due = [(0, 7)] ∧ (onUpd { due := [(0, 7)] }).fld UPD_WINBASE_BASE = 0x017FF000) ∧
    (0x017FFFFF#32).toNat < 0x01800000 ∧
    ((onUpd {}).flag UPD_CTL_EN = true ∧ ((onUpd {}).rd8 ((onUpd {}).fld UPD_WINBASE_BASE + 7)).toNat ≠ (1 : Fin 4).val ∧
      bitOf ((onUpd {}).reg FLC_WPROT).toNat (4 + 1) = false ∧ (onUpd {}).fld CFG_BOOTSTAT_START_SLOT ≠ (1 : Fin 4).val ∧
      slotActive (onUpd {}) (1 : Fin 4).val = false ∧ (onUpd {}).flag UPD_RXSTAT_COMPLETE = true) ∧
    ((onUpd { stage := 5 }).upd.stage = 5 ∧ (onUpd { stage := 5 }).flcRun = none ∧
      ({ onUpd { stage := 1 } with flcRun := some ({ who := 6, op := 2, sector := 0 }, { kind := 2, sector := 0 }) } : State).flcRun.isSome = true) ∧
    ((onUpd {}).fld UPD_STAT_RUNSLOT = (3 : Fin 4).val ∧ (onUpd {}).fld (UPD_SLOTSTAT_STATE (3 : Fin 4).val) = 4 ∧
      (onUpd {}).fld SYS_SRLSTAT_STATE = 1 ∧ flcRefuses (onUpd {}) 15 2 (128 * 3 + 127) 0 = 0) ∧
    ((onUpd {}).setFld SYS_SRLSTAT_STATE 4).fld SYS_SRLSTAT_STATE = 4 := by decide

theorem witness_UpdateCommandsComplete_fail : (onUpd { stage := 1, base := 0x017FF000 }).upd.stage = 1 ∧
    (updChecks (onUpd { stage := 1, base := 0x017FF000 })).1 ≠ 0 := by decide +kernel

/-- The link is up, and bus mastering is enabled. -/
def onLink : State := on.setFlds [(HIF_STAT_LINK_UP, 1), (HIF_STAT_RESETTING, 0), (HIF_STAT_BME, 1), (HIF_CTL_EN, 1)]

theorem witness_HostCommandsComplete :
    (hostUp onLink = true ∧ onLink.upsets = []) ∧
    (((onReq { aReq with src := 43, phase := 2 }).req 7).map (fun q => (q.src, q.phase, q.endAs, q.frame))) = some (43, 2, 0, []) ∧
    (let s := onLink.setReg (modReg (64 : Fin 65).val) 0x80000100#32
     bitOf (s.reg (modReg (64 : Fin 65).val)).toNat 31 = true ∧ bitsOf (s.reg (modReg (64 : Fin 65).val)).toNat 23 8 ≠ 0 ∧
       stGet 0 ({ s with modCount := [(64, 1)] } : State).modCount 64 ≠ 0 ∧ vecOpen { s with modCount := [(64, 1)] } 0 = false ∧
       (({ s with modCount := [(64, 1)] } : State).reachUp (stGet 0 ({ s with modCount := [(64, 1)] } : State).modDue 64)).isSome = true) ∧
    (({ onLink with held := [{ kind := 0, ring := 31, data := [] }], uptime := 10000000 } : State).held.find? (fun h : HeldWrite => h.kind == 0)
        = some { kind := 0, ring := 31, data := [] } ∧
      (({ onLink with held := [{ kind := 0, ring := 31, data := [] }], uptime := 10000000 } : State).reachUp 10000000).isSome = true) ∧
    (mainOn on = true ∧ (on.setFld PWR_RSTCFG_PERST_DEV 0).flag PWR_RSTCFG_PERST_DEV = false) ∧ on.flag HIF_STAT_LINK_UP = false := by decide

theorem witness_HostCommandsComplete_turn :
    hostTurn ((onLink.setFlds [(HIF_TXCFG_SIZE 31, 4), (HIF_TXHEAD_HEAD 31, 1), (HIF_TXCCFG_CSIZE 31, 4)]).setFld TXS_CTL_EN.active 1)
      = some (31 : Fin 32).val := by decide

/-- The sample pin is enabled for both edges, and the trigger is armed for 9 ms. -/
def onSample (x : SnpX) : State :=
  { on.setFlds [(SNP_CTL_PIN_EN, 1), (SNP_STAT_ARMED, 1), (SNP_CTL_FAB_EN, 1)] with snp := x }.setReg IRQ_PINCFG1 3#32

theorem witness_SnapshotCommandsComplete :
    (mainOn (onSample {}) = true ∧ (onSample {}).flag SNP_CTL_PIN_EN = true ∧ edgeSelected (onSample {}) 16 true = true ∧
      edgeSelected (onSample {}) 16 false = true ∧ sampleDriven (onSample {}) = false ∧ (onSample {}).snp.moving = none ∧
      (onSample {}).fld SNP_STAT_HELD ≠ 3) ∧ ((onSample {}).setFld SNP_STAT_HELD 3).fld SNP_STAT_HELD = 3 ∧
    ((onSample { trigAt := 9999999 }).flag SNP_STAT_ARMED = true ∧ (onSample { trigAt := 9999999 }).venue ≤ 9999999 ∧
      9999999 < (onSample { trigAt := 9999999 }).nextBoundary) ∧
    (inStack (onSample {}) = false ∧ (onSample {}).flag SNP_CTL_FAB_EN = true ∧ (onSample {}).venue ≤ (5#64).toNat) ∧
    (onSample { moving := some (1, [7]) }).snp.moving = some (1, [7]) ∧
    ((onSample {}).setFld SNP_STAT_ARMED 0).flag SNP_STAT_ARMED = false ∧
    (sampleJoin (onSample { moving := some (1, [4#32, 0#32, 0#32, 0#32]) }) 1 0).isSome = true ∧ (onSample {}).venue = 0 ∧
    sampleJoin (onSample { moving := some (1, [4#32, 0#32, 0#32, 5#32]) }) 1 0 = none ∧ on.venue ≤ on.deafTo ∧ stWf resetWord on.regs = true ∧
    on.venue ≤ (on.reg SNP_TTRIGL).toNat + 2 ^ 32 * (on.reg SNP_TTRIGH).toNat ∧
    (on.reg SNP_TTRIGL).toNat + 2 ^ 32 * (on.reg SNP_TTRIGH).toNat < ({ on with venue := 1 } : State).venue := by decide

theorem witness_TestPortCommandsComplete :
    (on.setFld SNP_TEST_ALLOW 1).flag SNP_TEST_ALLOW = true ∧ (on.setFld SNP_TEST_ALLOW 0).flag SNP_TEST_ALLOW = false ∧ on.priv.lc = 0 ∧
    (({ on with priv := { on.priv with lc := 2 } } : State).priv.lc ≠ 0 ∧ ({ on with priv := { on.priv with lc := 2 } } : State).priv.lc ≠ 3) := by decide

theorem witness_StepKeepsCanonicalForm : (Memory.wf (on.wrN 0x017FFFFF [1]).mem = true ∧ Memory.wf (on.wrN 0x017FFFFF [1]).srl.mem = true ∧
    stWf resetWord (on.wrN 0x017FFFFF [1]).regs = true) ∧
    (match step { on.wrN 0x017FFFFF [1] with pending := [.idcode] } with | .next t => t.pending.isEmpty | _ => false) = true := by decide

theorem witness_StoresKeepCanonicalForm : Memory.wf on.mem = true ∧ Memory.wf on.srl.mem = true ∧ stWf resetWord on.regs = true := by decide

theorem witness_CountersSaturate : on.frozen = false ∧ LNK_RXOK_COUNT.lo + LNK_RXOK_COUNT.width ≤ 32 ∧ (on.setFld SNP_CNTCTL_FREEZE 1).frozen = true := by decide

theorem witness_EngineRegistersHaveOwners :
    mainOn on = true ∧ (12 : Master) ≠ 13 ∧ SYS_ENGREC (11 : Fin 12).val ∈ [SYS_ENGCTL 11, SYS_ENGENTRY 11, SYS_ENGWDT 11, SYS_ENGREC 11] ∧
    (11 : Master).val = (11 : Fin 12).val ∧ (10 : Master).val ≠ (11 : Fin 12).val := by decide

theorem witness_KeyBlobRegionIsClosed :
    masterSecure on 11 = false ∧ masterSecure on (12 : Master).val = false ∧ mainOn on = true ∧
    (0x10000000 + 65536 * keySector on < 0x10000000 + 65536 * generalSector on ∧ 0x10000000 + 65536 * generalSector on ≤ 0x14000000) ∧
    0x20130000 ≤ (0x2013FFFC#32).toNat ∧ (0x2013FFFC#32).toNat < 0x20140000 := by decide

theorem witness_MemoryErrors :
    hostUp onLink = true ∧ onLink.frozen = false ∧ onLink.upsets = [] ∧ 1 ≤ (1 : Fin 513).val ∧ 8388607 % 8 + (1 : Fin 513).val ≤ 8 := by decide

theorem witness_EventsOutOfPlace :
    (on.phase ≠ .dormant ∧ on.draining = false ∧ on.phase ≠ .pulse ∧ on.dormStep ≠ 4 ∧ on.dormStep ≠ 1 ∧ on.fld PWR_STATE_CUR ≠ 2 ∧ on.voltReq = none) ∧
    (stepRuns on = false ∧ on.fld PWR_WDT_LIMIT = 0 ∧ on.flag KEY_STAT_ZEROIZING = false ∧ stGet 0 on.counterWrites 2 = 0) ∧
    ((on.slot 255).resWriting = false ∧ on.cphRuns = [] ∧ on.upd.due = [] ∧ on.upd.stage ≠ 1 ∧ on.req 7 = none ∧ hostTurn on ≠ some 31) ∧
    (on.held = [] ∧ onLink.flag HIF_STAT_LINK_UP = true ∧ on.snp.moving = none ∧ on.flag SNP_STAT_ARMED = false) ∧
    (on.setFld RTC_STAT_OSC_OK 0).flag RTC_STAT_OSC_OK = false := by decide

theorem witness_IdleStep : on.pending = [] ∧ mainOn State.reset = false := by decide

end Sys2Proof.Tests
end

section
/-! SUPPORT. What a command leaves alone, said once for each shared update of the state, and the part of a state that the SYS
block does not see. -/

namespace Sys2Proof.Architecture

open Sys2Proof.Machine

variable {s t u : State} {l l' : List Nat}

/-! ### What is kept -/

theorem keeps_refl (s : State) (l : List Nat) : keeps s s l := ⟨rfl, fun _ _ => rfl⟩

theorem keeps_trans (h : keeps s t l) (h' : keeps t u l) : keeps s u l :=
  ⟨h'.1.trans h.1, fun a ha => (h'.2 a ha).trans (h.2 a ha)⟩

theorem keeps_mono (h : keeps s t l) (hl : l ⊆ l') : keeps s t l' := ⟨h.1, fun a ha => h.2 a fun hm => ha (hl hm)⟩

/-- Registers and memory are all that `keeps` looks at. -/
theorem keeps_of_eq (hr : t.regs = s.regs) (hm : t.mem = s.mem) : keeps s t l :=
  ⟨hm, fun a _ => by unfold State.reg; rw [hr]⟩

theorem keeps_setReg (h : keeps s t l) {a : Nat} (ha : a ∈ l) (w : Word) : keeps s (t.setReg a w) l :=
  ⟨h.1, fun b hb => by rw [reg_setReg, if_neg (ne_of_mem_of_not_mem ha hb)]; exact h.2 b hb⟩

theorem keeps_setFld (h : keeps s t l) {f : Field} (hf : f.addr ∈ l) (v : Nat) : keeps s (t.setFld f v) l := keeps_setReg h hf _

theorem keeps_setFlds (h : keeps s t l) {fs : List (Field × Nat)} (hf : ∀ e ∈ fs, e.1.addr ∈ l) : keeps s (t.setFlds fs) l :=
  ⟨(mem_setFlds t fs).trans h.1, fun a ha =>
    (reg_setFlds_ne t fs fun e he => ne_of_mem_of_not_mem (hf e he) ha).trans (h.2 a ha)⟩

theorem keeps_bumpBy (h : keeps s t l) {f : Field} (hf : f.addr ∈ l) (n : Nat) : keeps s (t.bumpBy f n) l := by
  unfold State.bumpBy
  split
  · exact h
  · exact keeps_setFld h hf _

theorem keeps_bump (h : keeps s t l) {f : Field} (hf : f.addr ∈ l) : keeps s (t.bump f) l := keeps_bumpBy h hf 1

/-- An update that writes no register and no memory. -/
theorem keeps_congr (h : keeps s t l) (hr : u.regs = t.regs) (hm : u.mem = t.mem) : keeps s u l :=
  keeps_trans h (keeps_of_eq hr hm)

theorem keeps_fire (h : keeps s t l) (p v : Nat) : keeps s (t.fire p v) l := keeps_congr h rfl rfl

theorem keeps_emit (h : keeps s t l) (k : OutKind) (n : List Nat) (o : List Byte) : keeps s (t.emit k n o) l := keeps_congr h rfl rfl

/-! ### Fields -/

theorem reg_congr (h : t.regs = s.regs) (a : Nat) : t.reg a = s.reg a := by unfold State.reg; rw [h]

theorem fld_congr (h : t.regs = s.regs) (f : Field) : t.fld f = s.fld f := by unfold State.fld; rw [reg_congr h]

/-- A field is kept where its register is. -/
theorem fld_of_keeps (h : keeps s t l) {f : Field} (hf : f.addr ∉ l) : t.fld f = s.fld f := by
  unfold State.fld
  rw [h.2 _ hf]

theorem fld_lt (s : State) (f : Field) : s.fld f < 2 ^ f.width := Nat.mod_lt _ (by positivity)

/-- A value that fits reads back whole. -/
theorem fld_setFld_of_lt (s : State) {f : Field} {v : Nat} (h : f.lo + f.width ≤ 32) (hv : v < 2 ^ f.width) : (s.setFld f v).fld f = v := by
  rw [fld_setFld s f v h, Nat.mod_eq_of_lt hv]

theorem flag_eq_true {f : Field} : s.flag f = true ↔ s.fld f = 1 := by simp [State.flag]

/-- A counter leaves every field that shares no bit with it. -/
theorem fld_bumpBy_ne (s : State) (f g : Field) (n : Nat)
    (h : f.addr ≠ g.addr ∨ (f.lo + f.width ≤ 32 ∧ (f.lo + f.width ≤ g.lo ∨ g.lo + g.width ≤ f.lo))) :
    (s.bumpBy f n).fld g = s.fld g := by
  unfold State.bumpBy
  split
  · rfl
  · exact fld_setFld_ne s f g _ h

theorem fld_bump_ne (s : State) (f g : Field)
    (h : f.addr ≠ g.addr ∨ (f.lo + f.width ≤ 32 ∧ (f.lo + f.width ≤ g.lo ∨ g.lo + g.width ≤ f.lo))) :
    (s.bump f).fld g = s.fld g := fld_bumpBy_ne s f g 1 h

/-- A counter that is not frozen counts one and saturates (R20). -/
theorem fld_bump (s : State) (f : Field) (h : f.lo + f.width ≤ 32) (hs : s.frozen = false) :
    (s.bump f).fld f = satInc f.width (s.fld f) 1 := by
  have hv : satInc f.width (s.fld f) 1 < 2 ^ f.width := by
    have := Nat.one_le_two_pow (n := f.width)
    unfold satInc
    omega
  rw [State.bump, State.bumpBy, hs, if_neg Bool.false_ne_true, fld_setFld s f _ h, Nat.mod_eq_of_lt hv]

theorem setFlds_cons (s : State) (f : Field) (v : Nat) (fs : List (Field × Nat)) : s.setFlds ((f, v) :: fs) = (s.setFld f v).setFlds fs := rfl

@[simp] theorem setFlds_nil (s : State) : s.setFlds [] = s := rfl

@[simp] theorem fld_fire (s : State) (p v : Nat) (f : Field) : (s.fire p v).fld f = s.fld f := fld_congr rfl f

/-! ### Bits -/

theorem bitOf_eq_testBit (v n : Nat) : bitOf v n = v.testBit n := by
  rw [bitOf, Nat.testBit_eq_decide_div_mod_eq]
  rfl

/-- A sum of bits at their places is below the next place and holds each of them. -/
theorem bits_of_sum (g : Nat → Bool) (n : Nat) :
    (List.range n).foldl (fun v b => v + 2 ^ b * b2n (g b)) 0 < 2 ^ n ∧
      ∀ b < n, bitOf ((List.range n).foldl (fun v b => v + 2 ^ b * b2n (g b)) 0) b = g b := by
  induction n with
  | zero => exact ⟨Nat.one_pos, fun b hb => absurd hb (Nat.not_lt_zero b)⟩
  | succ n ih =>
    obtain ⟨hlt, hbit⟩ := ih
    rw [List.range_succ, List.foldl_append, List.foldl_cons, List.foldl_nil]
    generalize (List.range n).foldl (fun v b => v + 2 ^ b * b2n (g b)) 0 = v at hlt hbit
    refine ⟨?_, fun b hb => ?_⟩
    · have : b2n (g n) ≤ 1 := by unfold b2n; split <;> omega
      have : 2 ^ n * b2n (g n) ≤ 2 ^ n * 1 := Nat.mul_le_mul_left _ this
      rw [pow_succ]
      omega
    · rw [bitOf_eq_testBit, Nat.add_comm, Nat.testBit_two_pow_mul_add _ hlt]
      split
      · rw [← bitOf_eq_testBit]; exact hbit b ‹_›
      · obtain rfl : b = n := by omega
        cases g b <;> simp [b2n]

/-! ### Time -/

/-- Passing time leaves all but the times, the count of free values and the slew. -/
theorem passTo_eq (s : State) (v : Nat) :
    s.passTo v = { s with venue := (s.passTo v).venue, uptime := (s.passTo v).uptime, thirds := (s.passTo v).thirds
                          free := (s.passTo v).free, vfb := (s.passTo v).vfb } := by
  unfold State.passTo
  dsimp only
  split
  · split <;> rfl
  · rfl

theorem reachUp_eq {v : Nat} (h : s.reachUp v = some t) :
    t = { s with venue := t.venue, uptime := t.uptime, thirds := t.thirds, free := t.free, vfb := t.vfb } := by
  rcases reachUp_cases h with ⟨-, rfl⟩ | ⟨-, -, rfl⟩
  · rfl
  · exact passTo_eq s _

/-- Time that passes to an instant of the present epoch, not behind, ends at it. -/
theorem venue_passTo {v : Nat} (h : s.venue ≤ v) (h' : v < s.nextBoundary) : (s.passTo v).venue = v := by
  have hv : v % venueEnd = v := Nat.mod_eq_of_lt (h'.trans_le (Nat.min_le_right _ _))
  unfold State.passTo
  dsimp only
  split
  · split <;> exact hv
  · show s.venue = v
    omega

/-! ### The idle step (R28) -/

/-- Settles O57: the two branches of a step on an empty queue. -/
theorem idleStep : Obligations.IdleStep := by
  refine ⟨fun s h => ?_, fun s h hs => ?_⟩
  · rw [step, h]
  · rw [step, h, idle, hs]
    rfl

end Sys2Proof.Architecture
end

section
/-! SUPPORT. The staging cut, SYS_COMMIT and swap requests (R36 to R41, R67 to R71). -/

namespace Sys2Proof.Architecture

open Sys2Proof.Machine

/-! ### The staging cut (R39) -/

/-- The cut writes no register and no memory. -/
theorem stagingCut_keeps (s : State) (l : List Nat) : keeps s (stagingCut s) l := by
  unfold stagingCut
  dsimp only
  split
  · split <;> exact keeps_refl s l
  · exact keeps_refl s l

/-- The cut is done, with the blocks that are armed. -/
theorem cut_stagingCut (s : State) :
    (stagingCut s).cut = { done := true, words := shadowWords s (s.fld SYS_COMMIT_ARM), mask := s.fld SYS_COMMIT_ARM } := by
  unfold stagingCut
  dsimp only
  split
  · split <;> rfl
  · rfl

theorem advance_keeps (s : State) (v : Nat) (l : List Nat) : keeps s (s.advance v) l :=
  keeps_of_eq (passTo_leaves s _).1 (passTo_leaves s _).2.1

theorem cutSettle_keeps (s : State) (l : List Nat) : keeps s (cutSettle s) l := by
  unfold cutSettle
  split
  · exact stagingCut_keeps s l
  · exact keeps_refl s l

theorem cutSettle_before {s : State} (h : cutPassed s = false) : cutSettle s = s := by
  simp [cutSettle, h]

/-- Before its instant the cut has not been made. -/
theorem cut_not_done {s : State} (h : cutPassed s = false) : s.cut.done = false := by
  simp only [cutPassed, Bool.or_eq_false_iff] at h
  exact h.1

/-! ### SYS_COMMIT (R41) -/

theorem commitWrite_keeps (s : State) (arm cancel : Nat) : keeps s (commitWrite s arm cancel) [SYS_COMMIT] :=
  keeps_setFld (cutSettle_keeps s _) (List.mem_singleton_self _) _

/-- A block's bit of ARM after a write: a cancel clears it before the cut and not after; an arm sets it. -/
def armBit (s : State) (arm cancel b : Nat) : Bool :=
  if bitOf cancel b then bitOf (s.fld SYS_COMMIT_ARM) b && (cutSettle s).cut.done else bitOf (s.fld SYS_COMMIT_ARM) b || bitOf arm b

theorem commitWrite_eq (s : State) (arm cancel : Nat) : commitWrite s arm cancel =
    (cutSettle s).setFld SYS_COMMIT_ARM ((List.range 8).foldl (fun v b => v + 2 ^ b * b2n (armBit s arm cancel b)) 0) := by
  have hold : (cutSettle s).fld SYS_COMMIT_ARM = s.fld SYS_COMMIT_ARM := fld_of_keeps (cutSettle_keeps s []) List.not_mem_nil
  unfold commitWrite
  dsimp only
  rw [hold]
  rfl

theorem bit_commitWrite (s : State) (arm cancel : Nat) {b : Nat} (hb : b < 8) :
    bitOf ((commitWrite s arm cancel).fld SYS_COMMIT_ARM) b = armBit s arm cancel b := by
  obtain ⟨hlt, hbit⟩ := bits_of_sum (armBit s arm cancel) 8
  rw [commitWrite_eq, fld_setFld_of_lt _ (by decide) hlt]
  exact hbit b hb

theorem bitOf_zero (b : Nat) : bitOf 0 b = false := by simp [bitOf]

/-! ### Swap requests (R67) -/

theorem swapArm_free {s : State} (h : s.swapReq = none) :
    swapArm s = swapHold s { mask := s.fld CFG_SWAPMASK_REGIONS
                             build := s.fld CFG_SWAPBLDL_BUILD_LO + 2 ^ 32 * s.fld CFG_SWAPBLDH_BUILD_HI
                             target := if s.flag CFG_SWAPCTL_NEXT then nextCutEpoch s
                               else s.fld CFG_SWAPEPL_EPOCH_LO + 2 ^ 32 * s.fld CFG_SWAPEPH_EPOCH_HI } := by
  rw [swapArm, h]
  rfl

theorem swapArm_held {s : State} (h : s.swapReq.isSome = true) : swapArm s = s.setFld CFG_SWAPSTAT_REFUSED 1 := if_pos h

theorem swapCancel_before_cut {s : State} {q : SwapReq} (h : s.swapReq = some q) (hc : requestCut s = false) :
    swapCancel s = swapEnd (disarmPlanes s q.mask) q 8 0 := by
  simp [swapCancel, h, hc]

/-- Settles O5: each command's function, by the lemmas on the cut, on SYS_COMMIT and on swap requests. -/
theorem coherenceCommandsComplete : Obligations.CoherenceCommandsComplete := by
  refine ⟨fun s margin hs => ?epoch, fun s hs => ?cut, fun s blocks => ?arm, fun s blocks hs => ?cancel, fun s hs => ?swap,
    fun s hs => ?refused, fun s q hq hc => ?swapCancel, fun s seq mask build epoch hb he => ?order⟩
  case epoch => exact ⟨_, rfl, if_pos hs⟩
  case cut =>
    have hk := advance_keeps s (s.nextBoundary - 20000) []
    refine ⟨stagingCut (s.advance (s.nextBoundary - 20000)), if_neg (by simp [hs]), ?_, ?_,
      keeps_trans hk (stagingCut_keeps _ _)⟩
    · rw [cut_stagingCut]
    · rw [cut_stagingCut]
      exact fld_of_keeps hk List.not_mem_nil
  case arm =>
    refine ⟨_, rfl, fun b hb => ?_, commitWrite_keeps s _ _⟩
    rw [bit_commitWrite s _ _ hb, armBit, bitOf_zero, if_neg Bool.false_ne_true]
  case cancel =>
    refine ⟨_, rfl, fun b hb => ?_, commitWrite_keeps s _ _⟩
    rw [bit_commitWrite s _ _ hb, armBit, cutSettle_before hs, cut_not_done hs, bitOf_zero]
    cases bitOf blocks.toNat b <;> simp
  case swap => exact ⟨_, rfl, swapArm_free hs⟩
  case refused =>
    refine ⟨_, rfl, ?_⟩
    rw [swapArm_held hs]
    exact ⟨fld_setFld _ _ _ (by decide), rfl, keeps_setFld (keeps_refl s _) (List.mem_singleton_self _) _⟩
  case swapCancel => exact ⟨_, rfl, swapCancel_before_cut hq hc⟩
  case order => exact ⟨_, rfl, by rw [Nat.mod_eq_of_lt hb, Nat.mod_eq_of_lt he]⟩

end Sys2Proof.Architecture
end

section
/-! SUPPORT. The reference, its loss and its return (R30 to R33). -/

namespace Sys2Proof.Architecture

open Sys2Proof.Machine

variable {s t u : State} {l : List Nat}

/-! ### Parts of the state beside registers and memory -/

/-- What the reference monitor holds is replaced. -/
def withRef (s : State) (x : RefX) : State := { s with ref := x }

/-- What the stack holds is replaced. -/
def withStk (s : State) (x : StackX) : State := { s with stk := x }

/-- What the fabric agent holds is replaced. -/
def withVfb (s : State) (x : FabricX) : State := { s with vfb := x }

@[simp] theorem ref_withRef (s : State) (x : RefX) : (withRef s x).ref = x := rfl
@[simp] theorem ref_withStk (s : State) (x : StackX) : (withStk s x).ref = s.ref := rfl
@[simp] theorem ref_withVfb (s : State) (x : FabricX) : (withVfb s x).ref = s.ref := rfl
@[simp] theorem fld_withRef (s : State) (x : RefX) (f : Field) : (withRef s x).fld f = s.fld f := fld_congr rfl f
@[simp] theorem fld_withStk (s : State) (x : StackX) (f : Field) : (withStk s x).fld f = s.fld f := fld_congr rfl f
@[simp] theorem fld_withVfb (s : State) (x : FabricX) (f : Field) : (withVfb s x).fld f = s.fld f := fld_congr rfl f

theorem keeps_withRef (h : keeps s t l) (x : RefX) : keeps s (withRef t x) l := h
theorem keeps_withStk (h : keeps s t l) (x : StackX) : keeps s (withStk t x) l := h
theorem keeps_withVfb (h : keeps s t l) (x : FabricX) : keeps s (withVfb t x) l := h

/-! ### The loss on the fallback, and the lock to it (R31) -/

theorem lossRecord_keeps (s : State) : keeps s (lossRecord s) [SYS_CLKSTAT, SYS_REFLOST] :=
  keeps_fire (keeps_bump (keeps_setFlds (keeps_refl s _) (by decide)) (by decide)) _ _

theorem fld_lossRecord (s : State) :
    (lossRecord s).fld SYS_CLKSTAT_REF_VALID = 0 ∧ (lossRecord s).fld SYS_REFLOST_LOST = 1 ∧ (lossRecord s).fld SYS_REFLOST_ACTIVE = 1 := by
  unfold lossRecord
  refine ⟨?_, ?_, ?_⟩ <;> simp (disch := decide) only [fld_fire, fld_bump_ne, setFlds_cons, setFlds_nil, fld_setFld_ne, fld_setFld] <;> rfl

theorem count_lossRecord (h : s.frozen = false) : (lossRecord s).fld SYS_REFLOST_COUNT = satInc 8 (s.fld SYS_REFLOST_COUNT) 1 := by
  have hf : (s.setFlds [(SYS_CLKSTAT_REF_VALID, 0), (SYS_REFLOST_LOST, 1), (SYS_REFLOST_ACTIVE, 1)]).frozen = false := by
    unfold State.frozen State.flag at *
    simpa (disch := decide) only [setFlds_cons, setFlds_nil, fld_setFld_ne] using h
  unfold lossRecord
  rw [fld_fire, fld_bump _ _ (by decide) hf]
  simp (disch := decide) only [setFlds_cons, setFlds_nil, fld_setFld_ne]
  rfl

theorem events_lossRecord (s : State) : (lossRecord s).events = s.events ++ [{ producer := 0, payload := 0 }] := by
  simp [lossRecord, State.fire]

theorem ref_lossRecord (s : State) : (lossRecord s).ref = s.ref := by simp [lossRecord]

/-- What leaving the stack can give. -/
theorem stackLeave_cases (s : State) : stackLeave s = s ∨
    ∃ x, stackLeave s = (((withStk s x).setFlds [(STK_STAT_LEADER_OK, 0), (STK_STAT_LEADERLOST, 1)]).bump STK_LEADERLOSTS_COUNT).fire 352 0 := by
  unfold stackLeave
  split
  · exact .inr ⟨_, rfl⟩
  · exact .inl rfl

/-- A device that is not in HOLDOVER enters it (R31 step 5). -/
theorem vfbEnter_holdover (h : vfbState s ≠ 3) :
    ∃ x, vfbEnter s 3 = (((withVfb (s.setFlds [(VFB_STAT_STATE, 3), (VFB_STAT_NORD, 0)]) x).setFlds
      [(VFB_HOLDOVER_HOLD, 1), (VFB_HOLDOVER_ACTIVE, 1)]).bump VFB_HOLDOVER_COUNT).fire 384 0 :=
  ⟨_, by
    unfold vfbEnter
    simp only [h, if_false]
    rfl⟩

theorem stackLeave_leaves (s : State) : keeps s (stackLeave s) [STK_STAT, STK_LEADERLOSTS] ∧ (stackLeave s).ref = s.ref ∧
    (stackLeave s).fld STK_STAT_RING0_UP = s.fld STK_STAT_RING0_UP ∧ (stackLeave s).fld STK_STAT_RING1_UP = s.fld STK_STAT_RING1_UP := by
  rcases stackLeave_cases s with h | ⟨x, h⟩ <;> rw [h]
  · exact ⟨keeps_refl s _, rfl, rfl, rfl⟩
  · refine ⟨keeps_fire (keeps_bump (keeps_setFlds (keeps_withStk (keeps_refl s _) x) (by decide)) (by decide)) _ _, by simp, ?_, ?_⟩ <;>
      simp (disch := decide) only [fld_fire, fld_bump_ne, setFlds_cons, setFlds_nil, fld_setFld_ne, fld_withStk]

theorem holdover_leaves (h : vfbState s ≠ 3) : keeps s (vfbEnter s 3) [VFB_STAT, VFB_HOLDOVER] ∧ (vfbEnter s 3).ref = s.ref ∧
    (vfbEnter s 3).fld VFB_STAT_PORT0_UP = s.fld VFB_STAT_PORT0_UP ∧ (vfbEnter s 3).fld VFB_STAT_PORT1_UP = s.fld VFB_STAT_PORT1_UP := by
  obtain ⟨x, hx⟩ := vfbEnter_holdover h
  rw [hx]
  refine ⟨keeps_fire (keeps_bump (keeps_setFlds (keeps_withVfb (keeps_setFlds (keeps_refl s _) (by decide)) x) (by decide)) (by decide)) _ _,
    by simp, ?_, ?_⟩ <;>
    simp (disch := decide) only [fld_fire, fld_bump_ne, setFlds_cons, setFlds_nil, fld_setFld_ne, fld_withVfb]

/-- The root PLL is on the fallback, and the SerDes have lost lock (R31 step 4). -/
def onFallback (s : State) : State :=
  (withRef s { s.ref with stage := 0 }).setFlds [(SYS_CLKSTAT_ROOT_LOCK, 1), (SYS_CLKSTAT_ON_FALLBACK, 1), (STK_STAT_RING0_UP, 0),
    (STK_STAT_RING1_UP, 0), (VFB_STAT_PORT0_UP, 0), (VFB_STAT_PORT1_UP, 0)]

theorem fld_onFallback (s : State) :
    (onFallback s).fld SYS_CLKSTAT_ROOT_LOCK = 1 ∧ (onFallback s).fld SYS_CLKSTAT_ON_FALLBACK = 1 ∧
      (onFallback s).fld VFB_STAT_PORT0_UP = 0 ∧ (onFallback s).fld VFB_STAT_PORT1_UP = 0 ∧
      (onFallback s).fld STK_STAT_RING0_UP = 0 ∧ (onFallback s).fld STK_STAT_RING1_UP = 0 := by
  unfold onFallback
  refine ⟨?_, ?_, ?_, ?_, ?_, ?_⟩ <;> simp (disch := decide) only [setFlds_cons, setFlds_nil, fld_setFld_ne, fld_setFld] <;> rfl

theorem onFallback_keeps (s : State) : keeps s (onFallback s) [SYS_CLKSTAT, STK_STAT, VFB_STAT] :=
  keeps_setFlds (keeps_withRef (keeps_refl s _) _) (by decide)

/-- The device is on the fallback, out of its stack and, where it was locked, in HOLDOVER (R31 steps 4 and 5). -/
theorem execFallbackLock_eq (h : s.ref.stage = 2) : execFallbackLock s = .next
    (if vfbState (stackLeave (onFallback s)) = 2 || vfbState (stackLeave (onFallback s)) = 6 then vfbEnter (stackLeave (onFallback s)) 3
      else stackLeave (onFallback s)) := by
  unfold execFallbackLock
  rw [if_neg (not_not_intro h)]
  rfl

theorem fallbackLock_completes (h : s.ref.stage = 2) : completes .fallbackLock s fun t =>
    t.ref.stage = 0 ∧ t.fld SYS_CLKSTAT_ROOT_LOCK = 1 ∧ t.fld SYS_CLKSTAT_ON_FALLBACK = 1 ∧
      t.fld VFB_STAT_PORT0_UP = 0 ∧ t.fld VFB_STAT_PORT1_UP = 0 ∧ t.fld STK_STAT_RING0_UP = 0 ∧ t.fld STK_STAT_RING1_UP = 0 ∧
      keeps s t [SYS_CLKSTAT, STK_STAT, STK_LEADERLOSTS, VFB_STAT, VFB_HOLDOVER] := by
  refine ⟨_, execFallbackLock_eq h, ?_⟩
  obtain ⟨hroot, hfall, hp0, hp1, hr0, hr1⟩ := fld_onFallback s
  have hk := onFallback_keeps s
  have href : (onFallback s).ref.stage = 0 := by simp [onFallback]
  generalize onFallback s = u at *
  obtain ⟨hku, hrefu, hr0u, hr1u⟩ := stackLeave_leaves u
  generalize stackLeave u = v at *
  have hkv : keeps s v [SYS_CLKSTAT, STK_STAT, STK_LEADERLOSTS, VFB_STAT, VFB_HOLDOVER] :=
    keeps_trans (keeps_mono hk (by decide)) (keeps_mono hku (by decide))
  have hv : ∀ f : Field, f.addr ∉ [STK_STAT, STK_LEADERLOSTS] → v.fld f = u.fld f := fun f => fld_of_keeps hku
  split
  next hs =>
    have hne : vfbState v ≠ 3 := by
      simp only [Bool.or_eq_true, decide_eq_true_eq] at hs
      omega
    obtain ⟨hkw, hrefw, hp0w, hp1w⟩ := holdover_leaves hne
    have hw : ∀ f : Field, f.addr ∉ [VFB_STAT, VFB_HOLDOVER] → (vfbEnter v 3).fld f = v.fld f := fun f => fld_of_keeps hkw
    refine ⟨by rw [hrefw, hrefu, href], ?_, ?_, ?_, ?_, ?_, ?_, keeps_trans hkv (keeps_mono hkw (by decide))⟩
    · rw [hw _ (by decide), hv _ (by decide), hroot]
    · rw [hw _ (by decide), hv _ (by decide), hfall]
    · rw [hp0w, hv _ (by decide), hp0]
    · rw [hp1w, hv _ (by decide), hp1]
    · rw [hw _ (by decide), hr0u, hr0]
    · rw [hw _ (by decide), hr1u, hr1]
  next =>
    exact ⟨by rw [hrefu, href], by rw [hv _ (by decide), hroot], by rw [hv _ (by decide), hfall], by rw [hv _ (by decide), hp0],
      by rw [hv _ (by decide), hp1], by rw [hr0u, hr0], by rw [hr1u, hr1], hkv⟩

/-! ### The return (R32) -/

/-- All of memory, the reference monitor and the registers of the SYS block are as before. -/
def keepsSys (s t : State) : Prop := t.mem = s.mem ∧ t.ref = s.ref ∧ ∀ a < 0x20010000, t.reg a = s.reg a

theorem keepsSys_refl (s : State) : keepsSys s s := ⟨rfl, rfl, fun _ _ => rfl⟩

theorem keepsSys_trans (h : keepsSys s t) (h' : keepsSys t u) : keepsSys s u :=
  ⟨h'.1.trans h.1, h'.2.1.trans h.2.1, fun a ha => (h'.2.2 a ha).trans (h.2.2 a ha)⟩

theorem keepsSys_congr (hr : t.regs = s.regs) (hm : t.mem = s.mem) (hf : t.ref = s.ref) : keepsSys s t :=
  ⟨hm, hf, fun a _ => reg_congr hr a⟩

theorem keepsSys_setFld (s : State) {f : Field} (h : 0x20010000 ≤ f.addr) (v : Nat) : keepsSys s (s.setFld f v) :=
  ⟨rfl, rfl, fun _ ha => reg_setFld_ne s f v (by omega)⟩

theorem keepsSys_bumpBy (s : State) {f : Field} (h : 0x20010000 ≤ f.addr) (n : Nat) : keepsSys s (s.bumpBy f n) :=
  ⟨mem_bumpBy s f n, by simp, fun _ ha => reg_bumpBy_ne s f n (by omega)⟩

theorem keepsSys_setPortx (s : State) (p : Nat) (x : PortX) : keepsSys s (s.setPortx p x) := keepsSys_congr rfl rfl rfl

theorem fld_of_keepsSys (h : keepsSys s t) {f : Field} (hf : f.addr < 0x20010000) : t.fld f = s.fld f := by
  unfold State.fld
  rw [h.2.2 _ hf]

/-- A loop whose every pass leaves the SYS block leaves it. -/
theorem keepsSys_foldl {α : Type} (f : State → α → State) (h : ∀ s x, keepsSys s (f s x)) (l : List α) (s : State) : keepsSys s (l.foldl f s) := by
  induction l generalizing s with
  | nil => exact keepsSys_refl s
  | cons x l ih => exact keepsSys_trans (h s x) (ih _)

theorem keepsSys_forBelow (f : State → Nat → State) (h : ∀ s k, keepsSys s (f s k)) (n : Nat) (s : State) : keepsSys s (forBelow n f s) :=
  keepsSys_foldl f h _ s

theorem sys_lt_rfp (p : Nat) : 0x20010000 ≤ RFP_STAT p := Nat.le_add_right_of_le (by decide)

/-- A state written in a port's register and a change of what the port holds. -/
theorem keepsSys_portStat (s : State) (p : Nat) (x : PortX) {f : Field} (h : f.addr = RFP_STAT p) (v : Nat) :
    keepsSys s ((s.setPortx p x).setFld f v) :=
  keepsSys_trans (keepsSys_setPortx s p x) (keepsSys_setFld _ (h ▸ sys_lt_rfp p) v)

/-- A port whose band was withdrawn is back in its base state. -/
def bandSettled (s : State) (p : Nat) : State :=
  if (s.portx p).bandDue then
    (s.setPortx p { s.portx p with bandDue := false }).setFld (RFP_STAT_STATE p) (min (portState s p) 1) else s

/-- A port in state `st` sets out for `tg`, or reports that no oscillator serves it (R78). -/
def portSetsOut (s : State) (p st tg : Nat) : State :=
  if st = tg then s
  else if st = 1 && portHop st tg = 2 && !loServed s (portAssign s p) then s.setFld (RFP_STAT_CONFLICT p) 1
  else (s.setPortx p { s.portx p with next := portHop st tg }).setFld (RFP_STAT_INTRANSIT p) 1

theorem portHead_eq (s : State) (p : Nat) : portHead s p =
    if s.flag (RFP_STAT_INTRANSIT p) || portState s p = 5 || (s.portx p).txLane ≠ 0 || (s.portx p).muted || commitHolds s p then s
    else portSetsOut (bandSettled s p) p (if (s.portx p).bandDue then min (portState s p) 1 else portState s p) (s.fld (RFP_STAT_TARGET p)) := rfl

theorem bandSettled_keepsSys (s : State) (p : Nat) : keepsSys s (bandSettled s p) := by
  unfold bandSettled
  split
  · exact keepsSys_portStat s p _ rfl _
  · exact keepsSys_refl s

theorem portSetsOut_keepsSys (s : State) (p st tg : Nat) : keepsSys s (portSetsOut s p st tg) := by
  unfold portSetsOut
  split
  · exact keepsSys_refl s
  · split
    · exact keepsSys_setFld s (sys_lt_rfp p) _
    · exact keepsSys_portStat s p _ rfl _

theorem portHead_keepsSys (s : State) (p : Nat) : keepsSys s (portHead s p) := by
  rw [portHead_eq]
  split
  · exact keepsSys_refl s
  · exact keepsSys_trans (bandSettled_keepsSys s p) (portSetsOut_keepsSys _ p _ _)

theorem portAim_keepsSys (s : State) (p tg : Nat) : keepsSys s (portAim s p tg) :=
  keepsSys_trans (keepsSys_setFld s (sys_lt_rfp p) tg) (portHead_keepsSys _ p)

theorem deafCount_keepsSys (s : State) (k us : Nat) (ended : Bool) : keepsSys s (deafCount s k us ended) := by
  have hb : keepsSys s (s.bumpBy (TXS_DEAF_US k) us) := keepsSys_bumpBy s (Nat.le_add_right_of_le (by decide)) us
  unfold deafCount
  split
  · exact keepsSys_refl s
  · split
    · exact keepsSys_trans hb (keepsSys_setFld _ (Nat.le_add_right_of_le (by decide)) _)
    · exact keepsSys_trans hb (keepsSys_congr rfl rfl rfl)

theorem deafSettle_keepsSys (s : State) : keepsSys s (deafSettle s) := by
  unfold deafSettle
  dsimp only
  split
  · exact keepsSys_congr rfl rfl rfl
  · refine keepsSys_trans (t := if s.blanks.isEmpty || s.fld PWR_STATE_CUR = 1 then s else forBelow s.part.bins
      (fun t k => deafCount t k (if binDet t k then deafUs t k s.deafTo s.venue else 0) false) s) ?_ (keepsSys_congr rfl rfl rfl)
    split
    · exact keepsSys_refl s
    · exact keepsSys_forBelow _ (fun t k => deafCount_keepsSys t k _ _) _ s

theorem refHears_keepsSys (s : State) : keepsSys s (refHears s) := by
  unfold refHears
  split
  · exact keepsSys_refl s
  · refine keepsSys_forBelow _ (fun t band => ?_) _ s
    dsimp only
    split
    · exact keepsSys_trans (deafSettle_keepsSys t) (keepsSys_congr rfl rfl rfl)
    · exact keepsSys_refl t

/-- The lock summary leaves the state of the root PLL. -/
theorem synRefresh_leaves (s : State) : (synRefresh s).mem = s.mem ∧ (synRefresh s).ref = s.ref ∧
    ∀ f ∈ [SYS_CLKSTAT_ROOT_LOCK, SYS_CLKSTAT_ON_FALLBACK, SYS_REFLOST_ACTIVE], (synRefresh s).fld f = s.fld f := by
  unfold synRefresh synClkstat
  refine ⟨by simp, by simp, ?_⟩
  simp only [List.forall_mem_cons, List.not_mem_nil, false_imp_iff, implies_true, and_true]
  refine ⟨?_, ?_, ?_⟩ <;> simp (disch := decide) only [setFlds_cons, setFlds_nil, fld_setFld_ne]

/-- The root PLL is on the returned reference (R32 step 2). -/
def onReference (s : State) : State :=
  (withRef s { s.ref with ret := false, qual := false }).setFlds
    [(SYS_CLKSTAT_ROOT_LOCK, 1), (SYS_CLKSTAT_ON_FALLBACK, 0), (SYS_REFLOST_ACTIVE, 0)]

theorem fld_onReference (s : State) : (onReference s).fld SYS_CLKSTAT_ROOT_LOCK = 1 ∧
    (onReference s).fld SYS_CLKSTAT_ON_FALLBACK = 0 ∧ (onReference s).fld SYS_REFLOST_ACTIVE = 0 := by
  unfold onReference
  refine ⟨?_, ?_, ?_⟩ <;> simp (disch := decide) only [setFlds_cons, setFlds_nil, fld_setFld_ne, fld_setFld] <;> rfl

/-- The synthesizers relock with stored calibration (R32 step 3). -/
def synsRelock (s : State) : State :=
  forBelow 3 (fun s k =>
    if s.fld (SYN_STAT_ASSIGN k) ≠ 0 && !s.flag (SYN_STAT_FAILED k) && !(s.syn k).calibrating then s.setFld (SYN_STAT_LOCK k) 1 else s) s

theorem synsRelock_keepsSys (s : State) : keepsSys s (synsRelock s) := by
  refine keepsSys_forBelow _ (fun t k => ?_) 3 s
  split
  · exact keepsSys_setFld t (show _ ≤ SYN_STAT by decide) 1
  · exact keepsSys_refl t

theorem execRootLockReturn_eq (h : s.ref.ret = true) : execRootLockReturn s = .next (refHears
    ((portsOn (synsRelock (onReference s))).foldl (fun t p => portAim t p (portWant t p)) (synRefresh (synsRelock (onReference s))))) := by
  unfold execRootLockReturn
  rw [h]
  rfl

theorem rootLockReturn_completes (h : s.ref.ret = true) : completes .rootLockReturn s fun t =>
    t.fld SYS_CLKSTAT_ROOT_LOCK = 1 ∧ t.fld SYS_CLKSTAT_ON_FALLBACK = 0 ∧ t.fld SYS_REFLOST_ACTIVE = 0 ∧ t.ref.ret = false ∧
      t.ref.qual = false ∧ t.mem = s.mem := by
  refine ⟨_, execRootLockReturn_eq h, ?_⟩
  obtain ⟨hroot, hfall, hact⟩ := fld_onReference s
  have hmem : (onReference s).mem = s.mem := mem_setFlds _ _
  have href : (onReference s).ref = { s.ref with ret := false, qual := false } := by simp [onReference]
  have hrelock := synsRelock_keepsSys (onReference s)
  obtain ⟨hmem', href', hfld'⟩ := synRefresh_leaves (synsRelock (onReference s))
  have hports := keepsSys_trans (keepsSys_foldl (fun t p => portAim t p (portWant t p)) (fun t p => portAim_keepsSys t p _)
    (portsOn (synsRelock (onReference s))) (synRefresh (synsRelock (onReference s)))) (refHears_keepsSys _)
  have hfld : ∀ f ∈ [SYS_CLKSTAT_ROOT_LOCK, SYS_CLKSTAT_ON_FALLBACK, SYS_REFLOST_ACTIVE], f.addr < 0x20010000 →
      (refHears _).fld f = (onReference s).fld f := fun f hf ha =>
    (fld_of_keepsSys hports ha).trans ((hfld' f hf).trans (fld_of_keepsSys hrelock ha))
  refine ⟨?_, ?_, ?_, ?_, ?_, ?_⟩
  · rw [hfld _ (by decide) (by decide), hroot]
  · rw [hfld _ (by decide) (by decide), hfall]
  · rw [hfld _ (by decide) (by decide), hact]
  · rw [hports.2.1, href', hrelock.2.1, href]
  · rw [hports.2.1, href', hrelock.2.1, href]
  · rw [hports.1, hmem', hrelock.1, hmem]

/-- Settles O4: the two ways of a loss, the lock to the fallback and the return each by its lemma. -/
theorem referenceCommandsComplete : Obligations.ReferenceCommandsComplete := by
  refine ⟨fun s hv hf => ?lost, fun s hv hf hr => ?lostAgain, fun s h => ?switch, fun s h => fallbackLock_completes h, fun s h => ?rise,
    fun s h hv => ?qualified, fun s h => rootLockReturn_completes h, fun s v h3 h2 => ?source, fun s => ?request⟩
  case lost =>
    refine ⟨airDown (lossDeclared s), ?_, rfl⟩
    show execRefLost s = _
    unfold execRefLost
    rw [hv, hf]
    rfl
  case lostAgain =>
    refine ⟨lossRecord (withRef s { s.ref with qual := false }), ?_, ?_⟩
    · show execRefLost s = _
      unfold execRefLost
      rw [hv, hf, hr]
      rfl
    · obtain ⟨hvalid, hlost, hactive⟩ := fld_lossRecord (withRef s { s.ref with qual := false })
      exact ⟨hvalid, hlost, hactive, fun h => count_lossRecord (s := withRef s _) h, by rw [ref_lossRecord]; rfl,
        ⟨_, events_lossRecord _, rfl⟩, keeps_trans (keeps_withRef (keeps_refl s _) _) (lossRecord_keeps _)⟩
  case switch => exact ⟨withRef s { s.ref with stage := 2 }, congrArg ok (if_pos h), rfl, keeps_withRef (keeps_refl s _) _⟩
  case rise =>
    refine ⟨(withRef s { s.ref with qual := s.ref.qual && s.flag SYS_CLKSTAT_REF_VALID }).setFld SYS_CLKSTAT_REF_VALID 1,
      congrArg ok (if_pos h), fld_setFld _ _ _ (by decide), keeps_setFld (keeps_withRef (keeps_refl s _) _) (List.mem_singleton_self _) _⟩
  case qualified =>
    exact ⟨withRef s { s.ref with qual := true }, congrArg ok (if_pos (by rw [h, hv]; rfl)), rfl, keeps_withRef (keeps_refl s _) _⟩
  case source =>
    have hw : refSrcWrite s v = s.setFld SYS_CLKCTL_REF_SRC v := by
      refine if_neg ?_
      simp only [Bool.or_eq_true, Bool.and_eq_true, decide_eq_true_eq]
      omega
    refine ⟨_, rfl, ?_⟩
    rw [hw]
    exact ⟨fld_setFld_of_lt s (by decide) v.isLt, keeps_setFld (keeps_refl s _) (List.mem_singleton_self _) _⟩
  case request => exact ⟨_, rfl, fld_setFld _ _ _ (by decide), keeps_setFld (keeps_refl s _) (List.mem_singleton_self _) _⟩

end Sys2Proof.Architecture
end

section
/-! SUPPORT. The host interface: accesses, interrupts, held writes, and the reset of the interface (R469 to R486). -/

namespace Sys2Proof.Architecture

open Sys2Proof.Machine

variable {s t u : State} {l : List Nat}

/-- The last bus access completed. -/
def busOk (s : State) : State := { s with busResult := .ok }

/-- The turn of the transmit rings. -/
def withTurn (s : State) (n : Nat) : State := { s with hif := { turn := n } }

theorem upset_nil (s : State) : s.upset [] = s := rfl

/-! ### BAR2 (R469) -/

theorem bar2Read_eq (hs : hostUp s = true) (hu : s.upsets = []) (off : Nat) (n : Fin 513) :
    execHostBar2Access (.read off n) [] s = .next ((busOk s).emit .completion [off]
      (s.rdN (0x01000000 + off) (min n.val (8388608 - off)) ++ List.replicate (n.val - min n.val (8388608 - off)) 0)) := by
  unfold execHostBar2Access
  simp only [upset_nil, hs, Bool.not_true, Bool.false_eq_true, if_false, eccRead_clean hu, rdN_length]
  rfl

/-- An enabled write touches no register, and ends as it began. -/
theorem enabledWrite_leaves (s : State) (a : Nat) (l : List (Option Byte)) :
    (enabledWrite s a l).regs = s.regs ∧ (enabledWrite s a l).busResult = s.busResult := by
  induction l generalizing s a with
  | nil => exact ⟨rfl, rfl⟩
  | cons o l ih => cases o <;> exact ih _ _

/-- An octet after an enabled write: the enabled one of its place, or the old one. -/
theorem rd8_enabledWrite (s : State) (a : Nat) (l : List (Option Byte)) (b : Nat) :
    (enabledWrite s a l).rd8 b = if a ≤ b then (l.getD (b - a) none).getD (s.rd8 b) else s.rd8 b := by
  induction l generalizing s a with
  | nil => simp [enabledWrite]
  | cons o l ih =>
    rcases Nat.lt_trichotomy b a with hlt | rfl | hgt
    · cases o <;> simp only [enabledWrite, ih, rd8_wr8] <;> simp [show ¬ a + 1 ≤ b by omega, show ¬ a ≤ b by omega, show a ≠ b by omega]
    · cases o <;> simp [enabledWrite, ih]
    · have hb : b - a = b - (a + 1) + 1 := by omega
      cases o <;> simp only [enabledWrite, ih, rd8_wr8, hb, List.getD_cons_succ] <;>
        simp [show a + 1 ≤ b by omega, show a ≤ b by omega, show a ≠ b by omega]

theorem bar2Write_eq (hs : hostUp s = true) (off : Nat) (l : List (Option Byte)) : execHostBar2Access (.write off l false) [] s =
    .next (enabledWrite (busOk s) (0x01000000 + off) (l.take (8388608 - off))) := by
  unfold execHostBar2Access
  simp only [upset_nil, hs, Bool.not_true, Bool.false_eq_true, if_false]
  rfl

theorem rd8_bar2Write (s : State) {off : Nat} (hoff : off ≤ 8388608) (l : List (Option Byte)) (a : Nat) :
    (enabledWrite s (0x01000000 + off) (l.take (8388608 - off))).rd8 a =
      if 0x01000000 + off ≤ a ∧ a < 0x01800000 then (l.getD (a - (0x01000000 + off)) none).getD (s.rd8 a) else s.rd8 a := by
  rw [rd8_enabledWrite]
  by_cases h : 0x01000000 + off ≤ a
  · by_cases h' : a < 0x01800000
    · rw [if_pos h, if_pos ⟨h, h'⟩, List.getD_eq_getElem?_getD, List.getElem?_take_of_lt (by omega), List.getD_eq_getElem?_getD]
    · rw [if_pos h, if_neg (fun hc => h' hc.2), List.getD_eq_default _ _ (by rw [List.length_take]; omega)]
      rfl
  · rw [if_neg h, if_neg (fun hc => h hc.1)]

/-! ### HIF_ERR (R483) -/

theorem hifErr_keeps (h : keeps s t l) (hl : HIF_ERR ∈ l) (bits : Nat) : keeps s (hifErr t bits) l := by
  unfold hifErr
  dsimp only
  split
  · exact keeps_setReg h hl _
  · exact keeps_fire (keeps_setReg h hl _) _ _

theorem reg_hifErr (s : State) (bits : Nat) : (hifErr s bits).reg HIF_ERR = s.reg HIF_ERR ||| BitVec.ofNat 32 bits := by
  have hor : BitVec.ofNat 32 ((s.reg HIF_ERR).toNat ||| bits) = s.reg HIF_ERR ||| BitVec.ofNat 32 bits := by
    rw [BitVec.ofNat_or, BitVec.ofNat_toNat, BitVec.setWidth_eq]
  unfold hifErr
  dsimp only
  split
  · rw [reg_setReg, if_pos rfl, hor]
  · rw [reg_fire, reg_setReg, if_pos rfl, hor]

theorem reqs_hifErr (s : State) (bits : Nat) : (hifErr s bits).reqs = s.reqs := by
  unfold hifErr
  dsimp only
  split <;> rfl

theorem bar2Poisoned_eq (hs : hostUp s = true) (off : Nat) (l : List (Option Byte)) :
    execHostBar2Access (.write off l true) [] s = .next (hifErr s 8) := by
  unfold execHostBar2Access
  simp only [upset_nil, hs, Bool.not_true, Bool.false_eq_true, if_false]
  rfl

/-! ### Transmit rings (R475 to R477) -/

theorem fld_taken (s : State) (n : Nat) {f : Field} (h : HIF_TXREQ ≠ f.addr) : ((withTurn s n).bump HIF_TXREQ_COUNT).fld f = s.fld f :=
  (fld_bump_ne _ _ _ (.inl h)).trans (fld_congr rfl f)

theorem hostTxRequestFetch_eq {r : Fin 32} {l : List Byte} (hr : hostTurn s = some r.val) (hl : l.length = 32) :
    execHostTxRequestFetch r l s = .next (reqIntake (((withTurn s (r + 1)).bump HIF_TXREQ_COUNT).setFld (HIF_TXTAIL_TAIL r)
      (ringNext (s.fld (HIF_TXCFG_SIZE r)) (s.fld (HIF_TXTAIL_TAIL r)))) (12 + r) l) := by
  have ht : s.fld (HIF_TXTAIL_TAIL r) = ((withTurn s (r + 1)).bump HIF_TXREQ_COUNT).fld (HIF_TXTAIL_TAIL r) :=
    (fld_taken s _ (by simp only [HIF_TXTAIL_TAIL, HIF_TXTAIL, HIF_TXREQ]; omega)).symm
  have hc : s.fld (HIF_TXCFG_SIZE r) = ((withTurn s (r + 1)).bump HIF_TXREQ_COUNT).fld (HIF_TXCFG_SIZE r) :=
    (fld_taken s _ (by simp only [HIF_TXCFG_SIZE, HIF_TXCFG, HIF_TXREQ]; omega)).symm
  rw [ht, hc]
  exact if_neg (by simp [hr, hl])

theorem req_setReq (s : State) (n : Nat) (q : TxReq) : (s.setReq n q).req n = some q := by
  unfold State.req State.setReq
  dsimp only
  induction s.reqs with
  | nil => simp [stInsert]
  | cons e m ih =>
    obtain ⟨k, v⟩ := e
    simp only [stInsert]
    split
    · simp
    · split
      · simp
      · simpa [show ¬ k = n by omega] using ih

/-- A read of a host buffer that is awaited: it completes, or the request is to end LATE (R477). -/
theorem hostBufferReadDone_eq {n : Nat} {q : TxReq} (hq : s.req n = some q) (hlo : 12 ≤ q.src) (hhi : q.src < 44) (hp : q.phase = 2)
    (he : q.endAs ≠ 2) (hf : q.frame = []) (e : ReadEnd) (l : List Byte) : execHostBufferReadDone n e l s = .next (match e with
      | .complete => if l.length = qLen q then bufferArrived s n l else s
      | .badCompletion => hifErr (s.setReq n { q with endAs := 2 }) 5
      | .timeout => hifErr ((s.setReq n { q with endAs := 2 }).bump HIF_CTO_COUNT) 3) := by
  have hgo : (decide (q.src < 12) || decide (44 ≤ q.src) || decide (q.phase ≠ 2) || decide (q.endAs = 2) || !q.frame.isEmpty) = false := by
    simp [hp, he, hf]
    omega
  unfold execHostBufferReadDone
  simp only [hq, hgo, Bool.false_eq_true, if_false]
  cases e with
  | complete => exact (apply_ite ok _ _ _).symm
  | badCompletion => rfl
  | timeout => rfl

/-! ### Interrupts (R478, R479) -/

/-- Clearing the counts of other sources keeps a cleared one. -/
theorem modCount_foldl_modClear (ids : List Nat) {n : Nat} (h : stGet 0 s.modCount n = 0) : stGet 0 (ids.foldl modClear s).modCount n = 0 := by
  induction ids generalizing s with
  | nil => exact h
  | cons i ids ih =>
    refine ih ?_
    simp only [modClear, stGet_set]
    split
    · rfl
    · exact h

/-- Clearing counts touches nothing else. -/
theorem foldl_modClear_leaves (ids : List Nat) (s : State) : (ids.foldl modClear s).regs = s.regs ∧ (ids.foldl modClear s).mem = s.mem ∧
    (ids.foldl modClear s).out = s.out ∧ (ids.foldl modClear s).msix = s.msix ∧ (ids.foldl modClear s).msixEnable = s.msixEnable ∧
    (ids.foldl modClear s).msixMask = s.msixMask := by
  induction ids generalizing s with
  | nil => exact ⟨rfl, rfl, rfl, rfl, rfl, rfl⟩
  | cons i ids ih => exact ih (modClear s i)

/-- Whether a vector may be sent depends on the registers and the MSI-X table alone. -/
theorem vecOpen_congr (hr : t.regs = s.regs) (hm : t.msix = s.msix) (he : t.msixEnable = s.msixEnable) (hk : t.msixMask = s.msixMask) (v : Nat) :
    vecOpen t v = vecOpen s v := by
  unfold vecOpen State.vec State.flag
  rw [hm, he, hk, fld_congr hr, fld_congr hr]

theorem signalVec_closed {v : Nat} (h : vecOpen s v = false) : signalVec s v = s.setVec v { s.vec v with pending := true } := by
  unfold signalVec
  rw [h]
  rfl

theorem vec_setVec (s : State) (v : Nat) (e : MsixEntry) : (s.setVec v e).vec v = e := by
  simp [State.vec, State.setVec]

/-- The sources whose time runs out on the edge of source `src` and with its vector (R478). -/
def modOthers (s : State) (src : Nat) : List Nat := (List.range 65).filter fun i => i ≠ src && modTogether s src i

theorem hifModerationTimeout_eq {src : Fin 65} (hen : bitOf (s.reg (modReg src)).toNat 31 = true)
    (htime : bitsOf (s.reg (modReg src)).toNat 23 8 ≠ 0) (hcount : stGet 0 s.modCount src ≠ 0)
    (ht : s.reachUp (stGet 0 s.modDue src) = some t) : execHifModerationTimeout src s =
      .next (signalVec ((modOthers t src).foldl modClear (modClear t src)) (bitsOf (s.reg (modReg src)).toNat 29 24)) := by
  unfold execHifModerationTimeout
  simp only [hen, htime, hcount, ht, Bool.not_true, decide_false, Bool.or_self, Bool.false_eq_true, if_false]
  rfl

/-- With the vector held back the message waits in its entry (R479). -/
theorem moderation_closed {src v : Nat} (ht : s.reachUp (stGet 0 s.modDue src) = some t) (hv : vecOpen s v = false) (ids : List Nat) :
    let u := signalVec (ids.foldl modClear (modClear t src)) v
    (u.vec v).pending = true ∧ stGet 0 u.modCount src = 0 ∧ u.out = s.out ∧ keeps s u [] := by
  have hst := reachUp_eq ht
  obtain ⟨hr, hm, -⟩ := reachUp_leaves ht
  have hmsix : t.msix = s.msix := by rw [hst]
  have hen : t.msixEnable = s.msixEnable := by rw [hst]
  have hmask : t.msixMask = s.msixMask := by rw [hst]
  have hout : t.out = s.out := by rw [hst]
  obtain ⟨hr', hm', hout', hmsix', hen', hmask'⟩ := foldl_modClear_leaves ids (modClear t src)
  have hcount : stGet 0 (ids.foldl modClear (modClear t src)).modCount src = 0 :=
    modCount_foldl_modClear ids (by simp [modClear])
  have hclosed : vecOpen (ids.foldl modClear (modClear t src)) v = false :=
    (vecOpen_congr (hr'.trans hr) (hmsix'.trans hmsix) (hen'.trans hen) (hmask'.trans hmask) v).trans hv
  intro u
  have hu : u = State.setVec _ v _ := signalVec_closed hclosed
  rw [hu]
  exact ⟨by rw [vec_setVec], hcount, hout'.trans hout, keeps_of_eq (hr'.trans hr) (hm'.trans hm)⟩

/-! ### Held writes (R481) -/

/-- What is held toward the host is replaced. -/
def withHeld (s : State) (l : List HeldWrite) : State := { s with held := l }

/-- The use of the frame buffers is replaced. -/
def withUsed (s : State) (m : List (Nat × Bool)) : State := { s with bufUsed := m }

theorem slotFree_eq (s : State) {n : Nat} (h : n < s.fld LNK_BUFCFG_COUNT) :
    ∃ v, slotFree s n = (withUsed s (stSet false s.bufUsed n false)).setFld LNK_BUFSTAT_FREE v := ⟨_, if_pos h⟩

theorem slotFree_leaves (s : State) (n : Nat) : keeps s (slotFree s n) [LNK_BUFSTAT] ∧ (slotFree s n).held = s.held ∧
    (slotFree s n).rsv = s.rsv ∧ (n < s.fld LNK_BUFCFG_COUNT → stGet false (slotFree s n).bufUsed n = false) := by
  by_cases h : n < s.fld LNK_BUFCFG_COUNT
  · obtain ⟨v, hv⟩ := slotFree_eq s h
    rw [hv]
    exact ⟨keeps_setFld (keeps_of_eq (t := withUsed s _) rfl rfl) (List.mem_singleton_self _) _, rfl, rfl, fun _ => by simp [withUsed]⟩
  · rw [show slotFree s n = s from if_neg h]
    exact ⟨keeps_refl s _, rfl, rfl, fun hn => absurd hn h⟩

theorem rsvOf_rsvSub (s : State) (d : Nat) : rsvOf (rsvSub s d) d = rsvOf s d - 1 := by simp [rsvOf, rsvSub]

/-- HELD_DESCRIPTOR_DISCARD over any way to reach an instant, which keeps the clock's arithmetic out of its reduction. -/
def discardBy (reach : Nat → Option State) (s : State) : Res :=
  match s.held.find? (·.kind == 0) with
  | none => ok s
  | some h =>
    match reach (h.due + 10000000) with
    | none => ok s
    | some s =>
      let s := { s with held := s.held.erase h }
      ok ((slotFree (rsvSub s (16 + h.ring)) h.slot).bump (HIF_RXCNT_LOST h.ring))

theorem execHeldDescriptorDiscard_eq (s : State) : execHeldDescriptorDiscard s = discardBy s.reachUp s := rfl

theorem discardBy_eq {reach : Nat → Option State} {h : HeldWrite} (hh : s.held.find? (·.kind == 0) = some h)
    (ht : reach (h.due + 10000000) = some t) : discardBy reach s =
      .next ((slotFree (rsvSub (withHeld t (t.held.erase h)) (16 + h.ring)) h.slot).bump (HIF_RXCNT_LOST h.ring)) := by
  unfold discardBy
  rw [hh]
  dsimp only
  rw [ht]
  rfl

theorem heldDescriptorDiscard_completes {h : HeldWrite} (hh : s.held.find? (·.kind == 0) = some h)
    (ht : s.reachUp (h.due + 10000000) = some t) : completes .heldDescriptorDiscard s fun u =>
      u.held = s.held.erase h ∧ rsvOf u (16 + h.ring) = rsvOf s (16 + h.ring) - 1 ∧
        (h.slot < s.fld LNK_BUFCFG_COUNT → stGet false u.bufUsed h.slot = false) ∧ keeps s u [LNK_BUFSTAT, HIF_RXCNT h.ring] := by
  refine ⟨_, (execHeldDescriptorDiscard_eq s).trans (discardBy_eq hh ht), ?_⟩
  have hst := reachUp_eq ht
  obtain ⟨hr, hm, -⟩ := reachUp_leaves ht
  have hheld : t.held = s.held := by rw [hst]
  have hrsv : t.rsv = s.rsv := by rw [hst]
  have hkeep : keeps s (rsvSub (withHeld t (t.held.erase h)) (16 + h.ring)) [LNK_BUFSTAT] := keeps_of_eq hr hm
  have hheld' : (rsvSub (withHeld t (t.held.erase h)) (16 + h.ring)).held = t.held.erase h := rfl
  have hrsv' : rsvOf (rsvSub (withHeld t (t.held.erase h)) (16 + h.ring)) (16 + h.ring) = rsvOf t (16 + h.ring) - 1 :=
    rsvOf_rsvSub _ _
  generalize rsvSub (withHeld t (t.held.erase h)) (16 + h.ring) = v at *
  obtain ⟨hk, hsheld, hsrsv, hused⟩ := slotFree_leaves v h.slot
  have hcount : v.fld LNK_BUFCFG_COUNT = s.fld LNK_BUFCFG_COUNT := fld_of_keeps hkeep (by decide)
  refine ⟨?_, ?_, fun hn => ?_, ?_⟩
  · rw [held_bump, hsheld, hheld', hheld]
  · rw [rsvOf, rsv_bump, hsrsv, ← rsvOf, hrsv', rsvOf, hrsv, ← rsvOf]
  · rw [bufUsed_bump, hused (hcount ▸ hn)]
  · exact keeps_bump (keeps_mono (keeps_trans hkeep hk) (List.cons_subset_cons _ (List.nil_subset _)))
      (List.mem_cons_of_mem _ (List.mem_singleton_self _))

/-! ### Link (R482) -/

theorem linkUp_eq {v w : Fin 5} (hm : mainOn s = true) (hl : s.flag HIF_STAT_LINK_UP = false) (hv : v ≠ 0) (hw : w = 1 ∨ w = 2 ∨ w = 4) :
    execLinkUp v w s = .next ((s.setFlds [(HIF_STAT_LINK_UP, 1), (HIF_STAT_SPEED, v), (HIF_STAT_WIDTH, w), (HIF_STAT_RESETTING, 0)]).fire 705
      (v + 16 * w)) := by
  refine if_neg ?_
  simp only [hm, hl, Bool.not_true, Bool.false_or, Bool.or_eq_true, decide_eq_true_eq]
  omega

theorem linkUp_completes {v w : Fin 5} (hm : mainOn s = true) (hl : s.flag HIF_STAT_LINK_UP = false) (hv : v ≠ 0)
    (hw : w = 1 ∨ w = 2 ∨ w = 4) : completes (.linkUp v w) s fun t =>
      t.fld HIF_STAT_LINK_UP = 1 ∧ t.fld HIF_STAT_SPEED = v ∧ t.fld HIF_STAT_WIDTH = w ∧ t.fld HIF_STAT_RESETTING = 0 ∧
      t.events = s.events ++ [{ producer := 705, payload := v + 16 * w }] ∧ keeps s t [HIF_STAT] := by
  refine ⟨_, linkUp_eq hm hl hv hw, ?_, ?_, ?_, ?_, ?_, keeps_fire (keeps_setFlds (keeps_refl s _) (by simp; decide)) _ _⟩
  · simp (disch := decide) only [fld_fire, setFlds_cons, setFlds_nil, fld_setFld_ne, fld_setFld]
    rfl
  · simp (disch := decide) only [fld_fire, setFlds_cons, setFlds_nil, fld_setFld_ne]
    exact fld_setFld_of_lt _ (by decide) (show v.val < 8 by omega)
  · simp (disch := decide) only [fld_fire, setFlds_cons, setFlds_nil, fld_setFld_ne]
    exact fld_setFld_of_lt _ (by decide) (show w.val < 8 by omega)
  · simp (disch := decide) only [fld_fire, setFlds_cons, setFlds_nil, fld_setFld]
    rfl
  · simp only [State.fire, events_setFlds, Nat.mod_eq_of_lt (show v.val + 16 * w.val < 2 ^ 32 by omega)]

end Sys2Proof.Architecture
end

section
/-! SUPPORT. The reset of the host interface (R482): what every step of it leaves, and the state it ends in. -/

namespace Sys2Proof.Architecture

open Sys2Proof.Machine

variable {s t u : State}

/-! ### Nothing is held toward the host during the reset (R482 step 2) -/

/-- A loop whose every pass leaves what is held leaves it. -/
theorem held_foldl {α : Type} (f : State → α → State) (h : ∀ s x, (f s x).held = s.held) (l : List α) (s : State) :
    (l.foldl f s).held = s.held := by
  induction l generalizing s with
  | nil => rfl
  | cons x l ih => exact (ih _).trans (h s x)

theorem held_forBelow (f : State → Nat → State) (h : ∀ s k, (f s k).held = s.held) (n : Nat) (s : State) : (forBelow n f s).held = s.held :=
  held_foldl f h _ s

@[simp] theorem held_slotFree (s : State) (n : Nat) : (slotFree s n).held = s.held := (slotFree_leaves s n).2.1
@[simp] theorem held_rsvSub (s : State) (d : Nat) : (rsvSub s d).held = s.held := rfl
@[simp] theorem held_setFrame (s : State) (f : Nat) (x : RxFrame) : (s.setFrame f x).held = s.held := rfl
@[simp] theorem held_setReq (s : State) (n : Nat) (q : TxReq) : (s.setReq n q).held = s.held := rfl

@[simp] theorem held_resReturn (s : State) (f : Nat) : (resReturn s f).held = s.held := by
  unfold resReturn
  cases s.frame f with
  | none => rfl
  | some x => cases hs : x.slot <;> cases hd : x.dest <;> simp [hs, hd]

@[simp] theorem held_frameGc (s : State) (f : Nat) : (frameGc s f).held = s.held := by
  unfold frameGc
  cases s.frame f with
  | none => rfl
  | some x => dsimp only; split <;> rfl

theorem held_placesRelease (s : State) : (placesRelease s).held = s.held := by
  refine held_foldl _ (fun t f => ?_) _ s
  cases t.frame f with
  | none => rfl
  | some x => dsimp only; split <;> simp

/-- What was held is dropped. -/
theorem held_heldDrop (s : State) : (heldDrop s).held = [] := by
  refine (held_foldl _ (fun t h => ?_) _ _).trans rfl
  split <;> simp

@[simp] theorem held_txRefresh (s : State) : (txRefresh s).held = s.held := by simp [txRefresh]

@[simp] theorem held_txLaneFree (s : State) (n : Nat) : (txLaneFree s n).held = s.held := by
  unfold txLaneFree
  rw [held_txRefresh]
  rfl

theorem held_cellSend (s : State) (type dst : Nat) (body : List Byte) : (cellSend s type dst body).held = s.held := by
  unfold cellSend
  split <;> rfl

theorem held_recPut (s : State) (n off : Nat) (l : List Byte) : (recPut s n off l).held = s.held := by simp [recPut]

theorem held_imageSend (s : State) (n : Nat) : (imageSend s n).held = s.held := by
  unfold imageSend
  split
  · rfl
  · split
    · rfl
    · exact held_cellSend ..

@[simp] theorem held_pendRefresh (s : State) (n : Nat) : (pendRefresh s n).held = s.held := by
  unfold pendRefresh
  split
  · rfl
  · exact (held_imageSend _ _).trans (held_recPut ..)

/-- A request whose source is gone ends without a report toward the host. -/
theorem held_reqEnd {num status : Nat} (h : ∀ q, s.req num = some q → q.src = 101) : (reqEnd s num status).held = s.held := by
  unfold reqEnd
  cases hq : s.req num with
  | none => rfl
  | some q =>
    have hlane : ∀ c : Bool, (if c then txLaneFree { s with reqs := stErase s.reqs num } q.lane else { s with reqs := stErase s.reqs num }).held
        = s.held := fun c => by
      cases c
      · rfl
      · exact held_txLaneFree _ _
    simp only [h q hq, reportPut]
    rw [held_txRefresh, held_pendRefresh, if_neg (by decide), if_neg (by decide), if_neg (by decide), held_bump]
    split
    case h_7 => exact hlane _
    all_goals exact (held_bump _ _).trans (hlane _)

theorem held_hostWithdraw (s : State) : (hostWithdraw s).held = s.held := by
  refine held_foldl _ (fun t num => ?_) _ s
  cases hq : t.req num with
  | none => rfl
  | some q =>
    dsimp only
    split
    · rfl
    · split
      · rw [held_reqEnd fun q' hq' => ?_, held_setReq]
        rw [req_setReq] at hq'
        cases hq'
        rfl
      · rfl

theorem held_frameSend (s : State) (dst count : Nat) (records : List Byte) : (frameSend s dst count records).held = s.held := by
  unfold frameSend
  split
  · rfl
  · exact held_foldl _ (fun t p => by simp) _ s

theorem held_recordSend (s : State) (dst : Nat) (record : List Byte) : (recordSend s dst record).held = s.held := by
  unfold recordSend
  split
  · exact held_frameSend ..
  · split
    · exact held_cellSend ..
    · rfl

theorem held_peerSend (s : State) (peer : Nat) (record : List Byte) : (peerSend s peer record).held = s.held := by
  unfold peerSend
  split
  · exact held_cellSend ..
  · exact held_recordSend ..

theorem held_abortNotice (s : State) (e tag : Nat) : (abortNotice s e tag).held = s.held := by simp [abortNotice]

/-- The senders of the full slots of a mailbox page are told of its reset (R357). -/
def slotsNotified (s : State) (e : Nat) : State :=
  forBelow 8 (fun t i =>
    if !bitOf (s.fld (MBX_FULL_FULL e)) i then t else
    let tag := t.fld (MBX_SRCTAG_TAG e i)
    let ep := t.fld (MBX_SRC_EP e i)
    match t.fld (MBX_SRC_SCOPE e i) with
    | 0 => match pageOf ep with | some d => abortNotice t d tag | none => t
    | scope =>
      let peer := if scope = 1 then 4096 + t.fld (MBX_SRC_MEMBER e i) else t.fld (MBX_SRC_DEVICE e i)
      peerSend t peer (mbxRecord 4 0 (epOf e) ep (stGet 0 t.evt.slotSeq (8 * e + i)) i 0 tag [])) s

/-- The registers of a mailbox page are cleared (R357). -/
def slotsCleared (s : State) (e : Nat) : State :=
  ((forBelow 8 (fun t i => (t.setReg (MBX_SRC e i) 0).setReg (MBX_SRCTAG e i) 0)
    (forBelow 144 (fun t w => t.setReg (MBX_SLOT e w) 0) s)).setFlds [(MBX_FULL_FULL e, 0), (MBX_DB_DB e, 0), (MBX_DBMASK_MASK e, 0),
      (MBX_SENDTAG_TAG e, 0), (MBX_CNT_LATEREPLY e, 0), (MBX_CNT_FRAGDROP e, 0)]).setReg (MBX_SENDSTAT e) 0

/-- The sends of a mailbox page and the counts of its slots are forgotten. -/
def sendsDropped (s : State) (e : Nat) : State :=
  { s with mbxSends := stErase s.mbxSends e, evt := { s.evt with slotSeq := s.evt.slotSeq.filter fun x => x.1 / 8 ≠ e } }

theorem pageReset_eq (s : State) (e : Nat) : pageReset s e = sendsDropped (slotsCleared (slotsNotified s e) e) e := rfl

theorem held_slotsNotified (s : State) (e : Nat) : (slotsNotified s e).held = s.held := by
  refine held_forBelow _ (fun t i => ?_) _ s
  split
  · rfl
  · split
    · dsimp only
      split
      · exact held_abortNotice ..
      · rfl
    · exact held_peerSend ..

theorem held_slotsCleared (s : State) (e : Nat) : (slotsCleared s e).held = s.held := by
  unfold slotsCleared
  rw [held_setReg, held_setFlds, held_forBelow _ (fun t i => (held_setReg _ _ _).trans (held_setReg _ _ _)),
    held_forBelow _ (fun t w => held_setReg _ _ _)]

theorem held_sendsDropped (s : State) (e : Nat) : (sendsDropped s e).held = s.held := rfl

theorem held_pageReset (s : State) (e : Nat) : (pageReset s e).held = s.held := by
  rw [pageReset_eq, held_sendsDropped, held_slotsCleared, held_slotsNotified]

/-! ### The registers after the reset (R482 step 4) -/

/-- A store filtered by its keys. -/
theorem stGet_filter {α : Type} (d : α) (p : Nat → Bool) (m : Store α) (k : Nat) :
    stGet d (m.filter fun e => p e.1) k = if p k then stGet d m k else d := by
  induction m with
  | nil => simp [stGet]
  | cons e m ih =>
    obtain ⟨j, v⟩ := e
    by_cases hp : p j
    · by_cases hj : j = k
      · subst hj
        simp [hp, stGet]
      · simp [hp, stGet, hj, ih]
    · have hj : p k = true → j ≠ k := fun hk h => hp (h ▸ hk)
      by_cases hk : p k
      · simp [hp, hk, stGet, hj hk, ih]
      · simp [hp, hk, ih]

/-- What the reset clears at once: the interface's registers, the MSI-X state, the moderation, the turn, and the places and reports of
the host's rings. -/
def hostCleared (s : State) : State :=
  { s with
    regs := s.regs.filter fun e => !hifCleared e.1
    msix := []
    msixEnable := false
    msixMask := false
    modCount := []
    modDue := []
    hif := {}
    rsv := s.rsv.filter fun e => decide (e.1 < 16)
    outs := s.outs.filter fun e => decide (e.1 < 12 ∨ 44 ≤ e.1) }

theorem held_hostCleared (s : State) : (hostCleared s).held = s.held := rfl

theorem hostCleared_interrupts (s : State) : (hostCleared s).msix = [] ∧ (hostCleared s).msixEnable = false ∧
    (hostCleared s).msixMask = false ∧ (hostCleared s).modCount = [] := ⟨rfl, rfl, rfl, rfl⟩

/-- A register of the interface holds its reset word then, but for the words of HIF_CNT. -/
theorem reg_hostCleared {a : Nat} (s : State) (h : hifCleared a = true) : (hostCleared s).reg a = resetWord a := by
  unfold State.reg
  exact (stGet_filter _ (fun j => !hifCleared j) _ a).trans (if_neg (by simp [h]))

/-- The interface after steps 1 to 3 of its reset. -/
def hostEmptied (s : State) : State :=
  (pageReset (hostWithdraw (placesRelease (heldDrop (s.setFld HIF_STAT_RESETTING 1)))) 12).setFld (IRQ_RSIZE_SIZE 12) 0

theorem held_hostEmptied (s : State) : (hostEmptied s).held = [] := by
  unfold hostEmptied
  rw [held_setFld, held_pageReset, held_hostWithdraw, held_placesRelease, held_heldDrop]

/-- The counters of a reset: HIF_RESETS, and HIF_LINKDOWN where the link went down. -/
def resetCounted (s : State) (cause : HifCause) : State :=
  if cause = .dlDown then (s.bump HIF_RESETS_COUNT).bump HIF_LINKDOWN_COUNT else s.bump HIF_RESETS_COUNT

theorem interfaceReset_eq (s : State) (cause : HifCause) : interfaceReset s cause =
    (resetCounted ((hostCleared (hostEmptied s)).setFld HIF_STAT_RESETTING 1) cause).fire 704 (hifCode cause) := by
  unfold interfaceReset resetCounted
  split <;> rfl

theorem resetCounted_leaves (s : State) (cause : HifCause) : (resetCounted s cause).held = s.held ∧ (resetCounted s cause).msix = s.msix ∧
    (resetCounted s cause).msixEnable = s.msixEnable ∧ (resetCounted s cause).msixMask = s.msixMask ∧
    (resetCounted s cause).modCount = s.modCount := by
  unfold resetCounted
  split <;> simp only [held_bump, msix_bump, msixEnable_bump, msixMask_bump, modCount_bump, and_self]

theorem resetCounted_keeps (s : State) (cause : HifCause) : keeps s (resetCounted s cause) [HIF_RESETS, HIF_LINKDOWN] := by
  unfold resetCounted
  split
  · exact keeps_bump (keeps_bump (keeps_refl s _) (by decide)) (by decide)
  · exact keeps_bump (keeps_refl s _) (by decide)

theorem interfaceReset_completes {cause : HifCause} (hm : mainOn s = true) (hc : cause = .perst → s.flag PWR_RSTCFG_PERST_DEV = false) :
    completes (.interfaceReset cause) s fun t =>
      t.held = [] ∧ t.msix = [] ∧ t.msixEnable = false ∧ t.msixMask = false ∧ t.modCount = [] ∧ t.fld HIF_STAT_RESETTING = 1 ∧
      t.fld HIF_STAT_LINK_UP = 0 ∧ (∀ a, hifCleared a = true → a ≠ HIF_STAT → t.reg a = resetWord a) ∧
      t.events.getLast? = some { producer := 704, payload := hifCode cause } := by
  have hgo : ¬ (!mainOn s || (decide (cause = .perst) && s.flag PWR_RSTCFG_PERST_DEV)) = true := by
    by_cases h : cause = .perst
    · simp [hm, hc h]
    · simp [hm, h]
  refine ⟨_, (if_neg hgo).trans (congrArg ok (interfaceReset_eq s cause)), ?_⟩
  have hheld : (hostCleared (hostEmptied s)).held = [] := (held_hostCleared _).trans (held_hostEmptied s)
  have hclear : ∀ a, hifCleared a = true → (hostCleared (hostEmptied s)).reg a = resetWord a := fun a => reg_hostCleared _
  have hcode : hifCode cause % 2 ^ 32 = hifCode cause := by cases cause <;> simp [hifCode]
  have hmsix := hostCleared_interrupts (hostEmptied s)
  generalize hostCleared (hostEmptied s) = u at *
  have hlink : u.fld HIF_STAT_LINK_UP = 0 := by
    rw [State.fld, hclear _ (by decide)]
    decide
  obtain ⟨hm1, hm2, hm3, hm4⟩ := hmsix
  obtain ⟨hc1, hc2, hc3, hc4, hc5⟩ := resetCounted_leaves (u.setFld HIF_STAT_RESETTING 1) cause
  have hkeep := resetCounted_keeps (u.setFld HIF_STAT_RESETTING 1) cause
  have hmark : (u.setFld HIF_STAT_RESETTING 1).fld HIF_STAT_RESETTING = 1 := fld_setFld _ _ _ (by decide)
  have hlink' : (u.setFld HIF_STAT_RESETTING 1).fld HIF_STAT_LINK_UP = 0 := (fld_setFld_ne _ _ _ _ (by decide)).trans hlink
  have hreg : ∀ a, HIF_STAT ≠ a → (u.setFld HIF_STAT_RESETTING 1).reg a = u.reg a := fun a h => reg_setFld_ne _ _ _ h
  have hcount : ∀ a, hifCleared a = true → a ∉ [HIF_RESETS, HIF_LINKDOWN] := by
    intro a ha hmem
    simp only [List.mem_cons, List.not_mem_nil, or_false] at hmem
    rcases hmem with rfl | rfl <;> exact absurd ha (by decide)
  refine ⟨?_, ?_, ?_, ?_, ?_, ?_, ?_, fun a ha hne => ?_, ?_⟩
  · rw [held_fire, hc1, held_setFld, hheld]
  · rw [msix_fire, hc2, msix_setFld, hm1]
  · rw [msixEnable_fire, hc3, msixEnable_setFld, hm2]
  · rw [msixMask_fire, hc4, msixMask_setFld, hm3]
  · rw [modCount_fire, hc5, modCount_setFld, hm4]
  · rw [fld_fire, fld_of_keeps hkeep (by decide), hmark]
  · rw [fld_fire, fld_of_keeps hkeep (by decide), hlink']
  · rw [reg_fire, hkeep.2 a (hcount a ha), hreg a (Ne.symm hne), hclear a ha]
  · simp only [State.fire, List.getLast?_concat, hcode]

/-! ### The commands of the host interface -/

/-- Settles O46: each command by the equation of its function, with the reset, the discard and the link by their lemmas. -/
theorem hostCommandsComplete : Obligations.HostCommandsComplete := by
  refine ⟨fun s off n hs hu _ => ?read, fun s off l hs hoff => ?write, fun s off l hs => ?poisoned,
    fun s r l hr hl => hostTxRequestFetch_eq hr hl, fun s n q l hq hlo hhi hp he hf => ?buffer,
    fun s s' src hen htime hcount ht => hifModerationTimeout_eq hen htime hcount ht,
    fun s s' src hen htime hcount ht hv => ⟨_, hifModerationTimeout_eq hen htime hcount ht, moderation_closed ht hv _⟩,
    fun s v a d masked hs => ?entry, fun s e m hs => ?control, fun s e d hs => ?master,
    fun s s' h hh ht _ => heldDescriptorDiscard_completes hh ht, fun s c hm hc => interfaceReset_completes hm hc,
    fun s v w hm hl hv hw => linkUp_completes hm hl hv hw⟩
  case read => exact ⟨_, bar2Read_eq hs hu off n, rfl, keeps_emit (keeps_of_eq rfl rfl) _ _ _, rfl⟩
  case write =>
    obtain ⟨hregs, hres⟩ := enabledWrite_leaves (busOk s) (0x01000000 + off) (l.take (8388608 - off))
    exact ⟨_, bar2Write_eq hs off l, hres, rd8_bar2Write (busOk s) hoff l, reg_congr hregs⟩
  case poisoned =>
    exact ⟨_, bar2Poisoned_eq hs off l, reg_hifErr s 8, hifErr_keeps (keeps_refl s _) (List.mem_singleton_self _) 8⟩
  case buffer =>
    have hread := hostBufferReadDone_eq hq hlo hhi hp he hf
    refine ⟨fun hl => (hread .complete l).trans (congrArg ok (if_pos hl)), ⟨_, hread .badCompletion l, ?_, ?_, ?_⟩,
      ⟨_, hread .timeout l, ?_, ?_, ?_⟩⟩
    · rw [State.req, reqs_hifErr, ← State.req, req_setReq]
      rfl
    · exact reg_hifErr _ 5
    · exact hifErr_keeps (keeps_of_eq rfl rfl) (List.mem_singleton_self _) 5
    · rw [State.req, reqs_hifErr, reqs_bump, ← State.req, req_setReq]
      rfl
    · exact (reg_hifErr _ 3).trans (congrArg (· ||| _) (reg_bump_ne _ _ (by decide)))
    · exact hifErr_keeps (keeps_bump (keeps_of_eq rfl rfl) (by decide)) (by decide) 3
  case entry => exact if_neg (by simp [hs])
  case control => exact if_neg (by simp [hs])
  case master => exact if_neg (by simp [hs])

end Sys2Proof.Architecture
end

section
/-! SUPPORT. Core samples and the common counter rules (R487 to R492). -/

namespace Sys2Proof.Architecture

open Sys2Proof.Machine

variable {s t u : State} {l : List Nat}

/-- What the sampler holds is replaced. -/
def withSnp (s : State) (x : SnpX) : State := { s with snp := x }

@[simp] theorem snp_withSnp (s : State) (x : SnpX) : (withSnp s x).snp = x := rfl
@[simp] theorem fld_withSnp (s : State) (x : SnpX) (f : Field) : (withSnp s x).fld f = s.fld f := fld_congr rfl f

theorem keeps_withSnp (h : keeps s t l) (x : SnpX) : keeps s (withSnp t x) l := keeps_congr h rfl rfl

/-! ### A trigger at its latching edge (R487, R490) -/

/-- A trigger joins the sample of its edge. -/
theorem coreSample_joins {src v : Nat} {c : Coincide} {m : Nat × List Word} (h : sampleJoin s src v = some m) :
    coreSample s src false c v = withSnp s { s.snp with moving := some m } := by
  unfold coreSample
  simp only [Bool.false_eq_true, if_false, h]
  rfl

/-- A trigger that neither joins a sample nor finds the collector idle and a free bank is missed. -/
theorem coreSample_missed {src v : Nat} {late : Bool} {c : Coincide} (hj : (if late then none else sampleJoin s src v) = none)
    (h : s.snp.moving ≠ none ∨ s.fld SNP_STAT_HELD = 3) :
    coreSample s src late c v = ((s.setFld SNP_STAT_MISSED 1).bump SNP_MISSED_COUNT).fire 738 0 := by
  have hbusy : (s.snp.moving.isSome || decide (s.fld SNP_STAT_HELD = 3)) = true := by
    simpa [Option.isSome_iff_ne_none] using h
  unfold coreSample
  rw [hj]
  exact if_pos hbusy

/-- The blocks latch into the free bank and the collector starts. -/
def sampleTaken (s : State) (src : Nat) (late : Bool) (c : Coincide) (v : Nat) : State :=
  ((withSnp s { s.snp with moving := some (s.fld SNP_STAT_HELD % 2, sampleWords s src late c v), drivenTo := s.uptime + 110 }).setFlds
    [(SNP_STAT_MOVING, 1), (SNP_STAT_NEXTSEQ, s.fld SNP_STAT_NEXTSEQ + 1)]).bump SNP_TRIGS_COUNT

/-- A late sample is counted. -/
def lateCounted (s : State) (late : Bool) : State := if late then s.bump SNP_LATE_COUNT else s

/-- The output pin pulses where it is enabled. -/
def samplePulse (s : State) : State := if s.flag SNP_CTL_OUT_EN then s.emit .pulse [16, 100] else s

theorem coreSample_starts {src v : Nat} {late : Bool} {c : Coincide} (hj : (if late then none else sampleJoin s src v) = none)
    (hm : s.snp.moving = none) (hh : s.fld SNP_STAT_HELD ≠ 3) :
    coreSample s src late c v = samplePulse (lateCounted (sampleTaken s src late c v) late) := by
  have hidle : ¬ (s.snp.moving.isSome || decide (s.fld SNP_STAT_HELD = 3)) = true := by simp [hm, hh]
  have hbank : (if bitOf (s.fld SNP_STAT_HELD) 0 then 1 else 0) = s.fld SNP_STAT_HELD % 2 := by
    rcases Nat.mod_two_eq_zero_or_one (s.fld SNP_STAT_HELD) with h | h <;> simp [bitOf, h]
  unfold coreSample
  rw [hj]
  refine (if_neg hidle).trans ?_
  rw [hbank]
  rfl

/-- What is taken into account after the latching changes neither the sample nor SNP_STAT. -/
theorem pulse_late_leaves (s : State) (late : Bool) : (samplePulse (lateCounted s late)).snp = s.snp ∧
    keeps s (samplePulse (lateCounted s late)) (if late then [SNP_LATE] else []) := by
  have hlate : (lateCounted s late).snp = s.snp ∧ keeps s (lateCounted s late) (if late then [SNP_LATE] else []) := by
    cases late
    · exact ⟨rfl, keeps_refl s _⟩
    · exact ⟨snp_bump s _, keeps_bump (keeps_refl s _) (List.mem_singleton_self _)⟩
  unfold samplePulse
  split
  · exact ⟨(snp_emit ..).trans hlate.1, keeps_emit hlate.2 _ _ _⟩
  · exact hlate

theorem sampleTaken_leaves (s : State) (src : Nat) (late : Bool) (c : Coincide) (v : Nat) :
    (sampleTaken s src late c v).snp.moving = some (s.fld SNP_STAT_HELD % 2, sampleWords s src late c v) ∧
      (sampleTaken s src late c v).fld SNP_STAT_MOVING = 1 ∧
      (sampleTaken s src late c v).fld SNP_STAT_NEXTSEQ = (s.fld SNP_STAT_NEXTSEQ + 1) % 2 ^ SNP_STAT_NEXTSEQ.width ∧
      (sampleTaken s src late c v).fld SNP_STAT_ARMED = s.fld SNP_STAT_ARMED ∧
      keeps s (sampleTaken s src late c v) [SNP_STAT, SNP_TRIGS] := by
  unfold sampleTaken
  refine ⟨by rw [snp_bump, snp_setFlds, snp_withSnp], ?_, ?_, ?_,
    keeps_bump (keeps_setFlds (keeps_withSnp (keeps_refl s _) _) (by simp; decide)) (by decide)⟩
  · simp (disch := decide) only [fld_bump_ne, setFlds_cons, setFlds_nil, fld_setFld_ne, fld_setFld]
    rfl
  · simp (disch := decide) only [fld_bump_ne, setFlds_cons, setFlds_nil, fld_setFld]
  · simp (disch := decide) only [fld_bump_ne, setFlds_cons, setFlds_nil, fld_setFld_ne, fld_withSnp]

/-- Whatever becomes of a trigger, ARMED is as it was. -/
theorem armed_coreSample_late (s : State) (src : Nat) (c : Coincide) (v : Nat) :
    (coreSample s src true c v).fld SNP_STAT_ARMED = s.fld SNP_STAT_ARMED ∧
      (s.snp.moving = none → s.fld SNP_STAT_HELD ≠ 3 → (coreSample s src true c v).fld SNP_STAT_MOVING = 1) := by
  by_cases h : s.snp.moving ≠ none ∨ s.fld SNP_STAT_HELD = 3
  · refine ⟨?_, fun hm hh => absurd h (by simp [hm, hh])⟩
    rw [coreSample_missed rfl h]
    simp (disch := decide) only [fld_fire, fld_bump_ne, fld_setFld_ne]
  · simp only [not_or, not_not] at h
    obtain ⟨-, hmove, -, harm, -⟩ := sampleTaken_leaves s src true c v
    have hk := (pulse_late_leaves (sampleTaken s src true c v) true).2
    rw [coreSample_starts rfl h.1 h.2]
    exact ⟨(fld_of_keeps hk (by decide)).trans harm, fun _ _ => (fld_of_keeps hk (by decide)).trans hmove⟩

/-! ### The pin (R488) -/

theorem edgeSample_unarmed (h : s.flag SNP_STAT_ARMED = false) (src : Nat) (c : Coincide) (v : Nat) :
    edgeSample s src c v = coreSample s src false c v := by
  refine if_neg ?_
  rw [h, Bool.false_and]
  exact Bool.false_ne_true

/-- A selected edge on the enabled pin, with no trigger armed, reaches the trigger. -/
theorem pinEdge_eq {rising boundary node : Bool} (hm : mainOn s = true) (hp : s.flag SNP_CTL_PIN_EN = true)
    (he : edgeSelected s 16 rising = true) (hd : sampleDriven s = false) (ha : s.flag SNP_STAT_ARMED = false) :
    execCoreSamplePinEdge ⟨rising, boundary, node⟩ s = .next (if boundary then coreSample s 1 false (boundaryMeets s node) s.nextBoundary
      else coreSample s 1 false { node := node } s.venue) := by
  have hgo : ¬ (!mainOn s || !s.flag SNP_CTL_PIN_EN || !edgeSelected s 16 rising || sampleDriven s) = true := by simp [hm, hp, he, hd]
  refine (if_neg hgo).trans ?_
  cases boundary
  · exact congrArg ok (edgeSample_unarmed ha ..)
  · exact congrArg ok (edgeSample_unarmed ha ..)

theorem sampleJoin_idle (h : s.snp.moving = none) (src v : Nat) : sampleJoin s src v = none := by
  unfold sampleJoin
  rw [h]

/-- A trigger on time that finds a free bank. -/
theorem sample_onTime (hm : s.snp.moving = none) (hh : s.fld SNP_STAT_HELD ≠ 3) (src : Nat) (c : Coincide) (v : Nat) :
    let u := coreSample s src false c v
    u.snp.moving = some (s.fld SNP_STAT_HELD % 2, sampleWords s src false c v) ∧ u.fld SNP_STAT_MOVING = 1 ∧
      u.fld SNP_STAT_NEXTSEQ = (s.fld SNP_STAT_NEXTSEQ + 1) % 2 ^ SNP_STAT_NEXTSEQ.width ∧ keeps s u [SNP_STAT, SNP_TRIGS] := by
  intro u
  have hu : u = samplePulse (lateCounted (sampleTaken s src false c v) false) := coreSample_starts (sampleJoin_idle hm ..) hm hh
  obtain ⟨hsnp, hmove, hseq, -, hk⟩ := sampleTaken_leaves s src false c v
  obtain ⟨hs, hk'⟩ := pulse_late_leaves (sampleTaken s src false c v) false
  rw [hu]
  exact ⟨by rw [hs, hsnp], by rw [fld_of_keeps hk' List.not_mem_nil, hmove], by rw [fld_of_keeps hk' List.not_mem_nil, hseq],
    keeps_trans hk (keeps_mono hk' (List.nil_subset _))⟩

/-! ### The armed trigger (R489) -/

/-- The time in SNP_TTRIG. -/
def armTime (s : State) : Nat := (s.reg SNP_TTRIGL).toNat + 2 ^ 32 * (s.reg SNP_TTRIGH).toNat

/-- The trigger is armed for a time. -/
def armedAt (s : State) (v : Nat) : State := (withSnp s { s.snp with trigAt := v }).setFld SNP_STAT_ARMED 1

theorem armedAt_leaves (s : State) (v : Nat) : (armedAt s v).fld SNP_STAT_ARMED = 1 ∧ (armedAt s v).snp = { s.snp with trigAt := v } ∧
    keeps s (armedAt s v) [SNP_STAT] :=
  ⟨fld_setFld _ _ _ (by decide), snp_setFld .., keeps_setFld (keeps_withSnp (keeps_refl s _) _) (List.mem_singleton_self _) _⟩

theorem venue_armedAt (s : State) (v : Nat) : (armedAt s v).venue = s.venue := venue_setFld (withSnp s _) ..

theorem snapArm_eq (s : State) : snapArm s =
    if armTime s < (armedAt s (armTime s)).venue then snapDue (armedAt s (armTime s)) (armedAt s (armTime s)).venue true {}
    else armedAt s (armTime s) := rfl

theorem snapArm_ahead (h : s.venue ≤ armTime s) : snapArm s = armedAt s (armTime s) := by
  rw [snapArm_eq, venue_armedAt, if_neg (Nat.not_lt.mpr h)]

/-- A trigger that is armed and due reaches its edge. -/
theorem snapDue_fires {v : Nat} (ha : s.fld SNP_STAT_ARMED = 1) (hv : s.snp.trigAt ≤ v) (late : Bool) (c : Coincide) :
    snapDue s v late c = coreSample (s.setFld SNP_STAT_ARMED 0) 4 late c v := by
  refine if_pos ?_
  rw [flag_eq_true.mpr ha, Bool.true_and]
  exact decide_eq_true hv

theorem snapArm_passed (h : armTime s < s.venue) :
    snapArm s = coreSample ((armedAt s (armTime s)).setFld SNP_STAT_ARMED 0) 4 true {} s.venue := by
  obtain ⟨ha, hs, -⟩ := armedAt_leaves s (armTime s)
  rw [snapArm_eq, venue_armedAt, if_pos h, snapDue_fires ha (by rw [hs]; exact h.le)]

/-- A time that has passed fires at once, late. -/
theorem snapArm_late (h : armTime s < s.venue) : (snapArm s).fld SNP_STAT_ARMED = 0 ∧
    (s.snp.moving = none → s.fld SNP_STAT_HELD ≠ 3 → (snapArm s).fld SNP_STAT_MOVING = 1) := by
  have hsnp : ((armedAt s (armTime s)).setFld SNP_STAT_ARMED 0).snp = { s.snp with trigAt := armTime s } :=
    (snp_setFld ..).trans (armedAt_leaves s _).2.1
  have harm : ((armedAt s (armTime s)).setFld SNP_STAT_ARMED 0).fld SNP_STAT_ARMED = 0 := fld_setFld _ _ _ (by decide)
  have hheld : ((armedAt s (armTime s)).setFld SNP_STAT_ARMED 0).fld SNP_STAT_HELD = s.fld SNP_STAT_HELD := by
    rw [fld_setFld_ne _ _ _ _ (by decide), armedAt, fld_setFld_ne _ _ _ _ (by decide), fld_withSnp]
  rw [snapArm_passed h]
  generalize (armedAt s (armTime s)).setFld SNP_STAT_ARMED 0 = v at *
  obtain ⟨harm', hmove⟩ := armed_coreSample_late v 4 {} s.venue
  exact ⟨harm'.trans harm, fun hm hh => hmove (by rw [hsnp]; exact hm) (by rw [hheld]; exact hh)⟩

theorem timeTrigger_eq (hm : mainOn s = true) (ha : s.flag SNP_STAT_ARMED = true) (hv : s.venue ≤ s.snp.trigAt)
    (hb : s.snp.trigAt < s.nextBoundary) : execCoreSampleTimeTrigger s =
      .next (coreSample ((s.passTo s.snp.trigAt).setFld SNP_STAT_ARMED 0) 4 false {} s.snp.trigAt) := by
  have hgo : ¬ (!mainOn s || !s.flag SNP_STAT_ARMED || decide (s.nextBoundary ≤ s.snp.trigAt)) = true := by simp [hm, ha, hb]
  have harm : (s.passTo s.snp.trigAt).fld SNP_STAT_ARMED = 1 := (fld_congr (passTo_leaves s _).1 _).trans (flag_eq_true.mp ha)
  have hsnp : (s.passTo s.snp.trigAt).snp = s.snp := by rw [passTo_eq]
  refine (if_neg hgo).trans (congrArg ok ?_)
  rw [venue_passTo hv hb]
  exact snapDue_fires harm (by rw [hsnp]) false {}

end Sys2Proof.Architecture
end

section
/-! SUPPORT. The CORE_SAMPLE record, the move of a sample, and the common counter rules (R489 to R492). -/

namespace Sys2Proof.Architecture

open Sys2Proof.Machine

variable {s t u : State} {l : List Nat}

/-! ### The record of a trigger time (R489) -/

theorem snapForward_alone (h : inStack s = false) (v : Nat) : snapForward s v = s := by
  refine if_neg ?_
  rw [h, Bool.false_and]
  exact Bool.false_ne_true

/-- The trigger time is copied to SNP_TTRIG. -/
def timeCopied (s : State) (v : Nat) : State := (s.setReg SNP_TTRIGL (BitVec.ofNat 32 v)).setReg SNP_TTRIGH (BitVec.ofNat 32 (v / 2 ^ 32))

theorem reg_timeCopied (s : State) (w : BitVec 64) : (timeCopied s w.toNat).reg SNP_TTRIGL = w.setWidth 32 ∧
    (timeCopied s w.toNat).reg SNP_TTRIGH = (w >>> 32).setWidth 32 := by
  have hlow : BitVec.ofNat 32 w.toNat = w.setWidth 32 := BitVec.eq_of_toNat_eq (by simp)
  have hhigh : BitVec.ofNat 32 (w.toNat / 2 ^ 32) = (w >>> 32).setWidth 32 :=
    BitVec.eq_of_toNat_eq (by simp [Nat.shiftRight_eq_div_pow])
  unfold timeCopied
  refine ⟨?_, ?_⟩
  · rw [reg_setReg, if_neg (by decide), reg_setReg, if_pos rfl, hlow]
  · rw [reg_setReg, if_pos rfl, hhigh]

theorem armTime_timeCopied (s : State) (w : BitVec 64) : armTime (timeCopied s w.toNat) = w.toNat := by
  have hlt := w.isLt
  unfold armTime
  rw [(reg_timeCopied s w).1, (reg_timeCopied s w).2]
  simp only [BitVec.toNat_setWidth, BitVec.toNat_ushiftRight, Nat.shiftRight_eq_div_pow]
  omega

theorem timeCopied_keeps (s : State) (v : Nat) : keeps s (timeCopied s v) [SNP_STAT, SNP_TTRIGL, SNP_TTRIGH] :=
  keeps_setReg (keeps_setReg (keeps_refl s _) (by decide) _) (by decide) _

theorem venue_timeCopied (s : State) (v : Nat) : (timeCopied s v).venue = s.venue := (venue_setReg ..).trans (venue_setReg ..)

theorem snapRecord_enabled (h : s.flag SNP_CTL_FAB_EN = true) (v : Nat) : snapRecord s v = snapArm (timeCopied s v) := if_pos h

theorem recordReceived_completes {w : BitVec 64} (hm : mainOn s = true) (hs : inStack s = false) (hf : s.flag SNP_CTL_FAB_EN = true)
    (hv : s.venue ≤ w.toNat) : completes (.coreSampleRecordReceived w) s fun t =>
      t.fld SNP_STAT_ARMED = 1 ∧ t.snp.trigAt = w.toNat ∧ t.reg SNP_TTRIGL = w.setWidth 32 ∧
      t.reg SNP_TTRIGH = (w >>> 32).setWidth 32 ∧ keeps s t [SNP_STAT, SNP_TTRIGL, SNP_TTRIGH] := by
  have ht : snapRecord (snapForward s w.toNat) w.toNat = armedAt (timeCopied s w.toNat) w.toNat := by
    rw [snapForward_alone hs, snapRecord_enabled hf, snapArm_ahead (by rw [venue_timeCopied, armTime_timeCopied]; exact hv),
      armTime_timeCopied]
  obtain ⟨ha, hx, hk⟩ := armedAt_leaves (timeCopied s w.toNat) w.toNat
  obtain ⟨hl, hh⟩ := reg_timeCopied s w
  refine ⟨_, (if_pos hm).trans (congrArg ok ht), ha, by rw [hx], ?_, ?_, keeps_trans (timeCopied_keeps s _) (keeps_mono hk (by decide))⟩
  · rw [hk.2 _ (by decide), hl]
  · rw [hk.2 _ (by decide), hh]

/-! ### The broadcast (R265, R489) -/

/-- The bitstream of the fabric and the state of its ports are the same. -/
structure SameFabric (s t : State) : Prop where
  part : t.part = s.part
  planeA : t.planeA = s.planeA
  planeB : t.planeB = s.planeB
  fld : ∀ f : Field, f.addr ∉ [SNP_STAT, VFB_TXFRM] → t.fld f = s.fld f

theorem SameFabric.active (h : SameFabric s t) {r : Nat} (hr : (CFG_RGN_ACT r).addr ∉ [SNP_STAT, VFB_TXFRM]) : t.active r = s.active r := by
  unfold State.active State.plane State.actB State.flag
  rw [h.planeA, h.planeB, h.fld _ hr]

theorem SameFabric.payloadLe (h : SameFabric s t) {r : Nat} (hr : (CFG_RGN_ACT r).addr ∉ [SNP_STAT, VFB_TXFRM]) (k n : Nat) :
    t.payloadLe r k n = s.payloadLe r k n := by
  unfold State.payloadLe
  rw [h.active hr]

theorem SameFabric.regionOn (h : SameFabric s t) {r : Nat} (hr : (CFG_RGN_ACT r).addr ∉ [SNP_STAT, VFB_TXFRM])
    (hp : ∀ b, (planeState b r).addr ∉ [SNP_STAT, VFB_TXFRM]) : t.regionOn r = s.regionOn r := by
  unfold State.regionOn State.actB State.flag
  rw [h.fld _ hr, h.fld _ (hp _)]

theorem SameFabric.inStack (h : SameFabric s t) : inStack t = inStack s := by
  unfold Machine.inStack
  rw [h.part, h.regionOn (by decide) (by decide), h.payloadLe (by decide)]

theorem SameFabric.venueId (h : SameFabric s t) : venueId t = venueId s := by
  unfold Machine.venueId
  rw [h.regionOn (by decide) (by decide), h.payloadLe (by decide)]

theorem SameFabric.inVenue (h : SameFabric s t) : inVenue t = inVenue s := by
  unfold Machine.inVenue
  rw [h.venueId]

theorem SameFabric.fabricUp (h : SameFabric s t) : fabricUp t = fabricUp s := by
  have hup : ∀ p : Nat, t.flag (if p = 0 then VFB_STAT_PORT0_UP else VFB_STAT_PORT1_UP) =
      s.flag (if p = 0 then VFB_STAT_PORT0_UP else VFB_STAT_PORT1_UP) := fun p => by
    unfold State.flag
    split
    · rw [h.fld _ (by decide)]
    · rw [h.fld _ (by decide)]
  unfold Machine.fabricUp State.payloadByte
  rw [h.part, h.active (by decide)]
  simp only [hup]

theorem SameFabric.frameOf (h : SameFabric s t) (hv : t.vfb = s.vfb) (dst count : Nat) (records : List Byte) :
    frameOf t dst count records = frameOf s dst count records := by
  unfold Machine.frameOf macOf myIndex State.flag
  rw [h.venueId, hv, h.payloadLe (by decide), h.payloadLe (by decide), h.fld _ (by decide), h.fld _ (by decide), h.fld _ (by decide)]

/-- A frame has left through port `p` and is counted. -/
def frameSent (s : State) (p dst : Nat) (o : List Byte) (x : FabricX) : State :=
  withVfb ((s.emit .fabricFrame [p, dst] o).bump VFB_TXFRM_COUNT) x

theorem out_frameSent (s : State) (p dst : Nat) (o : List Byte) (x : FabricX) :
    (frameSent s p dst o x).out = s.out ++ [{ kind := .fabricFrame, nums := [p, dst], octets := o }] := out_bump (s.emit _ _ o) _

theorem snp_frameSent (s : State) (p dst : Nat) (o : List Byte) (x : FabricX) : (frameSent s p dst o x).snp = s.snp :=
  snp_bump (s.emit _ _ o) _

theorem frameSent_keeps (s : State) (p dst : Nat) (o : List Byte) (x : FabricX) : keeps s (frameSent s p dst o x) [VFB_TXFRM] :=
  keeps_withVfb (keeps_bump (keeps_emit (keeps_refl s _) _ _ _) (by decide)) x

theorem frameSent_sameFabric (s : State) (p dst : Nat) (o : List Byte) (x : FabricX) : SameFabric s (frameSent s p dst o x) where
  part := part_bump (s.emit _ _ o) _
  planeA := planeA_bump (s.emit _ _ o) _
  planeB := planeB_bump (s.emit _ _ o) _
  fld _ hf := fld_of_keeps (frameSent_keeps s p dst o x) fun h => hf (List.mem_cons_of_mem _ h)

/-- With one port up a record goes out in one frame. -/
theorem recordSend_one {p : Nat} (hv : inVenue s = true) (hp : fabricUp s = [p]) (dst : Nat) (record : List Byte) :
    ∃ x, recordSend s dst record = frameSent s p dst (frameOf s dst 1 record) x := by
  refine ⟨{ s.vfb with fseq := (s.vfb.fseq + 1) % 2 ^ 32 }, ?_⟩
  have hsend : recordSend s dst record = frameSend s dst 1 record := if_pos (by rw [hp]; rfl)
  have hgo : ¬ (!inVenue s || (fabricUp s).isEmpty) = true := by simp [hv, hp]
  rw [hsend]
  refine (if_neg hgo).trans ?_
  rw [hp]
  simp only [List.foldl_cons, List.foldl_nil, vfb_bump]
  rfl

theorem armedAt_sameFabric (s : State) (v : Nat) : SameFabric s (armedAt s v) where
  part := part_setFld (withSnp s _) ..
  planeA := planeA_setFld (withSnp s _) ..
  planeB := planeB_setFld (withSnp s _) ..
  fld _ hf := fld_of_keeps (armedAt_leaves s v).2.2 fun h => hf (List.mem_cons.mpr (.inl (List.mem_singleton.mp h)))

theorem snapshotBcast_completes (hs : inStack s = false) (hv : inVenue s = true) (hp : (fabricUp s).length = 1)
    (ht : s.venue ≤ armTime s) : completes .snapshotBcast s fun t =>
      t.fld SNP_STAT_ARMED = 1 ∧ t.snp.trigAt = armTime s ∧
      t.out = s.out ++ [{ kind := .fabricFrame, nums := [(fabricUp s).headD 0, 0xFFFF]
                          octets := frameOf s 0xFFFF 1 (recordOf 10 (leBytes 8 (armTime s))) }] ∧
      keeps s t [SNP_STAT, VFB_TXFRM] := by
  obtain ⟨p, hp⟩ := List.length_eq_one_iff.mp hp
  have hf := armedAt_sameFabric s (armTime s)
  have hvfb : (armedAt s (armTime s)).vfb = s.vfb := vfb_setFld (withSnp s _) ..
  have hout : (armedAt s (armTime s)).out = s.out := out_setFld (withSnp s _) ..
  obtain ⟨harm, hsnp, hk⟩ := armedAt_leaves s (armTime s)
  have hexec : exec .snapshotBcast s = .next (snapForward (recordSend (snapArm s) 0xFFFF (recordOf 10 (leBytes 8 (armTime s)))) (armTime s)) := rfl
  rw [snapArm_ahead ht] at hexec
  obtain ⟨x, hx⟩ := recordSend_one (hf.inVenue.trans hv) (hf.fabricUp.trans hp) 0xFFFF (recordOf 10 (leBytes 8 (armTime s)))
  rw [hx, hf.frameOf hvfb] at hexec
  rw [snapForward_alone (((frameSent_sameFabric ..).inStack.trans hf.inStack).trans hs)] at hexec
  have hkeep := frameSent_keeps (armedAt s (armTime s)) p 0xFFFF (frameOf s 0xFFFF 1 (recordOf 10 (leBytes 8 (armTime s)))) x
  refine ⟨_, hexec, ?_, ?_, ?_, keeps_trans (keeps_mono hk (by decide)) (keeps_mono hkeep (by decide))⟩
  · rw [fld_of_keeps hkeep (by decide), harm]
  · rw [snp_frameSent, hsnp]
  · rw [out_frameSent, hp, hout]
    rfl

/-! ### The move of a sample, and the banks (R490) -/

/-- A bank takes the words that were moved. -/
def bankFilled (x : SnpX) (b : Nat) (l : List Word) : SnpX :=
  if b = 0 then { x with moving := none, bank0 := l } else { x with moving := none, bank1 := l }

theorem snapshotMoveDone_eq {b : Nat} {l : List Word} (h : s.snp.moving = some (b, l)) : execSnapshotMoveDone s =
    .next (((withSnp s (bankFilled s.snp b l)).setFlds [(SNP_STAT_MOVING, 0), (SNP_STAT_HELD, s.fld SNP_STAT_HELD ||| 2 ^ b)]).fire 737
      (b + 2 ^ 16 * ((l.headD 0).toNat % 2 ^ 16))) := by
  unfold execSnapshotMoveDone
  rw [h]
  rfl

theorem bankFilled_banks (x : SnpX) (b : Nat) (l : List Word) : (bankFilled x b l).moving = none ∧
    (if b = 0 then (bankFilled x b l).bank0 = l ∧ (bankFilled x b l).bank1 = x.bank1
      else (bankFilled x b l).bank1 = l ∧ (bankFilled x b l).bank0 = x.bank0) := by
  unfold bankFilled
  split <;> exact ⟨rfl, rfl, rfl⟩

theorem snapshotMoveDone_completes {b : Nat} {l : List Word} (h : s.snp.moving = some (b, l)) (hb : b < 2) :
    completes .snapshotMoveDone s fun t =>
      t.snp.moving = none ∧ (if b = 0 then t.snp.bank0 = l ∧ t.snp.bank1 = s.snp.bank1 else t.snp.bank1 = l ∧ t.snp.bank0 = s.snp.bank0) ∧
      t.fld SNP_STAT_MOVING = 0 ∧ t.fld SNP_STAT_HELD = s.fld SNP_STAT_HELD ||| 2 ^ b ∧
      t.events = s.events ++ [{ producer := 737, payload := b + 2 ^ 16 * ((l.headD 0).toNat % 2 ^ 16) }] ∧ keeps s t [SNP_STAT] := by
  have hheld : s.fld SNP_STAT_HELD ||| 2 ^ b < 2 ^ 2 := by
    refine Nat.or_lt_two_pow (fld_lt s SNP_STAT_HELD) ?_
    rcases (by omega : b = 0 ∨ b = 1) with rfl | rfl <;> decide
  have hpay : (b + 2 ^ 16 * ((l.headD 0).toNat % 2 ^ 16)) % 2 ^ 32 = b + 2 ^ 16 * ((l.headD 0).toNat % 2 ^ 16) :=
    Nat.mod_eq_of_lt (by omega)
  obtain ⟨hmove, hbanks⟩ := bankFilled_banks s.snp b l
  refine ⟨_, snapshotMoveDone_eq h, ?_, ?_, ?_, ?_, ?_,
    keeps_fire (keeps_setFlds (keeps_withSnp (keeps_refl s _) _) (by simp; decide)) _ _⟩
  · rw [snp_fire, snp_setFlds, snp_withSnp, hmove]
  · rw [snp_fire, snp_setFlds, snp_withSnp]
    exact hbanks
  · simp (disch := decide) only [fld_fire, setFlds_cons, setFlds_nil, fld_setFld_ne, fld_setFld]
    rfl
  · rw [fld_fire, setFlds_cons, setFlds_cons, setFlds_nil, fld_setFld_of_lt _ (by decide) hheld]
  · simp only [State.fire, events_setFlds, hpay]
    rfl

theorem fld_bankRelease (s : State) (b : Fin 4) : (bankRelease s b).fld SNP_STAT_HELD = s.fld SNP_STAT_HELD &&& (3 - b.val) := by
  have hlt : s.fld SNP_STAT_HELD &&& (3 - b.val) < 2 ^ 2 := Nat.and_le_left.trans_lt (fld_lt s SNP_STAT_HELD)
  unfold bankRelease
  rw [Nat.mod_eq_of_lt b.isLt]
  exact fld_setFld_of_lt s (by decide) hlt

end Sys2Proof.Architecture
end

section
/-! SUPPORT. The common counter rules (R492), and the commands of core samples and counters. -/

namespace Sys2Proof.Architecture

open Sys2Proof.Machine

variable {α : Type} {s t u : State} {l : List Nat}

/-! ### Stores and their entries -/

theorem stRising_le {lo : Nat} {m : Store α} (h : stRising lo m = true) {e : Nat × α} (he : e ∈ m) : lo ≤ e.1 := by
  induction m generalizing lo with
  | nil => cases he
  | cons f m ih =>
    simp only [stRising, Bool.and_eq_true, decide_eq_true_eq] at h
    rcases List.mem_cons.mp he with rfl | he
    · exact h.1
    · exact (Nat.le_succ_of_le h.1).trans (ih h.2 he)

/-- An entry of a rising store is what its key reads as. -/
theorem stGet_of_mem (d : α) {lo : Nat} {m : Store α} (h : stRising lo m = true) {e : Nat × α} (he : e ∈ m) : stGet d m e.1 = e.2 := by
  induction m generalizing lo with
  | nil => cases he
  | cons f m ih =>
    simp only [stRising, Bool.and_eq_true, decide_eq_true_eq] at h
    rcases List.mem_cons.mp he with rfl | he
    · simp [stGet]
    · have hne : ¬ f.1 = e.1 := by
        have := stRising_le h.2 he
        omega
      simp only [stGet, hne, if_false]
      exact ih h.2 he

/-- A key that is not listed reads as its default. -/
theorem stGet_of_not_mem (d : α) {m : Store α} {k : Nat} (h : k ∉ m.map (·.1)) : stGet d m k = d := by
  induction m with
  | nil => rfl
  | cons f m ih =>
    simp only [List.map_cons, List.mem_cons, not_or] at h
    simp only [stGet, Ne.symm h.1, if_false]
    exact ih h.2

/-! ### Settled deaf time -/

/-- Where deaf time has been counted up to now, settling it changes no register. -/
theorem deafSettle_regs (h : s.venue ≤ s.deafTo) : (deafSettle s).regs = s.regs := by
  unfold deafSettle
  dsimp only
  rw [if_pos h]

/-! ### Clearing every counter (R492) -/

/-- A register's word with the bits of its counters cleared. -/
def rcCleared (a : Nat) (w : Word) : Word :=
  match regRow a with
  | some r => if r.rc = 0 then w else w &&& BitVec.ofNat 32 (0xFFFFFFFF - r.rc)
  | none => w

/-- One entry of the register store has its counters cleared. -/
def entryCleared (s : State) (e : Nat × Word) : State :=
  match regRow e.1 with
  | some r => if r.rc = 0 then s else s.setReg e.1 (e.2 &&& BitVec.ofNat 32 (0xFFFFFFFF - r.rc))
  | none => s

theorem clearAll_eq (s : State) : clearAll s = (deafSettle s).regs.foldl entryCleared (deafSettle s) := rfl

theorem reg_entryCleared (s : State) {e : Nat × Word} (he : s.reg e.1 = e.2) (a : Nat) :
    (entryCleared s e).reg a = if e.1 = a then rcCleared a (s.reg a) else s.reg a := by
  have hsame : e.1 = a → e.2 = s.reg a := fun h => he ▸ h ▸ rfl
  unfold entryCleared rcCleared
  by_cases h : e.1 = a
  · rw [if_pos h, ← h]
    cases regRow e.1 with
    | none => rfl
    | some r =>
      dsimp only
      split
      · rfl
      · rw [reg_setReg, if_pos rfl, he]
  · rw [if_neg h]
    cases regRow e.1 with
    | none => rfl
    | some r =>
      dsimp only
      split
      · rfl
      · rw [reg_setReg, if_neg h]

theorem mem_entryCleared (s : State) (e : Nat × Word) : (entryCleared s e).mem = s.mem := by
  unfold entryCleared
  split
  · split
    · rfl
    · exact mem_setReg ..
  · rfl

theorem mem_clearAll (s : State) : (clearAll s).mem = s.mem := by
  rw [clearAll_eq]
  generalize (deafSettle s).regs = m
  have hs : (deafSettle s).mem = s.mem := (deafSettle_keepsSys s).1
  generalize deafSettle s = v at hs ⊢
  induction m generalizing v with
  | nil => exact hs
  | cons e m ih => exact ih _ ((mem_entryCleared v e).trans hs)

/-- Clearing the entries of a rising part of the store clears the counters of the registers it lists. -/
theorem reg_foldl_entryCleared {m : Store Word} {lo : Nat} (hm : stRising lo m = true) (hs : ∀ e ∈ m, s.reg e.1 = e.2) (a : Nat) :
    (m.foldl entryCleared s).reg a = if a ∈ m.map (·.1) then rcCleared a (s.reg a) else s.reg a := by
  induction m generalizing lo s with
  | nil => simp
  | cons e m ih =>
    simp only [stRising, Bool.and_eq_true, decide_eq_true_eq] at hm
    have hlt : ∀ f ∈ m, e.1 < f.1 := fun f hf => stRising_le hm.2 hf
    have he := reg_entryCleared s (hs e (List.mem_cons_self ..))
    have hrest : ∀ f ∈ m, (entryCleared s e).reg f.1 = f.2 := fun f hf => by
      rw [he, if_neg (hlt f hf).ne, hs f (List.mem_cons_of_mem _ hf)]
    rw [List.foldl_cons, ih hm.2 hrest, he]
    by_cases h : e.1 = a
    · have hnot : a ∉ m.map (·.1) := fun hmem => by
        obtain ⟨f, hf, rfl⟩ := List.mem_map.mp hmem
        exact (hlt f hf).ne h
      rw [if_neg hnot, if_pos h, if_pos (by simp [h])]
    · simp [h, Ne.symm h]

/-- Every register after the clear of all counters: cleared where the store lists it, at its reset word as before otherwise. -/
theorem reg_clearAll (hw : stWf resetWord s.regs = true) (hv : s.venue ≤ s.deafTo) (a : Nat) :
    (clearAll s).reg a = rcCleared a (s.reg a) ∨ (clearAll s).reg a = s.reg a ∧ s.reg a = resetWord a := by
  have hregs := deafSettle_regs hv
  have hrise := stWf_rising hw
  have hent : ∀ e ∈ s.regs, (deafSettle s).reg e.1 = e.2 := fun e he => by
    rw [reg_congr hregs]
    exact stGet_of_mem _ hrise he
  rw [clearAll_eq, hregs, reg_foldl_entryCleared hrise hent, reg_congr hregs]
  split
  · exact .inl rfl
  next h => exact .inr ⟨rfl, stGet_of_not_mem _ h⟩

/-- No bit of a mask is left in a word that has lost them. -/
theorem and_not_and (w : Word) (m : Nat) : (w &&& BitVec.ofNat 32 (0xFFFFFFFF - m)).toNat &&& m = 0 := by
  by_cases hm : m < 2 ^ 32
  · have hsub : (0xFFFFFFFF - m) % 2 ^ 32 = 2 ^ 32 - (m + 1) := by omega
    rw [BitVec.toNat_and, BitVec.toNat_ofNat, hsub]
    apply Nat.eq_of_testBit_eq
    intro i
    rw [Nat.testBit_and, Nat.testBit_and, Nat.testBit_two_pow_sub_succ hm]
    cases m.testBit i <;> simp
  · rw [show 0xFFFFFFFF - m = 0 by omega]
    simp

theorem rcCleared_and {a : Nat} {r : RegRow} (h : regRow a = some r) (w : Word) : (rcCleared a w).toNat &&& r.rc = 0 := by
  unfold rcCleared
  rw [h]
  dsimp only
  split
  next hz => rw [hz, Nat.and_zero]
  · exact and_not_and w r.rc

theorem rcCleared_plain {a : Nat} (h : ∀ r, regRow a = some r → r.rc = 0) (w : Word) : rcCleared a w = w := by
  unfold rcCleared
  cases hr : regRow a with
  | none => rfl
  | some r => exact if_pos (h r hr)

/-- Every counter bit holds its reset value or is cleared. -/
theorem clearAll_counters (hw : stWf resetWord s.regs = true) (hv : s.venue ≤ s.deafTo) {a : Nat} {r : RegRow} (h : regRow a = some r) :
    ((clearAll s).reg a).toNat &&& r.rc = (resetWord a).toNat &&& r.rc ∨ ((clearAll s).reg a).toNat &&& r.rc = 0 := by
  rcases reg_clearAll hw hv a with hc | ⟨hc, hz⟩
  · rw [hc]
    exact .inr (rcCleared_and h _)
  · rw [hc, hz]
    exact .inl rfl

theorem clearAll_plain (hw : stWf resetWord s.regs = true) (hv : s.venue ≤ s.deafTo) {a : Nat} (h : ∀ r, regRow a = some r → r.rc = 0) :
    (clearAll s).reg a = s.reg a := by
  rcases reg_clearAll hw hv a with hc | ⟨hc, -⟩
  · rw [hc, rcCleared_plain h]
  · exact hc

/-- A counter as wide as its register, with reset value 0, reads 0. -/
theorem clearAll_fld (hw : stWf resetWord s.regs = true) (hv : s.venue ≤ s.deafTo) {f : Field}
    (hrc : (regRow f.addr).map (·.rc) = some 0xFFFFFFFF) (hz : resetWord f.addr = 0) : (clearAll s).fld f = 0 := by
  obtain ⟨r, hr, hall⟩ := Option.map_eq_some_iff.mp hrc
  have hand : ((clearAll s).reg f.addr).toNat &&& r.rc = ((clearAll s).reg f.addr).toNat := by
    rw [hall]
    exact (Nat.and_two_pow_sub_one_eq_mod _ 32).trans (Nat.mod_eq_of_lt ((clearAll s).reg f.addr).isLt)
  have hreg : ((clearAll s).reg f.addr).toNat = 0 := by
    rcases clearAll_counters hw hv hr with h | h
    · rw [← hand, h, hz]
      simp
    · rw [← hand, h]
  unfold State.fld fieldGet
  rw [hreg, Nat.zero_div, Nat.zero_mod]

/-! ### The commands -/

/-- Settles O47: each command by the lemma on what becomes of its trigger, its bank or its counters. -/
theorem snapshotCommandsComplete : Obligations.SnapshotCommandsComplete := by
  refine ⟨fun s rising boundary node hm hp he hd hi hh ha => ?taken, fun s rising node m hm hp he hd ha hj => ?joined,
    fun s rising node hm hp he hd ha hb hj => ?missed, fun s hm ha hv hb => timeTrigger_eq hm ha hv hb, fun s w hm => if_pos hm,
    fun s w hm hs hf hv => recordReceived_completes hm hs hf hv, fun s b l h hb => snapshotMoveDone_completes h hb, fun s h => ?ahead,
    fun s h => ⟨_, rfl, snapArm_late h⟩, fun s => ?disarm, fun s => rfl, fun s hs hv hp ht => snapshotBcast_completes hs hv hp ht,
    fun s b => ⟨_, rfl, fld_bankRelease s b, snp_setFld .., keeps_setFld (keeps_refl s _) (List.mem_singleton_self _) _⟩, fun s => rfl,
    fun s hw hv => ?clear, fun s f => ?freeze⟩
  case taken =>
    refine ⟨_, pinEdge_eq hm hp he hd ha, ?_⟩
    cases boundary
    · exact sample_onTime hi hh 1 { node := node } s.venue
    · exact sample_onTime hi hh 1 (boundaryMeets s node) s.nextBoundary
  case joined =>
    refine ⟨_, pinEdge_eq hm hp he hd ha, ?_⟩
    rw [if_neg Bool.false_ne_true, coreSample_joins hj]
    exact ⟨rfl, keeps_withSnp (keeps_refl s _) _, rfl⟩
  case missed =>
    refine ⟨_, pinEdge_eq hm hp he hd ha, ?_⟩
    rw [if_neg Bool.false_ne_true, coreSample_missed (late := false) hj hb]
    refine ⟨?_, ?_, ?_, keeps_fire (keeps_bump (keeps_setFld (keeps_refl s _) (by decide) _) (by decide)) _ _⟩
    · rw [snp_fire, snp_bump, snp_setFld]
    · rw [fld_fire, fld_bump_ne _ _ _ (by decide)]
      exact fld_setFld _ _ _ (by decide)
    · simp only [State.fire, events_bump, Nat.zero_mod]
      rw [events_setFld]
  case ahead =>
    obtain ⟨ha, hs, hk⟩ := armedAt_leaves s (armTime s)
    exact ⟨_, congrArg ok (snapArm_ahead h), ha, by rw [hs]; rfl, hk⟩
  case disarm =>
    exact ⟨_, rfl, fld_setFld _ _ _ (by decide), snp_setFld .., keeps_setFld (keeps_refl s _) (List.mem_singleton_self _) _⟩
  case clear =>
    exact ⟨_, rfl, clearAll_fld hw hv (by decide) (by decide), clearAll_fld hw hv (by decide) (by decide),
      clearAll_fld hw hv (by decide) (by decide), clearAll_fld hw hv (by decide) (by decide), clearAll_fld hw hv (by decide) (by decide),
      clearAll_fld hw hv (by decide) (by decide), fun a r h => clearAll_counters hw hv h, fun a h => clearAll_plain hw hv h, mem_clearAll s⟩
  case freeze =>
    have hbit : b2n f < 2 ^ 1 := by cases f <;> decide
    refine ⟨_, rfl, fld_setFld_of_lt _ (by decide) hbit, (mem_setFld ..).trans (deafSettle_keepsSys s).1, fun hv => ?_⟩
    exact keeps_setFld (keeps_of_eq (deafSettle_regs hv) (deafSettle_keepsSys s).1) (List.mem_singleton_self _) _

end Sys2Proof.Architecture
end

section
/-! SUPPORT. The steps of a bitstream load and of a boot selection (R60 to R64, R72): what each command becomes where its condition
holds. -/

namespace Sys2Proof.Architecture

open Sys2Proof.Machine

variable {s : State} {r : LoadRun}

/-- The load that is requested or runs is replaced. -/
def withLoad (s : State) (x : Option LoadRun) : State := { s with cfg := { s.cfg with load := x } }

theorem withLoad_keeps (s : State) (x : Option LoadRun) (l : List Nat) : keeps s (withLoad s x) l := keeps_congr (keeps_refl s l) rfl rfl

/-! ### The request and the beginning (R60) -/

theorem loadStart_idle (h : s.flag CFG_LOADSTAT_BUSY = false) (slot : Nat) : loadStart s slot =
    (withLoad s (some { slot := slot, mask := s.fld CFG_LOADMASK_REGIONS })).setFld CFG_LOADSTAT_BUSY 1 := if_neg (by simp [h])

theorem loadStart_busy (h : s.flag CFG_LOADSTAT_BUSY = true) (slot : Nat) : loadStart s slot = s.setFld CFG_LOADSTAT_OVERRUN 1 := if_pos h

/-- SLOT of CFG_LOADCTL is no part of what tells whether a load is under way. -/
theorem busy_setSlot (s : State) (v : Nat) : (s.setFld CFG_LOADCTL_SLOT v).flag CFG_LOADSTAT_BUSY = s.flag CFG_LOADSTAT_BUSY := by
  unfold State.flag
  rw [fld_setFld_ne _ _ _ _ (by decide)]

theorem execLoadStart_idle (h : s.flag CFG_LOADSTAT_BUSY = false) (slot : Fin 2) : execLoadStart slot s =
    ok ((withLoad (s.setFld CFG_LOADCTL_SLOT slot)
      (some { slot := slot, mask := s.fld CFG_LOADMASK_REGIONS })).setFld CFG_LOADSTAT_BUSY 1) := by
  rw [execLoadStart, loadStart_idle ((busy_setSlot s slot).trans h), fld_setFld_ne _ _ _ _ (by decide)]

theorem execLoadStart_busy (h : s.flag CFG_LOADSTAT_BUSY = true) (slot : Fin 2) : execLoadStart slot s =
    ok ((s.setFld CFG_LOADCTL_SLOT slot).setFld CFG_LOADSTAT_OVERRUN 1) := by
  rw [execLoadStart, loadStart_busy ((busy_setSlot s slot).trans h)]

/-- Sorrel goes from IDLE to LOADING; with a region mask of zero, check 16 waits for the directory (R61). -/
theorem execLoadBegin_all (hl : s.cfg.load = some r) (hb : r.begun = false) (hm : r.mask = 0) (hs : s.fld SYS_SRLSTAT_STATE = 1) :
    execLoadBegin s =
      ok ((withLoad s (some { r with begun := true, back := 1 })).setFlds [(SYS_SRLSTAT_STATE, 2), (CFG_LOADSTAT_PHASE, 1)]) := by
  simp [execLoadBegin, hl, hb, hm, hs, withLoad]

/-! ### The header, the hash and the signature (R61, R64) -/

/-- How a load goes on from what checks 1 to 8 gave. -/
def headerDone : Option (Nat × BsFail) × LoadRun × List Byte × State → State
  | (some (n, f), r, _, s) => loadReject s r n f
  | (none, r, _, s) => (withLoad s (some r)).setFld CFG_LOADSTAT_PHASE 2

theorem execLoadHeaderChecked_eq (hl : s.cfg.load = some r) (hp : s.fld CFG_LOADSTAT_PHASE = 1) :
    execLoadHeaderChecked s = ok (headerDone (loadHeader s r)) := by
  simp only [execLoadHeaderChecked, hl, hp, ne_eq, not_true_eq_false, if_false]
  rcases loadHeader s r with ⟨_ | ⟨n, f⟩, r', h, s'⟩ <;> rfl

theorem execLoadHashDone_eq (hp : s.fld CFG_LOADSTAT_PHASE = 2) : execLoadHashDone s = ok (s.setFld CFG_LOADSTAT_PHASE 3) :=
  congrArg ok (if_pos hp)

/-- How a load goes on from what checks 9 and 10 gave: in the no-structure state the directory must list every region (R65). -/
def signatureDone (r : LoadRun) : Option BsFail × State → State
  | (some f, s) => loadReject s r 0 f
  | (none, s) =>
    match if s.flag CFG_BOOTSTAT_NOSTRUCT then loadWhole r else none with
    | some (n, f) => loadReject s r n f
    | none => loadNext (s.setFld CFG_LOADSTAT_PHASE 4) { r with left := loadLeft r }

theorem execLoadSignatureVerified_eq (hl : s.cfg.load = some r) (hp : s.fld CFG_LOADSTAT_PHASE = 3) :
    execLoadSignatureVerified s = ok (signatureDone r (loadSignature s r)) := by
  simp only [execLoadSignatureVerified, hl, hp, ne_eq, not_true_eq_false, if_false]
  rcases loadSignature s r with ⟨_ | f, s'⟩
  · dsimp only [signatureDone]
    rcases (if s'.flag CFG_BOOTSTAT_NOSTRUCT then loadWhole r else none) with _ | ⟨n, f⟩ <;> rfl
  · rfl

theorem signatureDone_passes (h : s.flag CFG_BOOTSTAT_NOSTRUCT = false) (r : LoadRun) :
    signatureDone r (none, s) = loadNext (s.setFld CFG_LOADSTAT_PHASE 4) { r with left := loadLeft r } := by
  simp [signatureDone, h]

/-! ### The regions (R61, R64) -/

theorem execLoadRegionChecked_last (hl : s.cfg.load = some r) (hp : s.fld CFG_LOADSTAT_PHASE = 4) (hr : r.left = []) :
    execLoadRegionChecked s = ok (loadFinish s r) := by
  simp [execLoadRegionChecked, hl, hp, hr]

/-- How a load goes on from what checks 12 to 15 gave for a region, with the regions after it. -/
def regionDone (r : LoadRun) (n : Nat) (rest : List Nat) : Option BsFail × Plane × State → State
  | (some f, _, s) => loadReject s r n f
  | (none, p, s) =>
    if rest.isEmpty then loadFinish (loadStore s r n p) { r with left := [] } else loadNext (loadStore s r n p) { r with left := rest }

theorem execLoadRegionChecked_present {n : Nat} {rest : List Nat} {d : BsDir} (hl : s.cfg.load = some r)
    (hp : s.fld CFG_LOADSTAT_PHASE = 4) (hr : r.left = n :: rest) (hn : loadPresent r n = none)
    (hd : r.dirs.find? (·.id = n) = some d) : execLoadRegionChecked s = ok (regionDone r n rest (loadRegion s r n d)) := by
  simp only [execLoadRegionChecked, hl, hp, hr, hn, hd, ne_eq, not_true_eq_false, if_false]
  rcases loadRegion s r n d with ⟨_ | f, p, s'⟩
  · exact (apply_ite ok _ _ _).symm
  · rfl

/-! ### The abort (R63) -/

theorem loadAbort_eq (hl : s.cfg.load = some r) : loadAbort s = loadReject s r 0 { code := 0x13 } := by
  rw [loadAbort, hl]

/-! ### Boot selections (R72) -/

theorem execBootselGo_idle (h : s.flag CFG_BOOTSTAT_BOOTSEL_BUSY = false) (slot : Fin 2) :
    execBootselGo slot s = ok (bootselGo (s.setFld CFG_BOOTSEL_SLOT slot)) := by
  rw [execBootselGo, h, if_neg Bool.false_ne_true]

/-- With no operation left in the flash controller, the commit page is read back. -/
theorem execBootselComplete_eq {page : Nat} {data l : List Byte} {s' : State} (hb : s.cfg.boot = some (page, data)) (hq : s.flcQueue = [])
    (hr : s.flcRun = none) (hp : pageRead s page = (some l, s')) : execBootselComplete s = ok (bootselEnd s' (l == data)) := by
  simp [execBootselComplete, hb, hq, hr, hp]

/-- The end clears BUSY, forgets the page and sets DONE or FAIL. -/
theorem bootselEnd_leaves (s : State) (good : Bool) :
    (bootselEnd s good).fld CFG_BOOTSTAT_BOOTSEL_BUSY = 0 ∧ (bootselEnd s good).cfg.boot = none ∧
      (bootselEnd s good).fld (if good then CFG_BOOTSTAT_BOOTSEL_DONE else CFG_BOOTSTAT_BOOTSEL_FAIL) = 1 := by
  unfold bootselEnd
  refine ⟨?_, by rw [cfg_setFlds], ?_⟩
  · rw [setFlds_cons, setFlds_cons, setFlds_nil, fld_setFld_ne _ _ _ _ (by cases good <;> decide)]
    exact fld_setFld _ _ _ (by decide)
  · exact fld_setFld_of_lt _ (by cases good <;> decide) (by cases good <;> decide)

/-! ### The commands -/

/-- Settles O6: each command by the equation of its function where its condition holds. -/
theorem loadCommandsComplete : Obligations.LoadCommandsComplete := by
  refine ⟨fun s slot h => ?start, fun s slot h => ?overrun, fun s r hl hb hm hs => ?begin, fun s r hl hp => ?header, fun s hp => ?hash,
    fun s r hl hp => ?badSignature, fun s r hl hp => ?goodSignature, fun s r hl hp hr => ⟨_, execLoadRegionChecked_last hl hp hr, rfl⟩,
    fun s r n rest d hl hp hr hn hd => ?region, fun s r hl => ⟨_, rfl, loadAbort_eq hl⟩,
    fun s slot h => ⟨_, execBootselGo_idle h slot, rfl⟩,
    fun s page data l s' hb hq hr hp => ⟨_, execBootselComplete_eq hb hq hr hp, rfl⟩, bootselEnd_leaves⟩
  case start =>
    refine ⟨_, execLoadStart_idle h slot, fld_setFld _ _ _ (by decide), by rw [cfg_setFld]; rfl, ?_⟩
    exact keeps_setFld (keeps_trans (keeps_setFld (keeps_refl s _) (by decide) _) (withLoad_keeps _ _ _)) (by decide) _
  case overrun =>
    refine ⟨_, execLoadStart_busy h slot, fld_setFld _ _ _ (by decide), by rw [cfg_setFld, cfg_setFld], ?_⟩
    exact keeps_setFld (keeps_setFld (keeps_refl s _) (by decide) _) (by decide) _
  case begin =>
    refine ⟨_, execLoadBegin_all hl hb hm hs, ?_, ?_, by rw [cfg_setFlds]; rfl, keeps_setFlds (withLoad_keeps s _ _) (by decide)⟩
    · rw [setFlds_cons, setFlds_cons, setFlds_nil, fld_setFld_ne _ _ _ _ (by decide)]
      exact fld_setFld _ _ _ (by decide)
    · exact fld_setFld _ _ _ (by decide)
  case header =>
    refine ⟨_, execLoadHeaderChecked_eq hl hp, ?_⟩
    rcases loadHeader s r with ⟨_ | ⟨n, f⟩, r', h, s'⟩ <;> rfl
  case hash =>
    exact ⟨_, execLoadHashDone_eq hp, fld_setFld _ _ _ (by decide), keeps_setFld (keeps_refl s _) (List.mem_singleton_self _) _⟩
  case badSignature =>
    refine ⟨_, execLoadSignatureVerified_eq hl hp, fun f s' hf => ?_⟩
    rw [hf, signatureDone]
  case goodSignature =>
    refine ⟨_, execLoadSignatureVerified_eq hl hp, fun s' hf hn => ?_⟩
    rw [hf, signatureDone_passes hn]
  case region =>
    refine ⟨_, execLoadRegionChecked_present hl hp hr hn hd, ?_⟩
    rcases loadRegion s r n d with ⟨_ | f, p, s'⟩ <;> rfl

end Sys2Proof.Architecture
end

section
/-! SUPPORT. What each port holds, and the requests and calibrations of a port (R77 to R80, R91, R94). -/

namespace Sys2Proof.Architecture

open Sys2Proof.Machine

variable {s t : State} {p : Nat}

/-! ### What a port holds, and its fields -/

@[simp] theorem portx_setPortx (s : State) (p : Nat) (x : PortX) (q : Nat) : (s.setPortx p x).portx q = if p = q then x else s.portx q :=
  stGet_set ..

theorem portx_congr (h : t.ports = s.ports) (q : Nat) : t.portx q = s.portx q := by unfold State.portx; rw [h]

@[simp] theorem portx_setFld (s : State) (f : Field) (v q : Nat) : (s.setFld f v).portx q = s.portx q := rfl
@[simp] theorem portx_setFlds (s : State) (l : List (Field × Nat)) (q : Nat) : (s.setFlds l).portx q = s.portx q :=
  portx_congr (ports_setFlds s l) q
@[simp] theorem portx_fire (s : State) (k v q : Nat) : (s.fire k v).portx q = s.portx q := rfl
@[simp] theorem fld_setPortx (s : State) (p : Nat) (x : PortX) (f : Field) : (s.setPortx p x).fld f = s.fld f := fld_congr rfl f

theorem keeps_setPortx {l : List Nat} (h : keeps s t l) (p : Nat) (x : PortX) : keeps s (t.setPortx p x) l := h

/-! ### Requests (R79, R80) -/

/-- A port whose role is off ignores a write of RFP_CTL, and counts one that asks for a state. -/
theorem rfpCtlWrite_off (h : portRole s p = 0) (v : Nat) :
    rfpCtlWrite s p v = s ∨ rfpCtlWrite s p v = s.bump (RFP_CNT0_REFUSED p) := by
  rw [rfpCtlWrite, if_pos h]
  split
  · exact .inl rfl
  · exact .inr rfl

theorem rfpCtlWrite_off_leaves (h : portRole s p = 0) (v : Nat) :
    (rfpCtlWrite s p v).fld (RFP_CTL_REQ p) = s.fld (RFP_CTL_REQ p) ∧ keeps s (rfpCtlWrite s p v) [RFP_CNT0 p] := by
  rcases rfpCtlWrite_off h v with e | e <;> rw [e]
  · exact ⟨rfl, keeps_refl s _⟩
  · refine ⟨fld_bump_ne s _ _ (.inl ?_), keeps_bump (keeps_refl s _) (List.mem_singleton_self _)⟩
    simp only [RFP_CNT0_REFUSED, RFP_CTL_REQ, RFP_CNT0, RFP_CTL]
    omega

theorem execPortStateRequest_here {p : Fin 48} (h : portHere s p = true) (req : Fin 8) :
    exec (.portStateRequest p req) s = .next (rfpCtlWrite s p (fieldSet (s.reg (RFP_CTL p)) 0 3 req).toNat) :=
  congrArg ok (if_pos h)

theorem execBandOverride_here {p : Fin 48} (h : portHere s p = true) (ovr : Fin 4) :
    exec (.bandOverride p ovr) s = .next (rfpCtlWrite s p (fieldSet (s.reg (RFP_CTL p)) 4 2 ovr).toNat) :=
  congrArg ok (if_pos h)

/-! ### Calibrations asked for and due (R94) -/

theorem calRequest_eq {kinds : Nat} (h : kinds ≠ 0) (hk : kinds < 16) (s : State) (p : Nat) : calRequest s p kinds =
    s.setFlds [(RFP_CALCTL_REQ p, s.fld (RFP_CALCTL_REQ p) ||| kinds), (RFP_CALSTAT_BUSY p, 1)] := by
  rw [calRequest, Nat.mod_eq_of_lt hk, if_neg h]

theorem calRequest_leaves {kinds : Nat} (h : kinds ≠ 0) (hk : kinds < 16) (s : State) (p : Nat) :
    (calRequest s p kinds).fld (RFP_CALCTL_REQ p) = s.fld (RFP_CALCTL_REQ p) ||| kinds ∧
      (calRequest s p kinds).fld (RFP_CALSTAT_BUSY p) = 1 ∧ keeps s (calRequest s p kinds) [RFP_CALCTL p, RFP_CALSTAT p] := by
  have hreq : s.fld (RFP_CALCTL_REQ p) ||| kinds < 2 ^ 4 := Nat.or_lt_two_pow (fld_lt s (RFP_CALCTL_REQ p)) hk
  have hne : (RFP_CALSTAT_BUSY p).addr ≠ (RFP_CALCTL_REQ p).addr := by simp only [RFP_CALSTAT_BUSY, RFP_CALCTL_REQ, RFP_CALSTAT, RFP_CALCTL]; omega
  rw [calRequest_eq h hk]
  refine ⟨?_, fld_setFld _ _ _ (by simp [RFP_CALSTAT_BUSY]),
    keeps_setFlds (keeps_refl s _) (by simp [RFP_CALCTL_REQ, RFP_CALSTAT_BUSY])⟩
  exact (fld_setFld_ne _ _ _ _ (.inl hne)).trans (fld_setFld_of_lt s (by simp [RFP_CALCTL_REQ]) hreq)

/-- Calibrations that were not due fall due: DUE is set, and RFP_CALDUE fires. -/
theorem calDue_first (h : s.flag (RFP_CALSTAT_DUE p) = false) (kinds : Nat) : calDue s p kinds =
    ((s.setPortx p { s.portx p with dueKinds := (s.portx p).dueKinds ||| kinds }).setFld (RFP_CALSTAT_DUE p) 1).fire 96 p :=
  if_neg (by rw [h]; exact Bool.false_ne_true)

theorem calDue_first_leaves (h : s.flag (RFP_CALSTAT_DUE p) = false) (hp : p < 48) (kinds : Nat) :
    (calDue s p kinds).fld (RFP_CALSTAT_DUE p) = 1 ∧ ((calDue s p kinds).portx p).dueKinds = (s.portx p).dueKinds ||| kinds ∧
      (calDue s p kinds).events = s.events ++ [{ producer := 96, payload := p }] ∧ keeps s (calDue s p kinds) [RFP_CALSTAT p] := by
  rw [calDue_first h]
  refine ⟨?_, by simp, ?_, keeps_fire (keeps_setFld (keeps_setPortx (keeps_refl s _) _ _) (List.mem_singleton_self _) _) _ _⟩
  · rw [fld_fire]
    exact fld_setFld _ _ _ (by simp [RFP_CALSTAT_DUE])
  · have : p % 2 ^ 32 = p := Nat.mod_eq_of_lt (by omega)
    simp only [State.fire, this]
    rfl

theorem execCalibrationDue_drifted {p : Fin 48} {c : Int} (h : portHere s p = true)
    (hd : s.fld RFP_CALGLB_DUE_DELTA < (c - signedOf 8 (s.fld (RFP_CALSTAT_TEMP_AT_CAL p))).natAbs) :
    exec (.calibrationDue p c) s = .next (calDue s p 15) :=
  congrArg ok (if_pos (by rw [h, decide_eq_true hd]; rfl))

/-! ### The end of a calibration (R91, R94) -/

theorem gainHold_cases (s : State) (p : Nat) : gainHold s p = s ∨ ∃ c a v,
    gainHold s p = (s.setPortx p { s.portx p with compOld := c, compAt := a }).setFld (CAP_PGAIN_IDX p) v := by
  unfold gainHold
  split
  · exact .inr ⟨_, _, _, rfl⟩
  · exact .inl rfl

theorem alignRefresh_cases (s : State) (p : Nat) :
    ∃ a v, alignRefresh s p = gainHold (s.setFlds [(CAP_PALIGN_ALIGN p, a), (CAP_PALIGN_VALID p, v)]) p := by
  unfold alignRefresh
  split <;> exact ⟨_, _, rfl⟩

/-- BAND, ROLE and EXCLUDED of a port as its map, the override and the calibration give them. -/
def portShown (s : State) (p : Nat) : State :=
  (foreignFit s p).setFlds [(RFP_STAT_BAND p, portBand (foreignFit s p) p), (RFP_STAT_ROLE p, portRole (foreignFit s p) p),
    (RFP_STAT_EXCLUDED p, b2n (portExcluded (foreignFit s p) p))]

theorem portRefresh_eq (s : State) (p : Nat) : portRefresh s p = alignRefresh (portShown s p) p := rfl

theorem portShown_keeps (s : State) (p : Nat) : keeps s (portShown s p) [RFP_STAT p] :=
  keeps_setFlds (keeps_setPortx (keeps_refl s _) _ _) (by simp [RFP_STAT_BAND, RFP_STAT_ROLE, RFP_STAT_EXCLUDED])

theorem gainHold_keeps (s : State) (p : Nat) : keeps s (gainHold s p) [CAP_PGAIN p] := by
  rcases gainHold_cases s p with h | ⟨c, l, w, h⟩ <;> rw [h]
  · exact keeps_refl s _
  · exact keeps_setFld (keeps_setPortx (keeps_refl s _) _ _) (List.mem_singleton_self _) _

theorem alignRefresh_keeps (s : State) (p : Nat) : keeps s (alignRefresh s p) [CAP_PALIGN p, CAP_PGAIN p] := by
  obtain ⟨a, v, h⟩ := alignRefresh_cases s p
  rw [h]
  exact keeps_trans (keeps_setFlds (keeps_refl s _) (by simp [CAP_PALIGN_ALIGN, CAP_PALIGN_VALID]))
    (keeps_mono (gainHold_keeps _ p) (by simp))

/-- The refresh of a port writes its state, alignment and gain registers alone. -/
theorem portRefresh_keeps (s : State) (p : Nat) : keeps s (portRefresh s p) [RFP_STAT p, CAP_PALIGN p, CAP_PGAIN p] :=
  keeps_trans (keeps_mono (portShown_keeps s p) (by simp)) (keeps_mono (alignRefresh_keeps _ p) (by simp))

theorem portx_gainHold (s : State) (p : Nat) : ∃ c a, (gainHold s p).portx p = { s.portx p with compOld := c, compAt := a } := by
  rcases gainHold_cases s p with h | ⟨c, a, w, h⟩ <;> rw [h]
  · exact ⟨_, _, rfl⟩
  · exact ⟨c, a, by simp⟩

theorem portx_portShown (s : State) (p : Nat) : ∃ f, (portShown s p).portx p = { s.portx p with foreign := f } :=
  ⟨s.fld (RFP_CTL_BANDOVR p) != 0 && ((s.portx p).foreign || portBand s p != portMapBand s p), by simp [portShown, foreignFit]⟩

/-- The refresh of a port decides anew whether it is foreign, and may take the compensator to the held gain. -/
theorem portx_portRefresh (s : State) (p : Nat) :
    ∃ f c a, (portRefresh s p).portx p = { s.portx p with foreign := f, compOld := c, compAt := a } := by
  obtain ⟨a, v, h⟩ := alignRefresh_cases (portShown s p) p
  obtain ⟨c, l, hx⟩ := portx_gainHold ((portShown s p).setFlds [(CAP_PALIGN_ALIGN p, a), (CAP_PALIGN_VALID p, v)]) p
  obtain ⟨f, hf⟩ := portx_portShown s p
  exact ⟨f, c, l, by rw [portRefresh_eq, h, hx, portx_setFlds, hf]⟩

theorem calPortRefresh_eq (s : State) : ∃ v, calPortRefresh s = s.setFld RFP_CALGLB_PORT v := by
  unfold calPortRefresh
  split <;> exact ⟨_, rfl⟩

/-- The results of a calibration are kept, and what runs and is due next is settled; the fields of RFP_CALSTAT say so. -/
def calSettled (s : State) (p temp align : Nat) (r : CalResults) : State :=
  let due := (s.portx p).dueKinds &&& (15 - (s.portx p).calRun % 16)
  let next := if 1 < portWant s p && !loServed s (portAssign s p) then 1 else portWant s p
  let t := s.setPortx p { calKeep s p align r with
    calRun := 0, calEnded := true, calAt := some s.uptime, next := next, dueKinds := due, firstCal := false }
  t.setFlds [(RFP_CALSTAT_TEMP_AT_CAL p, temp), (RFP_CALSTAT_DONE p, if (s.portx p).firstCal then t.fld (RFP_CALSTAT_DONE p) else 1),
    (RFP_CALSTAT_DUE p, b2n (due ≠ 0)), (RFP_CALSTAT_BUSY p, b2n (t.fld (RFP_CALCTL_REQ p) ≠ 0))]

/-- A port whose calibration has ended sets out for the state it is held in, except in the calibration of a start-up. -/
def calReturns (s : State) (p want : Nat) : State :=
  if s.ref.startCal then s else s.setFlds [(RFP_STAT_TARGET p, want), (RFP_STAT_INTRANSIT p, 1)]

theorem calDone_eq (h : (s.portx p).calRun ≠ 0) (temp align : Nat) (r : CalResults) : calDone s p temp align r =
    calPortRefresh (portRefresh (calReturns (calSettled s p temp align r) p (portWant s p)) p) :=
  if_neg h

theorem temp_calSettled (s : State) (p : Nat) {temp : Nat} (h : temp < 256) (align : Nat) (r : CalResults) :
    (calSettled s p temp align r).fld (RFP_CALSTAT_TEMP_AT_CAL p) = temp := by
  simp [calSettled, setFlds_cons, RFP_CALSTAT_BUSY, RFP_CALSTAT_DUE, RFP_CALSTAT_DONE, RFP_CALSTAT_TEMP_AT_CAL, fld_setFld_ne, fld_setFld, h]

theorem portx_calSettled (s : State) (p temp align : Nat) (r : CalResults) :
    ((calSettled s p temp align r).portx p).calRun = 0 ∧ ((calSettled s p temp align r).portx p).calEnded = true := by
  simp [calSettled]

theorem calReturns_leaves (s : State) (p want : Nat) :
    keeps s (calReturns s p want) [RFP_STAT p] ∧ (calReturns s p want).portx p = s.portx p := by
  unfold calReturns
  split
  · exact ⟨keeps_refl s _, rfl⟩
  · exact ⟨keeps_setFlds (keeps_refl s _) (by simp [RFP_STAT_TARGET, RFP_STAT_INTRANSIT]), portx_setFlds ..⟩

theorem calDone_leaves (h : (s.portx p).calRun ≠ 0) (hp : p < 48) {temp : Nat} (ht : temp < 256) (align : Nat) (r : CalResults) :
    (calDone s p temp align r).fld (RFP_CALSTAT_TEMP_AT_CAL p) = temp ∧
      ((calDone s p temp align r).portx p).calRun = 0 ∧ ((calDone s p temp align r).portx p).calEnded = true := by
  obtain ⟨hkeep, hportx⟩ := calReturns_leaves (calSettled s p temp align r) p (portWant s p)
  obtain ⟨hrun, hended⟩ := portx_calSettled s p temp align r
  obtain ⟨v, hv⟩ := calPortRefresh_eq (portRefresh (calReturns (calSettled s p temp align r) p (portWant s p)) p)
  obtain ⟨f, c, a, hx⟩ := portx_portRefresh (calReturns (calSettled s p temp align r) p (portWant s p)) p
  have hkept := keeps_trans (keeps_mono hkeep (l' := [RFP_STAT p, CAP_PALIGN p, CAP_PGAIN p]) (by simp)) (portRefresh_keeps _ p)
  rw [calDone_eq h, hv, portx_setFld, hx, hportx]
  refine ⟨?_, hrun, hended⟩
  rw [fld_setFld_ne _ _ _ _ (.inl ?glb), fld_of_keeps hkept ?own, temp_calSettled s p ht]
  case glb =>
    simp only [RFP_CALGLB_PORT, RFP_CALSTAT_TEMP_AT_CAL, RFP_CALGLB, RFP_CALSTAT]
    omega
  case own =>
    simp only [RFP_CALSTAT_TEMP_AT_CAL, RFP_CALSTAT, RFP_STAT, CAP_PALIGN, CAP_PGAIN, List.mem_cons, List.not_mem_nil, or_false]
    omega

theorem execCalibrationDone_running {p : Fin 48} (h : (s.portx p).calRun ≠ 0) (c : Byte) (align : Fin 128) (r : CalResults) :
    exec (.calibrationDone p c align r) s = .next (startCalEnd (if bitOf (s.portx p).calRun 3
      then couplingMeasured (calDone s p c.toNat align.val r) p r.taps else calDone s p c.toNat align.val r)) :=
  if_neg h

/-! ### The commands -/

/-- Settles O7: each command by the equation of its function, and what that function leaves. -/
theorem portCommandsComplete : Obligations.PortCommandsComplete := by
  refine ⟨fun s p req h => execPortStateRequest_here h req, fun s p ovr h => execBandOverride_here h ovr,
    fun s p req h hr => ⟨_, execPortStateRequest_here h req, rfpCtlWrite_off_leaves hr _⟩, fun s p _ => rfl, fun s p kinds h hk => ?request,
    fun s p c h hd hc => ⟨_, execCalibrationDue_drifted h hc, calDue_first_leaves hd p.isLt 15⟩,
    fun s p c align r h => execCalibrationDone_running h c align r, fun s p c align r _ h => calDone_leaves h p.isLt c.isLt align r⟩
  case request =>
    exact ⟨_, congrArg ok (if_pos h), calRequest_leaves (fun h0 => hk (Fin.ext h0)) kinds.isLt s p⟩

end Sys2Proof.Architecture
end

section
/-! SUPPORT. The synthesizers: retunes, losses of lock, the takeover by the spare and calibrations (R87 to R90, R103). -/

namespace Sys2Proof.Architecture

open Sys2Proof.Machine

variable {s : State}

/-! ### What a synthesizer holds -/

@[simp] theorem syn_setSyn (s : State) (k : Nat) (x : SynX) (j : Nat) : (s.setSyn k x).syn j = if k = j then x else s.syn j := stGet_set ..
@[simp] theorem syn_setFld (s : State) (f : Field) (v j : Nat) : (s.setFld f v).syn j = s.syn j := rfl

theorem keeps_setSyn {t : State} {l : List Nat} (h : keeps s t l) (k : Nat) (x : SynX) : keeps s (t.setSyn k x) l := h

/-! ### A retune ends (R89) -/

/-- A synthesizer that serves an LO holds calibration for its frequency. -/
def loCalibrated (code : Nat) (s : State) (k : Nat) : State :=
  if s.fld (SYN_STAT_ASSIGN k) = code ∧ (s.syn k).cal.contains (assignLo s code) = false
  then s.setSyn k { s.syn k with cal := assignLo s code :: (s.syn k).cal } else s

/-- A muted port hears again and heads on. -/
def portHears (s : State) (p : Nat) : State := portHead (s.setPortx p { s.portx p with muted := false }) p

/-- The retune of an LO group has ended, and the synthesizers hold its calibration. -/
def retuned (s : State) (g : Nat) : State := forBelow 3 (loCalibrated (2 + g)) { s with loRetune := s.loRetune &&& (3 - 2 ^ g) }

theorem execLoRetuneDone_eq {g : Fin 2} (h : bitOf s.loRetune g = true) : exec (.loRetuneDone g) s =
    .next (loHears ((synPorts (retuned s g) (2 + g)).foldl portHears (retuned s g)) (2 + g) 0) := by
  have hloop : loCalibrated (2 + g) = fun s k =>
      if s.fld (SYN_STAT_ASSIGN k) = 2 + g.val && !((s.syn k).cal.contains (assignLo s (2 + g.val))) then
        s.setSyn k { s.syn k with cal := assignLo s (2 + g.val) :: (s.syn k).cal } else s := by
    funext s k
    simp only [loCalibrated, Bool.and_eq_true, decide_eq_true_eq, Bool.not_eq_true']
  unfold retuned
  rw [hloop]
  exact if_neg (by rw [h]; exact Bool.false_ne_true)

/-! ### A loss of lock (R90) -/

/-- A synthesizer that serves an LO from a reference in use is no spare under test. -/
theorem execSynLockLoss_serving {k : Fin 3} (hp : synPresent s k = true) (ha : s.fld (SYN_STAT_ASSIGN k) ≠ 0)
    (hl : s.flag (SYN_STAT_LOCK k) = true) (hr : refInUse s = true) : exec (.synLockLoss k) s = .next (lockLost s k) := by
  show execSynLockLoss k s = _
  simp only [execSynLockLoss, ha, hp, hl, hr, decide_false, Bool.and_false, Bool.false_and, Bool.not_true, Bool.or_self,
    Bool.false_eq_true, if_false]
  rfl

/-! ### The spare takes over, or fails (R90) -/

/-- The synthesizers that serve an LO. -/
def synsServing (s : State) (code : Nat) : List Nat := (List.range 3).filter fun j => s.fld (SYN_STAT_ASSIGN j) = code

/-- The spare has taken the LO over from the synthesizers that served it, which calibrate as failed ones. -/
def spareServes (s : State) (k : Nat) : State :=
  (((synsServing s (s.syn k).taking).foldl
    (fun s j => (s.setSyn j { s.syn j with calibrating := true, lockedAfterCal := false }).setFlds
      [(SYN_STAT_ASSIGN j, 0), (SYN_STAT_LOCK j, 0), (SYN_STAT_FAILED j, 1)]) (s.setSyn k { s.syn k with taking := 0 })).setFlds
    [(SYN_STAT_ASSIGN k, (s.syn k).taking), (SYN_STAT_LOCK k, 1)]).bump SYN_CNT_TAKEOVER

/-- The synthesizers that served the LO and the spare are marked failed. -/
def spareFails (s : State) (k : Nat) : State :=
  ((synsServing s (s.syn k).taking).foldl (fun s j => s.setFld (SYN_STAT_FAILED j) 1) (s.setSyn k { s.syn k with taking := 0 })).setFld
    (SYN_STAT_FAILED k) 1

theorem execSpareTakeoverDone_locked {k : Fin 3} (h : (s.syn k).taking ≠ 0) : exec (.spareTakeoverDone k true) s = .next
    (loHears (portsUnmute (synRefresh (spareServes s k)) (synPorts (spareServes s k) (s.syn k).taking)) (s.syn k).taking 4000) :=
  if_neg h

theorem execSpareTakeoverDone_failed {k : Fin 3} (h : (s.syn k).taking ≠ 0) :
    exec (.spareTakeoverDone k false) s = .next (synRefresh (spareFails s k)) :=
  if_neg h

/-! ### A calibration ends, and a failed synthesizer is free again (R90, R91, R103) -/

/-- The summary of the synthesizers leaves the fields of each of them. -/
theorem fld_synRefresh (s : State) {f : Field} (ha : f.addr = SYN_STAT) (hf : f.lo + f.width ≤ 12) : (synRefresh s).fld f = s.fld f := by
  have hc : SYS_CLKSTAT ≠ f.addr := by rw [ha]; decide
  simp only [synRefresh, synClkstat, setFlds_cons, setFlds_nil]
  rw [fld_setFld_ne _ _ _ _ (.inl hc), fld_setFld_ne _ _ _ _ (.inl hc), fld_setFld_ne _ _ _ _ (.inr ⟨by decide, .inr hf⟩)]

/-- The outcome of the calibration of a synthesizer that serves an LO: what it holds, LOCK and FAILED. -/
def synCalibrated (s : State) (k : Nat) (locked : Bool) : State :=
  let lo := assignLo s (s.fld (SYN_STAT_ASSIGN k))
  (s.setSyn k { s.syn k with
      calibrating := false
      cal := if locked then lo :: (s.syn k).cal.filter (fun f => !([lo].contains f)) else (s.syn k).cal }).setFlds
    [(SYN_STAT_LOCK k, b2n locked), (SYN_STAT_FAILED k, b2n !locked)]

theorem execSynCalibrationDone_serving {k : Fin 3} (hc : (s.syn k).calibrating = true) (ha : s.fld (SYN_STAT_ASSIGN k) ≠ 0) (locked : Bool) :
    exec (.synCalibrationDone k locked) s = .next (startCalPorts (if locked && s.flag (SYN_STAT_FAILED k)
      then loHears (portsUnmute (synRefresh (synCalibrated s k locked)) (synPorts (synCalibrated s k locked) (s.fld (SYN_STAT_ASSIGN k))))
        (s.fld (SYN_STAT_ASSIGN k)) 4000
      else synRefresh (synCalibrated s k locked))) := by
  show execSynCalibrationDone k locked s = _
  simp only [execSynCalibrationDone, hc, ha, Bool.not_true, Bool.false_eq_true, ne_eq, not_false_eq_true, if_true, if_false]
  exact (apply_ite (ok ∘ startCalPorts) _ _ _).symm

theorem execSynFailedClear_locked {k : Fin 3} (hf : s.flag (SYN_STAT_FAILED k) = true) (ha : s.fld (SYN_STAT_ASSIGN k) = 0)
    (hl : (s.syn k).lockedAfterCal = true) (hc : (s.syn k).calibrating = false) : exec (.synFailedClear k) s =
      .next (synRefresh ((s.setSyn k { s.syn k with lockedAfterCal := false }).setFlds [(SYN_STAT_FAILED k, 0), (SYN_STAT_LOCK k, 0)])) :=
  if_pos (by rw [hf, ha, hl, hc]; rfl)

/-- FAILED and LOCK of a synthesizer that are cleared stay so in the summary. -/
theorem fld_synRefresh_cleared (s : State) (k : Fin 3) :
    (synRefresh (s.setFlds [(SYN_STAT_FAILED k, 0), (SYN_STAT_LOCK k, 0)])).fld (SYN_STAT_FAILED k) = 0 ∧
      (synRefresh (s.setFlds [(SYN_STAT_FAILED k, 0), (SYN_STAT_LOCK k, 0)])).fld (SYN_STAT_LOCK k) = 0 := by
  have hfailed : (SYN_STAT_FAILED k).lo + (SYN_STAT_FAILED k).width ≤ 12 := by simp only [SYN_STAT_FAILED]; omega
  have hlock : (SYN_STAT_LOCK k).lo + (SYN_STAT_LOCK k).width ≤ (SYN_STAT_FAILED k).lo := by simp only [SYN_STAT_LOCK, SYN_STAT_FAILED]; omega
  have hapart := Nat.le_add_right (SYN_STAT_FAILED k).lo (SYN_STAT_FAILED k).width
  rw [fld_synRefresh _ rfl hfailed, fld_synRefresh _ rfl (by omega), setFlds_cons, setFlds_cons, setFlds_nil]
  refine ⟨?_, fld_setFld _ _ _ (by omega)⟩
  rw [fld_setFld_ne _ _ _ _ (.inr ⟨by omega, .inl hlock⟩)]
  exact fld_setFld _ _ _ (by omega)

theorem spareRecal_starts {k : Nat} (h : spareSyn s = some k) :
    spareRecal s = (s.setSyn k { s.syn k with calibrating := true }).setFld SYN_CTL_RECAL 1 := by
  rw [spareRecal, h]

/-! ### The commands -/

/-- Settles O8: each command by the equation of its function where its condition holds. -/
theorem synthesizerCommandsComplete : Obligations.SynthesizerCommandsComplete := by
  refine ⟨fun s g h => ⟨_, execLoRetuneDone_eq h, _, rfl, rfl⟩, fun s k hp ha hl hr => execSynLockLoss_serving hp ha hl hr,
    fun s k h => ⟨_, execSpareTakeoverDone_locked h, _, rfl, rfl⟩, fun s k h => execSpareTakeoverDone_failed h,
    fun s k locked hc ha => ⟨_, execSynCalibrationDone_serving hc ha locked, _, rfl, rfl⟩,
    fun s k hf ha hl hc => ⟨_, execSynFailedClear_locked hf ha hl hc, fld_synRefresh_cleared _ k⟩, fun s k h => ?recal⟩
  case recal =>
    refine ⟨_, congrArg ok (spareRecal_starts h), by simp, fld_setFld _ _ _ (by decide), ?_⟩
    exact keeps_setFld (keeps_setSyn (keeps_refl s _) _ _) (List.mem_singleton_self _) _

end Sys2Proof.Architecture
end

section
/-! SUPPORT. Transmit lanes and the coexistence wires (R85, R99, R100). -/

namespace Sys2Proof.Architecture

open Sys2Proof.Machine

variable {s t u : State}

@[simp] theorem fld_advance (s : State) (v : Nat) (f : Field) : (s.advance v).fld f = s.fld f := fld_congr (passTo_leaves s _).1 f
@[simp] theorem flag_advance (s : State) (v : Nat) (f : Field) : (s.advance v).flag f = s.flag f := by simp [State.flag]

/-! ### The bands that the wires govern (R99) -/

/-- What decides the band of every port, and the bands that the wires govern, is the same. -/
structure SameBands (s t : State) : Prop where
  part : t.part = s.part
  planeA : t.planeA = s.planeA
  planeB : t.planeB = s.planeB
  entry : ∀ q, (t.portx q).entry = (s.portx q).entry
  fld : ∀ f : Field, f.addr ≠ COX_STAT → t.fld f = s.fld f

theorem SameBands.refl (s : State) : SameBands s s := ⟨rfl, rfl, rfl, fun _ => rfl, fun _ _ => rfl⟩

theorem SameBands.trans (h : SameBands s t) (h' : SameBands t u) : SameBands s u :=
  ⟨h'.part.trans h.part, h'.planeA.trans h.planeA, h'.planeB.trans h.planeB, fun q => (h'.entry q).trans (h.entry q),
    fun f hf => (h'.fld f hf).trans (h.fld f hf)⟩

theorem SameBands.portEntry (h : SameBands s t) (q : Nat) : portEntry t q = portEntry s q := by
  unfold Machine.portEntry State.payloadLe State.active State.plane State.actB State.flag
  rw [h.entry, h.planeA, h.planeB, h.fld _ (by decide)]

theorem SameBands.portBand (h : SameBands s t) (q : Nat) : portBand t q = portBand s q := by
  have hne : (RFP_CTL_BANDOVR q).addr ≠ COX_STAT := by
    simp only [RFP_CTL_BANDOVR, RFP_CTL, COX_STAT]
    omega
  unfold Machine.portBand portMapBand
  rw [h.portEntry, h.part, h.fld _ hne]

theorem SameBands.coxGoverns (h : SameBands s t) (band : Nat) : coxGoverns t band = coxGoverns s band := by
  unfold Machine.coxGoverns State.flag
  rw [h.fld _ (by decide), h.fld _ (by decide), h.fld _ (by decide)]

theorem sameBands_setFld (s : State) {f : Field} (h : f.addr = COX_STAT) (v : Nat) : SameBands s (s.setFld f v) :=
  ⟨rfl, rfl, rfl, fun _ => rfl, fun _ hg => fld_setFld_ne s f _ v (.inl (h ▸ hg.symm))⟩

theorem sameBands_setPortx (s : State) (p : Nat) {x : PortX} (h : x.entry = (s.portx p).entry) : SameBands s (s.setPortx p x) := by
  refine ⟨rfl, rfl, rfl, fun q => ?_, fun f _ => fld_setPortx s p x f⟩
  rw [portx_setPortx]
  split
  · subst_vars
    exact h
  · rfl

/-! ### The gate (R100 steps 1 and 2) -/

/-- Without grant the PA of a port in a governed band is off, and a software transmission of it is cut. -/
def gatePort (s : State) (p : Nat) : State :=
  if (s.portx p).pa && coxGoverns s (portBand s p) then
    s.setPortx p { s.portx p with pa := false, testCut := if (s.portx p).test = 0 then none else some s.venue } else s

/-- Without grant a lane in its PA window in a governed band stops. -/
def gateLane (s : State) (e : Nat × TxLane) : Nat × TxLane :=
  if (e.2.stage = 3 || e.2.stage = 4) && e.2.cut = 0 && coxGoverns s e.2.band then (e.1, { e.2 with cut := 7, airEnd := s.venue }) else e

def gateLanes (s : State) : State := { s with txLanes := s.txLanes.map (gateLane s) }

theorem coxGate_disabled (h : s.flag COX_CTL_EN = false) : coxGate s = s := if_pos (by rw [h]; rfl)

theorem coxGate_shut (he : s.flag COX_CTL_EN = true) (hg : s.flag COX_STAT_GNT = false) :
    coxGate s = coxActRefresh (gateLanes ((allPorts s).foldl gatePort s)) :=
  if_neg (by rw [he, hg]; exact Bool.false_ne_true)

theorem gatePort_leaves (s : State) (p : Nat) : SameBands s (gatePort s p) ∧ keeps s (gatePort s p) [] := by
  unfold gatePort
  split
  · exact ⟨sameBands_setPortx s p rfl, keeps_setPortx (keeps_refl s _) _ _⟩
  · exact ⟨.refl s, keeps_refl s _⟩

theorem pa_gatePort (s : State) (p q : Nat) :
    ((gatePort s p).portx q).pa = ((s.portx q).pa && !(decide (p = q) && coxGoverns s (portBand s q))) := by
  by_cases h : p = q
  · subst h
    unfold gatePort
    split <;> simp_all
  · unfold gatePort
    split <;> simp [h]

/-- The gate over ports shuts the PA of each of them in a governed band, and opens none. -/
theorem foldl_gatePort (l : List Nat) (s : State) : SameBands s (l.foldl gatePort s) ∧ keeps s (l.foldl gatePort s) [] ∧
    ∀ q, ((s.portx q).pa = false ∨ q ∈ l) → coxGoverns s (portBand s q) = true → ((l.foldl gatePort s).portx q).pa = false := by
  induction l generalizing s with
  | nil => exact ⟨.refl s, keeps_refl s _, fun q h _ => h.resolve_right List.not_mem_nil⟩
  | cons p l ih =>
    obtain ⟨hbands, hkeep⟩ := gatePort_leaves s p
    obtain ⟨ihbands, ihkeep, ihpa⟩ := ih (gatePort s p)
    refine ⟨hbands.trans ihbands, keeps_trans hkeep ihkeep, fun q hq hgov => ihpa q ?_ ?_⟩
    · rw [pa_gatePort, hgov]
      rcases hq with hq | hq
      · exact .inl (by rw [hq]; rfl)
      · rcases List.mem_cons.mp hq with rfl | hq
        · exact .inl (by simp)
        · exact .inr hq
    · rw [hbands.portBand, hbands.coxGoverns, hgov]

theorem gateLanes_leaves (s : State) : SameBands s (gateLanes s) ∧ keeps s (gateLanes s) [] :=
  ⟨⟨rfl, rfl, rfl, fun _ => rfl, fun f _ => fld_congr rfl f⟩, keeps_congr (keeps_refl s _) rfl rfl⟩

/-- A lane that the gate has seen in its PA window in a governed band is cut. -/
theorem gateLane_cut (s : State) (e : Nat × TxLane) (hs : (gateLane s e).2.stage = 3 ∨ (gateLane s e).2.stage = 4)
    (hg : coxGoverns s (gateLane s e).2.band = true) : (gateLane s e).2.cut ≠ 0 := by
  unfold gateLane at *
  split at hs
  case isTrue h => simp [h]
  case isFalse h => simp_all

/-- The gate leaves the bands and the grant, and writes COX_STAT alone. -/
theorem coxGate_leaves (s : State) :
    SameBands s (coxGate s) ∧ (coxGate s).fld COX_STAT_GNT = s.fld COX_STAT_GNT ∧ keeps s (coxGate s) [COX_STAT] := by
  by_cases h : s.flag COX_CTL_EN = true ∧ s.flag COX_STAT_GNT = false
  · obtain ⟨hbands, hkeep, -⟩ := foldl_gatePort (allPorts s) s
    obtain ⟨hbands', hkeep'⟩ := gateLanes_leaves ((allPorts s).foldl gatePort s)
    have hall := keeps_trans hkeep hkeep'
    rw [coxGate_shut h.1 h.2]
    refine ⟨(hbands.trans hbands').trans (sameBands_setFld _ rfl _), ?_, keeps_setFld (keeps_mono hall (by simp)) (List.mem_singleton_self _) _⟩
    exact (fld_setFld_ne _ _ _ _ (by decide)).trans (fld_of_keeps hall List.not_mem_nil)
  · have hs : coxGate s = s := if_pos (by cases he : s.flag COX_CTL_EN <;> simp_all)
    rw [hs]
    exact ⟨.refl s, rfl, keeps_refl s _⟩

/-- Without grant no PA of a governed band is on, and every lane in its PA window there is cut (R100). -/
theorem coxGate_stops (he : s.flag COX_CTL_EN = true) (hg : s.flag COX_STAT_GNT = false) :
    (∀ p : Nat, p < s.part.ports → coxGoverns s (portBand s p) = true → ((coxGate s).portx p).pa = false) ∧
      ∀ e ∈ (coxGate s).txLanes, (e.2.stage = 3 ∨ e.2.stage = 4) → coxGoverns s e.2.band = true → e.2.cut ≠ 0 := by
  obtain ⟨hbands, -, hpa⟩ := foldl_gatePort (allPorts s) s
  rw [coxGate_shut he hg]
  refine ⟨fun p hp hgov => hpa p (.inr (List.mem_range.mpr hp)) hgov, fun e hmem hst hgov => ?_⟩
  obtain ⟨e', -, rfl⟩ := List.mem_map.mp (show e ∈ ((allPorts s).foldl gatePort s).txLanes.map (gateLane _) from hmem)
  exact gateLane_cut _ e' hst ((hbands.coxGoverns _).trans hgov)

/-- What the grant that is withdrawn leaves (R100 steps 1 and 2): GNT reads 0, and nothing in a governed band goes on. -/
theorem coxGntWithdrawn_stops (he : s.flag COX_CTL_EN = true) : (coxGate (s.setFld COX_STAT_GNT 0)).fld COX_STAT_GNT = 0 ∧
    (∀ p : Nat, p < s.part.ports → coxGoverns s (portBand s p) = true → ((coxGate (s.setFld COX_STAT_GNT 0)).portx p).pa = false) ∧
      ∀ e ∈ (coxGate (s.setFld COX_STAT_GNT 0)).txLanes, (e.2.stage = 3 ∨ e.2.stage = 4) → coxGoverns s e.2.band = true → e.2.cut ≠ 0 := by
  have hbands := sameBands_setFld s (f := COX_STAT_GNT) rfl 0
  have hgnt : (s.setFld COX_STAT_GNT 0).fld COX_STAT_GNT = 0 := fld_setFld _ _ _ (by decide)
  have hen : (s.setFld COX_STAT_GNT 0).flag COX_CTL_EN = true := by
    rw [State.flag, hbands.fld _ (by decide)]
    exact he
  obtain ⟨hpa, hlanes⟩ := coxGate_stops hen (by rw [State.flag, hgnt]; rfl)
  refine ⟨(coxGate_leaves _).2.1.trans hgnt, fun p hp hgov => hpa p hp ?_, fun e hmem hst hgov => hlanes e hmem hst ?_⟩
  · rw [hbands.portBand, hbands.coxGoverns, hgov]
  · rw [hbands.coxGoverns, hgov]

/-! ### The steps of a lane (R85) -/

/-- The ports of a lane's transmission, and those that leave RX with it. -/
def lanePorts (l : TxLane) : List Nat := l.ports.map (·.1) ++ l.silent

theorem execTxPortWalk_request {n : Fin 96} (hs : (s.txl n).stage = 0) (ho : (s.txl n).owner = 2) (hc : (s.txl n).committed = true) :
    exec (.txPortWalk n) s = .next (blankSettle ((lanePorts (s.txl n)).foldl (fun s p => portWalk s n p)
      ((txLanePut (s.advance ((s.txl n).airStart - (if (lanePorts (s.txl n)).any (fun p => portState s p == 3) then 8000 else 6000)))
        n { s.txl n with stage := 2 }).setFld (PHY_TXSTAT_STATE n) 2))) := by
  show execTxPortWalk n s = _
  simp only [execTxPortWalk, hs, ho, hc, ne_eq, not_true_eq_false, decide_false, decide_true, Bool.and_self, Bool.true_or, Bool.not_true,
    Bool.or_self, Bool.false_eq_true, if_false, if_true]
  rfl

/-- What the check of the grant makes of a lane that walks (R99). -/
def paChecked (s : State) (n : Nat) (l : TxLane) : State :=
  blankSettle (if coxGoverns s l.band && !s.flag COX_STAT_GNT then
    retuneWaiting (if l.owner = 1 then ackCut (s.bump COX_CNT_DENIED) n true else laneCut (s.bump COX_CNT_DENIED) n 6)
  else paOn (txLanePut s n { l with stage := 3 }) n)

theorem execTxPaOn_walking {n : Fin 96} (g : Bool) (hs : (s.txl n).stage = 2) (hc : (s.txl n).committed = true) : exec (.txPaOn n g) s =
    .next (paChecked (coxLevel (s.advance ((s.txl n).airStart - lanePaLead s (s.txl n))) g) n (s.txl n)) := by
  show execTxPaOn n g s = _
  simp only [execTxPaOn, paChecked, hs, hc, ne_eq, not_true_eq_false, decide_false, Bool.not_true, Bool.or_self, Bool.false_eq_true, if_false]
  split <;> rfl

/-- The level of the grant is seen at an instant under the polarity that holds then. -/
theorem coxLevel_advance (s : State) (v : Nat) (g : Bool) :
    coxLevel (s.advance v) g = coxGate ((s.advance v).setFld COX_STAT_GNT (b2n (g != s.flag COX_CTL_GNT_INV))) := by
  rw [coxLevel, flag_advance]

theorem coxLevel_disabled (h : s.flag COX_CTL_EN = false) (v : Nat) (g : Bool) :
    coxLevel (s.advance v) g = (s.advance v).setFld COX_STAT_GNT (b2n (g != s.flag COX_CTL_GNT_INV)) := by
  refine (coxLevel_advance s v g).trans (coxGate_disabled ?_)
  rw [State.flag, fld_setFld_ne _ _ _ _ (by decide), fld_advance]
  exact h

theorem paChecked_ungoverned {n : Nat} {l : TxLane} (h : coxGoverns s l.band = false) :
    paChecked s n l = blankSettle (paOn (txLanePut s n { l with stage := 3 }) n) := by
  simp [paChecked, h]

theorem paChecked_denied {n : Nat} {l : TxLane} (h : coxGoverns s l.band = true) (hg : s.fld COX_STAT_GNT = 0) (ho : l.owner = 2) :
    paChecked s n l = blankSettle (retuneWaiting (laneCut (s.bump COX_CNT_DENIED) n 6)) := by
  simp [paChecked, h, hg, ho, State.flag]

theorem txPaOn_disabled {n : Fin 96} (g : Bool) (hs : (s.txl n).stage = 2) (hc : (s.txl n).committed = true) (he : s.flag COX_CTL_EN = false) :
    exec (.txPaOn n g) s = .next (blankSettle (paOn (txLanePut ((s.advance ((s.txl n).airStart - lanePaLead s (s.txl n))).setFld
      COX_STAT_GNT (b2n (g != s.flag COX_CTL_GNT_INV))) n { s.txl n with stage := 3 }) n)) := by
  rw [execTxPaOn_walking g hs hc, coxLevel_disabled he, paChecked_ungoverned]
  rw [(sameBands_setFld _ rfl _).coxGoverns, coxGoverns, flag_advance, he, Bool.false_and]

theorem txPaOn_denied {n : Fin 96} {g : Bool} (hs : (s.txl n).stage = 2) (hc : (s.txl n).committed = true)
    (hgov : coxGoverns s (s.txl n).band = true) (hg : (g != s.flag COX_CTL_GNT_INV) = false) (ho : (s.txl n).owner = 2) :
    exec (.txPaOn n g) s = .next (blankSettle (retuneWaiting (laneCut ((coxGate ((s.advance ((s.txl n).airStart - lanePaLead s (s.txl n))).setFld
      COX_STAT_GNT 0)).bump COX_CNT_DENIED) n 6))) := by
  obtain ⟨hbands, hgnt, -⟩ := coxGate_leaves ((s.advance ((s.txl n).airStart - lanePaLead s (s.txl n))).setFld COX_STAT_GNT 0)
  rw [execTxPaOn_walking g hs hc, coxLevel_advance, hg, b2n, if_neg Bool.false_ne_true, paChecked_denied ?governed ?grant ho]
  case governed =>
    rw [hbands.coxGoverns, (sameBands_setFld _ rfl _).coxGoverns, coxGoverns, flag_advance, flag_advance, flag_advance]
    exact hgov
  case grant => exact hgnt.trans (fld_setFld _ _ _ (by decide))

@[simp] theorem txl_advance (s : State) (v n : Nat) : (s.advance v).txl n = s.txl n := by
  rw [State.advance, passTo_eq]
  rfl

/-- A port without coefficients for a bin counts its transmission there (R95). -/
def nocalCounted (k : Nat) (s : State) (e : Nat × Int) : State := if uncalibrated s e.1 k then s.bump (RFP_CNT1_NOCAL e.1) else s

theorem txl_nocalCounted (k : Nat) (s : State) (e : Nat × Int) (n : Nat) : (nocalCounted k s e).txl n = s.txl n := by
  unfold nocalCounted State.txl
  split
  · rw [txLanes_bump]
  · rfl

/-- The count of a lane's ports leaves its bin, so the bin may be read anew at each port. -/
theorem foldl_nocalCounted (n : Nat) (l : List (Nat × Int)) (s : State) :
    l.foldl (fun s e => nocalCounted (s.txl n).bin s e) s = l.foldl (nocalCounted (s.txl n).bin) s := by
  induction l generalizing s with
  | nil => rfl
  | cons e l ih =>
    rw [List.foldl_cons, ih, txl_nocalCounted]
    rfl

/-- Each port of a lane's transmission without coefficients for its bin has counted it at its air start. -/
def airCounted (s : State) (n : Nat) : State := (s.txl n).ports.foldl (nocalCounted (s.txl n).bin) (s.advance (s.txl n).airStart)

theorem airCounted_eq (s : State) (n : Nat) :
    (s.txl n).ports.foldl (fun s e => nocalCounted (s.txl n).bin s e) (s.advance (s.txl n).airStart) = airCounted s n := by
  rw [foldl_nocalCounted, txl_advance]
  rfl

/-- A lane's transmission is on air (R85 step 4). -/
def onAir (s : State) (n : Nat) (l : TxLane) : State :=
  (txLanePut s n { l with stage := 4 }).emit .air ([n, l.bin, l.airStart] ++ l.ports.flatMap fun e => [e.1, wrapOf 8 e.2])
    ((ppdu l.words l.pre l.fcs4 l.wake l.frame).map (BitVec.ofNat 8 ·))

theorem execTxAirStart_request {n : Fin 96} (hs : (s.txl n).stage = 3) (hc : (s.txl n).cut = 0) (ho : (s.txl n).owner = 2) :
    exec (.txAirStart n) s = .next (blankSettle (onAir (airCounted s n) n (s.txl n))) := by
  have hack : ¬ (s.txl n).owner = 1 := by omega
  show execTxAirStart n s = _
  simp only [execTxAirStart, onAir, hs, hc, hack, ne_eq, not_true_eq_false, decide_false, Bool.or_self, Bool.false_eq_true, if_false]
  rfl

theorem execTxEnd_sending {n : Fin 96} (hs : (s.txl n).stage = 4) (hc : (s.txl n).cut = 0) :
    exec (.txEnd n) s = .next (blankSettle (txLanePut (s.advance (s.txl n).airEnd) n { s.txl n with stage := 5 })) :=
  if_neg (by simp [hs, hc])

/-- FEM_PA is off, and the ports of a lane head for their base states (R85 steps 6 and 7). -/
def rampedDown (s : State) (n : Nat) (taps : List (Nat × Nat × List Word)) : State :=
  let t := coxReqRefresh (s.advance ((s.txl n).airEnd + 1000))
  portsRelease (couplingRefine (t.advance ((s.txl n).airEnd + 1000 + ((s.txl n).ports.map fun e => portPaLag t e.1).foldl max 0))
    (s.txl n).band ((s.txl n).ports.map (·.1)) taps) n

/-- The request of a lane goes on or ends; a lane without one is free. -/
def laneSent (s : State) (n : Nat) (l : TxLane) : State :=
  match s.req l.ref with
  | some q => reqSent s l.ref q n l.airEnd
  | none => txLaneFree s n

theorem execTxRampDownEnd_request {n : Fin 96} (hs : (s.txl n).stage = 5) (ho : (s.txl n).owner = 2) (taps : List (Nat × Nat × List Word)) :
    exec (.txRampDownEnd ⟨n, taps⟩) s = .next (blankSettle (retuneWaiting (coxReqRefresh (laneSent (rampedDown s n taps) n (s.txl n))))) := by
  show execTxRampDownEnd ⟨n, taps⟩ s = _
  simp only [execTxRampDownEnd, hs, ho, ne_eq, not_true_eq_false, if_false, if_true]
  rfl

/-! ### The coexistence commands (R99, R100) -/

theorem execCoexReqRise_early {n : Fin 96} (grant : Bool) (hc : (s.txl n).committed = true) (hs : (s.txl n).stage ≤ 2) :
    exec (.coexReqRise ⟨n, grant⟩) s =
      .next (coxRise (coxLevel (s.advance ((s.txl n).airStart - 1000 * s.fld COX_CTL_REQ_LEAD)) grant) n) :=
  if_pos (by simp [hc, hs])

theorem execCoexGntWithdrawn_disabled (h : s.flag COX_CTL_EN = false) : exec .coexGntWithdrawn s = .next (s.setFld COX_STAT_GNT 0) := by
  refine congrArg ok (coxGate_disabled ?_)
  rw [State.flag, fld_setFld_ne _ _ _ _ (by decide)]
  exact h

/-- The lanes that the gate has cut, and the ports whose software transmission it has cut. -/
def lanesCut (s : State) : List Nat := (s.txLanes.filter (·.2.cut = 7)).map (·.1)
def testsCut (s : State) : List Nat := (allPorts s).filter fun p => (s.portx p).testCut.isSome

theorem execCoexCutReport_due (h : lanesCut s ≠ [] ∨ ∃ p < s.part.ports, (s.portx p).testCut.isSome = true) :
    exec .coexCutReport s = .next (blankSettle (retuneWaiting
      ((testsCut s).foldl testCutReport ((lanesCut s).foldl cutReport (s.advance (s.venue + 1000)))))) := by
  refine if_neg fun hnone => ?_
  obtain ⟨hlanes, htests⟩ := (Bool.and_eq_true _ _).mp hnone
  rcases h with h | ⟨p, hp, hcut⟩
  · exact h (List.isEmpty_iff.mp hlanes)
  · have hmem : p ∈ testsCut s := List.mem_filter.mpr ⟨List.mem_range.mpr hp, hcut⟩
    exact List.ne_nil_of_mem hmem (List.isEmpty_iff.mp htests)

/-! ### The commands -/

/-- Settles O9: each step of a lane by the equation of its function, and the gate by what it leaves. -/
theorem transmitLaneCommandsComplete : Obligations.TransmitLaneCommandsComplete := by
  refine ⟨fun s n hs ho hc => ⟨_, execTxPortWalk_request hs ho hc, _, rfl, rfl⟩,
    fun s n g hs hc he => ⟨_, txPaOn_disabled g hs hc he, _, rfl, rfl⟩,
    fun s n g hs hc hgov hg ho => ⟨_, txPaOn_denied hs hc hgov hg ho, _, rfl, rfl⟩,
    fun s n hs hc ho => ⟨_, execTxAirStart_request hs hc ho, _, (airCounted_eq s n).symm, rfl⟩,
    fun s n hs hc => execTxEnd_sending hs hc,
    fun s n taps hs ho => ⟨_, execTxRampDownEnd_request hs ho taps, _, rfl, rfl⟩,
    fun s n grant hc hs => execCoexReqRise_early grant hc hs, fun s he => ?withdrawnDisabled,
    fun s he => ⟨_, rfl, coxGntWithdrawn_stops he⟩, fun s h => execCoexCutReport_due h⟩
  case withdrawnDisabled =>
    exact ⟨_, execCoexGntWithdrawn_disabled he, fld_setFld _ _ _ (by decide), rfl, rfl,
      keeps_setFld (keeps_refl s _) (List.mem_singleton_self _) _⟩

end Sys2Proof.Architecture
end

section
/-! SUPPORT. Capture and the spatial processor: gain steps, detections, window groups, separation, blanking and signatures (R110 to R131). -/

namespace Sys2Proof.Architecture

open Sys2Proof.Machine

variable {s : State}

/-! ### Gain steps (R110, R111) -/

theorem fld_gainStep (s : State) (p t : Nat) {idx : Nat} (h : idx < 32) : (gainStep s p idx t).fld (CAP_PGAIN_IDX p) = idx := by
  have hne : (CAP_PCNT_STEPS p).addr ≠ (CAP_PGAIN_IDX p).addr := by
    simp only [CAP_PCNT_STEPS, CAP_PGAIN_IDX, CAP_PCNT, CAP_PGAIN]
    omega
  exact (fld_bump_ne _ _ _ (.inl hne)).trans (fld_setFld_of_lt _ (by simp [CAP_PGAIN_IDX]) h)

theorem portx_gainStep (s : State) (p idx t : Nat) : (gainStep s p idx t).portx p = { s.portx p with
    compOld := compIndex s p (convSample (portBand s p) t)
    compAt := ((s.portx p).compAt.filter fun e => convSample (portBand s p) t < e.1) ++
      [(convSample (portBand s p) t + s.fld (CAP_PALIGN_ALIGN p), idx)] } :=
  (portx_congr (ports_bump _ _) p).trans ((portx_setPortx s p _ p).trans (if_pos rfl))

/-- The compensator takes the index of a step ALIGN samples after the deciding one. -/
theorem compAt_gainStep (s : State) (p idx t : Nat) :
    (convSample (portBand s p) t + s.fld (CAP_PALIGN_ALIGN p), idx) ∈ ((gainStep s p idx t).portx p).compAt := by
  rw [portx_gainStep]
  exact List.mem_append_right _ (List.mem_singleton_self _)

@[simp] theorem act_advance (s : State) (v : Nat) (f : Field) : (s.advance v).act f = s.act f := fld_advance s v _

theorem execAagcStepDown_steps {p : Fin 48} {below t : Nat} (hl : gainLoop (s.advance t) p t = true)
    (hb : below ≤ s.act CAP_AAGC_HI_THR) (hi : s.fld (CAP_PGAIN_IDX p) < 20) : exec (.aagcStepDown p below false t) s =
      .next (gainStep (s.advance t) p (s.fld (CAP_PGAIN_IDX p) + 1) t) := by
  refine (if_pos ?loop).trans (congrArg ok ?index)
  case loop => simp [hl, hb, hi]
  case index => simp

theorem execAagcStepUp_steps {p : Fin 48} {below held t : Nat} (hl : gainLoop (s.advance t) p t = true)
    (hb : s.act CAP_AAGC_LO_THR < below) (hh : s.act CAP_AAGC_HOLD_UP ≤ held) (hi : 0 < s.fld (CAP_PGAIN_IDX p)) :
    exec (.aagcStepUp p below held t) s = .next (gainStep (s.advance t) p (s.fld (CAP_PGAIN_IDX p) - 1) t) := by
  refine (if_pos ?loop).trans (congrArg ok ?index)
  case loop => simp [hl, hb, hh, hi]
  case index => simp

/-! ### Detections (R119 to R122) -/

@[simp] theorem detOff_advance (s : State) (v : Nat) : (s.advance v).detOff = s.detOff := by
  rw [State.advance, passTo_eq]

@[simp] theorem binPresent_advance (s : State) (v k : Nat) : binPresent (s.advance v) k = binPresent s k := by
  rw [State.advance, passTo_eq]
  rfl

@[simp] theorem profWords_advance (s : State) (v n : Nat) : profWords (s.advance v) n = profWords s n := by
  rw [State.advance, passTo_eq]
  rfl

theorem length_sigOf_le (r : Nat) (l : List (Nat × Int × Int)) : (sigOf r l).length ≤ 8 := by
  rw [sigOf, List.length_mapIdx, List.length_take]
  exact Nat.min_le_left _ _

/-- Window groups are kept outside the registers. -/
theorem regs_groupAdd (s : State) (k : Nat) (d : Detection) : (groupAdd s k d).regs = s.regs := by
  unfold groupAdd
  dsimp only
  split <;> rfl

/-- The detection that a correlator of bin k makes out of its outputs, with the free value that rounds its signature. -/
def detectionOf (s : State) (k prof start : Nat) (snr : Int) (ports : List Nat) (outs : List (Int × Int)) : Detection :=
  let sig := sigOf s.draw.1 (vecAway (vecBasis (residualOf s.draw.2 k)) (beamSums s.draw.2 k (ports.zip outs)))
  { prof := prof, start := start, snr := snr, beam := (sig.headD (0, 0)).1, sig := sig }

/-- Bin k detects with a profile's correlator, whose metric crosses the threshold, and is not blanked at the peak (R120, R122). -/
structure DetectionOpen (s : State) (k : Fin 348) (prof : Fin 16) (rho start peak : Nat) : Prop where
  on : s.detOff = false
  present : binPresent s k = true
  det : binDet s k = true
  band : detOn s k = true
  carried : (binProfs s k).contains prof.val = true
  valid : pwValid (profWords s prof) = true
  crossed : groupThr s k start ≤ rho
  heard : blankedAt s k peak = false

/-- DETECT of a bin counts in a register of its own. -/
theorem flag_joint_counted (s : State) (k : Nat) (d : Detection) :
    (groupAdd (s.bump (SPX_BIN0_DETECT k)) k d).flag STK_STAT_JOINT = s.flag STK_STAT_JOINT := by
  have hne : (SPX_BIN0_DETECT k).addr ≠ STK_STAT_JOINT.addr := by
    simp only [SPX_BIN0_DETECT, STK_STAT_JOINT, SPX_BIN0, STK_STAT]
    omega
  rw [State.flag, fld_congr (regs_groupAdd _ k d), fld_bump_ne _ _ _ (.inl hne)]
  rfl

/-- Outside joint combining an open detection is counted and joins its group, and no cell tells of it. -/
theorem execDetection_alone {p : State} {k : Fin 348} {prof : Fin 16} {rho start : Nat}
    (hp : p = s.advance (start + detWinNs (profWords s prof)))
    (h : DetectionOpen p k prof rho start (start + detWinNs (profWords s prof)))
    (hj : s.flag STK_STAT_JOINT = false) (snr : Int) (ports : List Nat) (outs : List (Int × Int)) :
    exec (.detection k prof rho start snr ports outs) s =
      .next (groupAdd (p.draw.2.bump (SPX_BIN0_DETECT k)) k (detectionOf p k prof start snr ports outs)) := by
  obtain ⟨hon, hpresent, hdet, hband, hcarried, hvalid, hcrossed, hheard⟩ := h
  have hjoint :
      (groupAdd (p.draw.2.bump (SPX_BIN0_DETECT k)) k (detectionOf p k prof start snr ports outs)).flag STK_STAT_JOINT = false := by
    rw [flag_joint_counted]
    subst hp
    exact (flag_advance s _ _).trans hj
  subst hp
  refine (if_pos ?declared).trans (congrArg ok (if_neg fun hcell => ?alone))
  case declared =>
    rw [hon, hpresent, hdet, hband, hcarried, hvalid, decide_eq_true hcrossed, hheard]
    rfl
  case alone => exact Bool.false_ne_true (hjoint.symm.trans (Bool.and_elim_left hcell))

/-! ### Window groups and separation (R122, R123, R126) -/

@[simp] theorem binGroups_setGroups (s : State) (k : Nat) (l : List Group) (j : Nat) :
    (s.setGroups k l).binGroups j = if k = j then l else s.binGroups j := stGet_set ..

@[simp] theorem binGroups_advance (s : State) (v k : Nat) : (s.advance v).binGroups k = s.binGroups k := by
  rw [State.advance, passTo_eq]
  rfl

theorem keeps_setGroups {t : State} {l : List Nat} (h : keeps s t l) (k : Nat) (g : List Group) : keeps s (t.setGroups k g) l := h

/-- A group of a bin closes. -/
def groupClosed (l : List Group) (g : Group) : List Group := l.map fun h => if h = g then { h with closed := true } else h

theorem execWindowGroupClose_due {k : Fin 348} {g : Group} (h : groupDue (s.binGroups k) = some g) : exec (.windowGroupClose k) s =
    .next ((s.advance g.closeAt).setGroups k (groupClosed (s.binGroups k) g)) := by
  show execWindowGroupClose k s = _
  simp only [execWindowGroupClose, h, binGroups_advance]
  rfl

theorem execSeparation_closed {k : Fin 348} {g : Group} (h : (s.binGroups k).find? (·.closed) = some g)
    (hj : s.flag STK_STAT_JOINT = false) : exec (.separation k) s =
      .next ((groupsBefore (s.advance (g.closeAt + 1000)) k g ++ [(k.val, g)]).foldl (fun s e => separateGroup s e.1 e.2)
        (s.advance (g.closeAt + 1000))) := by
  show execSeparation k s = _
  simp only [execSeparation, h, hj]
  rfl

/-! ### Blanking (R116) -/

theorem execBlankingStart_due {lane : Fin 96} {b : Blank}
    (h : s.blanks.find? (fun b => b.lane == lane.val + 1 && b.blanks && !b.applied) = some b) :
    exec (.blankingStart lane) s = .next (blankSettle (s.advance b.start)) := by
  show execBlankingStart lane s = _
  simp only [execBlankingStart, h]
  rfl

/-! ### Signatures (R129, R131) -/

@[simp] theorem length_leBytes (n v : Nat) : (leBytes n v).length = n := by
  induction n generalizing v with
  | zero => rfl
  | succ n ih => rw [leBytes, List.length_cons, ih]

/-- The octets of a committed record between GEN and GEN_END. -/
theorem rd8_sigCommit (s : State) (n : Nat) (body : List Byte) (i : Nat) (h : i < body.length) :
    (sigCommit s n body).rd8 (sigAddr n + 2 + i) = body[i] := by
  rw [sigCommit, Nat.add_assoc, rd8_wrN _ _ _ _ (by simp only [List.length_append, length_leBytes]; omega)]
  simp [h]

/-- A commit writes the record of 64 octets alone. -/
theorem rd8_sigCommit_ne (s : State) (n : Nat) {body : List Byte} (hb : body.length = 60) {a : Nat}
    (h : a < sigAddr n ∨ sigAddr n + 64 ≤ a) : (sigCommit s n body).rd8 a = s.rd8 a :=
  rd8_wrN_ne _ _ _ (by simpa [hb] using h)

/-- The octets of a record between GEN and GEN_END, with VALID clear. -/
def sigCleared (s : State) (n : Nat) : List Byte :=
  (s.rdN (sigAddr n + 2) 60).set 0 (BitVec.ofNat 8 ((s.rd8 (sigAddr n + 2)).toNat / 2 * 2))

theorem length_sigCleared (s : State) (n : Nat) : (sigCleared s n).length = 60 := by simp [sigCleared]

theorem sigInvalidate_valid {n : Nat} (h : sigValid s n = true) : sigInvalidate s n = sigCommit s n (sigCleared s n) := if_pos h

theorem sigValid_sigCommit_cleared (s : State) (n : Nat) : sigValid (sigCommit s n (sigCleared s n)) n = false := by
  have hlen : 0 < (sigCleared s n).length := by rw [length_sigCleared]; omega
  have hflags : (sigCommit s n (sigCleared s n)).rd8 (sigAddr n + 2) = BitVec.ofNat 8 ((s.rd8 (sigAddr n + 2)).toNat / 2 * 2) :=
    (rd8_sigCommit s n _ 0 hlen).trans (List.getElem_set_self _)
  rw [sigValid, hflags, bitOf, BitVec.toNat_ofNat, beq_eq_false_iff_ne]
  omega

/-! ### The commands -/

/-- Settles O10: each command by the equation of its function where its condition holds, and what a gain step and a cleared
signature leave. -/
theorem spatialCommandsComplete : Obligations.SpatialCommandsComplete := by
  refine ⟨fun s p below t hl hb hi => execAagcStepDown_steps hl hb hi,
    fun s p below held t hl hb hh hi => execAagcStepUp_steps hl hb hh hi,
    fun s p idx t h => ⟨fld_gainStep s p t h, compAt_gainStep s p idx t⟩, ?detection, fun s k g h => ?close,
    fun s k g h hj => ⟨_, execSeparation_closed h hj, _, rfl, rfl⟩, fun s lane b h => execBlankingStart_due h,
    fun s n h => ?invalidate, fun s => ⟨_, rfl, rfl, rfl, fun _ => rfl⟩, fun s => rfl, fun s => ⟨_, rfl, rfl, rfl⟩⟩
  case detection =>
    rintro s k prof rho start snr ports outs _ rfl hon hpresent hdet hband hcarried hvalid hcrossed hheard hjoint
    refine ⟨_, execDetection_alone rfl ⟨?on, ?present, hdet, hband, hcarried, ?valid, hcrossed, hheard⟩ hjoint snr ports outs,
      _, rfl, rfl, rfl, length_sigOf_le _ _, rfl⟩
    case on => rw [detOff_advance, hon]
    case present => rw [binPresent_advance, hpresent]
    case valid => rw [profWords_advance, hvalid]
  case close =>
    refine ⟨_, execWindowGroupClose_due h, (binGroups_setGroups ..).trans (if_pos rfl), ?_⟩
    exact keeps_setGroups (advance_keeps s _ _) _ _
  case invalidate =>
    refine ⟨_, congrArg ok (sigInvalidate_valid h), sigValid_sigCommit_cleared s n, fun a ha => ?_⟩
    exact rd8_sigCommit_ne s n (length_sigCleared s n) ha

end Sys2Proof.Architecture
end

section
/-! SUPPORT. Receive lanes and the frames they feed: what is kept of each, and the release of a lane (R125, R127). -/

namespace Sys2Proof.Architecture

open Sys2Proof.Machine

variable {s t : State} {n : Nat} {x : RxLane}

/-! ### Entries of a store -/

theorem find?_stInsert {α : Type} (v : α) (m : Store α) (k j : Nat) :
    ((stInsert v m k).find? (·.1 = j)).map (·.2) = if k = j then some v else (m.find? (·.1 = j)).map (·.2) := by
  induction m with
  | nil => by_cases h : k = j <;> simp [stInsert, h]
  | cons e m ih =>
    rw [stInsert]
    split
    · by_cases h : k = j <;> simp [h]
    · split
      · subst_vars
        by_cases h : e.1 = j <;> simp [h]
      · by_cases h : e.1 = j
        · have hkj : ¬ k = j := by omega
          simp [h, hkj]
        · simp [h, ih]

theorem find?_stErase {α : Type} (m : Store α) (k : Nat) : (stErase m k).find? (·.1 = k) = none := by
  induction m with
  | nil => rfl
  | cons e m ih =>
    rw [stErase]
    split
    · exact ih
    · rwa [List.find?_cons_of_neg (by simpa using ‹¬ e.1 = k›)]

/-! ### Lanes and frames -/

@[simp] theorem rxl_setRxl (s : State) (n : Nat) (x : RxLane) (j : Nat) : (s.setRxl n x).rxl j = if n = j then some x else s.rxl j :=
  find?_stInsert ..

@[simp] theorem frame_setFrame (s : State) (f : Nat) (x : RxFrame) (j : Nat) :
    (s.setFrame f x).frame j = if f = j then some x else s.frame j := find?_stInsert ..

theorem rxl_congr (h : t.rxLanes = s.rxLanes) (n : Nat) : t.rxl n = s.rxl n := by unfold State.rxl; rw [h]

theorem frame_congr (h : t.frames = s.frames) (f : Nat) : t.frame f = s.frame f := by unfold State.frame; rw [h]

/-- A lane's state is a field of its status register. -/
theorem rxState_congr (h : t.reg (PHY_RXSTAT n) = s.reg (PHY_RXSTAT n)) : rxState t n = rxState s n := congrArg (fieldGet · 0 2) h

@[simp] theorem rxl_advance (s : State) (v n : Nat) : (s.advance v).rxl n = s.rxl n := by
  rw [State.advance, passTo_eq]
  rfl

@[simp] theorem frame_advance (s : State) (v f : Nat) : (s.advance v).frame f = s.frame f := by
  rw [State.advance, passTo_eq]
  rfl

@[simp] theorem blanks_advance (s : State) (v : Nat) : (s.advance v).blanks = s.blanks := by
  rw [State.advance, passTo_eq]

@[simp] theorem rxState_advance (s : State) (v n : Nat) : rxState (s.advance v) n = rxState s n := fld_advance ..

/-! ### The release of a lane (R127) -/

/-- Without blanking intervals none is due. -/
theorem blankSettle_of_nil (h : s.blanks = []) : blankSettle s = s := by
  unfold blankSettle blankDue
  rw [h]
  rfl

/-- A cell that is sent is an output. -/
theorem cellSend_eq (s : State) (type dst : Nat) (body : List Byte) :
    cellSend s type dst body = { s with out := (cellSend s type dst body).out } := by
  unfold cellSend
  split <;> rfl

@[simp] theorem regs_cellSend (s : State) (type dst : Nat) (body : List Byte) : (cellSend s type dst body).regs = s.regs := by
  rw [cellSend_eq]
@[simp] theorem frames_cellSend (s : State) (type dst : Nat) (body : List Byte) : (cellSend s type dst body).frames = s.frames := by
  rw [cellSend_eq]
@[simp] theorem blanks_cellSend (s : State) (type dst : Nat) (body : List Byte) : (cellSend s type dst body).blanks = s.blanks := by
  rw [cellSend_eq]

/-- The lane is free, and the frames of the link controller and the blanking intervals are left as they were. -/
structure LaneFreed (s t : State) (n : Nat) : Prop where
  rxl : t.rxl n = none
  free : rxState t n = 0
  frames : t.frames = s.frames
  blanks : t.blanks = s.blanks

theorem laneRelease_freed (hn : n < 384) (h : rxState s n ≠ 0) : LaneFreed s (laneRelease s n) n := by
  have hpool : SPX_POOL ≠ PHY_RXSTAT n := by simp only [SPX_POOL, PHY_RXSTAT]; omega
  have hstat : PHY_STAT ≠ PHY_RXSTAT n := by simp only [PHY_STAT, PHY_RXSTAT]; omega
  rw [laneRelease, if_neg h]
  refine ⟨?rxl, ?free, ?frames, ?blanks⟩
  case rxl => exact (rxl_congr (rxLanes_setFlds ..) n).trans (congrArg (Option.map _) (find?_stErase ..))
  case free =>
    have hrefresh (u : State) : rxState (laneRefresh u) n = rxState u n :=
      rxState_congr (reg_setFlds_ne u _ (by simp [SPX_POOL_POOL_USED, PHY_STAT_RX_INUSE, hpool, hstat]))
    have hcleared (u : State) : (u.setReg (PHY_RXSTAT n) 0).reg (PHY_RXSTAT n) = 0 := by simp
    exact (hrefresh _).trans (congrArg (fieldGet · 0 2) (hcleared _))
  case frames => exact frames_setFlds ..
  case blanks => exact blanks_setFlds ..

/-- What a joint lane that closes tells its stack, and the load that it gives back (R261, R263). -/
def closeTold (s : State) (n reason : Nat) (x : RxLane) : State :=
  if x.joint then
    (cellSend s 4 15 (leBytes 2 (laneTag s n) ++ leBytes 1 reason)).setFlds
      [(STK_LOAD_LOAD0, s.fld STK_LOAD_LOAD0 - (if stkMembers s - 1 - stkHalf s = 0 then 0 else stkUnits (binBand (rxBin s n)))),
       (STK_LOAD_LOAD1, s.fld STK_LOAD_LOAD1 - stkUnits (binBand (rxBin s n)))]
  else s

/-- The partial sums of a lane are forgotten. -/
def partsDropped (s : State) (n : Nat) : State := { s with jointParts := stErase s.jointParts (laneTag s n) }

theorem laneClose_eq (hx : s.rxl n = some x) (reason : Nat) :
    laneClose s n reason = laneRelease (partsDropped (closeTold s n reason x) n) n := by
  rw [laneClose, hx]
  rfl

theorem frames_closeTold (s : State) (n reason : Nat) (x : RxLane) : (closeTold s n reason x).frames = s.frames := by
  unfold closeTold
  split
  · exact (frames_setFlds ..).trans (frames_cellSend ..)
  · rfl

theorem blanks_closeTold (s : State) (n reason : Nat) (x : RxLane) : (closeTold s n reason x).blanks = s.blanks := by
  unfold closeTold
  split
  · exact (blanks_setFlds ..).trans (blanks_cellSend ..)
  · rfl

/-- The stack's load stands in a register of its own. -/
theorem rxState_closeTold (hn : n < 384) (s : State) (reason : Nat) (x : RxLane) : rxState (closeTold s n reason x) n = rxState s n := by
  have hload : STK_LOAD ≠ PHY_RXSTAT n := by simp only [STK_LOAD, PHY_RXSTAT]; omega
  have hset (u : State) (v w : Nat) : rxState (u.setFlds [(STK_LOAD_LOAD0, v), (STK_LOAD_LOAD1, w)]) n = rxState u n :=
    rxState_congr (reg_setFlds_ne u _ (by simp [STK_LOAD_LOAD0, STK_LOAD_LOAD1, hload]))
  unfold closeTold
  split
  · exact (hset ..).trans (fld_congr (regs_cellSend ..) _)
  · rfl

theorem rxState_partsDropped (s : State) (n : Nat) : rxState (partsDropped s n) n = rxState s n := fld_congr rfl _

theorem laneClose_freed (hn : n < 384) (hx : s.rxl n = some x) (h : rxState s n ≠ 0) (reason : Nat) :
    LaneFreed s (laneClose s n reason) n := by
  rw [laneClose_eq hx]
  have hbusy : rxState (partsDropped (closeTold s n reason x) n) n ≠ 0 := by rwa [rxState_partsDropped, rxState_closeTold hn]
  obtain ⟨hrxl, hfree, hframes, hblanks⟩ := laneRelease_freed hn hbusy
  exact ⟨hrxl, hfree, hframes.trans (frames_closeTold ..), hblanks.trans (blanks_closeTold ..)⟩

end Sys2Proof.Architecture
end

section
/-! SUPPORT. The commands of the physical layer's lanes: sync, header, pilots, aborts and the end of a frame (R149 to R170). -/

namespace Sys2Proof.Architecture

open Sys2Proof.Machine

variable {s : State} {x : RxLane}

/-! ### Sync search (R155, R156) -/

/-- The digital AGC freezes within 1 dB of the gain that meets TARGET (R128). -/
theorem dagcGain_mem_Icc (x : RxLane) (level : Int) (r : Nat) :
    dagcGain x level r ∈ Set.Icc (level - x.target - 2) (level - x.target + 2) := by
  simp only [dagcGain, Set.mem_Icc]
  omega

/-- Lane n receives, with the gain at which its digital AGC has frozen and the errors of its sync field, counted. -/
def syncMatched (s : State) (n : Nat) (x : RxLane) (errs time : Nat) (g : Int) : State :=
  ((s.setRxl n { x with syncTime := time, gain := some g }).setFlds
    [(PHY_RXSTAT_STATE n, 2), (PHY_RXSTAT_SYNC_ERR n, min errs 7)]).bump (PHY_CNT0_SYNCOK x.det.prof)

theorem execSyncMatch_fits {n : Fin 384} {e0 e1 : Nat} {t : SyncInstant} (hx : s.rxl n = some x) (hs : rxState s n = 1)
    (hf : syncFits x e0 e1 = true) : exec (.syncMatch n e0 e1 t) s =
      .next (syncMatched (s.advance t.time).draw.2 n x (e0 + e1) t.time (dagcGain x t.level (s.advance t.time).draw.1)) := by
  show execSyncMatch n e0 e1 t s = _
  simp only [execSyncMatch, hx, hs, hf, decide_true, Bool.and_self, if_true]
  rfl

section
variable {n errs time : Nat} {g : Int}

theorem rxl_syncMatched : (syncMatched s n x errs time g).rxl n = some { x with syncTime := time, gain := some g } :=
  ((rxl_congr (rxLanes_bump ..) n).trans (rxl_congr (rxLanes_setFlds ..) n)).trans ((rxl_setRxl ..).trans (if_pos rfl))

theorem syncMatched_keeps : keeps s (syncMatched s n x errs time g) [PHY_RXSTAT n, PHY_CNT0 x.det.prof] := by
  have hset : keeps s (s.setRxl n { x with syncTime := time, gain := some g }) [PHY_RXSTAT n, PHY_CNT0 x.det.prof] := keeps_refl s _
  refine keeps_bump (keeps_setFlds hset ?_) ?_
  · simp [PHY_RXSTAT_STATE, PHY_RXSTAT_SYNC_ERR]
  · simp [PHY_CNT0_SYNCOK]

/-- A profile's sync counter stands in no lane's status. -/
theorem fld_rxstat_syncMatched {f : Field} (hf : f.addr = PHY_RXSTAT n) :
    (syncMatched s n x errs time g).fld f =
      ((s.setFld (PHY_RXSTAT_STATE n) 2).setFld (PHY_RXSTAT_SYNC_ERR n) (min errs 7)).fld f := by
  refine fld_bump_ne _ _ _ (.inl ?_)
  rw [hf]
  simp only [PHY_CNT0_SYNCOK, PHY_CNT0, PHY_RXSTAT]
  omega

theorem rxState_syncMatched : (syncMatched s n x errs time g).fld (PHY_RXSTAT_STATE n) = 2 := by
  rw [fld_rxstat_syncMatched rfl, fld_setFld_ne _ _ _ _ (by simp [PHY_RXSTAT_STATE, PHY_RXSTAT_SYNC_ERR])]
  exact fld_setFld_of_lt _ (by simp [PHY_RXSTAT_STATE]) (by simp [PHY_RXSTAT_STATE])

theorem syncErr_syncMatched : (syncMatched s n x errs time g).fld (PHY_RXSTAT_SYNC_ERR n) = min errs 7 := by
  rw [fld_rxstat_syncMatched rfl]
  exact fld_setFld_of_lt _ (by simp [PHY_RXSTAT_SYNC_ERR]) (show min errs 7 < 8 by omega)

end

theorem syncMatch_completes {n : Fin 384} {e0 e1 time : Nat} {level : Int} (hx : s.rxl n = some x) (hs : rxState s n = 1)
    (hf : syncFits x e0 e1 = true) : completes (.syncMatch n e0 e1 ⟨time, level⟩) s fun t =>
      t.fld (PHY_RXSTAT_STATE n) = 2 ∧ t.fld (PHY_RXSTAT_SYNC_ERR n) = min (e0 + e1) 7 ∧
      (∃ g : Int, level - x.target - 2 ≤ g ∧ g ≤ level - x.target + 2 ∧ t.rxl n = some { x with syncTime := time, gain := some g }) ∧
      keeps s t [PHY_RXSTAT n, PHY_CNT0 x.det.prof] := by
  obtain ⟨hlow, hhigh⟩ := Set.mem_Icc.mp (dagcGain_mem_Icc x level (s.advance time).draw.1)
  have hdraw : keeps s (s.advance time).draw.2 [PHY_RXSTAT n, PHY_CNT0 x.det.prof] := advance_keeps s time _
  exact ⟨_, execSyncMatch_fits hx hs hf, rxState_syncMatched, syncErr_syncMatched, ⟨_, hlow, hhigh, rxl_syncMatched⟩,
    keeps_trans hdraw syncMatched_keeps⟩

theorem execSyncTimeout_searching {n : Fin 384} (hx : s.rxl n = some x) (hs : rxState s n = 1) : exec (.syncTimeout n) s =
    .next (laneEndEarly ((s.advance (x.det.start + detWinNs x.words + (syncTimeout x * symNs3 x.words + 2) / 3)).bump
      (PHY_CNT0_SYNCTO x.det.prof)) n) := by
  show execSyncTimeout n s = _
  simp only [execSyncTimeout, hx, hs, if_true]
  rfl

/-! ### Header and pilots (R149, R160) -/

/-- A header's octets as the checks read them: de-whitened in TLP (R148). -/
def headerOctets (x : RxLane) (l : List Byte) : List Byte :=
  if pwMode x.words = 2 then octetsFrom (whiten 0 (bitsLsb l)) else l

/-- What a lane holds after a good header (R151). -/
def laneHeaded (x : RxLane) (len : Nat) (fcs4 white : Bool) : RxLane :=
  { x with headed := true, len := len, fcs4 := fcs4, white := white
           endAt := x.syncTime + (bodySymbols x.words len * symNs3 x.words + 2) / 3 }

section
variable {n : Fin 384} {l : List Byte} (hx : s.rxl n = some x) (hs : rxState s n = 2) (hh : x.headed = false)
  (hl : headerLen x.words ≤ l.length)
include hx hs hh hl

theorem execHeaderCheck_good {len : Nat} {fcs4 white : Bool} (h : headerOf x (headerOctets x l) = .ok (len, fcs4, white)) :
    exec (.headerCheck n l) s = .next (s.setRxl n (laneHeaded x len fcs4 white)) := by
  rw [headerOctets] at h
  show execHeaderCheck n l s = _
  simp only [execHeaderCheck, hx, hs, hh, hl, h, decide_true, Bool.not_false, Bool.and_self, if_true]
  rfl

theorem execHeaderCheck_bad {cnt : Nat → Field} (h : headerOf x (headerOctets x l) = .error cnt) :
    exec (.headerCheck n l) s = .next (laneEndEarly (s.bump (cnt x.det.prof)) n) := by
  rw [headerOctets] at h
  show execHeaderCheck n l s = _
  simp only [execHeaderCheck, hx, hs, hh, hl, h, decide_true, Bool.not_false, Bool.and_self, if_true]
  rfl

end

theorem execPilotLockLoss_over {n : Fin 384} {e0 e1 : Fin 256} (hx : s.rxl n = some x) (hs : rxState s n = 2) (hm : pwMode x.words = 2)
    (hen : bitOf x.trk 8 = true) (h0 : bitsOf x.trk 23 16 < e0.val) (h1 : bitsOf x.trk 23 16 < e1.val) :
    exec (.pilotLockLoss n e0 e1) s = .next (blankSettle (laneEndEarly (s.bump (PHY_CNT2_LOCKLOSS x.det.prof)) n)) := by
  show execPilotLockLoss n e0 e1 s = _
  simp only [execPilotLockLoss, hx, hs, hm, hen, h0, h1, decide_true, Bool.and_self, if_true]
  rfl

/-! ### Aborts (R169, R170) -/

theorem rxAbort_busy {n : Nat} (hx : s.rxl n = some x) (hs : rxState s n ≠ 0) :
    rxAbort s n = blankSettle (laneEndEarly (s.bump (PHY_CNT3_ABORTED x.det.prof)) n) := by
  rw [rxAbort, hx]
  exact if_neg hs

theorem txAbort_request {n : Nat} (ho : (s.txl n).owner = 2) (hs : (s.txl n).stage < 2) :
    txAbort s n = laneCut (s.bump (PHY_CNT3_ABORTED (s.txl n).prof)) n 0x0C := by
  have hack : ¬ (s.txl n).owner = 1 := by omega
  exact (if_neg hack).trans ((if_pos ho).trans (if_pos hs))

theorem txAbort_ack {n : Nat} (ho : (s.txl n).owner = 1) (hs : (s.txl n).stage < 2) : txAbort s n =
    frameGc ((ackWithdraw s (s.txl n).ref).bump (PHY_CNT3_ABORTED (s.txl n).prof)) (s.txl n).ref := by
  simp only [txAbort, ho, hs, if_true]

/-! ### The tests of a frame whose lane has been looked up (R180) -/

theorem lastTests_dropped {n : Nat} (hx : s.rxl n = some x) (hd : x.dropped = true) (psdu : List Byte) : lastTests s n psdu = s := by
  rw [lastTests, hx]
  exact if_pos hd

/-- A lane whose frame is in the link controller is not looked up again. -/
theorem lookup_again {n : Nat} (hx : s.rxl n = some x) (hf : x.frame ≠ 0) (l : List Byte) : lookup s n l = s := by
  rw [lookup, hx]
  exact if_pos (by simp [hf])

theorem securityTests_unsecured {f : Nat} {fr : RxFrame} (hf : s.frame f = some fr) (hs : fr.secured = false) (l : List Byte) :
    securityTests s f l = s := by
  rw [securityTests, hf]
  exact if_pos (by simp [hs])

theorem assocCheck_done {f : Nat} {fr : RxFrame} (hf : s.frame f = some fr) (ht : fr.test8 = false) (cmd : Nat) :
    assocCheck s f cmd = s := by
  rw [assocCheck, hf]
  exact if_pos (by simp [ht])

/-- The frame control field is in the first two octets. -/
theorem fcfOf_take {l : List Byte} {k : Nat} (h : 2 ≤ k) : fcfOf (l.take k) = fcfOf l := by
  have hle : leAt (l.take k) 0 2 = leAt l 0 2 := by
    rw [leAt, leAt, List.drop_zero, List.drop_zero, List.take_take, Nat.min_eq_left h]
  rw [fcfOf, fcfOf, hle]

/-- The octets of a PSDU before its FCS, where they are those of a Data frame without security that holds its addressing fields. -/
structure PlainData (mac : List Byte) : Prop where
  data : (fcfOf mac).type = 1
  plain : (fcfOf mac).sec = false
  control : 2 ≤ mac.length
  addressed : (fcfOf mac).addrEnd ≤ mac.length

/-- The frame f that a lane feeds has nothing left to test. -/
structure FrameTested (s : State) (n : Nat) (x : RxLane) (f : Nat) (fr : RxFrame) : Prop where
  lane : s.rxl n = some x
  kept : x.dropped = false
  feeds : x.frame = f + 1
  frame : s.frame f = some fr
  plain : fr.secured = false
  tested : fr.test8 = false

theorem lastTests_tested {n f : Nat} {fr : RxFrame} {psdu : List Byte} (h : FrameTested s n x f fr)
    (hm : PlainData (psdu.take (psdu.length - fcsLen x.fcs4))) : lastTests s n psdu = s := by
  obtain ⟨hx, hd, hf, hfr, hsec, htest⟩ := h
  obtain ⟨-, hplain, hcontrol, haddr⟩ := hm
  have hlookup := lookup_again hx (hf ▸ Nat.succ_ne_zero f)
  simp only [lastTests, hx, hd, hplain, Nat.not_lt.mpr hcontrol, Nat.not_lt.mpr haddr, hlookup, hf, Nat.add_sub_cancel,
    securityTests_unsecured hfr hsec, assocCheck_done hfr htest, decide_false, Bool.false_and, Bool.and_false, Bool.or_self,
    Bool.false_eq_true, if_false, ite_self]

/-! ### The end of a frame (R127, R161) -/

theorem execFrameEnd_dropped {n : Fin 384} {psdu : List Byte} (hx : s.rxl n = some x) (hh : x.headed = true)
    (hl : psdu.length = x.len) (hd : x.dropped = true) (hf : x.frame = 0) (stop : Nat) (cfo : Word) :
    exec (.frameEnd n psdu stop cfo) s = .next (blankSettle (laneClose (s.advance stop) n 0)) := by
  have hx' : (s.advance stop).rxl n = some x := (rxl_advance ..).trans hx
  show execFrameEnd n psdu stop cfo s = _
  simp only [execFrameEnd, hx, hh, hl, lastTests_dropped hx' hd, hx', hf, ne_eq, not_true_eq_false, decide_false, Bool.not_true,
    Bool.or_self, Bool.false_and, Bool.false_eq_true, if_true, if_false]
  rfl

/-- A frame as its lane hands it on (R161). -/
def frameHanded (s : State) (n : Nat) (fr : RxFrame) (psdu : List Byte) (stop : Nat) (cfo : Word) : RxFrame :=
  { fr with octets := psdu, endAt := stop, cfo := cfo.toNat % 65536, collided := s.flag (PHY_RXSTAT_COLLIDED n) }

theorem execFrameEnd_data {n : Fin 384} {l psdu : List Byte} {stop f : Nat} {fr : RxFrame} (h : FrameTested s n x f fr)
    (hh : x.headed = true) (hl : l.length = x.len) (hack : fr.ackLane = none) (hpsdu : psdu = rxOctets x.words x.white 0 l)
    (hm : PlainData (psdu.take (psdu.length - fcsLen x.fcs4))) (cfo : Word) : exec (.frameEnd n l stop cfo) s =
      .next (blankSettle (laneClose ((s.advance stop).setFrame f (frameHanded s n fr psdu stop cfo)) n 0)) := by
  have htype : (fcfOf psdu).type = 1 := by
    rw [← hm.data, fcfOf_take (hm.control.trans (List.length_take_le _ _))]
  have h' : FrameTested (s.advance stop) n x f fr :=
    { h with lane := (rxl_advance ..).trans h.lane, frame := (frame_advance ..).trans h.frame }
  subst hpsdu
  show execFrameEnd n l stop cfo s = _
  simp only [execFrameEnd, h.lane, hh, hl, lastTests_tested h' hm, h'.lane, h.feeds, Nat.add_sub_cancel, h'.frame, hack, htype, flag_advance,
    frameHanded, ne_eq, not_true_eq_false, decide_false, Bool.not_true, Bool.or_self, Bool.false_eq_true, if_false, Nat.succ_ne_zero,
    show ¬ 1 = 2 by decide, Bool.and_false]
  rfl

/-! ### The commands -/

/-- Settles O11: each command by the equation of its function where its condition holds, and the release of the lane by what it leaves. -/
theorem receiveLaneCommandsComplete : Obligations.ReceiveLaneCommandsComplete := by
  refine ⟨fun s n e0 e1 time level x hx hs hf _ => syncMatch_completes hx hs hf,
    fun s n x hx hs => execSyncTimeout_searching hx hs,
    fun s n x l len fcs4 white hx hs hh hl h => ⟨_, execHeaderCheck_good hx hs hh hl h, (rxl_setRxl ..).trans (if_pos rfl), ?headed⟩,
    fun s n x l cnt hx hs hh hl h => execHeaderCheck_bad hx hs hh hl h,
    fun s n x e0 e1 hx hs hm hen h0 h1 => execPilotLockLoss_over hx hs hm hen h0 h1, ?dropped, ?data,
    fun s n x hx hs => congrArg ok (rxAbort_busy hx hs), fun s n ho hs => congrArg ok (txAbort_request ho hs),
    fun s n ho hs => congrArg ok (txAbort_ack ho hs)⟩
  case headed => exact keeps_congr (keeps_refl s _) rfl rfl
  case dropped =>
    intro s n x psdu stop cfo hx hs hb hh hl hd hf
    have hfreed : LaneFreed (s.advance stop) (laneClose (s.advance stop) n 0) n :=
      laneClose_freed n.isLt ((rxl_advance ..).trans hx) (by simp [hs]) 0
    refine ⟨_, execFrameEnd_dropped hx hh hl hd hf stop cfo, ?_⟩
    rw [blankSettle_of_nil (hfreed.blanks.trans ((blanks_advance ..).trans hb))]
    exact ⟨hfreed.rxl, hfreed.free⟩
  case data =>
    rintro s n x l psdu mac stop f cfo fr hx hs hb hh hl hd hf hfr hsec htest hack hpsdu rfl hdata hplain hcontrol haddr
    have hfreed := laneClose_freed (s := (s.advance stop).setFrame f (frameHanded s n fr psdu stop cfo)) n.isLt
      ((rxl_advance ..).trans hx) (show rxState (s.advance stop) n ≠ 0 by simp [hs]) 0
    refine ⟨_, execFrameEnd_data ⟨hx, hd, hf, hfr, hsec, htest⟩ hh hl hack hpsdu ⟨hdata, hplain, hcontrol, haddr⟩ cfo, ?_⟩
    rw [blankSettle_of_nil (hfreed.blanks.trans ((blanks_advance ..).trans hb))]
    exact ⟨hfreed.rxl, hfreed.free, (frame_congr hfreed.frames f).trans ((frame_setFrame ..).trans (if_pos rfl))⟩

end Sys2Proof.Architecture
end

section
/-! SUPPORT. The update port of the node table, and the frame buffers (R177, R178, R198). -/

namespace Sys2Proof.Architecture

open Sys2Proof.Machine

variable {s t : State} {n : Nat}

/-! ### Octets of memory that were written -/

theorem rdN_wrN (s : State) (a : Nat) (l : List Byte) : (s.wrN a l).rdN a l.length = l := by
  induction l generalizing s a with
  | nil => rfl
  | cons b l ih =>
    have hfirst : ((s.wr8 a b).wrN (a + 1) l).rd8 a = b := by
      rw [rd8_wrN_ne _ _ _ (.inl (Nat.lt_succ_self a)), rd8_wr8, if_pos rfl]
    rw [State.wrN, List.length_cons, State.rdN, hfirst, ih]

theorem rdN_wrN_ne (s : State) {a b k : Nat} {l : List Byte} (h : b + k ≤ a ∨ a + l.length ≤ b) :
    (s.wrN a l).rdN b k = s.rdN b k := by
  induction k generalizing b with
  | zero => rfl
  | succ k ih =>
    have hfirst : (s.wrN a l).rd8 b = s.rd8 b := rd8_wrN_ne _ _ _ (by omega)
    rw [State.rdN, State.rdN, hfirst, ih (by omega)]

/-! ### A commit of a record (R45, R257) -/

theorem mem_cellSend (s : State) (type dst : Nat) (body : List Byte) : (cellSend s type dst body).mem = s.mem := by
  rw [cellSend_eq]

theorem mem_imageSend (s : State) (n : Nat) : (imageSend s n).mem = s.mem := by
  unfold imageSend
  split
  · rfl
  · split
    · rfl
    · exact mem_cellSend ..

/-- The octets of a commit stand in the record behind its GEN. -/
theorem rdN_recCommit (s : State) (n : Nat) (l : List Byte) : (recCommit s n 2 l).rdN (recAddr n + 2) l.length = l := by
  have hgen : (recPut s n 2 l).rdN (recAddr n + 2) l.length = (s.wrN (recAddr n + 2) l).rdN (recAddr n + 2) l.length :=
    rdN_wrN_ne _ (.inr (by rw [length_leBytes]))
  rw [recCommit, rdN_congr (mem_imageSend ..), hgen, rdN_wrN]

/-! ### The record image (R177, R214) -/

theorem length_updBody (s : State) (n : Nat) : (updBody s n).length = 62 := by
  simp [updBody, updImage]

/-- The image is made of registers and of the count of requests. -/
theorem updBody_congr (hr : t.regs = s.regs) (hq : t.reqs = s.reqs) (n : Nat) : updBody t n = updBody s n := by
  simp only [updBody, updImage, pendCount, hq, reg_congr hr]

theorem regs_sigInvalidate (s : State) (n : Nat) : (sigInvalidate s n).regs = s.regs := by
  unfold sigInvalidate
  split
  · exact regs_wrN ..
  · rfl

theorem reqs_sigInvalidate (s : State) (n : Nat) : (sigInvalidate s n).reqs = s.reqs := by
  unfold sigInvalidate
  split
  · exact reqs_wrN ..
  · rfl

/-! ### The result of an operation (R177) -/

theorem mem_updResult (s : State) (n res : Nat) : (updResult s n res).mem = s.mem := mem_setFlds ..

theorem result_updResult (s : State) (n : Nat) {res : Nat} (h : res < 8) : (updResult s n res).fld LNK_UPDSTAT_RESULT = res :=
  (fld_setFld_ne _ LNK_UPDSTAT_INDEX _ n (by decide)).trans (fld_setFld_of_lt (f := LNK_UPDSTAT_RESULT) _ (by decide) h)

theorem index_updResult (s : State) (h : n < 16384) (res : Nat) : (updResult s n res).fld LNK_UPDSTAT_INDEX = n :=
  fld_setFld_of_lt (f := LNK_UPDSTAT_INDEX) _ (by decide) h

/-! ### The operations (R177) -/

theorem updCommand_busy (h : updBusy s = true) (op n : Nat) : updCommand s op n = s.setFld LNK_UPDSTAT_RESULT 5 := if_pos h

theorem updPort_busy (h : updBusy s = true) (op n : Nat) : updPort s op n = s.setFld LNK_UPDSTAT_RESULT 5 := by
  have hres : (s.setFld LNK_UPDSTAT_RESULT 5).fld LNK_UPDSTAT_RESULT = 5 := fld_setFld_of_lt _ (by decide) (by decide)
  rw [updPort, updCommand_busy h, hres]
  exact if_neg (by simp)

/-- A command that finds the port running leaves RESULT 5 and nothing else. -/
theorem completes_busy {c : Instr} (h : exec c s = .next (s.setFld LNK_UPDSTAT_RESULT 5)) :
    completes c s fun t => t.fld LNK_UPDSTAT_RESULT = 5 ∧ keeps s t [LNK_UPDSTAT] :=
  ⟨_, h, fld_setFld_of_lt _ (by decide) (by decide), keeps_setFld (keeps_refl s _) (List.mem_singleton_self _) _⟩

section
variable (h : updBusy s = false)
include h

theorem updCommand_write (n : Nat) : updCommand s 1 n = recWrite s n := if_neg (by simp [h])

theorem updCommand_writeIf (n : Nat) :
    updCommand s 2 n = if recLe s n 0 2 ≠ s.fld LNK_UPDARG_ARG % 65536 then updResult s n 2 else recWrite s n := if_neg (by simp [h])

theorem updCommand_free (n : Nat) :
    updCommand s 3 n = if recState s n = 0 then updResult s n 3 else updResult (recFree s n) n 1 := if_neg (by simp [h])

theorem execNodeRecordBadOp_idle (op : Fin 3) : execNodeRecordBadOp op s = .next (updResult s 0 5) := by
  refine congrArg ok ((if_neg (by simp [h])).trans ?_)
  match op with
  | 0 => rfl
  | 1 => rfl
  | 2 => rfl

end

/-! ### WRITE to a free record (R177) -/

/-- A record about to be written: frames that have read it race with it, and a signature of another node clears (R131, R178). -/
def recTaken (s : State) (n : Nat) : State :=
  if recExt s n ≠ ((updImage s).drop 4).take 8 then sigInvalidate (markRace s n) n else markRace s n

theorem updBody_recTaken (s : State) (n : Nat) : updBody (recTaken s n) n = updBody s n := by
  unfold recTaken
  split
  · exact updBody_congr (regs_sigInvalidate ..) (reqs_sigInvalidate ..) n
  · rfl

theorem recWrite_free (hstate : leAt (updImage s) 2 1 ≠ 0) (hshort : leAt (updImage s) 12 2 = 0xFFFE)
    (hext : extRecord s (((updImage s).drop 4).take 8) = none) (hfree : recState s n = 0) :
    recWrite s n = updResult (recCommit (recTaken s n) n 2 (updBody s n)) n 1 := by
  rw [← updBody_recTaken]
  simp only [recWrite, if_neg hstate, hext, hshort, hfree, ne_eq, not_true_eq_false, decide_false, Bool.false_and, Bool.false_eq_true,
    if_false]
  rfl

theorem nodeRecordWrite_free {n : Fin 16384} (h : updBusy s = false) (hstate : leAt (updImage s) 2 1 ≠ 0)
    (hshort : leAt (updImage s) 12 2 = 0xFFFE) (hext : extRecord s (((updImage s).drop 4).take 8) = none) (hfree : recState s n = 0) :
    completes (.nodeRecordWrite n) s fun t => t.fld LNK_UPDSTAT_RESULT = 1 ∧ t.rdN (recAddr n + 2) 62 = updBody s n := by
  refine ⟨_, congrArg ok ((updCommand_write h n).trans (recWrite_free hstate hshort hext hfree)), result_updResult _ _ (by decide), ?_⟩
  rw [rdN_congr (mem_updResult ..), ← length_updBody s n]
  exact rdN_recCommit ..

/-! ### A buffer slot is free again (R198) -/

theorem bufferFree_completes {n : Fin 4096} (h : n.val < s.fld LNK_BUFCFG_COUNT) :
    completes (.bufferFree n) s fun t => stGet false t.bufUsed n = false ∧
      (∀ m, m ≠ n.val → stGet false t.bufUsed m = stGet false s.bufUsed m) ∧ t.mem = s.mem := by
  obtain ⟨v, hv⟩ := slotFree_eq s h
  refine ⟨_, congrArg ok hv, ?_, fun m hm => ?_, rfl⟩
  · simp [withUsed]
  · simp [withUsed, hm.symm]

end Sys2Proof.Architecture
end

section
/-! SUPPORT. The commands of the link controller: the tests of a frame, its verdict and delivery, and its acknowledgement (R176 to
R198). -/

namespace Sys2Proof.Architecture

open Sys2Proof.Machine

variable {s : State} {f : Nat} {x : RxFrame}

/-! ### The tests of a frame (R180) -/

theorem execLookupPoint_headed {n : Fin 384} {l : List Byte} {u : List (Nat × Bool)} {x : RxLane} (hx : s.rxl n = some x)
    (hh : x.headed = true) : exec (.lookupPoint n l u) s =
      .next (blankSettle (lookup (s.upset u) n (rxOctets x.words x.white 0 l))) := by
  have hx' : (s.upset u).rxl n = some x := hx
  show execLookupPoint n l u s = _
  simp only [execLookupPoint, hx', hh, if_true]
  rfl

/-- The command identifier that ASSOC_PAN_CHECK delivers, as the check reads it. -/
def commandCame (x : RxFrame) (c : Byte) : Nat := octAt (rxOctets x.words x.white (payloadAt x.octets) [c]) 0

theorem execAssocPanCheck_eq (hf : s.frame f = some x) (c : Byte) :
    exec (.assocPanCheck f c) s = .next (blankSettle (assocCheck s f (commandCame x c))) := by
  show execAssocPanCheck f c s = _
  rw [execAssocPanCheck, hf]
  rfl

theorem assocCheck_request (hf : s.frame f = some x) (ht : x.test8 = true) : assocCheck s f 1 = s.setFrame f { x with test8 := false } := by
  simp [assocCheck, hf, ht]

theorem assocCheck_other (hf : s.frame f = some x) (ht : x.test8 = true) {cmd : Nat} (h : cmd ≠ 1) :
    assocCheck s f cmd = frameDrop (lastRej (s.bump LNK_FILT_COUNT) x.node 8) f := by
  simp [assocCheck, hf, ht, h]

theorem execSecurityPoint_eq (hf : s.frame f = some x) (l : List Byte) :
    exec (.securityPoint f l) s = .next (blankSettle (securityTests s f (rxOctets x.words x.white 0 l))) := by
  show execSecurityPoint f l s = _
  rw [execSecurityPoint, hf]
  rfl

/-! ### The verdict (R192) -/

theorem verdict_badFcs (hf : s.frame f = some x) (ho : x.outcome = 0) (h0 : x.len ≠ 0) (hl : x.len ≤ x.octets.length)
    (hfcs : fcsGood x.fcs4 x.octets = false) : verdict s f = frameDrop (lastRej (s.bump LNK_FCSERR_COUNT) x.node 14) f := by
  rw [verdict, hf]
  simp [ho, h0, hl, hfcs]

/-! ### What leaves a frame (R184, R198, R447) -/

theorem frozen_congr {t : State} (h : t.fld SNP_CNTCTL_FREEZE = s.fld SNP_CNTCTL_FREEZE) : t.frozen = s.frozen := by
  rw [State.frozen, State.frozen, State.flag, State.flag, h]

theorem keeps_lastRej {t : State} {l : List Nat} (h : keeps s t l) (hl : LNK_LASTREJ ∈ l) (node : Option Nat) (reason : Nat) :
    keeps s (lastRej t node reason) l :=
  keeps_setFlds h (by simp [LNK_LASTREJ_NODE, LNK_LASTREJ_REASON, hl])

theorem reason_lastRej (s : State) (node : Option Nat) {reason : Nat} (h : reason < 32) :
    (lastRej s node reason).fld LNK_LASTREJ_REASON = reason :=
  fld_setFld_of_lt (f := LNK_LASTREJ_REASON) _ (by decide) h

/-- A context that closes counts in its page's STRCNT, which is no register of another block. -/
theorem fld_streamClose (s : State) (page : Option Nat) {g : Field} (h : ∀ p, CPH_STRCNT p ≠ g.addr) :
    (streamClose s page).fld g = s.fld g := by
  cases page with
  | none => rfl
  | some p => exact fld_setFld_ne _ _ _ _ (.inl (h p))

theorem keeps_setFrame {t : State} {l : List Nat} (h : keeps s t l) (f : Nat) (x : RxFrame) : keeps s (t.setFrame f x) l :=
  keeps_congr h rfl rfl

theorem keeps_rsvSub {t : State} {l : List Nat} (h : keeps s t l) (d : Nat) : keeps s (rsvSub t d) l := keeps_congr h rfl rfl

theorem resReturn_keeps (s : State) (f : Nat) : keeps s (resReturn s f) [LNK_BUFSTAT] := by
  have hkept := keeps_refl s [LNK_BUFSTAT]
  have hfreed (n : Nat) : keeps s (slotFree s n) [LNK_BUFSTAT] := (slotFree_leaves s n).1
  unfold resReturn
  cases s.frame f with
  | none => exact hkept
  | some x =>
    dsimp only
    refine keeps_setFrame ?_ f _
    cases x.slot with
    | none =>
      cases x.dest with
      | none => exact hkept
      | some d => exact keeps_rsvSub hkept d
    | some n =>
      cases x.dest with
      | none => exact hfreed n
      | some d => exact keeps_rsvSub (hfreed n) d

@[simp] theorem fld_setFrame (s : State) (f : Nat) (x : RxFrame) (g : Field) : (s.setFrame f x).fld g = s.fld g := fld_congr rfl g

theorem regs_frameGc (s : State) (f : Nat) : (frameGc s f).regs = s.regs := by
  unfold frameGc
  cases s.frame f with
  | none => rfl
  | some x => dsimp only; split <;> rfl

/-! ### A failed MIC (R193) -/

/-- The MIC of a frame has failed: the failure is counted and told. -/
def micFailed (s : State) (x : RxFrame) : State := lastRej ((streamClose s x.stream).bump LNK_SECERR_COUNT) x.node 16

theorem micResult_keyless (hf : s.frame f = some x) (ho : x.outcome = 1) (hs : x.secured = true) (hm : x.micDone = false)
    (hk : x.key = []) : micResult s f =
      frameGc (resReturn ((micFailed s x).setFrame f { x with stream := none, micDone := true }) f) f := by
  simp only [micResult, hf, ho, hs, hm, hk, List.isEmpty_nil, Bool.not_true, Bool.and_false, Bool.or_self, ne_eq, not_true_eq_false,
    decide_false, Bool.false_eq_true, if_false]
  rfl

/-- Behind the failure only buffer slots and places are given back. -/
theorem fld_micResult_keyless (hf : s.frame f = some x) (ho : x.outcome = 1) (hs : x.secured = true) (hm : x.micDone = false)
    (hk : x.key = []) {g : Field} (hg : g.addr ≠ LNK_BUFSTAT) : (micResult s f).fld g = (micFailed s x).fld g := by
  rw [micResult_keyless hf ho hs hm hk, fld_congr (regs_frameGc ..), fld_of_keeps (resReturn_keeps ..) (by simpa using hg),
    fld_setFrame]

theorem count_micFailed (h : s.frozen = false) (x : RxFrame) :
    (micFailed s x).fld LNK_SECERR_COUNT = satInc 32 (s.fld LNK_SECERR_COUNT) 1 := by
  have hcount : (streamClose s x.stream).fld LNK_SECERR_COUNT = s.fld LNK_SECERR_COUNT :=
    fld_streamClose s _ fun p => by simp only [CPH_STRCNT, LNK_SECERR_COUNT, LNK_SECERR]; omega
  have hfreeze : (streamClose s x.stream).fld SNP_CNTCTL_FREEZE = s.fld SNP_CNTCTL_FREEZE :=
    fld_streamClose s _ fun p => by simp only [CPH_STRCNT, SNP_CNTCTL_FREEZE, SNP_CNTCTL]; omega
  have hfrozen : (streamClose s x.stream).frozen = false := (frozen_congr hfreeze).trans h
  have htold : (micFailed s x).fld LNK_SECERR_COUNT = ((streamClose s x.stream).bump LNK_SECERR_COUNT).fld LNK_SECERR_COUNT :=
    fld_of_keeps (keeps_lastRej (keeps_refl _ [LNK_LASTREJ]) (List.mem_singleton_self _) _ _) (by decide)
  rw [htold, fld_bump _ _ (by decide) hfrozen, hcount]
  rfl

/-! ### The descriptor (R196) -/

/-- A frame whose octets stand in their slot counts in LNK_RXOK unless it is a beacon, and holds its slot and place no more. -/
def frameCounted (s : State) (f : Nat) (x : RxFrame) : State :=
  (if (fcfOf x.octets).type = 0 then s else s.bump LNK_RXOK_COUNT).setFrame f { x with slot := none, dest := none, described := true }

/-- The frame's octets go to their slot. -/
def frameStored (s : State) (f : Nat) (x : RxFrame) (slot : Nat) : State :=
  frameCounted (s.wrEntry (s.fld LNK_BUFCFG_COUNT) slot (s.fld LNK_BUFBASE_BASE) 2048 x.octets) f x

/-- The head of a destination's engine queue passes place i, which was kept for it. -/
def placeTaken (s : State) (d i : Nat) : State :=
  rsvSub (s.setFld (LNK_EQHEAD_HEAD d) (ringNext (s.fld (LNK_EQSIZE_SIZE d)) i)) d

/-- A descriptor goes to the engine queue of a destination. -/
def descriptorPut (s : State) (d : Nat) (desc : List Byte) : State :=
  placeTaken (s.wrEntry (s.fld (LNK_EQSIZE_SIZE d)) (s.fld (LNK_EQHEAD_HEAD d)) (s.fld (LNK_EQBASE_BASE d)) 32 desc) d
    (s.fld (LNK_EQHEAD_HEAD d))

theorem describe_engine {slot d : Nat} (hf : s.frame f = some x) (hslot : x.slot = some slot) (hdest : x.dest = some d) (hd : d < 16)
    (hdel : x.deliver = true) (hfl : x.flood = false) :
    ∃ desc, describe s f = frameGc (descriptorPut (frameStored s f x slot) d desc) f := by
  refine ⟨descriptorOf (s.wrEntry (s.fld LNK_BUFCFG_COUNT) slot (s.fld LNK_BUFBASE_BASE) 2048 x.octets) x, ?_⟩
  have hdue : ¬ (!x.deliver || x.flood) = true := by simp [hdel, hfl]
  simp only [describe, hf, hslot, hdest, if_neg hdue, if_pos hd]
  rfl

theorem regs_wrEntry (s : State) (size i base len : Nat) (l : List Byte) : (s.wrEntry size i base len l).regs = s.regs := by
  unfold State.wrEntry
  split
  · exact regs_wrN ..
  · rfl

/-- A place of a ring is below its size, and so within its pointer's width. -/
theorem ringNext_lt {size w : Nat} (h : size < 2 ^ w) (i : Nat) : ringNext size i < 2 ^ w := by
  unfold ringNext
  split
  · omega
  · exact Nat.two_pow_pos w

theorem fld_placeTaken (s : State) (d i : Nat) (g : Field) : (placeTaken s d i).fld g =
    (s.setFld (LNK_EQHEAD_HEAD d) (ringNext (s.fld (LNK_EQSIZE_SIZE d)) i)).fld g := fld_congr rfl g

theorem head_descriptorPut (s : State) (d : Nat) (desc : List Byte) : (descriptorPut s d desc).fld (LNK_EQHEAD_HEAD d) =
    ringNext (s.fld (LNK_EQSIZE_SIZE d)) (s.fld (LNK_EQHEAD_HEAD d)) := by
  have hfits : ringNext (s.fld (LNK_EQSIZE_SIZE d)) (s.fld (LNK_EQHEAD_HEAD d)) < 2 ^ 12 := ringNext_lt (fld_lt s (LNK_EQSIZE_SIZE d)) _
  rw [descriptorPut, fld_placeTaken, fld_congr (regs_wrEntry ..), fld_setFld_of_lt _ (by simp [LNK_EQHEAD_HEAD]) hfits]

theorem fld_descriptorPut_ne (s : State) {d : Nat} (desc : List Byte) {g : Field} (hg : LNK_EQHEAD d ≠ g.addr) :
    (descriptorPut s d desc).fld g = s.fld g := by
  rw [descriptorPut, fld_placeTaken, fld_setFld_ne _ _ _ _ (.inl hg), fld_congr (regs_wrEntry ..)]

theorem fld_frameStored (s : State) (f slot : Nat) (ht : (fcfOf x.octets).type ≠ 0) (g : Field) : (frameStored s f x slot).fld g =
    ((s.wrEntry (s.fld LNK_BUFCFG_COUNT) slot (s.fld LNK_BUFBASE_BASE) 2048 x.octets).bump LNK_RXOK_COUNT).fld g := by
  rw [frameStored, frameCounted, if_neg ht, fld_setFrame]

theorem fld_frameStored_ne (s : State) (f slot : Nat) (ht : (fcfOf x.octets).type ≠ 0) {g : Field} (hg : LNK_RXOK ≠ g.addr) :
    (frameStored s f x slot).fld g = s.fld g := by
  rw [fld_frameStored s f slot ht, fld_bump_ne _ _ _ (.inl hg), fld_congr (regs_wrEntry ..)]

theorem rxok_frameStored (h : s.frozen = false) (f slot : Nat) (ht : (fcfOf x.octets).type ≠ 0) :
    (frameStored s f x slot).fld LNK_RXOK_COUNT = satInc 32 (s.fld LNK_RXOK_COUNT) 1 := by
  have hfrozen := (frozen_congr (fld_congr (regs_wrEntry s (s.fld LNK_BUFCFG_COUNT) slot (s.fld LNK_BUFBASE_BASE) 2048 x.octets) _)).trans h
  rw [fld_frameStored s f slot ht, fld_bump _ _ (by decide) hfrozen, fld_congr (regs_wrEntry ..)]
  rfl

theorem descriptorWrite_completes {slot d : Nat} (hf : s.frame f = some x) (hslot : x.slot = some slot) (hdest : x.dest = some d)
    (hd : d < 12) (hdel : x.deliver = true) (hfl : x.flood = false) (ht : (fcfOf x.octets).type ≠ 0) :
    completes (.descriptorWrite f) s fun t =>
      t.fld (LNK_EQHEAD_HEAD d) = ringNext (s.fld (LNK_EQSIZE_SIZE d)) (s.fld (LNK_EQHEAD_HEAD d)) ∧
      (s.frozen = false → t.fld LNK_RXOK_COUNT = satInc 32 (s.fld LNK_RXOK_COUNT) 1) := by
  obtain ⟨desc, hdesc⟩ := describe_engine hf hslot hdest (by omega) hdel hfl
  have hhead : LNK_RXOK ≠ LNK_EQHEAD d := by simp only [LNK_RXOK, LNK_EQHEAD]; omega
  have hsize : LNK_RXOK ≠ LNK_EQSIZE d := by simp only [LNK_RXOK, LNK_EQSIZE]; omega
  refine ⟨_, congrArg ok hdesc, ?_, fun h => ?_⟩
  · rw [fld_congr (regs_frameGc ..), head_descriptorPut, fld_frameStored_ne (g := LNK_EQHEAD_HEAD d) s f slot ht hhead,
      fld_frameStored_ne (g := LNK_EQSIZE_SIZE d) s f slot ht hsize]
  · rw [fld_congr (regs_frameGc ..), fld_descriptorPut_ne _ _ hhead.symm, rxok_frameStored h f slot ht]

/-! ### The acknowledgement (R187, R190) -/

/-- A frame whose acknowledgement is frozen with its frame-pending bit. -/
def ackFrozen (s : State) (x : RxFrame) : RxFrame :=
  { x with ack := 2, pendBit := (isAssoc x && x.outcome ≠ 2) || (!x.isNew && 0 < recPending s (x.node.getD 0)) }

theorem execAckFreeze_prepared (hf : s.frame f = some x) (ha : x.ack = 1) : exec (.ackFreeze f) s = .next (s.setFrame f (ackFrozen s x)) := by
  show execAckFreeze f s = _
  simp only [execAckFreeze, hf, ha, ne_eq, not_true_eq_false, if_false]
  rfl

/-- The power of an acknowledgement in its band (R187). -/
def ackPower (x : RxFrame) : Int := signedOf 8 (if binBand x.bin = 0 then polField x.policy 6 7 0 else polField x.policy 6 15 8)

/-- Signatures are not used: acknowledgements go out by sector (R132). -/
def ackSector (s : State) : Bool := s.act SPX_SIGCTL_AGE_LIMIT == 0

/-- The signature that an acknowledgement is steered by. -/
def ackSig (s : State) (x : RxFrame) : Option (List (Nat × Word)) := if ackSector s then none else some (sigPad x.det.sig)

/-- The ports of a lane's acknowledgement that still belong to it. -/
def ackPorts (s : State) (l : TxLane) : List Nat := (l.ports.map (·.1)).filter fun p => (s.portx p).txLane ≠ 0

/-- The checks at the commit point of an acknowledgement (R187). -/
def ackChecks (s : State) (l : TxLane) (x : RxFrame) : Nat × List (Nat × Int) × State :=
  commitChecks s x.bin l.airStart l.airEnd (portPowers s x.beamPlane (ackSig s x) x.bin (ackPower x) (ackPorts s l))

/-- The lane of an acknowledgement that is committed on the ports kept, under the signature it is steered by. -/
def ackLaneSet (s : State) (lane : Nat) (l : TxLane) (x : RxFrame) (sig : Option (List (Nat × Word))) (kept : List (Nat × Int)) : State :=
  txLanePut s lane { l with ports := kept, weights := portWeights s x.beamPlane sig x.bin (kept.map Prod.fst)
                            words := x.words, pre := preSymbols x.words, fcs4 := x.fcs4, frame := ackFrame x, committed := true }

/-- How an acknowledgement goes on from its checks: with no refusal it is committed and counted, otherwise withdrawn (R187, R188). -/
def ackDone (f lane : Nat) (l : TxLane) (x : RxFrame) (sector : Bool) (sig : Option (List (Nat × Word))) :
    Nat × List (Nat × Int) × State → State
  | (0, kept, s) =>
    let s := (l.ports.filter fun e => !kept.any (·.1 = e.1)).foldl (fun s e => portRelease s lane e.1)
      (s.bump (if sector then SPX_SIGCNT_SECTOR else SPX_SIGCNT_PRECODED))
    let s := coxAtCommit (blankDecide (ackLaneSet s lane l x sig kept) lane x.bin l.airStart l.airEnd) lane
    blankSettle ((s.setFrame f { x with ack := 3 }).bump LNK_ACKTX_COUNT)
  | (_, _, s) => blankSettle (frameGc (ackWithdraw s f) f)

theorem execAckCommit_frozen {lane : Nat} (hf : s.frame f = some x) (hl : x.ackLane = some lane) (ha : x.ack = 2) (ho : x.outcome = 1) :
    exec (.ackCommit f) s =
      .next (ackDone f lane (s.txl lane) x (ackSector s) (ackSig s x) (ackChecks s (s.txl lane) x)) := by
  have hdue : ¬ (x.ack ≠ 2 || (x.outcome ≠ 1 && x.outcome ≠ 2)) = true := by simp [ha, ho]
  show execAckCommit f s = _
  unfold execAckCommit
  rw [hf]
  dsimp only
  split
  case h_1 hnone => rw [hl] at hnone; contradiction
  case h_2 t ht =>
    obtain rfl : lane = t := Option.some.inj (hl.symm.trans ht)
    rw [if_neg hdue]
    change (match ackChecks s (s.txl lane) x with | (0, kept, s) => _ | (_, _, s) => _) = _
    rcases ackChecks s (s.txl lane) x with ⟨_ | n, kept, s'⟩ <;> rfl

/-! ### The commands -/

/-- Settles O12: each command by the equation of its function where its condition holds; the update port by what an operation leaves while
another runs, and by the record that a WRITE of a free one leaves. -/
theorem linkCommandsComplete : Obligations.LinkCommandsComplete := by
  refine ⟨fun s n l u x hx hh => execLookupPoint_headed hx hh, ?request, ?other, fun s f l x hf => execSecurityPoint_eq hf l,
    fun s f x hf ho h0 hl h => congrArg (fun t => ok (blankSettle t)) (verdict_badFcs hf ho h0 hl h), fun _ _ => rfl, fun _ _ => rfl,
    ?mic, fun _ _ _ _ _ _ _ _ _ _ => rfl, fun s f x slot d hf hslot hdest hd hdel hfl ht =>
      descriptorWrite_completes hf hslot hdest hd hdel hfl ht, ?freeze, ?commit, ?busy,
    fun s n h => congrArg ok (updCommand_write h n), fun s n h hg => congrArg ok ((updCommand_writeIf h n).trans (if_neg (not_not.mpr hg))),
    fun s n h hg => congrArg ok ((updCommand_writeIf h n).trans (if_pos hg)),
    fun s n h hs => congrArg ok ((updCommand_free h n).trans (if_neg hs)),
    fun s n h hs => congrArg ok ((updCommand_free h n).trans (if_pos hs)), fun _ _ => rfl, fun _ => rfl,
    fun s op h => execNodeRecordBadOp_idle h op, fun s n res hn hr => ⟨result_updResult s n hr, index_updResult s hn res⟩,
    fun s n h hstate hshort hext hfree => nodeRecordWrite_free h hstate hshort hext hfree, fun s n h => bufferFree_completes h⟩
  case request =>
    intro s f c x hf ht hc
    rw [execAssocPanCheck_eq hf, show commandCame x c = 1 from hc, assocCheck_request hf ht]
  case other =>
    intro s f c x hf ht hc
    have hcame : commandCame x c ≠ 1 := hc
    rw [execAssocPanCheck_eq hf, assocCheck_other hf ht hcame]
  case mic =>
    intro s f x hf ho hs hm hk
    refine ⟨micResult s f, rfl, ?_, fun h => ?_⟩
    · rw [fld_micResult_keyless hf ho hs hm hk (by decide)]
      exact reason_lastRej _ _ (by decide)
    · rw [fld_micResult_keyless hf ho hs hm hk (by decide), count_micFailed h]
  case freeze =>
    intro s f x hf ha
    exact ⟨_, execAckFreeze_prepared hf ha, (frame_setFrame ..).trans (if_pos rfl),
      keeps_setFrame (keeps_refl s _) f _⟩
  case commit =>
    intro s f lane x hf hl ha ho
    refine ⟨_, execAckCommit_frozen hf hl ha ho, ?_⟩
    change (match ackChecks s (s.txl lane) x with | (0, kept, s) => _ | (_, _, s) => _)
    rcases ackChecks s (s.txl lane) x with ⟨_ | n, kept, s'⟩ <;> rfl
  case busy =>
    intro s h
    have hupd (op n : Nat) : ok (updCommand s op n) = .next (s.setFld LNK_UPDSTAT_RESULT 5) := congrArg ok (updCommand_busy h op n)
    refine fun c hc => completes_busy ?_
    revert c
    simp only [List.forall_mem_cons, List.not_mem_nil, false_imp_iff, implies_true, and_true]
    exact ⟨hupd 1 _, hupd 1 _, hupd 2 _, hupd 3 _, congrArg ok (updPort_busy h 4 _), hupd 5 0, hupd 7 0⟩

end Sys2Proof.Architecture
end

section
/-! SUPPORT. The commands of the transmit scheduler and the duty-cycle accounts (R205 to R231). -/

namespace Sys2Proof.Architecture

open Sys2Proof.Machine

variable {s : State} {r : Nat} {q : TxReq}

/-! ### Intake, placement and the deadline (R205 to R215) -/

theorem execSlotStart_within (h : ceilTo slotNs s.venue < s.nextBoundary) :
    exec .slotStart s = .next (offerAll (s.advance (ceilTo slotNs s.venue))) := if_neg (Nat.not_le.mpr h)

theorem execTxRequestIntake_open {n : Fin 12} (h : intakeOpen s n = true) (hu : s.upsets = []) :
    exec (.txRequestIntake n) s = .next (reqIntake (s.setFld (TXS_QTAIL_TAIL n) (ringNext (s.fld (TXS_QSIZE_SIZE n))
      (s.fld (TXS_QTAIL_TAIL n)))) n (s.rdN (s.fld (TXS_QBASE_BASE n) + 32 * s.fld (TXS_QTAIL_TAIL n)) 32)) := by
  show execTxRequestIntake n s = _
  simp only [execTxRequestIntake, h, Bool.not_true, Bool.false_eq_true, if_false, eccRead_clean hu]
  rfl

theorem execTxPlace_waiting (h : (offer s r).req r = some q) : exec (.txPlace r) s = .next (pendRefresh (offer s r) (reqNode q)) := by
  show execTxPlace r s = _
  simp only [execTxPlace, h]
  rfl

theorem execTxBufferFetched_engine (h : s.req r = some q) (hsrc : q.src < 12) (hu : s.upsets = []) :
    exec (.txBufferFetched r) s = .next (bufferArrived s r (s.rdN (qLe q 0 4) (qLen q))) := by
  show execTxBufferFetched r s = _
  simp only [execTxBufferFetched, h, hsrc, if_true, eccRead_clean hu, Bool.false_eq_true, if_false]
  rfl

/-- A request that holds lane `n` from its deadline on. -/
def laneHeld (q : TxReq) (n : Nat) : TxReq := { q with phase := 4, lane := n }

/-- A lane that waits for the commit point of the request it is held for. -/
def heldLane (s : State) (r : Nat) (q : TxReq) : TxLane :=
  { owner := 2, ref := r, band := binBand q.bin, bin := q.bin, prof := qProf q, airStart := (nextAir s q).1, airEnd := (nextAir s q).2 }

theorem execTxDeadline_held {q' : TxReq} {t : State} {n : Nat} (h : s.req r = some q) (hp : q.phase = 2 ∨ q.phase = 3)
    (ht : t = secureAgain (s.advance (q.airStart - 50000)) r) (h' : t.req r = some q') (hp' : q'.phase = 3)
    (hshare : schedHeld t < schedShare t) (hn : freeTx t = some n) : exec (.txDeadline r) s =
      .next (txLaneSet (t.setReq r (laneHeld q' n)) n (heldLane (t.setReq r (laneHeld q' n)) r (laneHeld q' n)) 1 q'.form q'.strobes) := by
  have hdue : ¬ (q.phase ≠ 2 && q.phase ≠ 3) = true := by rcases hp with hp | hp <;> simp [hp]
  have hready : (q'.phase = 3 && schedHeld t < schedShare t) = true := by simp [hp', hshare]
  show execTxDeadline r s = _
  simp only [execTxDeadline, h, if_neg hdue, ← ht, h', if_pos hready, hn]
  rfl

/-! ### The commit point (R207, R208) -/

/-- The state in which the commit point of a request comes, 30 µs before its air start. -/
def atCommit (s : State) (q : TxReq) : State := s.advance ((nextAir s q).1 - 30000)

/-- A request at its commit point, on the bin that its hop sequence gives where it hops (R226). -/
def onAirBin (s : State) (q : TxReq) : TxReq := { q with bin := airBin (atCommit s q) q (nextAir s q).1 q.bin }

/-- The steering of a request at its commit point. -/
def commitSteer (s : State) (q : TxReq) : Option (List (Nat × Word)) := reqSteer (atCommit s q) (onAirBin s q)

/-- A request at its commit point with the words of its profile, which its first strobe takes for the whole series. -/
def withWords (s : State) (q : TxReq) : TxReq :=
  if (onAirBin s q).strobe = 0 then { onAirBin s q with words := profWords (atCommit s q) (qProf (onAirBin s q)) } else onAirBin s q

/-- The checks at the commit point of a request. -/
def commitTests (s : State) (q : TxReq) : Nat × List (Nat × Int) × State :=
  let t := atCommit s q
  requestChecks t (withWords s q) (nextAir s q).1 (nextAir s q).2 (portPowers t (t.actB 4) (commitSteer s q) (withWords s q).bin
    (reqPower t (withWords s q)) (txPorts t (binBand (onAirBin s q).bin)))

/-- A request whose transmission is committed; the first strobe of a series counts the attempt. -/
def attemptOf (q : TxReq) (a : Nat) (steered : Bool) : TxReq :=
  let first := q.strobe = 0
  { q with phase := 5, precoded := steered, attempts := if first then q.attempts + 1 else q.attempts, lastAir := if first then a else q.lastAir }

/-- The counts of a committed transmission, and its request. -/
def attemptCounted (s : State) (r : Nat) (q : TxReq) (a band : Nat) (steered : Bool) : State :=
  let s := (countSkips s band (txPorts s band)).bump (if steered then SPX_SIGCNT_PRECODED else SPX_SIGCNT_SECTOR)
  (if q.strobe = 0 then s.bump TXS_CNT_SENT_COUNT else s).setReq r (attemptOf q a steered)

/-- The lane of a committed transmission. -/
def committedLane (s : State) (l : TxLane) (q : TxReq) (a e band : Nat) (steer : Option (List (Nat × Word))) (kept : List (Nat × Int)) :
    TxLane :=
  { l with
    bin := q.bin, airStart := a, airEnd := e, cls := reqClass q, ports := kept, frame := airFrame s q
    silent := silentPorts s band kept, committed := true, weights := portWeights s (s.actB 4) steer q.bin (kept.map (·.1))
    words := q.words, fcs4 := qFcs4 s q, wake := q.form = 2 && q.strobe < q.strobes
    pre := if q.form = 1 then longSymbols q.words q.lpre else preSymbols q.words }

/-- How a request goes on from the checks at its commit point: with no refusal it is committed, otherwise it ends with the status of the
check that refused it (R207). -/
def commitDone (r n : Nat) (l : TxLane) (q : TxReq) (a e band : Nat) (steer : Option (List (Nat × Word))) :
    Nat × List (Nat × Int) × State → State
  | (0, kept, s) =>
    let s := attemptCounted s r q a band steer.isSome
    let s := txLaneSet s n (committedLane s l q a e band steer kept) 1 q.form (q.strobes - q.strobe)
    blankSettle (coxAtCommit (blankDecide s n q.bin a e) n)
  | (status, _, s) => reqEnd s r status

theorem execTxCommit_held (h : s.req r = some q) (hp : 4 ≤ q.phase) (ho : (s.txl q.lane).owner = 2) (hr : (s.txl q.lane).ref = r)
    (hs : (s.txl q.lane).stage = 0) (hc : (s.txl q.lane).committed = false) : exec (.txCommit r) s =
      .next (commitDone r q.lane (s.txl q.lane) (withWords s q) (nextAir s q).1 (nextAir s q).2 (binBand (onAirBin s q).bin)
        (commitSteer s q) (commitTests s q)) := by
  have hdue : ¬ (q.phase < 4 || (s.txl q.lane).owner ≠ 2 || (s.txl q.lane).ref ≠ r || (s.txl q.lane).stage ≠ 0 ||
      (s.txl q.lane).committed) = true := by simp [ho, hr, hs, hc, hp]
  show execTxCommit r s = _
  unfold execTxCommit
  rw [h]
  dsimp only
  rw [if_neg hdue]
  change (match commitTests s q with | (0, kept, s) => _ | (status, _, s) => _) = _
  rcases commitTests s q with ⟨_ | status, kept, s'⟩ <;> rfl

/-! ### The end of an acknowledgement wait (R217) -/

theorem execAckWaitExpiry_last (h : s.req r = some q) (hp : q.phase = 7) (hl : ¬ (q.attempts < qRetries q + 1 ∧ q.endAs = 0)) :
    exec (.ackWaitExpiry r) s = .next (reqEnd (s.advance q.waitEnd) r 1) := by
  have hover : ¬ (q.attempts < qRetries q + 1 && q.endAs = 0) = true := by simpa using hl
  show execAckWaitExpiry r s = _
  simp only [execAckWaitExpiry, h, hp, ne_eq, not_true_eq_false, if_false, if_neg hover]
  rfl

/-- A request that is tried again from its first strobe: placed anew, or held for the next poll. -/
def retried (q : TxReq) : TxReq :=
  { q with phase := if q.kind = 0 then 1 else 0, polled := false, strobe := 0, words := [], wakeCounted := false, notBefore := q.waitEnd }

theorem execAckWaitExpiry_retry (h : s.req r = some q) (hp : q.phase = 7) (hl : q.attempts < qRetries q + 1) (he : q.endAs = 0)
    (hst : staleOut (s.advance q.waitEnd) q = false) : exec (.ackWaitExpiry r) s =
      .next (pendRefresh (offer (((s.advance q.waitEnd).bump TXS_CNT_RETRY_COUNT).setReq r (retried q)) r) (reqNode q)) := by
  have hagain : (q.attempts < qRetries q + 1 && q.endAs = 0) = true := by simp [hl, he]
  show execAckWaitExpiry r s = _
  simp only [execAckWaitExpiry, h, hp, ne_eq, not_true_eq_false, if_false, if_pos hagain, hst, Bool.false_eq_true]
  rfl

/-! ### The duty-cycle accounts (R221, R224) -/

@[simp] theorem acc_setAcc (s : State) (a : Nat) (x : DutyAcc) (b : Nat) : (s.setAcc a x).acc b = if a = b then x else s.acc b := stGet_set ..

@[simp] theorem fld_setAcc (s : State) (a : Nat) (x : DutyAcc) (f : Field) : (s.setAcc a x).fld f = s.fld f := fld_congr rfl f

theorem acc_setFlds (s : State) (l : List (Field × Nat)) (a : Nat) : (s.setFlds l).acc a = s.acc a := by simp [State.acc]

/-- An account that no transmission is charged to. -/
def AccEmpty (s : State) (a : Nat) : Prop :=
  s.acc a = {} ∧ s.fld (TXS_DUTYACC_USED a) = 0 ∧ s.fld (TXS_DUTYACC_HELD a) = 0 ∧ s.fld (TXS_DUTYMIN_CUR a) = 0

/-- An account is emptied (R224). -/
def accClear (s : State) (a : Nat) : State :=
  (s.setAcc a {}).setFlds [(TXS_DUTYACC_USED a, 0), (TXS_DUTYACC_HELD a, 0), (TXS_DUTYMIN_CUR a, 0)]

theorem dutyAcc_ne_dutyMin (a b : Nat) : TXS_DUTYACC a ≠ TXS_DUTYMIN b := by unfold TXS_DUTYACC TXS_DUTYMIN; omega

theorem dutyAcc_ne {a b : Nat} (h : a ≠ b) : TXS_DUTYACC a ≠ TXS_DUTYACC b := by unfold TXS_DUTYACC; omega

theorem dutyMin_ne {a b : Nat} (h : a ≠ b) : TXS_DUTYMIN a ≠ TXS_DUTYMIN b := by unfold TXS_DUTYMIN; omega

theorem accEmpty_accClear (s : State) (a : Nat) : AccEmpty (accClear s a) a := by
  have hmin : TXS_DUTYMIN a ≠ TXS_DUTYACC a := (dutyAcc_ne_dutyMin a a).symm
  refine ⟨by simp [accClear, acc_setFlds], ?_, ?_, ?_⟩ <;> simp only [accClear, setFlds_cons, setFlds_nil]
  · rw [fld_setFld_ne _ _ _ _ (.inl hmin), fld_setFld_ne _ _ _ _ (.inr (by simp [TXS_DUTYACC_USED, TXS_DUTYACC_HELD])),
      fld_setFld _ (TXS_DUTYACC_USED a) _ (by simp [TXS_DUTYACC_USED]), Nat.zero_mod]
  · rw [fld_setFld_ne _ _ _ _ (.inl hmin), fld_setFld _ (TXS_DUTYACC_HELD a) _ (by simp [TXS_DUTYACC_HELD]), Nat.zero_mod]
  · rw [fld_setFld _ (TXS_DUTYMIN_CUR a) _ (by simp [TXS_DUTYMIN_CUR]), Nat.zero_mod]

theorem fld_accClear_ne (s : State) {a : Nat} {f : Field} (hacc : TXS_DUTYACC a ≠ f.addr) (hmin : TXS_DUTYMIN a ≠ f.addr) :
    (accClear s a).fld f = s.fld f := by
  simp only [accClear, setFlds_cons, setFlds_nil]
  rw [fld_setFld_ne _ _ _ _ (.inl hmin), fld_setFld_ne _ _ _ _ (.inl hacc), fld_setFld_ne _ _ _ _ (.inl hacc), fld_setAcc]

/-- Emptying one account leaves the others empty. -/
theorem accEmpty_accClear_ne {a b : Nat} (h : AccEmpty s b) (hab : a ≠ b) : AccEmpty (accClear s a) b := by
  obtain ⟨hacc, hused, hheld, hcur⟩ := h
  exact ⟨by simp [accClear, acc_setFlds, hab, hacc],
    (fld_accClear_ne s (dutyAcc_ne hab) (dutyAcc_ne_dutyMin b a).symm).trans hused,
    (fld_accClear_ne s (dutyAcc_ne hab) (dutyAcc_ne_dutyMin b a).symm).trans hheld,
    (fld_accClear_ne s (dutyAcc_ne_dutyMin a b) (dutyMin_ne hab)).trans hcur⟩

theorem forBelow_succ (n : Nat) (f : State → Nat → State) (s : State) : forBelow (n + 1) f s = f (forBelow n f s) n := by
  simp [forBelow, List.range_succ]

theorem accEmpty_forBelow (s : State) (n : Nat) : ∀ a < n, AccEmpty (forBelow n accClear s) a := by
  induction n with
  | zero => exact fun a ha => absurd ha (Nat.not_lt_zero a)
  | succ n ih =>
    intro a ha
    rw [forBelow_succ]
    rcases Nat.lt_succ_iff_lt_or_eq.mp ha with hlt | rfl
    · exact accEmpty_accClear_ne (ih a hlt) hlt.ne'
    · exact accEmpty_accClear ..

theorem dutyClear_refused (h : s.priv.lc ≠ 0) : dutyClear s = s.setFld TXS_DUTYCTL_CLEAR_REFUSED 1 := if_pos h

theorem dutyClear_manufacture (h : s.priv.lc = 0) : dutyClear s = forBelow 4 accClear s := if_neg (not_not.mpr h)

/-! ### A record that stays STALE (R231) -/

/-- Request `r` ends STALE where it is held for record n. -/
def staleEnd (n : Nat) (s : State) (r : Nat) : State :=
  match s.req r with
  | some q => if reqNode q = n ∧ q.phase ≤ 1 then reqEnd s r 0x0D else s
  | none => s

theorem execStaleExpiry_due {n : Fin 16384} (h : recState s n = 3) (ht : 60000 ≤ (s.ms + 2 ^ 32 - recLe s n 52 4) % 2 ^ 32) :
    exec (.staleExpiry n) s = .next ((s.reqs.map (·.1)).foldl (staleEnd n) s) := by
  have hdue : ¬ (recState s n ≠ 3 || (s.ms + 2 ^ 32 - recLe s n 52 4) % 2 ^ 32 < 60000) = true := by
    simp only [h, ne_eq, not_true_eq_false, decide_false, Bool.false_or, decide_eq_true_eq]
    exact Nat.not_lt.mpr ht
  refine (if_neg hdue).trans (congrArg ok (List.foldl_ext _ _ _ fun t r _ => ?_))
  unfold staleEnd
  cases t.req r with
  | none => rfl
  | some q => exact if_congr (by simp) rfl rfl

/-! ### The commands -/

/-- Settles O13: each command of the scheduler by the equation of its function where its condition holds; the duty commands by what the
clearing of one account leaves of the others. -/
theorem transmitCommandsComplete : Obligations.TransmitCommandsComplete := by
  refine ⟨fun s h => execSlotStart_within h, fun s n h hu => execTxRequestIntake_open h hu, fun s r q h => execTxPlace_waiting h,
    fun s r q h hsrc hu => execTxBufferFetched_engine h hsrc hu,
    fun s r q q' t n h hp ht h' hp' hshare hn => execTxDeadline_held h hp ht h' hp' hshare hn, ?commit,
    fun s r q h hp hl => execAckWaitExpiry_last h hp hl, fun s r q h hp hl he hst => execAckWaitExpiry_retry h hp hl he hst,
    fun _ => rfl, ?refused, ?clear, fun s => ⟨_, rfl, rfl, keeps_of_eq rfl rfl⟩, fun _ => rfl, fun s n h ht => execStaleExpiry_due h ht⟩
  case commit =>
    intro s r q h hp ho hr hs hc
    refine ⟨_, execTxCommit_held h hp ho hr hs hc, ?_⟩
    change (match commitTests s q with | (0, kept, s) => _ | (status, _, s) => _)
    rcases commitTests s q with ⟨_ | status, kept, s'⟩ <;> rfl
  case refused =>
    intro s h
    refine ⟨_, congrArg ok (dutyClear_refused h), fld_setFld _ _ _ (by decide), duty_setFld .., ?_⟩
    exact keeps_setFld (keeps_refl s _) (List.mem_singleton_self _) _
  case clear => exact fun s h => ⟨_, congrArg ok (dutyClear_manufacture h), accEmpty_forBelow s 4⟩

end Sys2Proof.Architecture
end

section
/-! SUPPORT. Entries of the Silt cache: what a write of one changes, lookups that insert, the sweep and the flush (R238 to R240). -/

namespace Sys2Proof.Architecture

open Sys2Proof.Machine

variable {s t : State} {i j hold seq source : Nat} {orig body : List Byte}

/-! ### Octets and numbers (R17) -/

theorem ofLe_leBytes (n v : Nat) : ofLe (leBytes n v) = v % 256 ^ n := by
  induction n generalizing v with
  | zero => rw [pow_zero, Nat.mod_one]; rfl
  | succ n ih => rw [leBytes, ofLe, ih, BitVec.toNat_ofNat, pow_succ' 256, Nat.mod_mul]

theorem ofLe_lt (l : List Byte) : ofLe l < 256 ^ l.length := by
  induction l with
  | nil => exact Nat.one_pos
  | cons b l ih =>
    have hb : b.toNat < 256 := b.isLt
    rw [ofLe, List.length_cons, pow_succ']
    omega

theorem rdN_add (s : State) (a m n : Nat) : s.rdN a (m + n) = s.rdN a m ++ s.rdN (a + m) n := by
  induction m generalizing a with
  | zero => rw [Nat.zero_add]; rfl
  | succ m ih => rw [Nat.succ_add, State.rdN, State.rdN, ih, List.cons_append, Nat.add_right_comm, Nat.add_assoc a m 1]

/-- A part of what was written reads back. -/
theorem rdN_wrN_part (s : State) (a : Nat) (pre mid post : List Byte) :
    (s.wrN a (pre ++ mid ++ post)).rdN (a + pre.length) mid.length = mid := by
  have hall := rdN_wrN s a (pre ++ mid ++ post)
  rw [List.length_append, List.length_append, rdN_add, rdN_add] at hall
  exact (List.append_inj (List.append_inj hall (by simp)).1 (by simp)).2

/-! ### A write of an entry (R238) -/

/-- The parts of a state that a write of the cache leaves. -/
structure CacheOnly (s t : State) : Prop where
  regs : t.regs = s.regs
  uptime : t.uptime = s.uptime
  frames : t.frames = s.frames

theorem siltWrite_cacheOnly (s : State) (i : Nat) (body : List Byte) : CacheOnly s (siltWrite s i body) :=
  ⟨regs_wrN .., uptime_wrN .., frames_wrN ..⟩

theorem siltFlags_siltWrite (hb : body.length = 15) : siltFlags (siltWrite s i body) i = octAt body 10 := by
  rw [siltFlags, siltWrite, rd8_wrN _ _ _ _ (by simp [hb]), List.getElem_append_left (by omega), octAt, List.getD_eq_getElem]

/-- The sixteen octets of another entry stand apart. -/
theorem rdN_siltWrite_ne (hb : body.length = 15) (hij : i ≠ j) {k n : Nat} (hk : k + n ≤ 16) :
    (siltWrite s i body).rdN (siltAddr j + k) n = s.rdN (siltAddr j + k) n :=
  rdN_wrN_ne s (by rw [List.length_append, hb, length_leBytes]; unfold siltAddr; omega)

theorem siltFlags_siltWrite_ne (hb : body.length = 15) (hij : i ≠ j) : siltFlags (siltWrite s i body) j = siltFlags s j := by
  have hread : (siltWrite s i body).rdN (siltAddr j + 10) 1 = s.rdN (siltAddr j + 10) 1 := rdN_siltWrite_ne hb hij (by omega)
  exact congrArg BitVec.toNat (List.cons.inj hread).1

theorem siltLive_siltWrite_ne (hb : body.length = 15) (hij : i ≠ j) : siltLive (siltWrite s i body) hold j = siltLive s hold j := by
  have hms : (siltWrite s i body).ms = s.ms := by rw [State.ms, (siltWrite_cacheOnly ..).uptime, State.ms]
  rw [siltLive, siltLive, siltFlags_siltWrite_ne hb hij, siltAge, siltAge, State.rdLe, State.rdLe, hms, rdN_siltWrite_ne hb hij (by omega)]

/-! ### Insertion (R240) -/

/-- The octets of an entry before its GEN. -/
def entryBody (orig : List Byte) (seq flags ttl timeMs : Nat) : List Byte :=
  orig ++ leBytes 2 seq ++ leBytes 1 flags ++ leBytes 1 ttl ++ leBytes 3 timeMs

/-- Entry i is VALID and holds a key of a source. -/
structure HoldsKey (t : State) (i : Nat) (orig : List Byte) (seq source : Nat) : Prop where
  orig : t.rdN (siltAddr i) 8 = orig
  seq : t.rdLe (siltAddr i + 8) 2 = seq
  valid : bitOf (siltFlags t i) 0 = true
  source : siltSource t i = source

theorem HoldsKey.congr (h : HoldsKey s i orig seq source) (hm : t.mem = s.mem) : HoldsKey t i orig seq source := by
  have hflags : siltFlags t i = siltFlags s i := by rw [siltFlags, siltFlags, State.rd8, State.rd8, hm]
  refine ⟨?_, ?_, ?_, ?_⟩
  · rw [rdN_congr hm, h.orig]
  · rw [State.rdLe, rdN_congr hm, ← State.rdLe, h.seq]
  · rw [hflags, h.valid]
  · rw [siltSource, hflags, ← siltSource, h.source]

theorem holdsKey_siltWrite (s : State) (i ttl timeMs : Nat) (sched : Bool) (ho : orig.length = 8) (hseq : seq < 65536) (hsrc : source < 4) :
    HoldsKey (siltWrite s i (entryBody orig seq (1 + 2 * source + 8 * b2n sched) ttl timeMs)) i orig seq source := by
  have hflags : siltFlags (siltWrite s i (entryBody orig seq (1 + 2 * source + 8 * b2n sched) ttl timeMs)) i =
      1 + 2 * source + 8 * b2n sched := by
    rw [siltFlags_siltWrite (by simp [entryBody, ho])]
    have hfits : 1 + 2 * source + 8 * b2n sched < 256 := by unfold b2n; split <;> omega
    simp [entryBody, octAt, leBytes, ho, Nat.mod_eq_of_lt hfits]
  refine ⟨?orig, ?seq, ?valid, ?source⟩
  case orig =>
    have hpart := rdN_wrN_part s (siltAddr i) [] orig
    rw [ho] at hpart
    simpa [siltWrite, entryBody] using hpart _
  case seq =>
    have hpart := rdN_wrN_part s (siltAddr i) orig (leBytes 2 seq)
    rw [ho, length_leBytes] at hpart
    have hread : (siltWrite s i (entryBody orig seq (1 + 2 * source + 8 * b2n sched) ttl timeMs)).rdN (siltAddr i + 8) 2 = leBytes 2 seq := by
      simpa [siltWrite, entryBody] using hpart _
    rw [State.rdLe, hread, ofLe_leBytes]
    exact Nat.mod_eq_of_lt hseq
  case valid =>
    rw [hflags, bitOf, beq_iff_eq]
    omega
  case source =>
    rw [siltSource, hflags, bitsOf]
    omega

theorem siltOldest_lt (s : State) (set : Nat) : siltOldest s set < 4 :=
  List.foldlRecOn (motive := (· < 4)) _ _ (by decide) fun b hb w hw => by
    split
    · exact List.mem_range.mp hw
    · exact hb

/-- A key stands in its set, and beside the cache only FLD_EVICT may have counted. -/
structure Inserted (s t : State) (orig : List Byte) (seq source : Nat) : Prop where
  entry : ∃ i, i / 4 = siltSet orig seq ∧ HoldsKey t i orig seq source
  fld : ∀ f : Field, FLD_EVICT ≠ f.addr → t.fld f = s.fld f
  frames : t.frames = s.frames

theorem inserted_siltWrite {u : State} (hu : u = s ∨ u = s.bump FLD_EVICT_COUNT) (hi : i / 4 = siltSet orig seq) (ttl timeMs : Nat) (sched : Bool)
    (ho : orig.length = 8) (hseq : seq < 65536) (hsrc : source < 4) :
    Inserted s (siltWrite u i (entryBody orig seq (1 + 2 * source + 8 * b2n sched) ttl timeMs)) orig seq source where
  entry := ⟨i, hi, holdsKey_siltWrite u i ttl timeMs sched ho hseq hsrc⟩
  fld f hf := by
    rw [fld_congr (siltWrite_cacheOnly ..).regs]
    obtain rfl | rfl := hu
    · rfl
    · exact fld_bump_ne _ _ _ (.inl hf)
  frames := by
    rw [(siltWrite_cacheOnly ..).frames]
    obtain rfl | rfl := hu
    · rfl
    · exact frames_bump ..

/-- A key that is not found is inserted (R240). -/
theorem siltLookup_miss (h : siltFind s hold orig seq = none) (ttl timeMs : Nat) (sched : Bool) (ho : orig.length = 8) (hseq : seq < 65536)
    (hsrc : source < 4) : ∃ t, siltLookup s hold orig seq source ttl timeMs sched = (none, t) ∧ Inserted s t orig seq source := by
  unfold siltLookup
  rw [h]
  dsimp only
  cases hfree : (List.range 4).find? fun w => !siltLive s hold (4 * siltSet orig seq + w) with
  | some w =>
    have hw : w < 4 := List.mem_range.mp (List.mem_of_find?_eq_some hfree)
    exact ⟨_, rfl, inserted_siltWrite (.inl rfl) (i := 4 * siltSet orig seq + w) (by omega) ttl timeMs sched ho hseq hsrc⟩
  | none =>
    have hw : (4 * siltSet orig seq + siltOldest s (siltSet orig seq)) / 4 = siltSet orig seq := by
      have := siltOldest_lt s (siltSet orig seq)
      omega
    exact ⟨_, rfl, inserted_siltWrite (.inr rfl) hw ttl timeMs sched ho hseq hsrc⟩

theorem siltLookup_hit (h : siltFind s hold orig seq = some i) (source ttl timeMs : Nat) (sched : Bool) :
    siltLookup s hold orig seq source ttl timeMs sched = (some i, s) := by
  rw [siltLookup, h]

/-! ### VALID clears in an entry -/

theorem length_clearedBody (s : State) (i f : Nat) : ((s.rdN (siltAddr i) 15).set 10 (BitVec.ofNat 8 f)).length = 15 := by simp

theorem siltClear_cacheOnly (s : State) (i : Nat) : CacheOnly s (siltClear s i) := siltWrite_cacheOnly ..

theorem valid_siltClear (s : State) (i : Nat) : bitOf (siltFlags (siltClear s i) i) 0 = false := by
  have hflags : siltFlags (siltClear s i) i = siltFlags s i / 2 * 2 % 256 := by
    rw [siltClear, siltSetFlags, siltFlags_siltWrite (length_clearedBody ..), octAt, List.getD_eq_getElem _ _ (by simp), List.getElem_set_self,
      BitVec.toNat_ofNat]
  rw [hflags, bitOf, beq_eq_false_iff_ne]
  omega

theorem siltFlags_siltClear_ne (hij : i ≠ j) : siltFlags (siltClear s i) j = siltFlags s j :=
  siltFlags_siltWrite_ne (length_clearedBody ..) hij

theorem siltLive_siltClear_ne (hij : i ≠ j) : siltLive (siltClear s i) hold j = siltLive s hold j :=
  siltLive_siltWrite_ne (length_clearedBody ..) hij

theorem siltLive_siltClear (s : State) (hold i : Nat) : siltLive (siltClear s i) hold i = false := by
  rw [siltLive, valid_siltClear, Bool.false_and]

/-! ### Loops over entries -/

/-- What a pass over an entry settles for it and no pass unsettles holds, after the loop, of the entries passed and of those of which it
held before. -/
theorem foldl_settles {P : State → Nat → Prop} {f : State → Nat → State} (hset : ∀ s i, P (f s i) i) (hkeep : ∀ s i j, P s j → P (f s i) j)
    (l : List Nat) (s : State) (h : j ∈ l ∨ P s j) : P (l.foldl f s) j := by
  induction l generalizing s with
  | nil => exact h.resolve_left List.not_mem_nil
  | cons i l ih =>
    refine ih _ ?_
    rcases h with h | h
    · rcases List.mem_cons.mp h with rfl | h
      · exact .inr (hset s j)
      · exact .inl h
    · exact .inr (hkeep s i j h)

theorem mem_of_stGet_ne {α : Type} {d : α} {m : Store α} {k : Nat} (h : stGet d m k ≠ d) : (k, stGet d m k) ∈ m := by
  induction m with
  | nil => exact absurd rfl h
  | cons e m ih =>
    rw [stGet] at h ⊢
    split_ifs at h ⊢ with he
    · exact he ▸ List.mem_cons_self
    · exact List.mem_cons_of_mem _ (ih h)

theorem mem_siltValid (hi : i < 65536) (h : bitOf (siltFlags s i) 0 = true) : i ∈ siltValid s := by
  have hodd : (s.rd8 (siltAddr i + 10)).toNat % 2 = 1 := by simpa [bitOf, siltFlags] using h
  have hne : s.rd8 (siltAddr i + 10) ≠ 0 := fun h0 => by simp [h0] at hodd
  have hplace : 0x02200000 ≤ siltAddr i + 10 ∧ siltAddr i + 10 < 0x02300000 ∧ (siltAddr i + 10) % 16 = 10 ∧
      (siltAddr i + 10 - 0x02200000) / 16 = i := by unfold siltAddr; omega
  obtain ⟨hlow, hhigh, hten, hentry⟩ := hplace
  refine List.mem_filterMap.mpr ⟨_, mem_of_stGet_ne hne, (if_pos ?_).trans (congrArg some hentry)⟩
  simp only [Bool.and_eq_true, decide_eq_true_eq]
  exact ⟨⟨⟨hlow, hhigh⟩, hten⟩, hodd⟩

/-! ### The flush (R251) -/

theorem valid_siltFlush (s : State) (hi : i < 65536) : bitOf (siltFlags (siltFlush s) i) 0 = false := by
  refine foldl_settles (P := fun t j => bitOf (siltFlags t j) 0 = false) valid_siltClear (fun t i j h => ?_) _ s ?_
  · by_cases hij : i = j
    · rw [hij, valid_siltClear]
    · rw [siltFlags_siltClear_ne hij, h]
  · cases hv : bitOf (siltFlags s i) 0 with
    | false => exact .inr rfl
    | true => exact .inl (mem_siltValid hi hv)

theorem regs_siltFlush (s : State) : (siltFlush s).regs = s.regs :=
  List.foldlRecOn (motive := fun t => t.regs = s.regs) _ _ rfl fun t ht i _ => (siltClear_cacheOnly t i).regs.trans ht

/-! ### The sweep (R239) -/

/-- The pass of the sweep over an entry. -/
def sweepEntry (s : State) (i : Nat) : State := if siltLive s (s.act FLD_SILT_HOLD) i then s else siltClear s i

/-- The sweep over every VALID entry. -/
def swept (s : State) : State := (siltValid s).foldl sweepEntry s

theorem regs_sweepEntry (s : State) (i : Nat) : (sweepEntry s i).regs = s.regs := by
  unfold sweepEntry
  split
  · rfl
  · exact (siltClear_cacheOnly s i).regs

theorem hold_sweepEntry (s : State) (i : Nat) : (sweepEntry s i).act FLD_SILT_HOLD = s.act FLD_SILT_HOLD := fld_congr (regs_sweepEntry s i) _

theorem siltLive_sweepEntry (s : State) (i j : Nat) :
    siltLive (sweepEntry s i) (s.act FLD_SILT_HOLD) j = siltLive s (s.act FLD_SILT_HOLD) j := by
  unfold sweepEntry
  split
  next => rfl
  next hdead =>
    by_cases hij : i = j
    · rw [← hij, siltLive_siltClear, Bool.eq_false_iff.mpr hdead]
    · exact siltLive_siltClear_ne hij

/-- VALID of an entry tells whether it is live. -/
def Settled (s : State) (i : Nat) : Prop := bitOf (siltFlags s i) 0 = siltLive s (s.act FLD_SILT_HOLD) i

theorem settled_sweepEntry (s : State) (i : Nat) : Settled (sweepEntry s i) i := by
  rw [Settled, hold_sweepEntry, siltLive_sweepEntry, sweepEntry]
  split
  next hlive => rw [hlive, (Bool.and_eq_true_iff.mp hlive).1]
  next hdead => rw [valid_siltClear, Bool.eq_false_iff.mpr hdead]

theorem settled_sweepEntry_of_settled (s : State) (i j : Nat) (h : Settled s j) : Settled (sweepEntry s i) j := by
  by_cases hij : i = j
  · exact hij ▸ settled_sweepEntry s i
  · rw [Settled, hold_sweepEntry, siltLive_sweepEntry, sweepEntry]
    split
    · exact h
    · rw [siltFlags_siltClear_ne hij, h]

theorem settled_swept (s : State) (hi : i < 65536) : Settled (swept s) i := by
  refine foldl_settles settled_sweepEntry settled_sweepEntry_of_settled _ s ?_
  cases hv : bitOf (siltFlags s i) 0 with
  | false => exact .inr (by rw [Settled, siltLive, hv, Bool.false_and])
  | true => exact .inl (mem_siltValid hi hv)

theorem swept_leaves (s : State) : (swept s).regs = s.regs ∧
    ∀ i, siltLive (swept s) (s.act FLD_SILT_HOLD) i = siltLive s (s.act FLD_SILT_HOLD) i :=
  List.foldlRecOn (motive := fun t => t.regs = s.regs ∧ ∀ i, siltLive t (s.act FLD_SILT_HOLD) i = siltLive s (s.act FLD_SILT_HOLD) i)
    _ _ ⟨rfl, fun _ => rfl⟩ fun t ⟨hregs, hlive⟩ j _ => by
      have hhold : t.act FLD_SILT_HOLD = s.act FLD_SILT_HOLD := fld_congr hregs _
      exact ⟨(regs_sweepEntry t j).trans hregs, fun i => hhold ▸ (siltLive_sweepEntry t j i).trans (hhold ▸ hlive i)⟩

/-- After the sweep VALID stands in the entries that were live, and in no other. -/
theorem valid_swept (s : State) (hi : i < 65536) : bitOf (siltFlags (swept s) i) 0 = siltLive s (s.act FLD_SILT_HOLD) i := by
  obtain ⟨hregs, hlive⟩ := swept_leaves s
  have hhold : (swept s).act FLD_SILT_HOLD = s.act FLD_SILT_HOLD := fld_congr hregs _
  rw [settled_swept s hi, hhold, hlive]

end Sys2Proof.Architecture
end

section
/-! SUPPORT. What Vetch sends: records to neighbours, and the publication of a flood (R245, R246, R265 to R268). -/

namespace Sys2Proof.Architecture

open Sys2Proof.Machine

variable {s t u : State}

/-! ### Records to neighbours -/

/-- Vetch has sent something: beside VFB_TXFRM no register, no memory and nothing of an import is touched. -/
structure Sent (s t : State) : Prop where
  keeps : keeps s t [VFB_TXFRM]
  asked : t.importAsked = s.importAsked
  ends : t.importEnds = s.importEnds
  answers : t.importAnswers = s.importAnswers

theorem Sent.refl (s : State) : Sent s s := ⟨keeps_refl s _, rfl, rfl, rfl⟩

theorem Sent.trans (h : Sent s t) (h' : Sent t u) : Sent s u :=
  ⟨keeps_trans h.keeps h'.keeps, h'.asked.trans h.asked, h'.ends.trans h.ends, h'.answers.trans h.answers⟩

theorem Sent.foldl {α : Type} (f : State → α → State) (h : ∀ t x, Sent t (f t x)) (l : List α) (s : State) : Sent s (l.foldl f s) :=
  List.foldlRecOn (motive := Sent s) _ _ (Sent.refl s) fun t ht x _ => ht.trans (h t x)

theorem sent_cellSend (s : State) (type dst : Nat) (body : List Byte) : Sent s (cellSend s type dst body) := by
  rw [cellSend_eq]
  exact ⟨keeps_of_eq rfl rfl, rfl, rfl, rfl⟩

theorem sent_fabricCell (s : State) (member dst : Nat) (record : List Byte) : Sent s (fabricCell s member dst record) := sent_cellSend ..

theorem sent_frame (s : State) (nums : List Nat) (o : List Byte) : Sent s ((s.emit .fabricFrame nums o).bump VFB_TXFRM_COUNT) :=
  ⟨keeps_bump (keeps_emit (keeps_refl s _) _ _ _) (List.mem_singleton_self _), importAsked_bump (s.emit _ _ _) _,
    importEnds_bump (s.emit _ _ _) _, importAnswers_bump (s.emit _ _ _) _⟩

theorem Sent.withVfb (h : Sent s t) (x : FabricX) : Sent s (withVfb t x) := ⟨keeps_withVfb h.keeps x, h.asked, h.ends, h.answers⟩

theorem sent_frameSend (s : State) (dst count : Nat) (records : List Byte) : Sent s (frameSend s dst count records) := by
  unfold frameSend
  split
  · exact Sent.refl s
  · exact (Sent.foldl _ (fun t p => sent_frame t [p, dst] _) _ s).withVfb _

theorem sent_recordSend (s : State) (dst : Nat) (record : List Byte) : Sent s (recordSend s dst record) := by
  unfold recordSend
  split
  · exact sent_frameSend ..
  · split
    · exact sent_fabricCell ..
    · exact Sent.refl s

theorem sent_neighbourSend (s : State) (n : Nat) (record : List Byte) : Sent s (neighbourSend s n record) := by
  unfold neighbourSend
  split
  · exact sent_fabricCell ..
  · exact sent_recordSend ..

/-! ### The publication (R246) -/

/-- The registers that a publication counts in. -/
def publishRegs : List Nat := [VFB_TXFRM, FLD_PUB, FLD_PUBLOST]

theorem Sent.keepsPublish (h : Sent s t) : Machine.keeps s t publishRegs := keeps_mono h.keeps (by decide)

theorem keeps_bump_if {l : List Nat} (h : keeps s t l) (c : Prop) [Decidable c] {f : Field} (hf : f.addr ∈ l) :
    keeps s (if c then t.bump f else t) l := by
  split
  · exact keeps_bump h hf
  · exact h

theorem keeps_send_if {c : Prop} [Decidable c] (h : keeps s t publishRegs) (hu : Sent t u) : keeps s (if c then u else t) publishRegs := by
  split
  · exact keeps_trans h hu.keepsPublish
  · exact h

theorem floodPublish_keeps (s : State) (ctl : Nat) (orig : List Byte) (seq ttl : Nat) :
    keeps s (floodPublish s ctl orig seq ttl) publishRegs := by
  unfold floodPublish
  refine keeps_bump_if (keeps_bump_if (keeps_send_if (keeps_send_if (keeps_refl s _) ?cell) ?records) _ (by decide)) _ (by decide)
  case cell => exact sent_fabricCell ..
  case records => exact Sent.foldl _ (fun t d => sent_recordSend t d _) _ _

end Sys2Proof.Architecture
end

section
/-! SUPPORT. The commands of the flood engine: decisions, fabric records, imports and marks (R241, R247 to R251). -/

namespace Sys2Proof.Architecture

open Sys2Proof.Machine

variable {s t : State} {f i sender v : Nat} {x : RxFrame} {b orig : List Byte}

theorem leAt_two_lt (l : List Byte) (k : Nat) : leAt l k 2 < 65536 := by
  refine (ofLe_lt _).trans_le (Nat.pow_le_pow_right (by decide) ?_ : _ ≤ 256 ^ 2)
  exact List.length_take_le _ _

/-! ### Counters behind an insertion -/

theorem Inserted.frozen {seq source : Nat} (h : Inserted s t orig seq source) : t.frozen = s.frozen := frozen_congr (h.fld _ (by decide))

/-- A counter that is not FLD_EVICT counts once from its value before the insertion. -/
theorem Inserted.fld_bump {seq source : Nat} (h : Inserted s t orig seq source) {c : Field} (hc : c.lo + c.width ≤ 32) (hne : FLD_EVICT ≠ c.addr)
    (hf : s.frozen = false) : (t.bump c).fld c = satInc c.width (s.fld c) 1 := by
  rw [Architecture.fld_bump t c hc (h.frozen.trans hf), h.fld c hne]

/-! ### Decisions on floods (R241) -/

/-- The frame is decided on. -/
def floodTaken (s : State) (f : Nat) (x : RxFrame) : State := s.setFrame f { x with flood := false }

/-- The flags octet is the last of the header, so a header with a flag has an ORIG of eight octets. -/
theorem length_orig_of_flag {p : List Byte} {n : Nat} (h : bitOf (octAt p 12) n = true) : ((p.drop 4).take 8).length = 8 := by
  have hlen : 12 < p.length := by
    by_contra hshort
    rw [octAt, List.getD_eq_default _ _ (Nat.le_of_not_lt hshort)] at h
    exact Bool.false_ne_true ((bitOf_zero n).symm.trans h)
  rw [List.length_take, List.length_drop]
  omega

/-- A new local flood that goes no further is inserted and counted. -/
theorem floodDecide_ended (hf : s.frame f = some x) (hflood : x.flood = true) (hlocal : bitOf (octAt (macPayload x) 12) 3 = true)
    (httl : min (octAt (macPayload x) 1) (bitsOf (x.fld.getD 0 0) 23 16) < 2)
    (hnew : siltFind s (x.fld.getD 2 0 % 256) (((macPayload x).drop 4).take 8) (leAt (macPayload x) 2 2) = none) :
    ∃ t, Inserted (floodTaken s f x) t (((macPayload x).drop 4).take 8) (leAt (macPayload x) 2 2) 0 ∧
      floodDecide s f = (t.bump FLD_RXNEW_COUNT).bump FLD_TTLEND_COUNT := by
  have hnew' : siltFind (floodTaken s f x) (x.fld.getD 2 0 % 256) (((macPayload x).drop 4).take 8) (leAt (macPayload x) 2 2) = none := hnew
  obtain ⟨t, ht, hins⟩ := siltLookup_miss (source := 0) hnew' (octAt (macPayload x) 1) ((floodTaken s f x).ms % 2 ^ 24) false
    (length_orig_of_flag hlocal) (leAt_two_lt _ _) (by decide)
  rw [floodTaken] at ht
  refine ⟨t, hins, ?_⟩
  simp only [floodDecide, hf, hflood, hlocal, Nat.not_le.mpr httl, decide_false, Bool.false_and, Bool.not_true, Bool.not_false,
    Bool.false_eq_true, if_false, if_true]
  rw [ht]

theorem frame_resReturn (hf : s.frame f = some x) : (resReturn s f).frame f = some { x with slot := none, dest := none } := by
  rw [resReturn, hf]
  exact (frame_setFrame ..).trans (if_pos rfl)

theorem mem_frameGc (s : State) (f : Nat) : (frameGc s f).mem = s.mem := by
  unfold frameGc
  cases s.frame f with
  | none => rfl
  | some x => dsimp only; split <;> rfl

/-- What leaves the link controller is erased, and nothing else changes. -/
theorem frame_of_frameGc {y : RxFrame} (h : (frameGc s f).frame f = some y) : s.frame f = some y := by
  unfold frameGc at h
  cases hf : s.frame f with
  | none => rw [hf] at h; rw [← hf]; exact h
  | some x =>
    rw [hf] at h
    dsimp only at h
    split at h
    · rw [State.frame, find?_stErase] at h
      contradiction
    · rw [← hf]; exact h

/-- The frame has given back its slot and place and is not delivered. -/
def floodWithheld (s : State) (f : Nat) (x : RxFrame) : State :=
  (resReturn (floodTaken s f x) f).setFrame f { x with flood := false, slot := none, dest := none, deliver := false }

theorem floodWithheld_keeps (s : State) (f : Nat) (x : RxFrame) : keeps s (floodWithheld s f x) [LNK_BUFSTAT] :=
  keeps_setFrame (keeps_trans (keeps_setFrame (keeps_refl s _) f _) (resReturn_keeps (floodTaken s f x) f)) f _

theorem siltSource_congr (h : t.mem = s.mem) (i : Nat) : siltSource t i = siltSource s i := by
  rw [siltSource, siltFlags, State.rd8, h]
  rfl

/-- A flood that a neighbour's record has brought is taken back from delivery and counted. -/
theorem floodDecide_seenFabric (hf : s.frame f = some x) (hflood : x.flood = true)
    (hhit : siltFind s (x.fld.getD 2 0 % 256) (((macPayload x).drop 4).take 8) (leAt (macPayload x) 2 2) = some i)
    (hsource : siltSource s i = 1) :
    floodDecide s f = frameGc ((floodWithheld s f x).bump FLD_SEEN_FAB_COUNT) f := by
  have hhit' : siltFind (s.setFrame f { x with flood := false }) (x.fld.getD 2 0 % 256) (((macPayload x).drop 4).take 8)
      (leAt (macPayload x) 2 2) = some i := hhit
  have hback : (resReturn (s.setFrame f { x with flood := false }) f).frame f =
      some { x with flood := false, slot := none, dest := none } := frame_resReturn ((frame_setFrame ..).trans (if_pos rfl))
  have hsource' : siltSource (floodWithheld s f x) i = 1 := (siltSource_congr (floodWithheld_keeps s f x).1 i).trans hsource
  rw [floodWithheld, floodTaken] at hsource' ⊢
  simp only [floodDecide, hf, hflood, siltLookup_hit hhit', hback, hsource', Bool.not_true, Bool.false_eq_true, if_false,
    Nat.one_ne_zero, decide_false, Bool.or_self, (by decide : ¬ 1 = 3)]

theorem floodDecision_ended (hf : s.frame f = some x) (hflood : x.flood = true) (hlocal : bitOf (octAt (macPayload x) 12) 3 = true)
    (httl : min (octAt (macPayload x) 1) (bitsOf (x.fld.getD 0 0) 23 16) < 2)
    (hnew : siltFind s (x.fld.getD 2 0 % 256) (((macPayload x).drop 4).take 8) (leAt (macPayload x) 2 2) = none) :
    completes (.floodDecision f) s fun t => t.frame f = some { x with flood := false } ∧
      (s.frozen = false → t.fld FLD_RXNEW_COUNT = satInc 32 (s.fld FLD_RXNEW_COUNT) 1 ∧
        t.fld FLD_TTLEND_COUNT = satInc 32 (s.fld FLD_TTLEND_COUNT) 1) := by
  obtain ⟨t, hins, ht⟩ := floodDecide_ended hf hflood hlocal httl hnew
  refine ⟨_, congrArg ok ht, ?_, fun h => ⟨?_, ?_⟩⟩
  · rw [frame_congr (frames_bump ..), frame_congr (frames_bump ..), frame_congr hins.frames]
    exact (frame_setFrame ..).trans (if_pos rfl)
  · rw [fld_bump_ne _ _ _ (.inl (by decide))]
    exact hins.fld_bump (by decide) (by decide) h
  · have hfrozen : (t.bump FLD_RXNEW_COUNT).frozen = false :=
      (frozen_congr (fld_bump_ne _ _ _ (.inl (by decide)))).trans (hins.frozen.trans h)
    rw [fld_bump _ _ (by decide) hfrozen, fld_bump_ne _ _ _ (.inl (by decide)), hins.fld _ (by decide)]
    rfl

theorem floodDecision_seenFabric (hf : s.frame f = some x) (hflood : x.flood = true)
    (hhit : siltFind s (x.fld.getD 2 0 % 256) (((macPayload x).drop 4).take 8) (leAt (macPayload x) 2 2) = some i)
    (hsource : siltSource s i = 1) :
    completes (.floodDecision f) s fun t => (∀ y, t.frame f = some y → y.deliver = false) ∧ t.mem = s.mem ∧
      (s.frozen = false → t.fld FLD_SEEN_FAB_COUNT = satInc 32 (s.fld FLD_SEEN_FAB_COUNT) 1) := by
  have hkept := floodWithheld_keeps s f x
  refine ⟨_, congrArg ok (floodDecide_seenFabric hf hflood hhit hsource), fun y hy => ?_, ?_, fun h => ?_⟩
  · have hy' := frame_of_frameGc hy
    rw [frame_congr (frames_bump ..), floodWithheld, frame_setFrame, if_pos rfl] at hy'
    rw [← Option.some.inj hy']
  · rw [mem_frameGc, mem_bump, hkept.1]
  · have hfrozen : (floodWithheld s f x).frozen = false := (frozen_congr (fld_of_keeps hkept (by decide))).trans h
    rw [fld_congr (regs_frameGc ..), fld_bump _ _ (by decide) hfrozen, fld_of_keeps hkept (by decide)]
    rfl

/-! ### Records of neighbours (R245, R247) -/

theorem floodRecord_inserts (h2 : octAt b 11 ≠ 2) (h3 : octAt b 11 ≠ 3) : floodRecord s sender b = floodInsert s sender b := by
  unfold floodRecord
  split
  · contradiction
  · contradiction
  · rfl

theorem floodInsert_stranger (h : (neighbours s).contains sender = false) : floodInsert s sender b = s.bump FLD_FABDROP_COUNT :=
  if_pos (by rw [h]; rfl)

theorem floodInsert_fresh (hn : (neighbours s).contains sender = true) (hkind : octAt b 11 = 0) (hb : b.length = 24)
    (hage : (s.stamp + 2 ^ 48 - leAt b 12 6) % 2 ^ 48 < s.act FLD_SILT_HOLD * 10 ^ 9)
    (hnew : siltFind s (s.act FLD_SILT_HOLD) (b.take 8) (leAt b 8 2) = none) :
    ∃ t, Inserted s t (b.take 8) (leAt b 8 2) 1 ∧ floodInsert s sender b = t.bump FLD_FABIN_COUNT := by
  obtain ⟨t, ht, hins⟩ := siltLookup_miss (source := 0 + 1) hnew (octAt b 10)
    ((s.ms + 2 ^ 32 - (s.stamp + 2 ^ 48 - leAt b 12 6) % 2 ^ 48 / 10 ^ 6) % 2 ^ 24) false (by simp [hb]) (leAt_two_lt _ _) (by decide)
  refine ⟨t, hins, ?_⟩
  have hgood : ¬ (!(neighbours s).contains sender || decide (1 < octAt b 11) ||
      decide (s.act FLD_SILT_HOLD * 10 ^ 9 ≤ (s.stamp + 2 ^ 48 - leAt b 12 6) % 2 ^ 48)) = true := by
    simp only [hn, hkind, Nat.not_le.mpr hage, decide_false, Bool.not_true, Bool.or_false, Bool.false_or, decide_eq_true_eq]
    decide
  refine (if_neg hgood).trans ?_
  rw [hkind, ht]
  rfl

theorem floodRecordReceived_fresh (hn : (neighbours s).contains sender = true) (hkind : octAt b 11 = 0) (hb : b.length = 24)
    (hage : (s.stamp + 2 ^ 48 - leAt b 12 6) % 2 ^ 48 < s.act FLD_SILT_HOLD * 10 ^ 9)
    (hnew : siltFind s (s.act FLD_SILT_HOLD) (b.take 8) (leAt b 8 2) = none) :
    completes (.floodRecordReceived sender b) s fun t =>
      (∃ i, i / 4 = siltSet (b.take 8) (leAt b 8 2) ∧ t.rdN (siltAddr i) 8 = b.take 8 ∧ t.rdLe (siltAddr i + 8) 2 = leAt b 8 2 ∧
        bitOf (siltFlags t i) 0 = true ∧ siltSource t i = 1) ∧
      (s.frozen = false → t.fld FLD_FABIN_COUNT = satInc 32 (s.fld FLD_FABIN_COUNT) 1) := by
  obtain ⟨t, hins, ht⟩ := floodInsert_fresh hn hkind hb hage hnew
  obtain ⟨i, hset, hkey⟩ := hins.entry
  obtain ⟨horig, hseq, hvalid, hsource⟩ := hkey.congr (mem_bump t FLD_FABIN_COUNT)
  have hrecord : floodRecord s sender b = floodInsert s sender b := floodRecord_inserts (by simp [hkind]) (by simp [hkind])
  exact ⟨_, congrArg ok (hrecord.trans ht), ⟨i, hset, horig, hseq, hvalid, hsource⟩, fun h => hins.fld_bump (by decide) (by decide) h⟩

/-! ### Imports (R248) -/

/-- An import has ended with state v, and nothing but FLD_STAT has changed in registers and memory. -/
structure ImportEnded (s t : State) (v : Nat) : Prop where
  state : t.fld FLD_STAT_IMPORT = v
  asked : t.importAsked = []
  events : t.events = s.events ++ [{ producer := 320, payload := v }]
  keeps : keeps s t [FLD_STAT]

theorem importDone_ended (hv : v < 4) (hk : keeps s t [FLD_STAT]) (he : t.events = s.events) : ImportEnded s (importDone t v) v where
  state := by
    rw [importDone, fld_fire]
    exact fld_setFld_of_lt _ (by decide) hv
  asked := rfl
  events := by
    have hfits : v % 2 ^ 32 = v := Nat.mod_eq_of_lt (by omega)
    rw [← he]
    conv_rhs => rw [← hfits]
    rfl
  keeps := keeps_fire (keeps_setFld (keeps_congr hk rfl rfl) (List.mem_singleton_self _) _) 320 v

/-- The neighbours of an import are those that are asked, none of which has ended. -/
def importBegun (s : State) : State := { s with importAsked := neighbours s, importEnds := [] }.setFld FLD_STAT_IMPORT 1

theorem importBegun_keeps (s : State) : keeps s (importBegun s) [FLD_STAT] :=
  keeps_setFld (keeps_of_eq rfl rfl) (List.mem_singleton_self _) _

theorem importStart_eq (h : s.fld FLD_STAT_IMPORT ≠ 1) (hjoined : (inVenue s || inStack s) = true) (hen : s.act FLD_CTL_IMPORT_EN ≠ 0) :
    importStart s = if (neighbours s).isEmpty then importDone (importBegun s) 2
      else (neighbours s).foldl (fun s n => neighbourSend s n (importRecord s 2)) (importBegun s) := by
  have hin : (!inVenue s && !inStack s) = false := by rw [← Bool.not_or, hjoined]; rfl
  exact if_neg (by simp [h, hin, hen])

theorem importStart_alone (h : s.fld FLD_STAT_IMPORT ≠ 1) (hjoined : (inVenue s || inStack s) = true) (hen : s.act FLD_CTL_IMPORT_EN ≠ 0)
    (hn : neighbours s = []) : ImportEnded s (importStart s) 2 := by
  rw [importStart_eq h hjoined hen, hn]
  exact importDone_ended (by decide) (importBegun_keeps s) rfl

theorem importStart_asks (h : s.fld FLD_STAT_IMPORT ≠ 1) (hjoined : (inVenue s || inStack s) = true) (hen : s.act FLD_CTL_IMPORT_EN ≠ 0)
    (hn : neighbours s ≠ []) : Sent (importBegun s) (importStart s) := by
  rw [importStart_eq h hjoined hen, if_neg (by simpa using hn)]
  exact Sent.foldl _ (fun t n => sent_neighbourSend t n _) _ _

theorem importRequest_taken (hn : (neighbours s).contains sender = true) (hw : (s.importAnswers.any (·.sender = sender)) = false) :
    importRequest s sender = { s with importAnswers := s.importAnswers ++ [{ sender := sender, atMs := s.ms }] } :=
  if_neg (by rw [hn, hw]; decide)

/-- The oldest request is answered. -/
def askTaken (s : State) (rest : List ImportAsk) : State := { s with importAnswers := rest }

theorem importAnswer_sent {a : ImportAsk} {rest : List ImportAsk} (h : s.importAnswers = a :: rest) : Sent (askTaken s rest) (importAnswer s) := by
  unfold importAnswer
  rw [h]
  exact (Sent.foldl _ (fun t i => sent_neighbourSend t _ _) _ _).trans (sent_neighbourSend ..)

/-- The neighbours that have ended, once `sender` has. -/
def endsWith (s : State) (sender : Nat) : List Nat :=
  if s.importEnds.contains sender then s.importEnds else s.importEnds ++ [sender]

theorem contains_endsWith (s : State) (sender n : Nat) :
    (endsWith s sender).contains n = (decide (n = sender) || s.importEnds.contains n) := by
  unfold endsWith
  split
  next h =>
    by_cases hn : n = sender
    · rw [hn, h]; simp
    · simp [hn]
  next => simp [Bool.or_comm]

/-- The end of `sender` is noted. -/
def endNoted (s : State) (sender : Nat) : State := { s with importEnds := endsWith s sender }

theorem importEnd_eq (h : s.fld FLD_STAT_IMPORT = 1) (ha : s.importAsked.contains sender = true) :
    importEnd s sender = if s.importAsked.all (endsWith s sender).contains then importDone (endNoted s sender) 2 else endNoted s sender :=
  if_neg (by simp only [h, ha, ne_eq, not_true_eq_false, decide_false, Bool.not_true, Bool.or_self, Bool.false_eq_true, not_false_eq_true])

theorem importEnd_last (h : s.fld FLD_STAT_IMPORT = 1) (ha : s.importAsked.contains sender = true)
    (hall : ∀ n ∈ s.importAsked, n = sender ∨ s.importEnds.contains n = true) : ImportEnded s (importEnd s sender) 2 := by
  have hended : s.importAsked.all (endsWith s sender).contains = true :=
    List.all_eq_true.mpr fun n hn => by rw [contains_endsWith, Bool.or_eq_true, decide_eq_true_eq]; exact hall n hn
  rw [importEnd_eq h ha, if_pos hended]
  exact importDone_ended (by decide) (keeps_of_eq rfl rfl) rfl

theorem importEnd_waits {n : Nat} (h : s.fld FLD_STAT_IMPORT = 1) (ha : s.importAsked.contains sender = true)
    (hn : s.importAsked.contains n = true) (hne : n ≠ sender) (hopen : s.importEnds.contains n = false) :
    importEnd s sender = endNoted s sender := by
  have hwait : ¬ s.importAsked.all (endsWith s sender).contains = true := fun hall => by
    have hin := List.all_eq_true.mp hall n (List.contains_iff_mem.mp hn)
    rw [contains_endsWith, hopen, decide_eq_false hne] at hin
    contradiction
  rw [importEnd_eq h ha, if_neg hwait]

/-! ### Marks (R250) -/

theorem floodMark_known (ho : orig = leBytes 4 (s.fld FLD_MARKL_ORIG_LO) ++ leBytes 4 (s.fld FLD_MARKH_ORIG_HI))
    (h : siltFind s (s.act FLD_SILT_HOLD) orig (s.fld FLD_MARKSEQ_SEQ) = some i) : floodMark s = s := by
  subst ho
  rw [floodMark, siltLookup_hit h]

/-- A key that is not known is inserted with SOURCE 3 and published. -/
theorem floodMark_new (ho : orig = leBytes 4 (s.fld FLD_MARKL_ORIG_LO) ++ leBytes 4 (s.fld FLD_MARKH_ORIG_HI))
    (h : siltFind s (s.act FLD_SILT_HOLD) orig (s.fld FLD_MARKSEQ_SEQ) = none) :
    ∃ t, Inserted s t orig (s.fld FLD_MARKSEQ_SEQ) 3 ∧ (floodMark s).mem = t.mem := by
  have hlen : orig.length = 8 := by rw [ho, List.length_append, length_leBytes, length_leBytes]
  obtain ⟨t, ht, hins⟩ := siltLookup_miss (source := 3) h (s.fld FLD_MARKSEQ_TTL) (s.ms % 2 ^ 24) false hlen (fld_lt s FLD_MARKSEQ_SEQ) (by decide)
  subst ho
  refine ⟨t, hins, ?_⟩
  rw [floodMark, ht]
  exact (floodPublish_keeps ..).1

theorem markDone_clears (s : State) : (markDone s).fld FLD_CMD_MARK = 0 := fld_setFld_of_lt _ (by decide) (by decide)

/-! ### The commands -/

/-- Settles O14: decisions and records by what a lookup that misses inserts, the sweep and the flush by what their loops settle, imports by
their end and by what they send.  That an import without neighbours ends at once and that a timeout outside an import changes nothing are choices
of the model (log entries 96 and 29). -/
theorem floodCommandsComplete : Obligations.FloodCommandsComplete := by
  refine ⟨fun s f x hf hflood hlocal httl hnew => floodDecision_ended hf hflood hlocal httl hnew,
    fun s f i x hf hflood hhit hsource => floodDecision_seenFabric hf hflood hhit hsource, ?stranger,
    fun s sender b hn hkind hb hage hnew => floodRecordReceived_fresh hn hkind hb hage hnew,
    fun s => ⟨swept s, rfl, fun i hi => valid_swept s hi, (swept_leaves s).1⟩, ?flush, ?alone, ?asks, ?request, ?answer, ?last, ?waits,
    ?timeout, fun s h => if_neg h, ?known, ?new⟩
  case stranger =>
    intro s sender b hn h2 h3
    refine ⟨_, congrArg ok ((floodRecord_inserts h2 h3).trans (floodInsert_stranger hn)), ?_, fun h => fld_bump s _ (by decide) h⟩
    exact keeps_bump (keeps_refl s _) (List.mem_singleton_self _)
  case flush =>
    refine fun s => ⟨flushDone s, rfl, fun i hi => ?_, fld_setFld_of_lt _ (by decide) (by decide), fun a ha => ?_⟩
    · exact valid_siltFlush s hi
    · rw [flushDone, reg_setFld_ne _ _ _ ha.symm, reg_congr (regs_siltFlush s)]
  case alone =>
    intro s h hjoined hen hn
    obtain ⟨hstate, -, hevents, hkeeps⟩ := importStart_alone h hjoined hen hn
    exact ⟨_, rfl, hstate, hevents, hkeeps⟩
  case asks =>
    intro s h hjoined hen hn
    obtain ⟨hkeeps, hasked, hends, -⟩ := importStart_asks h hjoined hen hn
    exact ⟨_, rfl, (fld_of_keeps hkeeps (by decide)).trans (fld_setFld_of_lt _ (by decide) (by decide)), hasked, hends⟩
  case request => exact fun s sender hn hw => ⟨_, congrArg ok (importRequest_taken hn hw), rfl, keeps_of_eq rfl rfl⟩
  case answer =>
    intro s a rest h
    obtain ⟨hkeeps, -, -, hanswers⟩ := importAnswer_sent h
    exact ⟨_, rfl, hanswers, hkeeps.1⟩
  case last =>
    intro s sender h ha hall
    obtain ⟨hstate, hasked, hevents, hkeeps⟩ := importEnd_last h ha hall
    exact ⟨_, rfl, hstate, hasked, hevents, hkeeps⟩
  case waits =>
    intro s sender n h ha hn hne hopen
    exact ⟨_, congrArg ok (importEnd_waits h ha hn hne hopen), (contains_endsWith ..).trans (by simp), rfl, keeps_of_eq rfl rfl⟩
  case timeout =>
    intro s h
    obtain ⟨hstate, hasked, hevents, hkeeps⟩ := importDone_ended (s := s) (v := 3) (by decide) (keeps_refl s _) rfl
    exact ⟨_, if_pos h, hstate, hasked, hevents, hkeeps⟩
  case known =>
    intro s i orig ho h
    refine ⟨markDone s, rfl, markDone_clears s, ?_⟩
    rw [markDone, floodMark_known ho h]
    exact keeps_setFld (keeps_refl s _) (List.mem_singleton_self _) _
  case new =>
    intro s orig ho h
    obtain ⟨t, hins, hmem⟩ := floodMark_new ho h
    obtain ⟨i, hset, hkey⟩ := hins.entry
    obtain ⟨horig, -, hvalid, hsource⟩ := hkey.congr (t := markDone s) hmem
    exact ⟨_, rfl, markDone_clears s, i, hset, horig, hsource, hvalid⟩

end Sys2Proof.Architecture
end

section
/-! SUPPORT. Cells of the stack: what taking one leaves, and the sums that go on (R260, R261, R265). -/

namespace Sys2Proof.Architecture

open Sys2Proof.Machine

variable {s : State} {port type src dst : Nat} {body : List Byte}

/-! ### A cell that arrives (R265) -/

/-- What has left the device is replaced. -/
def withOut (s : State) (o : List Output) : State := { s with out := o }

/-- A cell of member `src` is taken. -/
def cellNoted (s : State) (src : Nat) (cell : List Byte) : State :=
  withStk s { (seenMark s src).stk with cells := cell :: s.stk.cells }

/-- A new cell of another member is taken; where it goes on, that is an output. -/
theorem cellTake_new (hsrc : src ≠ stkMember s) (hnew : s.stk.cells.contains (cellOf type src dst body) = false)
    (hold : s.stk.cellsOld.contains (cellOf type src dst body) = false) :
    ∃ o, cellTake s port type src dst body = (withOut (cellNoted s src (cellOf type src dst body)) o, true) := by
  have hfresh : ¬ (((seenMark s src).stk.cells.contains (cellOf type src dst body)) ||
      (seenMark s src).stk.cellsOld.contains (cellOf type src dst body)) = true := by
    show ¬ (s.stk.cells.contains _ || s.stk.cellsOld.contains _) = true
    rw [hnew, hold]
    exact Bool.false_ne_true
  unfold cellTake
  rw [if_neg hsrc]
  dsimp only
  rw [if_neg hfresh]
  split
  · exact ⟨s.out, rfl⟩
  · exact ⟨_, rfl⟩

/-- A second copy of a cell is discarded. -/
theorem cellTake_copy (hsrc : src ≠ stkMember s) (hseen : s.stk.cells.contains (cellOf type src dst body) = true) :
    cellTake s port type src dst body = (seenMark s src, false) := by
  have hcopy : ((seenMark s src).stk.cells.contains (cellOf type src dst body) ||
      (seenMark s src).stk.cellsOld.contains (cellOf type src dst body)) = true := by
    show (s.stk.cells.contains _ || s.stk.cellsOld.contains _) = true
    rw [hseen, Bool.true_or]
  unfold cellTake
  rw [if_neg hsrc]
  exact if_pos hcopy

/-- With no cell taken in this period and the one before, every cell of another member is new. -/
theorem cellTake_first (hsrc : src ≠ stkMember s) (hcells : s.stk.cells = []) (hold : s.stk.cellsOld = []) :
    ∃ x o, cellTake s port type src dst body = (withOut (withStk s x) o, true) :=
  ⟨_, cellTake_new hsrc (by rw [hcells]; rfl) (by rw [hold]; rfl)⟩

theorem cellNoted_keeps (s : State) (src : Nat) (cell : List Byte) (o : List Output) (l : List Nat) :
    keeps s (withOut (cellNoted s src cell) o) l := keeps_of_eq rfl rfl

/-! ### Partial sums (R260, R261) -/

theorem sumsCell_up {tag dir : Nat} (h : bitOf (ringUp s) dir = true) (first : Nat) (words : List Word) :
    sumsCell s tag dir first words = s.emit .stackCell [5, tag / 512, 2 ^ dir] (cellOf 5 (stkMember s) (tag / 512) (leBytes 2 tag
      ++ leBytes 4 (first % 2 ^ 20) ++ leBytes 1 words.length ++ leBytes 1 0 ++ words.flatMap fun w => leBytes 4 w.toNat)) := if_pos h

/-- Sums that leave are outputs. -/
theorem sumsCell_out (s : State) (tag dir first : Nat) (words : List Word) : ∃ o, sumsCell s tag dir first words = withOut s o := by
  unfold sumsCell
  split
  · exact ⟨_, rfl⟩
  · exact ⟨s.out, rfl⟩

theorem sumsSend_out (s : State) (tag dir band first : Nat) (words : List Word) : ∃ o, sumsSend s tag dir band first words = withOut s o := by
  refine List.foldlRecOn (motive := fun t => ∃ o, t = withOut s o) _ _ ⟨s.out, rfl⟩ ?_
  rintro t ⟨o, rfl⟩ i -
  exact sumsCell_out (withOut s o) ..

theorem sumsSend_out_if (s : State) (c : Prop) [Decidable c] (tag dir band first : Nat) (words : List Word) :
    ∃ o, (if c then sumsSend s tag dir band first words else s) = withOut s o := by
  split
  · exact sumsSend_out ..
  · exact ⟨s.out, rfl⟩

end Sys2Proof.Architecture
end

section
/-! SUPPORT. The commands of the stack ring: synchronization, record images, joint lanes, links and the leader (R255 to R265). -/

namespace Sys2Proof.Architecture

open Sys2Proof.Machine

variable {s : State} {p : Fin 2} {m : Fin 8} {n : Fin 16384} {tag : Fin 4096}

/-- A member of a stack that is not its leader has another member as leader. -/
theorem leader_ne_member (hs : inStack s = true) (hl : isLeader s = false) : stkLeader s ≠ stkMember s := by
  intro h
  rw [isLeader, hs, h, Bool.true_and, beq_self_eq_true] at hl
  contradiction

/-! ### Synchronization (R256) -/

theorem cellSend_up (hs : inStack s = true) (hr : ringUp s ≠ 0) (type dst : Nat) (body : List Byte) :
    cellSend s type dst body = s.emit .stackCell [type, dst, ringUp s] (cellOf type (stkMember s) dst body) :=
  if_neg (by rw [hs, decide_eq_false hr]; decide)

theorem inStack_of_isLeader (h : isLeader s = true) : inStack s = true := (Bool.and_eq_true_iff.mp h).1

theorem execSyncCellSend_up (hl : isLeader s = true) (hr : ringUp s ≠ 0) : exec .syncCellSend s =
    .next (s.emit .stackCell [1, 15, ringUp s] (cellOf 1 (stkMember s) 15 (leBytes 8 (s.epoch + 1)))) :=
  (if_pos hl).trans (congrArg ok (cellSend_up (inStack_of_isLeader hl) hr ..))

theorem follower_takes (hs : inStack s = true) (hl : isLeader s = false) : ¬ (!inStack s || isLeader s) = true := by
  rw [hs, hl]
  decide

theorem execSyncCellReceived_eq (hs : inStack s = true) (hl : isLeader s = false) (e : Nat) :
    exec (.syncCellReceived ⟨p, e⟩) s = ok
      (if (cellTake s p 1 (stkLeader s) 15 (leBytes 8 e)).2
        then withStk (cellTake s p 1 (stkLeader s) 15 (leBytes 8 e)).1
          { (cellTake s p 1 (stkLeader s) 15 (leBytes 8 e)).1.stk with syncEpoch := e, missedSync := 0 }
        else (cellTake s p 1 (stkLeader s) 15 (leBytes 8 e)).1) := if_neg (follower_takes hs hl)

/-- What eight bits hold of an edge's place. -/
theorem signedOf_wrapOf_clamp (e : Int) : signedOf 8 (wrapOf 8 (max (-128) (min 127 e))) = max (-128) (min 127 e) := by
  unfold signedOf wrapOf
  split <;> omega

theorem wrapOf_lt (w : Nat) (v : Int) : wrapOf w v < 2 ^ w := by
  have h := Int.emod_lt_of_pos v (b := 2 ^ w) (by positivity)
  have h' := Int.emod_nonneg v (b := 2 ^ w) (by positivity)
  unfold wrapOf
  zify
  rwa [Int.toNat_of_nonneg h']

/-- The place of the edge is shown, and the edge is not missed. -/
def edgeNoted (s : State) (e : Int) : State :=
  withStk (s.setFld STK_SKEW_SKEW (wrapOf 8 (max (-128) (min 127 e)))) { s.stk with missedEdge := 0 }

theorem skew_edgeNoted (s : State) (e : Int) : signedOf 8 ((edgeNoted s e).fld STK_SKEW_SKEW) = max (-128) (min 127 e) := by
  rw [edgeNoted, fld_withStk, fld_setFld_of_lt _ (by decide) (wrapOf_lt 8 _), signedOf_wrapOf_clamp]

theorem edgeNoted_keeps (s : State) (e : Int) : keeps s (edgeNoted s e) [STK_SKEW] :=
  keeps_withStk (keeps_setFld (keeps_refl s _) (List.mem_singleton_self _) _) _

theorem execStackSyncEdge_near {e : Int} (hs : inStack s = true) (hl : isLeader s = false) (he : e.natAbs ≤ 8) :
    exec (.stackSyncEdge e) s = .next (withStk (edgeNoted s e) { (edgeNoted s e).stk with trim := e }) :=
  (if_neg (follower_takes hs hl)).trans (if_pos he)

theorem execStackSyncEdge_far {e : Int} (hs : inStack s = true) (hl : isLeader s = false) (he : 8 < e.natAbs) :
    exec (.stackSyncEdge e) s = .next (withVfb (withStk (edgeNoted s e) { (edgeNoted s e).stk with trim := 0 })
      { s.vfb with step := some (-(e * 5) / 3, s.uptime) }) :=
  (if_neg (follower_takes hs hl)).trans (if_neg (Nat.not_le.mpr he))

/-! ### Record images (R258) -/

/-- A newer image replaces the record behind its PENDING, and its GEN becomes the record's. -/
def imageTaken (s : State) (n : Nat) (l : List Byte) : State :=
  (s.wrN (recAddr n + 2) (((l.drop 2).set 15 0).set 15 (BitVec.ofNat 8 (recPending s n)))).wrN (recAddr n) (leBytes 2 (leAt l 0 2))

/-- The image of member `m` takes the place of the record: its GEN is ahead by up to half of the count, or it is another image with the
record's GEN and of a lower member. -/
def imageApplies (s : State) (m n : Nat) (l : List Byte) : Bool :=
  (1 ≤ (leAt l 0 2 + 65536 - recLe s n 0 2) % 65536 && (leAt l 0 2 + 65536 - recLe s n 0 2) % 65536 ≤ 32767) ||
    ((leAt l 0 2 + 65536 - recLe s n 0 2) % 65536 = 0 && (s.rdN (recAddr n + 2) 34).set 15 0 ≠ (l.drop 2).set 15 0 && m < stkMember s)

theorem image_fits {l : List Byte} (hs : inStack s = true) (hl : l.length = 36) : ¬ (!inStack s || decide (l.length ≠ 36)) = true := by
  rw [hs, hl]
  decide

section
variable {l : List Byte} (hs : inStack s = true) (hm : m.val ≠ stkMember s) (hl : l.length = 36)
  (hnew : s.stk.cells.contains (cellOf 6 m 15 (leBytes 2 n ++ l)) = false)
  (hold : s.stk.cellsOld.contains (cellOf 6 m 15 (leBytes 2 n ++ l)) = false)
include hs hm hl hnew hold

/-- A new image is applied where its GEN is ahead, or it differs at the same GEN and comes of a lower member; else it is stale. -/
theorem execImageCellReceived_new : ∃ o, exec (.imageCellReceived ⟨p, m⟩ n l) s = .next
    (if imageApplies s m n l
      then (imageTaken (withOut (cellNoted s m (cellOf 6 m 15 (leBytes 2 n ++ l))) o) n l).bump STK_RECAPPLY_COUNT
      else (withOut (cellNoted s m (cellOf 6 m 15 (leBytes 2 n ++ l))) o).bump STK_RECSTALE_COUNT) := by
  obtain ⟨o, ho⟩ := cellTake_new (port := p) hm hnew hold
  refine ⟨o, ?_⟩
  show execImageCellReceived ⟨p, m⟩ n l s = _
  unfold execImageCellReceived
  dsimp only
  rw [if_neg (image_fits hs hl), ho]
  exact (apply_ite ok (imageApplies s m n l = true) _ _).symm

theorem execImageCellReceived_newer (h1 : 1 ≤ (leAt l 0 2 + 65536 - recLe s n 0 2) % 65536)
    (h2 : (leAt l 0 2 + 65536 - recLe s n 0 2) % 65536 ≤ 32767) :
    ∃ o, exec (.imageCellReceived ⟨p, m⟩ n l) s =
      .next ((imageTaken (withOut (cellNoted s m (cellOf 6 m 15 (leBytes 2 n ++ l))) o) n l).bump STK_RECAPPLY_COUNT) := by
  obtain ⟨o, ho⟩ := execImageCellReceived_new (p := p) hs hm hl hnew hold
  exact ⟨o, ho.trans (by rw [if_pos (by simp only [imageApplies, h1, h2, decide_true, Bool.and_self, Bool.true_or])])⟩

theorem execImageCellReceived_stale (h : 32767 < (leAt l 0 2 + 65536 - recLe s n 0 2) % 65536) :
    ∃ o, exec (.imageCellReceived ⟨p, m⟩ n l) s =
      .next ((withOut (cellNoted s m (cellOf 6 m 15 (leBytes 2 n ++ l))) o).bump STK_RECSTALE_COUNT) := by
  obtain ⟨o, ho⟩ := execImageCellReceived_new (p := p) hs hm hl hnew hold
  have hfar : ¬ (leAt l 0 2 + 65536 - recLe s n 0 2) % 65536 ≤ 32767 := by omega
  have hdiff : ¬ (leAt l 0 2 + 65536 - recLe s n 0 2) % 65536 = 0 := by omega
  have hstale : ¬ imageApplies s m n l = true := by
    simp only [imageApplies, hfar, hdiff, decide_false, Bool.and_false, Bool.false_and, Bool.or_self, Bool.false_eq_true, not_false_eq_true]
  exact ⟨o, ho.trans (by rw [if_neg hstale])⟩

end

theorem gen_imageTaken (s : State) (n : Nat) (l : List Byte) : recLe (imageTaken s n l) n 0 2 = leAt l 0 2 := by
  have hread : (imageTaken s n l).rdN (recAddr n) 2 = leBytes 2 (leAt l 0 2) := by
    conv_lhs => rw [← length_leBytes 2 (leAt l 0 2)]
    exact rdN_wrN ..
  rw [recLe, State.rdLe, Nat.add_zero, hread, ofLe_leBytes]
  exact Nat.mod_eq_of_lt (leAt_two_lt l 0)

theorem pending_imageTaken (s : State) (n : Nat) {l : List Byte} (hl : l.length = 36) : recPending (imageTaken s n l) n = recPending s n := by
  have hlen : 15 < (((l.drop 2).set 15 0).set 15 (BitVec.ofNat 8 (recPending s n))).length := by simp [hl]
  have hoctet : (imageTaken s n l).rd8 (recAddr n + 17) = BitVec.ofNat 8 (recPending s n) := by
    unfold imageTaken
    rw [rd8_wrN_ne _ _ _ (.inr (by rw [length_leBytes]; omega)), show recAddr n + 17 = recAddr n + 2 + 15 from rfl, rd8_wrN _ _ _ _ hlen,
      List.getElem_set_self]
  have hrec (t : State) : recPending t n = (t.rd8 (recAddr n + 17)).toNat := rfl
  have hsmall : recPending s n < 256 := by
    rw [hrec]
    exact (s.rd8 _).isLt
  rw [hrec, hoctet, BitVec.toNat_ofNat, Nat.mod_eq_of_lt hsmall]

/-- Octets outside the image's 36 are kept. -/
theorem rd8_imageTaken (s : State) (n : Nat) {l : List Byte} (hl : l.length = 36) {a : Nat} (ha : a < recAddr n ∨ recAddr n + 36 ≤ a) :
    (imageTaken s n l).rd8 a = s.rd8 a := by
  unfold imageTaken
  rw [rd8_wrN_ne _ _ _ (by rw [length_leBytes]; omega), rd8_wrN_ne _ _ _ (by simp only [List.length_set, List.length_drop, hl]; omega)]

theorem regs_imageTaken (s : State) (n : Nat) (l : List Byte) : (imageTaken s n l).regs = s.regs := (regs_wrN ..).trans (regs_wrN ..)

theorem recLe_congr {t : State} (h : t.mem = s.mem) (n off k : Nat) : recLe t n off k = recLe s n off k := by
  rw [recLe, State.rdLe, rdN_congr h]
  rfl

/-- A newer image is applied: GEN is the image's, PENDING is kept, the image counts, and no other octet changes. -/
theorem imageApplied_leaves (s : State) (n : Nat) {l : List Byte} (hl : l.length = 36) :
    let t := (imageTaken s n l).bump STK_RECAPPLY_COUNT
    recLe t n 0 2 = leAt l 0 2 ∧ recPending t n = recPending s n ∧
      (s.frozen = false → t.fld STK_RECAPPLY_COUNT = satInc 32 (s.fld STK_RECAPPLY_COUNT) 1) ∧
      ∀ a, a < recAddr n ∨ recAddr n + 36 ≤ a → t.rd8 a = s.rd8 a := by
  intro t
  have hmem : t.mem = (imageTaken s n l).mem := mem_bump ..
  have hregs := regs_imageTaken s n l
  refine ⟨(recLe_congr hmem ..).trans (gen_imageTaken s n l), (recLe_congr hmem ..).trans (pending_imageTaken s n hl), fun hf => ?_,
    fun a ha => ?_⟩
  · rw [fld_bump _ _ (by decide) ((frozen_congr (fld_congr hregs _)).trans hf), fld_congr hregs]
    rfl
  · rw [State.rd8, hmem]
    exact rd8_imageTaken s n hl ha

/-! ### Joint lanes (R259 to R263) -/

theorem member_takes (hs : inStack s = true) : ¬ (!inStack s) = true := by
  rw [hs]
  decide

theorem execDetectCellReceived_first {k : Fin 348} {prof : Fin 16} {snr : Int} {start peak e : Nat} (hs : inStack s = true)
    (hm : m.val ≠ stkMember s) (hcells : s.stk.cells = []) (hold : s.stk.cellsOld = []) :
    ∃ x o, exec (.detectCellReceived ⟨p, m⟩ k prof snr ⟨start, peak, e⟩) s = .next { withOut (withStk s x) o with
      remoteDets := s.remoteDets ++ [{ member := m, bin := k, prof := prof, snr := snr, start := start, epoch := e % 65536 }] } := by
  obtain ⟨x, o, ho⟩ := cellTake_first (port := p) (type := 2) (dst := 15) (body := leBytes 2 k ++ leBytes 1 prof ++ leBytes 1 (wrapOf 8 snr)
    ++ leBytes 4 start ++ leBytes 4 peak ++ leBytes 2 e) hm hcells hold
  refine ⟨x, o, ?_⟩
  show execDetectCellReceived ⟨p, m⟩ k prof snr ⟨start, peak, e⟩ s = _
  unfold execDetectCellReceived
  rw [if_neg (member_takes hs), ho]
  rfl

/-- The contribution that a member keeps for a lane: the same bin and profile, and a start that meets the lane's (R259). -/
def laneHit (k : Fin 348) (prof : Fin 16) (start e : Nat) (c : Contribution) : Bool :=
  c.bin == k.val && c.prof == prof.val && startsMeet (binBand k) c.epoch c.start e start

/-- This member's part in a lane that opens. -/
def lanePart (s : State) (k : Fin 348) (prof : Fin 16) (start peak e : Nat) : JointPart :=
  { bin := k, peak := peak, part := s.contribs.find? (laneHit k prof start e) }

/-- This member holds a part of a lane. -/
def partHeld (s : State) (l : List Contribution) (tag : Nat) (part : JointPart) : State :=
  { s with contribs := l, jointParts := stInsert part s.jointParts tag }

/-- The lane is open: the part is held, and a contribution that it uses is counted. -/
def laneOpened (s : State) (tag : Nat) (k : Fin 348) (prof : Fin 16) (start peak e : Nat) : State :=
  if (lanePart s k prof start peak e).part.isSome
  then (partHeld s (s.contribs.filter (!laneHit k prof start e ·)) tag (lanePart s k prof start peak e)).bump STK_CONTRIB_COUNT
  else partHeld s (s.contribs.filter (!laneHit k prof start e ·)) tag (lanePart s k prof start peak e)

theorem laneOpened_keeps (s : State) (tag : Nat) (k : Fin 348) (prof : Fin 16) (start peak e : Nat) :
    keeps s (laneOpened s tag k prof start peak e) [STK_CONTRIB] := by
  unfold laneOpened
  split
  · exact keeps_bump (keeps_of_eq rfl rfl) (List.mem_singleton_self _)
  · exact keeps_of_eq rfl rfl

theorem jointParts_laneOpened (s : State) (tag : Nat) (k : Fin 348) (prof : Fin 16) (start peak e : Nat) :
    (laneOpened s tag k prof start peak e).jointParts = stInsert (lanePart s k prof start peak e) s.jointParts tag := by
  unfold laneOpened
  split
  · exact jointParts_bump ..
  · rfl

theorem execLaneOpenReceived_first {k : Fin 348} {prof : Fin 16} {start peak e : Nat} {own : List Word} (hs : inStack s = true)
    (hm : tag.val / 512 ≠ stkMember s) (hcells : s.stk.cells = []) (hold : s.stk.cellsOld = []) :
    ∃ x o o', exec (.laneOpenReceived ⟨p, tag, own⟩ k prof ⟨start, peak, e⟩) s =
      .next (withOut (laneOpened (withOut (withStk s x) o) tag k prof start peak e) o') := by
  obtain ⟨x, o, ho⟩ := cellTake_first (port := p) (type := 3) (dst := 15) (body := leBytes 2 tag ++ leBytes 2 k ++ leBytes 1 prof ++ leBytes 1 0
    ++ leBytes 2 e ++ leBytes 4 start ++ leBytes 4 peak) hm hcells hold
  obtain ⟨o', ho'⟩ := sumsSend_out_if (laneOpened (withOut (withStk s x) o) tag k prof start peak e)
    (halfOrigin (laneOpened (withOut (withStk s x) o) tag k prof start peak e) (tag.val / 512)) tag
    (halfDir (laneOpened (withOut (withStk s x) o) tag k prof start peak e) (tag.val / 512)) (binBand k) 0
    (ownSums (lanePart s k prof start peak e) own)
  refine ⟨x, o, o', ?_⟩
  show execLaneOpenReceived ⟨p, tag, own⟩ k prof ⟨start, peak, e⟩ s = _
  unfold execLaneOpenReceived
  dsimp only
  rw [if_neg (member_takes hs), ho]
  exact congrArg ok ho'

/-- The member next to this one on the side that cells of a direction come from. -/
def sumsFrom (s : State) (d : Fin 2) : Nat := (stkMember s + (if d.val = 1 then 1 else stkMembers s - 1)) % max (stkMembers s) 1

theorem execSumsCellReceived_forwards {d : Fin 2} {first : Nat} {words own : List Word} {part : JointPart} (hs : inStack s = true)
    (hm : tag.val / 512 ≠ stkMember s) (hpart : (s.jointParts.find? (·.1 = tag.val)).map (·.2) = some part)
    (hd : d.val = halfDir s (tag.val / 512)) :
    exec (.sumsCellReceived tag d first words own) s = .next (sumsCell (seenMark s (sumsFrom s d)) tag d first
      (List.zipWith sumWord (words.take 13) (ownSums part own ++ List.replicate 13 0))) := by
  obtain ⟨⟨k, part'⟩, hfind, rfl⟩ := Option.map_eq_some_iff.mp hpart
  have hfind' : (seenMark s (sumsFrom s d)).jointParts.find? (·.1 = tag.val) = some (k, part') := hfind
  refine (if_neg (member_takes hs)).trans ((if_neg hm).trans ?_)
  unfold sumsFrom at hfind'
  rw [hfind']
  exact if_neg (not_not_intro hd)

theorem execSumsCellReceived_owner {d : Fin 2} {first : Nat} {words own : List Word} {y : RxLane} (hs : inStack s = true)
    (hm : tag.val / 512 = stkMember s) (hy : s.rxl (tag.val % 512) = some y) (hj : y.joint = true) :
    exec (.sumsCellReceived tag d first words own) s = .next ((seenMark s (sumsFrom s d)).setRxl (tag.val % 512)
      { y with sums := y.sums ++ [(d.val, first % 2 ^ 20, words.take 13)] }) := by
  have hy' : (seenMark s (sumsFrom s d)).rxl (tag.val % 512) = some y := hy
  refine (if_neg (member_takes hs)).trans ((if_pos hm).trans ?_)
  unfold sumsFrom at hy'
  rw [hy']
  exact congrArg ok (if_pos hj)

theorem execLaneCloseReceived_first {reason : Fin 2} (hs : inStack s = true) (hm : tag.val / 512 ≠ stkMember s) (hcells : s.stk.cells = [])
    (hold : s.stk.cellsOld = []) :
    ∃ x o, exec (.laneCloseReceived ⟨p, tag, reason⟩) s =
      .next { withOut (withStk s x) o with jointParts := stErase s.jointParts tag } := by
  obtain ⟨x, o, ho⟩ := cellTake_first (port := p) (type := 4) (dst := 15) (body := leBytes 2 tag ++ leBytes 1 reason) hm hcells hold
  refine ⟨x, o, ?_⟩
  show execLaneCloseReceived ⟨p, tag, reason⟩ s = _
  unfold execLaneCloseReceived
  rw [if_neg (member_takes hs), ho]
  rfl

/-- This member originates its half of a lane, which counts as degraded. -/
def halfBroken (s : State) (tag : Nat) (part : JointPart) : State :=
  (partHeld s s.contribs tag { part with origin := true }).bump STK_DEGRADED_COUNT

theorem execHalfStreamTimeout_first {first : Nat} {own : List Word} {k : Nat} {part : JointPart}
    (hfind : s.jointParts.find? (·.1 = tag.val) = some (k, part)) (ho : part.origin = false) :
    ∃ o, exec (.halfStreamTimeout ⟨tag, first, own⟩) s = .next (withOut (halfBroken s tag part) o) := by
  have hsends : ∃ o, (if !inStack (halfBroken s tag part) || decide (tag.val / 512 = stkMember (halfBroken s tag part)) then halfBroken s tag part
      else sumsSend (halfBroken s tag part) tag (halfDir (halfBroken s tag part) (tag.val / 512)) (binBand part.bin) first (ownSums part own)) =
      withOut (halfBroken s tag part) o := by
    split
    · exact ⟨_, rfl⟩
    · exact sumsSend_out ..
  obtain ⟨o, hout⟩ := hsends
  refine ⟨o, ?_⟩
  show execHalfStreamTimeout ⟨tag, first, own⟩ s = _
  unfold execHalfStreamTimeout
  simp only [hfind, ho, Bool.false_eq_true, if_false]
  exact congrArg ok hout

/-! ### Links and the leader (R263, R264) -/

/-- The link of a ring port is shown as up or down. -/
theorem ringShown (s : State) {f : Field} (hf : f = STK_STAT_RING0_UP ∨ f = STK_STAT_RING1_UP) {v : Nat} (hv : v < 2) :
    (s.setFld f v).fld f = v ∧ keeps s (s.setFld f v) [STK_STAT] := by
  rcases hf with rfl | rfl
  · exact ⟨fld_setFld_of_lt _ (by decide) hv, keeps_setFld (keeps_refl s _) (by decide) v⟩
  · exact ⟨fld_setFld_of_lt _ (by decide) hv, keeps_setFld (keeps_refl s _) (by decide) v⟩

/-- The leader is lost: joint combining is to end, and what was remembered of its absence is dropped (R264 step 1). -/
def leaderGone (s : State) : State :=
  (((withStk s { s.stk with endJoint := true, rejoinPeriods := 0, records := [] }).setFlds
    [(STK_STAT_LEADER_OK, 0), (STK_STAT_LEADERLOST, 1)]).bump STK_LEADERLOSTS_COUNT).fire 352 0

theorem execLeaderLost_due (hs : inStack s = true) (hl : isLeader s = false) (hok : s.flag STK_STAT_LEADER_OK = true)
    (hmiss : 3 ≤ s.stk.missedSync ∨ 3 ≤ s.stk.missedEdge) : exec .leaderLost s = .next (leaderGone s) :=
  if_pos (by simpa [hs, hl, hok] using hmiss)

theorem stk_leaderGone (s : State) : (leaderGone s).stk = { s.stk with endJoint := true, rejoinPeriods := 0, records := [] } := by
  rw [leaderGone, stk_fire, stk_bump, stk_setFlds]
  rfl

theorem fld_leaderGone (s : State) : (leaderGone s).fld STK_STAT_LEADER_OK = 0 ∧ (leaderGone s).fld STK_STAT_LEADERLOST = 1 := by
  unfold leaderGone
  constructor <;> simp (disch := decide) only [fld_fire, fld_bump_ne, setFlds_cons, setFlds_nil, fld_setFld_ne, fld_setFld] <;> rfl

theorem leaderGone_keeps (s : State) : keeps s (leaderGone s) [STK_STAT, STK_LEADERLOSTS] :=
  keeps_fire (keeps_bump (keeps_setFlds (keeps_withStk (keeps_refl s _) _) (by decide)) (by decide)) _ _

theorem execLeaderRejoin_due (hs : inStack s = true) (hl : isLeader s = false) (hok : s.flag STK_STAT_LEADER_OK = false)
    (hlong : 100 ≤ s.stk.rejoinPeriods) : exec .leaderRejoin s = .next (withStk s { s.stk with rejoin := true }) :=
  if_pos (by simp [hs, hl, hok, hlong])

/-! ### The commands -/

/-- Settles O15: each command by the equation of its function where its condition holds, an image by what it leaves of its record.  That the
partial sums of this member are operands is the model's representation (log entry 159). -/
theorem stackCommandsComplete : Obligations.StackCommandsComplete := by
  refine ⟨fun s hl hr => ⟨_, execSyncCellSend_up hl hr, rfl, keeps_refl s _⟩, ?syncNew, ?syncCopy, ?near, ?far, ?newer, ?stale, ?detect,
    ?laneOpen, ?forwards, ?owner, ?laneClose, ?timeout, ?linkDown, ?linkUp, ?lost,
    fun s hs hl hok hlong => ⟨_, execLeaderRejoin_due hs hl hok hlong, rfl, keeps_refl s _⟩⟩
  case syncNew =>
    intro s p e hs hl hnew hold
    obtain ⟨o, ho⟩ := cellTake_new (port := p) (leader_ne_member hs hl) hnew hold
    refine ⟨_, execSyncCellReceived_eq hs hl e, ?_⟩
    rw [ho]
    exact ⟨rfl, rfl, rfl, keeps_refl s _⟩
  case syncCopy =>
    intro s p e hs hl hseen
    refine ⟨_, execSyncCellReceived_eq hs hl e, ?_⟩
    rw [cellTake_copy (leader_ne_member hs hl) hseen]
    rfl
  case near =>
    intro s e hs hl he
    have hclamp : max (-128) (min 127 e) = e := by omega
    exact ⟨_, execStackSyncEdge_near hs hl he, (skew_edgeNoted s e).trans hclamp, rfl, rfl, rfl, edgeNoted_keeps s e⟩
  case far =>
    intro s e hs hl he
    exact ⟨_, execStackSyncEdge_far hs hl he, skew_edgeNoted s e, rfl, rfl, edgeNoted_keeps s e⟩
  case newer =>
    intro s p m n l hs hm hl hnew hold h1 h2
    obtain ⟨o, ho⟩ := execImageCellReceived_newer (p := p) hs hm hl hnew hold h1 h2
    exact ⟨_, ho, imageApplied_leaves (withOut (cellNoted s m _) o) n hl⟩
  case stale =>
    intro s p m n l hs hm hl hnew hold h
    obtain ⟨o, ho⟩ := execImageCellReceived_stale (p := p) hs hm hl hnew hold h
    exact ⟨_, ho, keeps_bump (f := STK_RECSTALE_COUNT) (cellNoted_keeps s m _ o _) (List.mem_singleton_self _),
      fun hf => fld_bump _ STK_RECSTALE_COUNT (by decide) hf⟩
  case detect =>
    intro s p m k prof snr start peak e hs hm hcells hold
    obtain ⟨x, o, ho⟩ := execDetectCellReceived_first (p := p) (k := k) (prof := prof) (snr := snr) (start := start) (peak := peak) (e := e)
      hs hm hcells hold
    exact ⟨_, ho, rfl, keeps_refl s _⟩
  case laneOpen =>
    intro s p tag k prof start peak e own hs hm hcells hold
    obtain ⟨x, o, o', ho⟩ := execLaneOpenReceived_first (p := p) (k := k) (prof := prof) (start := start) (peak := peak) (e := e) (own := own)
      hs hm hcells hold
    refine ⟨_, ho, ?_, laneOpened_keeps (withOut (withStk s x) o) tag k prof start peak e⟩
    show ((laneOpened _ tag k prof start peak e).jointParts.find? _).map _ = _
    rw [jointParts_laneOpened, find?_stInsert, if_pos rfl]
    rfl
  case forwards =>
    intro s tag d first words own part hs hm hpart hd hup
    refine ⟨_, execSumsCellReceived_forwards hs hm hpart hd, _, rfl, ?_⟩
    rw [sumsCell_up (s := seenMark s (sumsFrom s d)) hup]
    exact ⟨rfl, keeps_refl s _⟩
  case owner =>
    intro s tag d first words own y hs hm hy hj
    exact ⟨_, execSumsCellReceived_owner hs hm hy hj, (rxl_setRxl ..).trans (if_pos rfl), keeps_refl s _⟩
  case laneClose =>
    intro s p tag reason hs hm hcells hold
    obtain ⟨x, o, ho⟩ := execLaneCloseReceived_first (p := p) (reason := reason) hs hm hcells hold
    exact ⟨_, ho, find?_stErase .., keeps_refl s _⟩
  case timeout =>
    intro s tag first own k part hfind horigin
    obtain ⟨o, ho⟩ := execHalfStreamTimeout_first (first := first) (own := own) hfind horigin
    refine ⟨_, ho, ?_, keeps_bump (t := partHeld s s.contribs tag { part with origin := true }) (keeps_refl s _) (List.mem_singleton_self _)⟩
    show ((halfBroken s tag part).jointParts.find? _).map _ = _
    rw [halfBroken, jointParts_bump]
    exact (find?_stInsert ..).trans (if_pos rfl)
  case linkDown =>
    intro s p
    obtain rfl | rfl : p = 0 ∨ p = 1 := by omega
    · exact ⟨_, rfl, ringShown s (.inl rfl) (by decide)⟩
    · exact ⟨_, rfl, ringShown s (.inr rfl) (by decide)⟩
  case linkUp =>
    intro s p hp
    obtain rfl | rfl : p = 0 ∨ p = 1 := by omega
    · exact ⟨_, if_pos hp, ringShown s (.inl rfl) (by decide)⟩
    · exact ⟨_, if_pos hp, ringShown s (.inr rfl) (by decide)⟩
  case lost =>
    intro s hs hl hok hmiss
    obtain ⟨hgone, hlost⟩ := fld_leaderGone s
    refine ⟨_, execLeaderLost_due hs hl hok hmiss, hgone, hlost, ?_⟩
    rw [stk_leaderGone]
    exact ⟨rfl, rfl, rfl, leaderGone_keeps s⟩

end Sys2Proof.Architecture
end

section
/-! SUPPORT. Venue time steps: what the ends of requests, record commits and the armed trigger leave of it (R211, R273, R489). -/

namespace Sys2Proof.Architecture

open Sys2Proof.Machine

variable {s t : State}

/-! ### The end of a request leaves venue time (R206, R211) -/

/-- A loop whose every pass leaves venue time leaves it. -/
theorem venue_foldl {α : Type} (f : State → α → State) (h : ∀ s x, (f s x).venue = s.venue) (l : List α) (s : State) :
    (l.foldl f s).venue = s.venue :=
  List.foldlRecOn (motive := fun t => t.venue = s.venue) _ _ rfl fun t ht x _ => (h t x).trans ht

theorem venue_cellSend (s : State) (type dst : Nat) (body : List Byte) : (cellSend s type dst body).venue = s.venue := by
  rw [cellSend_eq]

theorem venue_imageSend (s : State) (n : Nat) : (imageSend s n).venue = s.venue := by
  unfold imageSend
  split
  · rfl
  · split
    · rfl
    · exact venue_cellSend ..

theorem venue_recCommit (s : State) (n off : Nat) (l : List Byte) : (recCommit s n off l).venue = s.venue := by
  rw [recCommit, venue_imageSend, recPut, venue_wrN, venue_wrN]

theorem venue_pendRefresh (s : State) (n : Nat) : (pendRefresh s n).venue = s.venue := by
  unfold pendRefresh
  split
  · rfl
  · exact venue_recCommit ..

theorem venue_txRefresh (s : State) : (txRefresh s).venue = s.venue := venue_setFlds ..

theorem venue_txLaneFree (s : State) (n : Nat) : (txLaneFree s n).venue = s.venue := venue_txRefresh _

theorem venue_outSet (s : State) (src v : Nat) : (outSet s src v).venue = s.venue := by
  unfold outSet
  dsimp only
  split <;> rfl

theorem venue_wrEntry (s : State) (size i base len : Nat) (l : List Byte) : (s.wrEntry size i base len l).venue = s.venue := by
  unfold State.wrEntry
  split
  · exact venue_wrN ..
  · rfl

theorem venue_signalVec (s : State) (v : Nat) : (signalVec s v).venue = s.venue := by
  unfold signalVec
  split
  · exact venue_bump ..
  · rfl

theorem venue_countEntry (s : State) (src : Nat) : (countEntry s src).venue = s.venue := by
  unfold countEntry
  dsimp only
  split
  · rfl
  · split
    · refine (venue_signalVec ..).trans ?_
      split <;> rfl
    · split <;> rfl

theorem venue_reportOut (s : State) (r : Nat) (rep : List Byte) : (reportOut s r rep).venue = s.venue := by
  unfold reportOut
  dsimp only
  rw [venue_countEntry]
  split <;> rfl

theorem venue_reportDue (s : State) (r : Nat) (rep : List Byte) : (hostDue s { kind := 1, ring := r, data := rep }).venue = s.venue := by
  unfold hostDue
  split
  · exact venue_reportOut ..
  · rfl

theorem venue_relayDone (s : State) (num status : Nat) : (relayDone s num status).venue = s.venue := by
  unfold relayDone
  split
  · rfl
  · dsimp only
    split
    · exact venue_bump ..
    · split
      · split
        · exact (venue_wrN ..).trans (venue_bump ..)
        · exact venue_bump ..
      · exact venue_bump ..

theorem venue_reportPut (s : State) (num src status : Nat) (rep : List Byte) : (reportPut s num src status rep).venue = s.venue := by
  unfold reportPut
  split
  · exact (venue_outSet ..).trans (venue_wrEntry ..)
  · split
    · exact (venue_outSet ..).trans (venue_reportDue ..)
    · split
      · exact venue_relayDone ..
      · exact venue_bump ..

theorem venue_reqEnd (s : State) (num status : Nat) : (reqEnd s num status).venue = s.venue := by
  unfold reqEnd
  cases s.req num with
  | none => rfl
  | some q =>
    have hlane (c : Bool) : (if c then txLaneFree { s with reqs := stErase s.reqs num } q.lane else { s with reqs := stErase s.reqs num }).venue
        = s.venue := by
      cases c
      · rfl
      · exact venue_txLaneFree ..
    dsimp only
    rw [venue_txRefresh, venue_pendRefresh, venue_reportPut]
    split
    case h_7 => exact hlane _
    all_goals exact (venue_bump ..).trans (hlane _)

theorem venue_placedLate (s : State) : (placedLate s).venue = s.venue := by
  refine venue_foldl _ (fun t num => ?_) _ s
  cases t.req num with
  | none => rfl
  | some q =>
    dsimp only
    split
    · exact venue_reqEnd ..
    · rfl

/-! ### Settled deaf time leaves venue time (R218) -/

theorem venue_deafCount (s : State) (k us : Nat) (ended : Bool) : (deafCount s k us ended).venue = s.venue := by
  unfold deafCount
  split
  · rfl
  · split
    · exact (venue_setFld ..).trans (venue_bumpBy ..)
    · exact venue_bumpBy ..

theorem venue_deafSettle (s : State) : (deafSettle s).venue = s.venue := by
  unfold deafSettle
  dsimp only
  split
  · rfl
  · show (if s.blanks.isEmpty || s.fld PWR_STATE_CUR = 1 then s else forBelow s.part.bins
      (fun t k => deafCount t k (if binDet t k then deafUs t k s.deafTo s.venue else 0) false) s).venue = _
    split
    · rfl
    · exact venue_foldl _ (fun t k => venue_deafCount t k _ _) _ s

/-! ### What follows a step (R228, R489) -/

/-- Registers, venue time and the fabric agent's record are as before, but for registers in `l`. -/
structure TimeKept (s t : State) (l : List Nat) : Prop where
  reg : ∀ a, a ∉ l → t.reg a = s.reg a
  venue : t.venue = s.venue
  vfb : t.vfb = s.vfb

theorem vfb_imageSend (s : State) (n : Nat) : (imageSend s n).vfb = s.vfb := by
  unfold imageSend
  split
  · rfl
  · split
    · rfl
    · rw [cellSend_eq]

theorem regs_imageSend (s : State) (n : Nat) : (imageSend s n).regs = s.regs := by
  unfold imageSend
  split
  · rfl
  · split
    · rfl
    · rw [cellSend_eq]

theorem timeKept_recCommit (s : State) (n off : Nat) (l : List Byte) : TimeKept s (recCommit s n off l) [] where
  reg a _ := reg_congr (by rw [recCommit, regs_imageSend, recPut, regs_wrN, regs_wrN]) a
  venue := venue_recCommit ..
  vfb := by rw [recCommit, vfb_imageSend, recPut, vfb_wrN, vfb_wrN]

theorem TimeKept.refl (s : State) (l : List Nat) : TimeKept s s l := ⟨fun _ _ => rfl, rfl, rfl⟩

theorem TimeKept.fld {l : List Nat} (h : TimeKept s t l) {f : Field} (hf : f.addr ∉ l) : t.fld f = s.fld f := by
  unfold State.fld
  rw [h.reg _ hf]

theorem TimeKept.trans {u : State} {l : List Nat} (h : TimeKept s t l) (h' : TimeKept t u l) : TimeKept s u l :=
  ⟨fun a ha => (h'.reg a ha).trans (h.reg a ha), h'.venue.trans h.venue, h'.vfb.trans h.vfb⟩

theorem timeKept_learnedClear (s : State) : TimeKept s (learnedClear s) [] := by
  refine List.foldlRecOn (motive := fun t => TimeKept s t []) _ _ (TimeKept.refl s []) fun t ht n _ => ht.trans ?_
  split
  · exact TimeKept.refl t []
  · exact timeKept_recCommit ..

/-- The registers that a core sample writes. -/
def sampleRegs : List Nat := [SNP_STAT, SNP_TRIGS, SNP_LATE, SNP_MISSED]

theorem timeKept_sampleTaken (s : State) (src : Nat) (c : Coincide) (v : Nat) : TimeKept s (sampleTaken s src true c v) sampleRegs where
  reg a ha := (sampleTaken_leaves s src true c v).2.2.2.2.2 a fun h => ha (List.mem_append_left [SNP_LATE, SNP_MISSED] h)
  venue := by rw [sampleTaken, venue_bump, venue_setFlds]; rfl
  vfb := by rw [sampleTaken, vfb_bump, vfb_setFlds]; rfl

theorem timeKept_setFld (s : State) {f : Field} {l : List Nat} (h : f.addr ∈ l) (v : Nat) : TimeKept s (s.setFld f v) l :=
  ⟨fun _ ha => reg_setFld_ne s f v (ne_of_mem_of_not_mem h ha), rfl, rfl⟩

theorem timeKept_bump (s : State) {f : Field} {l : List Nat} (h : f.addr ∈ l) : TimeKept s (s.bump f) l :=
  ⟨fun _ ha => reg_bump_ne s f (ne_of_mem_of_not_mem h ha), venue_bump s f, vfb_bump s f⟩

theorem timeKept_samplePulse (s : State) (l : List Nat) : TimeKept s (samplePulse s) l := by
  unfold samplePulse
  split
  · exact ⟨fun _ _ => rfl, rfl, rfl⟩
  · exact TimeKept.refl s l

theorem timeKept_coreSample (s : State) (src : Nat) (c : Coincide) (v : Nat) : TimeKept s (coreSample s src true c v) sampleRegs := by
  by_cases h : s.snp.moving ≠ none ∨ s.fld SNP_STAT_HELD = 3
  · rw [coreSample_missed rfl h]
    obtain ⟨hreg, hvenue, hvfb⟩ := (timeKept_setFld s (f := SNP_STAT_MISSED) (l := sampleRegs) (by decide) 1).trans
      (timeKept_bump _ (f := SNP_MISSED_COUNT) (by decide))
    exact ⟨hreg, hvenue, hvfb⟩
  · simp only [not_or, not_not] at h
    rw [coreSample_starts rfl h.1 h.2]
    exact ((timeKept_sampleTaken s src c v).trans (timeKept_bump _ (f := SNP_LATE_COUNT) (by decide))).trans (timeKept_samplePulse _ _)

theorem timeKept_snapDue (s : State) (v : Nat) (c : Coincide) : TimeKept s (snapDue s v true c) sampleRegs := by
  unfold snapDue
  split
  · exact (timeKept_setFld s (f := SNP_STAT_ARMED) (by decide) 0).trans (timeKept_coreSample ..)
  · exact TimeKept.refl s _

/-! ### The step (R273) -/

/-- Venue time and every instant that is fixed are on the stepped time. -/
def timeShifted (s : State) (e : Int) : State :=
  withVfb { shiftAll (placedLate (deafSettle s)) e with venue := shiftT e (placedLate (deafSettle s)).venue, thirds := 0 }
    { (placedLate (deafSettle s)).vfb with step := none, slew := 0 }

theorem venue_timeShifted (s : State) (e : Int) : (timeShifted s e).venue = shiftT e s.venue :=
  congrArg (shiftT e) ((venue_placedLate _).trans (venue_deafSettle s))

/-- A step that is made is shown and counted. -/
def stepShown (s : State) (e : Int) : State := (s.setFld VFB_STEP_NS (sat32 e)).bump VFB_STEPS_COUNT

theorem venueStep_eq (s : State) (e : Int) : venueStep s e =
    if 1000 < e.natAbs then learnedClear (stepShown (timeShifted s e) e) else stepShown (timeShifted s e) e := rfl

theorem timeKept_stepShown (s : State) (e : Int) : TimeKept s (stepShown s e) [VFB_STEP, VFB_STEPS] :=
  (timeKept_setFld s (f := VFB_STEP_NS) (by decide) _).trans (timeKept_bump _ (by decide))

theorem step_stepShown (s : State) (e : Int) : (stepShown s e).fld VFB_STEP_NS = sat32 e :=
  (fld_bump_ne _ _ _ (by decide)).trans (fld_setFld_of_lt _ (by decide) (wrapOf_lt 32 _))

theorem venueStep_leaves (s : State) (e : Int) : (venueStep s e).vfb.step = none ∧ (venueStep s e).vfb.slew = 0 ∧
    (venueStep s e).venue = shiftT e s.venue ∧ (venueStep s e).fld VFB_STEP_NS = sat32 e := by
  have hkept : TimeKept (stepShown (timeShifted s e) e) (venueStep s e) [] := by
    rw [venueStep_eq]
    split
    · exact timeKept_learnedClear _
    · exact TimeKept.refl _ _
  have hshown := timeKept_stepShown (timeShifted s e) e
  have hvfb : (venueStep s e).vfb = (timeShifted s e).vfb := hkept.vfb.trans hshown.vfb
  refine ⟨by rw [hvfb]; rfl, by rw [hvfb]; rfl, ?_, (hkept.fld List.not_mem_nil).trans (step_stepShown _ e)⟩
  exact hkept.venue.trans (hshown.venue.trans (venue_timeShifted s e))

end Sys2Proof.Architecture
end

section
/-! SUPPORT. The states of the fabric agent and the beacons it takes (R248, R272, R274). -/

namespace Sys2Proof.Architecture

open Sys2Proof.Machine

variable {s t u : State} {st : Nat}

/-! ### What is sent on joining the fabric (R248, R357) -/

/-- Records have been sent, of an import too: the agent's record has another FSEQ, and registers beside FLD_STAT and VFB_TXFRM are kept. -/
structure Announced (s t : State) : Prop where
  keeps : keeps s t [FLD_STAT, VFB_TXFRM]
  vfb : t.vfb = { s.vfb with fseq := t.vfb.fseq }

theorem Announced.refl (s : State) : Announced s s := ⟨keeps_refl s _, rfl⟩

theorem Announced.trans (h : Announced s t) (h' : Announced t u) : Announced s u :=
  ⟨keeps_trans h.keeps h'.keeps, h'.vfb.trans (by rw [h.vfb])⟩

theorem Announced.foldl {α : Type} (f : State → α → State) (h : ∀ t x, Announced t (f t x)) (l : List α) (s : State) :
    Announced s (l.foldl f s) :=
  List.foldlRecOn (motive := Announced s) _ _ (Announced.refl s) fun t ht x _ => ht.trans (h t x)

theorem vfb_fabricCell (s : State) (member dst : Nat) (record : List Byte) : (fabricCell s member dst record).vfb = s.vfb := by
  rw [fabricCell, cellSend_eq]

theorem vfb_frameSend (s : State) (dst count : Nat) (records : List Byte) :
    (frameSend s dst count records).vfb = { s.vfb with fseq := (frameSend s dst count records).vfb.fseq } := by
  unfold frameSend
  split
  · rfl
  · have hports (l : List Nat) (o : List Byte) :
        (l.foldl (fun (t : State) p => (t.emit .fabricFrame [p, dst] o).bump VFB_TXFRM_COUNT) s).vfb = s.vfb :=
      List.foldlRecOn (motive := fun t : State => t.vfb = s.vfb) _ _ rfl fun t ht p _ => (vfb_bump (t.emit _ _ o) _).trans ht
    dsimp only
    rw [hports]

theorem announced_recordSend (s : State) (dst : Nat) (record : List Byte) : Announced s (recordSend s dst record) := by
  refine ⟨keeps_mono (sent_recordSend s dst record).keeps (by decide), ?_⟩
  unfold recordSend
  split
  · exact vfb_frameSend ..
  · split
    · rw [vfb_fabricCell]
    · rfl

theorem announced_neighbourSend (s : State) (n : Nat) (record : List Byte) : Announced s (neighbourSend s n record) := by
  unfold neighbourSend
  split
  · exact ⟨keeps_mono (sent_fabricCell s _ _ record).keeps (by decide), by rw [vfb_fabricCell]⟩
  · exact announced_recordSend ..

theorem announced_importStart (s : State) : Announced s (importStart s) := by
  have hbegun : Announced s (importBegun s) := ⟨keeps_mono (importBegun_keeps s) (by decide), rfl⟩
  unfold importStart
  split
  · exact Announced.refl s
  · show Announced s (if (neighbours s).isEmpty then importDone (importBegun s) 2
      else (neighbours s).foldl (fun s n => neighbourSend s n (importRecord s 2)) (importBegun s))
    split
    · exact ⟨keeps_fire (keeps_setFld (keeps_congr hbegun.keeps rfl rfl) (by decide) 2) 320 2, rfl⟩
    · exact hbegun.trans (Announced.foldl _ (fun t n => announced_neighbourSend t n _) _ _)

theorem announced_restartSend (s : State) : Announced s (restartSend s) := by
  unfold restartSend
  split
  · obtain ⟨hkeeps, hvfb⟩ := announced_recordSend { s with restartDue := false } 0xFFFF (mbxRecord 6 0 0 0 0 0 0 0 [])
    exact ⟨hkeeps, hvfb⟩
  · exact Announced.refl s

/-! ### What the agent remembers of beacons (R272) -/

/-- The last beacons that were taken are remembered, and so is a LOCKED state. -/
structure BeaconsKept (x y : FabricX) : Prop where
  lastBseq : y.lastBseq = x.lastBseq
  beaconAt : y.beaconAt = x.beaconAt
  masterAt : y.masterAt = x.masterAt
  beaconSeen : y.beaconSeen = x.beaconSeen
  wasLocked : x.wasLocked = true → y.wasLocked = true

theorem BeaconsKept.refl (x : FabricX) : BeaconsKept x x := ⟨rfl, rfl, rfl, rfl, id⟩

theorem BeaconsKept.trans {x y z : FabricX} (h : BeaconsKept x y) (h' : BeaconsKept y z) : BeaconsKept x z :=
  ⟨h'.lastBseq.trans h.lastBseq, h'.beaconAt.trans h.beaconAt, h'.masterAt.trans h.masterAt, h'.beaconSeen.trans h.beaconSeen,
    fun hx => h'.wasLocked (h.wasLocked hx)⟩

theorem Announced.beaconsKept (h : Announced s t) : BeaconsKept s.vfb t.vfb := by
  rw [h.vfb]
  exact ⟨rfl, rfl, rfl, rfl, id⟩

/-! ### The states of the agent (R272) -/

/-- VFB_STAT shows a state, with what the state entered and the one left change in other registers. -/
def stateShown (s : State) (st : Nat) : State :=
  let t := s.setFld VFB_STAT_STATE st
  let t := if vfbState s = 3 then t.setFld VFB_HOLDOVER_ACTIVE 0 else t
  let t := if st = 5 then t.bump VFB_TAKEOVER_COUNT else t
  t.setFld VFB_STAT_NORD (if st = 4 || st = 5 then t.vfb.orders.length else 0)

/-- Time is sought again in ACQUIRE and in HOLDOVER; LOCKED is remembered. -/
def agentEntered (s : State) (st : Nat) : State :=
  let t := if st = 1 || st = 3 then
      { s with vfb := { s.vfb with acquireAt := s.uptime, beaconSeen := false, syncRun := 0 } } else s
  if st = 2 then { t with vfb := { t.vfb with wasLocked := true } } else t

/-- A device of a venue that leaves HOLDOVER for a state with venue time imports. -/
def agentJoined (s : State) (old st : Nat) : State := if old = 3 && 2 ≤ st && inVenue s then importStart s else s

/-- HOLDOVER is held, counted and told. -/
def holdoverTold (s : State) (st : Nat) : State :=
  if st = 3 then ((s.setFlds [(VFB_HOLDOVER_HOLD, 1), (VFB_HOLDOVER_ACTIVE, 1)]).bump VFB_HOLDOVER_COUNT).fire 384 0 else s

theorem vfbEnter_same (h : vfbState s = st) : vfbEnter s st = s := if_pos h

theorem vfbEnter_new (h : vfbState s ≠ st) :
    vfbEnter s st = holdoverTold (agentJoined (agentEntered (stateShown s st) st) (vfbState s) st) st := if_neg h

theorem stateShown_keeps (s : State) (st : Nat) : keeps s (stateShown s st) [VFB_STAT, VFB_HOLDOVER, VFB_TAKEOVER] := by
  have hstate : keeps s (s.setFld VFB_STAT_STATE st) [VFB_STAT, VFB_HOLDOVER, VFB_TAKEOVER] := keeps_setFld (keeps_refl s _) (by decide) st
  unfold stateShown
  dsimp only
  refine keeps_setFld (keeps_bump_if ?_ _ (by decide)) (by decide) _
  split
  · exact keeps_setFld hstate (by decide) 0
  · exact hstate

theorem state_stateShown (s : State) (h : st < 8) : vfbState (stateShown s st) = st := by
  have hstate : (s.setFld VFB_STAT_STATE st).fld VFB_STAT_STATE = st := fld_setFld_of_lt _ (by decide) h
  unfold stateShown vfbState
  dsimp only
  rw [fld_setFld_ne _ _ _ _ (by decide)]
  have hleft (c : Prop) [Decidable c] : (if c then (s.setFld VFB_STAT_STATE st).setFld VFB_HOLDOVER_ACTIVE 0
      else s.setFld VFB_STAT_STATE st).fld VFB_STAT_STATE = st := by
    split
    · exact (fld_setFld_ne _ _ _ _ (by decide)).trans hstate
    · exact hstate
  split
  · exact (fld_bump_ne _ _ _ (by decide)).trans (hleft _)
  · exact hleft _

theorem vfb_stateShown (s : State) (st : Nat) : (stateShown s st).vfb = s.vfb := by
  have hleft (c : Prop) [Decidable c] : (if c then (s.setFld VFB_STAT_STATE st).setFld VFB_HOLDOVER_ACTIVE 0
      else s.setFld VFB_STAT_STATE st).vfb = s.vfb := by split <;> rfl
  unfold stateShown
  dsimp only
  rw [vfb_setFld]
  split
  · exact (vfb_bump ..).trans (hleft _)
  · exact hleft _

theorem agentEntered_keeps (s : State) (st : Nat) (l : List Nat) : keeps s (agentEntered s st) l := by
  unfold agentEntered
  dsimp only
  split <;> split <;> exact keeps_of_eq rfl rfl

theorem agentEntered_beaconsKept (s : State) (h1 : st ≠ 1) (h3 : st ≠ 3) : BeaconsKept s.vfb (agentEntered s st).vfb := by
  have hsettled : ¬ (decide (st = 1) || decide (st = 3)) = true := by simp [h1, h3]
  unfold agentEntered
  dsimp only
  rw [if_neg hsettled]
  split
  · exact ⟨rfl, rfl, rfl, rfl, fun _ => rfl⟩
  · exact BeaconsKept.refl _

theorem announced_agentJoined (s : State) (old st : Nat) : Announced s (agentJoined s old st) := by
  unfold agentJoined
  split
  · exact announced_importStart s
  · exact Announced.refl s

theorem holdoverTold_keeps (s : State) (st : Nat) : keeps s (holdoverTold s st) [VFB_HOLDOVER] := by
  unfold holdoverTold
  split
  · exact keeps_fire (keeps_bump (keeps_setFlds (keeps_refl s _) (by decide)) (by decide)) _ _
  · exact keeps_refl s _

theorem holdoverTold_other (h : st ≠ 3) : holdoverTold s st = s := if_neg h

/-- The registers that a change of state writes. -/
def stateRegs : List Nat := [VFB_STAT, VFB_HOLDOVER, VFB_TAKEOVER, FLD_STAT, VFB_TXFRM]

theorem vfbEnter_keeps (s : State) (st : Nat) : keeps s (vfbEnter s st) stateRegs := by
  by_cases h : vfbState s = st
  · rw [vfbEnter_same h]
    exact keeps_refl s _
  · rw [vfbEnter_new h]
    exact keeps_trans (keeps_trans (keeps_mono (stateShown_keeps s st) (by decide)) (agentEntered_keeps _ st _))
      (keeps_trans (keeps_mono (announced_agentJoined _ _ st).keeps (by decide)) (keeps_mono (holdoverTold_keeps _ st) (by decide)))

/-- The state is the one entered. -/
theorem vfbState_vfbEnter (s : State) (hst : st < 8) : vfbState (vfbEnter s st) = st := by
  by_cases h : vfbState s = st
  · rwa [vfbEnter_same h]
  · rw [vfbEnter_new h, vfbState, fld_of_keeps (holdoverTold_keeps _ st) (by decide), fld_of_keeps (announced_agentJoined _ _ st).keeps (by decide),
      fld_of_keeps (agentEntered_keeps _ st []) List.not_mem_nil]
    exact state_stateShown s hst

theorem vfbEnter_beaconsKept (s : State) (h1 : st ≠ 1) (h3 : st ≠ 3) : BeaconsKept s.vfb (vfbEnter s st).vfb := by
  by_cases h : vfbState s = st
  · rw [vfbEnter_same h]
    exact BeaconsKept.refl _
  · rw [vfbEnter_new h, holdoverTold_other h3]
    have hentered := agentEntered_beaconsKept (stateShown s st) h1 h3
    rw [vfb_stateShown] at hentered
    exact hentered.trans (announced_agentJoined _ _ st).beaconsKept

/-! ### Orders (R274) -/

theorem setOrders_keeps (s : State) (l : List Order) : keeps s (setOrders s l) [VFB_STAT] := by
  unfold setOrders
  dsimp only
  split
  · exact keeps_setFld (keeps_of_eq rfl rfl) (by decide) _
  · exact keeps_of_eq rfl rfl

theorem vfbState_setOrders (s : State) (l : List Order) : vfbState (setOrders s l) = vfbState s := by
  unfold setOrders
  dsimp only
  split
  · exact fld_setFld_ne _ _ _ _ (by decide)
  · rfl

theorem setOrders_beaconsKept (s : State) (l : List Order) : BeaconsKept s.vfb (setOrders s l).vfb := by
  unfold setOrders
  dsimp only
  split <;> exact ⟨rfl, rfl, rfl, rfl, id⟩

/-! ### A beacon that arrives (R272) -/

/-- The BSEQ is newer than that of the last valid beacon. -/
def beaconNewer (s : State) (seq : Nat) : Bool :=
  match s.vfb.lastBseq with
  | none => true
  | some k => let d := (seq + 2 ^ 32 - k) % 2 ^ 32; decide (1 ≤ d && d < 2 ^ 31)

/-- The beacon is newer, and of the master or, while that is not heard, of its acting backup. -/
def beaconValid (s : State) (l : List Byte) : Bool :=
  beaconNewer s (leAt l 0 4) &&
    (leAt l 4 2 = masterIndex s || (leAt l 4 2 == backupIndex s && octAt l 6 % 2 == 1 && !heardLately s s.vfb.masterAt))

/-- A valid beacon, of the master or not, is noted. -/
def beaconNoted (s : State) (seq : Nat) (master : Prop) [Decidable master] : State :=
  (withVfb s { s.vfb with lastBseq := some seq
                          bseq := seq
                          beaconAt := s.uptime + 1
                          masterAt := if master then s.uptime + 1 else s.vfb.masterAt
                          syncRun := if s.vfb.beaconSeen then s.vfb.syncRun else 0
                          beaconSeen := true }).setFld VFB_BCN_BSEQ seq

/-- The bodies of the orders in a beacon. -/
def beaconOrders (l : List Byte) : List (List Byte) := (List.range (min 4 (octAt l 7))).map fun i => (l.drop (16 + 24 * i)).take 24

/-- The backup holds the orders of the master. -/
def ordersBacked (s : State) (l : List (List Byte)) (master : Prop) [Decidable master] : State :=
  if master && myIndex s = backupIndex s then
    setOrders s ((l.map orderOf ++ (ordersAt s s.venue).filter fun o => !(l.map orderOf).any (·.seq = o.seq)).take 4)
  else s

/-- An acting backup that hears the master locks to it. -/
def actingEnds (s : State) (master : Prop) [Decidable master] : State := if master && vfbState s = 5 then vfbEnter s 2 else s

/-- The first beacon is the device's join of the fabric (R248, R357). -/
def firstJoins (s : State) (first : Bool) : State := if first then importStart (restartSend s) else s

theorem beaconIn_eq (s : State) (l : List Byte) : beaconIn s l =
    if !inVenue s || vfbState s = 4 || !beaconValid s l then s
    else firstJoins ((beaconOrders l).foldl orderArrives (actingEnds (ordersBacked (beaconNoted s (leAt l 0 4) (leAt l 4 2 = masterIndex s))
      (beaconOrders l) (leAt l 4 2 = masterIndex s)) (leAt l 4 2 = masterIndex s))) s.vfb.lastBseq.isNone := rfl

/-- A beacon with the BSEQ of the last one is none that is newer. -/
theorem beaconNewer_again {seq : Nat} (h : s.vfb.lastBseq = some seq) : beaconNewer s seq = false := by
  have hnone : (seq + 2 ^ 32 - seq) % 2 ^ 32 = 0 := by omega
  unfold beaconNewer
  rw [h]
  simp only [hnone]
  rfl

theorem beaconIn_again {l : List Byte} (h : s.vfb.lastBseq = some (leAt l 0 4)) : beaconIn s l = s := by
  rw [beaconIn_eq, beaconValid, beaconNewer_again h]
  exact if_pos (by simp)

theorem beaconNewer_of {seq : Nat}
    (h : ∀ k, s.vfb.lastBseq = some k → 1 ≤ (seq + 2 ^ 32 - k) % 2 ^ 32 ∧ (seq + 2 ^ 32 - k) % 2 ^ 32 < 2 ^ 31) : beaconNewer s seq = true := by
  unfold beaconNewer
  split
  · rfl
  next k hk =>
    obtain ⟨hlo, hhi⟩ := h k hk
    exact decide_eq_true (by rw [decide_eq_true hlo, decide_eq_true hhi]; rfl)

/-- What a beacon of the master is known by: its BSEQ and the time it came. -/
structure MasterHeard (t : State) (seq at_ : Nat) : Prop where
  lastBseq : t.vfb.lastBseq = some seq
  beaconAt : t.vfb.beaconAt = at_
  masterAt : t.vfb.masterAt = at_
  beaconSeen : t.vfb.beaconSeen = true
  bcn : t.fld VFB_BCN_BSEQ = seq % 65536

theorem MasterHeard.of_kept {seq at_ : Nat} {l : List Nat} (h : MasterHeard s seq at_) (hv : BeaconsKept s.vfb t.vfb) (hk : keeps s t l)
    (hl : VFB_BCN ∉ l) : MasterHeard t seq at_ :=
  ⟨hv.lastBseq.trans h.lastBseq, hv.beaconAt.trans h.beaconAt, hv.masterAt.trans h.masterAt, hv.beaconSeen.trans h.beaconSeen,
    (fld_of_keeps hk hl).trans h.bcn⟩

theorem masterHeard_noted (s : State) (seq : Nat) {master : Prop} [Decidable master] (hm : master) :
    MasterHeard (beaconNoted s seq master) seq (s.uptime + 1) :=
  ⟨rfl, rfl, if_pos hm, rfl, fld_setFld _ _ _ (by decide)⟩

theorem ordersBacked_kept (s : State) (l : List (List Byte)) (master : Prop) [Decidable master] :
    BeaconsKept s.vfb (ordersBacked s l master).vfb ∧ keeps s (ordersBacked s l master) [VFB_STAT] ∧
      vfbState (ordersBacked s l master) = vfbState s := by
  unfold ordersBacked
  split
  · exact ⟨setOrders_beaconsKept .., setOrders_keeps .., vfbState_setOrders ..⟩
  · exact ⟨BeaconsKept.refl _, keeps_refl s _, rfl⟩

theorem actingEnds_kept (s : State) (master : Prop) [Decidable master] :
    BeaconsKept s.vfb (actingEnds s master).vfb ∧ keeps s (actingEnds s master) stateRegs := by
  unfold actingEnds
  split
  · exact ⟨vfbEnter_beaconsKept s (by decide) (by decide), vfbEnter_keeps s 2⟩
  · exact ⟨BeaconsKept.refl _, keeps_refl s _⟩

theorem vfbState_actingEnds (h : vfbState s = 5) {master : Prop} [Decidable master] (hm : master) : vfbState (actingEnds s master) = 2 := by
  have hacts : (decide master && decide (vfbState s = 5)) = true := by rw [decide_eq_true hm, decide_eq_true h]; rfl
  rw [actingEnds, if_pos hacts]
  exact vfbState_vfbEnter s (by decide)

theorem announced_firstJoins (s : State) (first : Bool) : Announced s (firstJoins s first) := by
  unfold firstJoins
  split
  · exact (announced_restartSend s).trans (announced_importStart _)
  · exact Announced.refl s

/-- A newer beacon of the master without orders. -/
theorem beaconIn_master {l : List Byte} (hv : inVenue s = true) (h4 : vfbState s ≠ 4) (hm : leAt l 4 2 = masterIndex s) (h7 : octAt l 7 = 0)
    (hnew : beaconNewer s (leAt l 0 4) = true) :
    MasterHeard (beaconIn s l) (leAt l 0 4) (s.uptime + 1) ∧ (vfbState s = 5 → vfbState (beaconIn s l) = 2) := by
  have hgo : ¬ (!inVenue s || decide (vfbState s = 4) || !beaconValid s l) = true := by simp [hv, h4, beaconValid, hnew, hm]
  have hnone : beaconOrders l = [] := by simp [beaconOrders, h7]
  rw [beaconIn_eq, if_neg hgo, hnone, List.foldl_nil]
  have hnoted := masterHeard_noted s (leAt l 0 4) hm
  have hstate : vfbState (beaconNoted s (leAt l 0 4) (leAt l 4 2 = masterIndex s)) = vfbState s := fld_setFld_ne _ _ _ _ (by decide)
  generalize beaconNoted s (leAt l 0 4) (leAt l 4 2 = masterIndex s) = u at *
  obtain ⟨hbacked, hbackedKeeps, hbackedState⟩ := ordersBacked_kept u [] (leAt l 4 2 = masterIndex s)
  have hacts := vfbState_actingEnds (s := ordersBacked u [] (leAt l 4 2 = masterIndex s)) (master := leAt l 4 2 = masterIndex s)
  generalize ordersBacked u [] (leAt l 4 2 = masterIndex s) = v at *
  obtain ⟨hended, hendedKeeps⟩ := actingEnds_kept v (leAt l 4 2 = masterIndex s)
  generalize actingEnds v (leAt l 4 2 = masterIndex s) = w at *
  have hjoined := announced_firstJoins w s.vfb.lastBseq.isNone
  refine ⟨((hnoted.of_kept hbacked hbackedKeeps (by decide)).of_kept hended hendedKeeps (by decide)).of_kept hjoined.beaconsKept hjoined.keeps
    (by decide), fun h5 => ?_⟩
  exact (fld_of_keeps hjoined.keeps (by decide)).trans (hacts (hbackedState.trans (hstate.trans h5)) hm)

end Sys2Proof.Architecture
end

section
/-! SUPPORT. The commands of venue time: time transfer, beacons, takeovers and steps (R271 to R274, R279). -/

namespace Sys2Proof.Architecture

open Sys2Proof.Machine

variable {s s' : State} {p : Fin 2}

/-! ### Time transfer (R271) -/

/-- A Sync and its Follow_Up leave through a port where time transfer runs. -/
def syncSent (s : State) (p : Nat) : State :=
  if ptpOn s p then (s.emit .ptp [p, 0, s.fld VFB_CTL_DOMAIN]).emit .ptp [p, 8, s.fld VFB_CTL_DOMAIN, s.venue] else s

/-- What leaves with a Sync through a port. -/
def syncOut (s : State) (p : Nat) : List Output :=
  [{ kind := .ptp, nums := [p, 0, s.fld VFB_CTL_DOMAIN], octets := [] },
    { kind := .ptp, nums := [p, 8, s.fld VFB_CTL_DOMAIN, s.venue], octets := [] }]

theorem syncSent_eq (s : State) (o : List Output) (p : Nat) :
    syncSent (withOut s o) p = withOut s (o ++ if ptpOn s p then syncOut s p else []) := by
  unfold syncSent
  by_cases h : ptpOn s p = true
  · rw [if_pos h, if_pos (show ptpOn (withOut s o) p = true from h)]
    show withOut s (o ++ [_] ++ [_]) = _
    rw [List.append_assoc]
    rfl
  · rw [if_neg h, if_neg (show ¬ ptpOn (withOut s o) p = true from h), List.append_nil]

theorem syncSent_foldl (s : State) (l : List Nat) (o : List Output) :
    l.foldl syncSent (withOut s o) = withOut s (o ++ (l.filter fun p => ptpOn s p).flatMap (syncOut s)) := by
  induction l generalizing o with
  | nil => simp
  | cons p l ih =>
    rw [List.foldl_cons, syncSent_eq, ih, List.append_assoc]
    by_cases h : ptpOn s p = true
    · simp [h]
    · simp [h]

theorem execPtpSyncSend_master (h : ptpMaster s = true) :
    exec .ptpSyncSend s = .next (withOut s (s.out ++ ([0, 1].filter fun p => ptpOn s p).flatMap (syncOut s))) :=
  (if_neg (by rw [h]; decide)).trans (congrArg ok (syncSent_foldl s [0, 1] s.out))

@[simp] theorem ptpOn_advance (s : State) (v p : Nat) : ptpOn (s.advance v) p = ptpOn s p := by
  rw [State.advance, passTo_eq]
  rfl

@[simp] theorem ptpSlave_advance (s : State) (v : Nat) : ptpSlave (s.advance v) = ptpSlave s := by
  rw [State.advance, passTo_eq]
  rfl

@[simp] theorem ptpMaster_advance (s : State) (v : Nat) : ptpMaster (s.advance v) = ptpMaster s := by
  rw [State.advance, passTo_eq]
  rfl

@[simp] theorem out_advance (s : State) (v : Nat) : (s.advance v).out = s.out := by
  rw [State.advance, passTo_eq]

/-- Time that moves on to an instant before the next boundary ends at it. -/
theorem venue_advance {v : Nat} (h : s.venue ≤ v) (hb : v < s.nextBoundary) : (s.advance v).venue = v := by
  have hmin : min v (s.nextBoundary - 1) = v := by omega
  rw [State.advance, hmin, venue_passTo h hb]

/-- Port 0 receives a Sync now. -/
def syncHeard (s : State) (p : Fin 2) : State :=
  withVfb s { s.vfb with sync0At := if p = 0 then s.uptime + 1 else s.vfb.sync0At }

/-- A Sync makes port 0 the timing port; one on port 1 counts while port 0 hears none. -/
theorem timingPort_syncHeard (hon : ptpOn s p = true) (hp : p = 0 ∨ timingPort s = 1) : timingPort (syncHeard s p) = p.val := by
  obtain rfl | rfl : p = 0 ∨ p = 1 := by omega
  · have hup : (fabricUp (syncHeard s 0)).contains 0 = true := (Bool.and_eq_true_iff.mp hon).2
    have hsync : (syncHeard s 0).vfb.sync0At = s.uptime + 1 := rfl
    have hnow : (syncHeard s 0).uptime = s.uptime := rfl
    unfold timingPort
    rw [hup, hsync, hnow]
    simp
  · exact hp.resolve_left (by decide)

/-- A Sync on the timing port gives the one-way difference, and with the path delay the offset. -/
def syncTimed (s : State) (p : Fin 2) (diff : Int) : State :=
  offsetTake ((withVfb s { s.vfb with syncDiff := diff }).setFld VFB_STAT_TPORT p) (s.vfb.delay - diff)

theorem execPtpSyncReceived_heard {origin arrival : Nat} {correction : Int} (hs : ptpSlave (s.advance arrival) = true)
    (hon : ptpOn (s.advance arrival) p = true) (hp : timingPort (syncHeard (s.advance arrival) p) = p.val) :
    exec (.ptpSyncReceived p origin correction arrival) s =
      .next (syncTimed (syncHeard (s.advance arrival) p) p ((min arrival (s.advance arrival).venue : Nat) - origin - correction)) := by
  have hgo : ¬ (!ptpSlave (s.advance arrival) || !ptpOn (s.advance arrival) p) = true := by
    rw [hs, hon]
    decide
  obtain rfl | rfl : p = 0 ∨ p = 1 := by omega
  · exact (if_neg hgo).trans (if_neg (not_not_intro hp))
  · exact (if_neg hgo).trans (if_neg (not_not_intro hp))

theorem execPtpSyncReceived_timed {origin arrival : Nat} {correction : Int} (hv : s.venue ≤ arrival) (hb : arrival < s.nextBoundary)
    (hs : ptpSlave s = true) (hon : ptpOn s p = true) (hp : p = 0 ∨ timingPort (s.advance arrival) = 1) :
    exec (.ptpSyncReceived p origin correction arrival) s =
      .next (syncTimed (syncHeard (s.advance arrival) p) p (arrival - origin - correction)) := by
  have hon' : ptpOn (s.advance arrival) p = true := (ptpOn_advance ..).trans hon
  rw [execPtpSyncReceived_heard ((ptpSlave_advance ..).trans hs) hon' (timingPort_syncHeard hon' hp), venue_advance hv hb, Nat.min_self]

theorem execPtpDelayReqSend_slave (hs : ptpSlave s = true) (hon : ptpOn s (timingPort s) = true) : exec .ptpDelayReqSend s =
    .next ((withVfb s { s.vfb with reqSent := s.venue }).emit .ptp [timingPort s, 1, s.fld VFB_CTL_DOMAIN]) :=
  if_pos (by rw [hs, hon]; rfl)

theorem execPtpDelayReqReceived_master {r arrival : Nat} (hv : s.venue ≤ arrival) (hb : arrival < s.nextBoundary) (hm : ptpMaster s = true)
    (hon : ptpOn s p = true) : exec (.ptpDelayReqReceived p r arrival) s =
      .next ((s.advance arrival).emit .ptp [p, 9, s.fld VFB_CTL_DOMAIN, arrival, r]) := by
  have hgo : (ptpMaster (s.advance arrival) && ptpOn (s.advance arrival) p) = true := by simp [hm, hon]
  have hmin : min arrival (s.advance arrival).venue = arrival := by rw [venue_advance hv hb, Nat.min_self]
  refine (if_pos hgo).trans ?_
  rw [hmin, fld_advance]
  rfl

theorem execPtpDelayRespReceived_slave {received : Nat} {correction : Int} (hs : ptpSlave s = true) (hon : ptpOn s p = true)
    (hp : timingPort s = p.val) : exec (.ptpDelayRespReceived p received correction) s =
      .next (withVfb s { s.vfb with delay := (s.vfb.syncDiff + (received - s.vfb.reqSent - correction)) / 2 }) :=
  if_pos (by rw [hs, hon, decide_eq_true hp]; rfl)

/-! ### Steps (R273) -/

theorem execVenueTimeStep_due {e : Int} {due : Nat} (hstep : s.vfb.step = some (e, due)) (hb : s.venue % periodNs = 0)
    (hdue : due + 1000000 ≤ s.uptime) : exec .venueTimeStep s = .next (snapDue (venueStep s e) (venueStep s e).venue true {}) := by
  show execVenueTimeStep s = _
  unfold execVenueTimeStep
  rw [hstep]
  exact if_neg (by simp [hb, hdue])

/-! ### Beacons and takeovers (R272, R274, R279) -/

/-- A beacon is counted and its time remembered. -/
def beaconCounted (s : State) (v : Nat) : State := withVfb s { s.vfb with bseq := (s.vfb.bseq + 1) % 2 ^ 32, sentAt := v }

/-- The BEACON record with a BSEQ, a time and orders. -/
def beaconRecord (s : State) (seq v : Nat) (l : List Order) : List Byte :=
  recordOf 1 (leBytes 4 seq ++ leBytes 2 (myIndex s) ++ leBytes 1 (b2n (vfbState s == 5)) ++ leBytes 1 l.length ++ leBytes 8 v
    ++ l.flatMap orderBody)

/-- A beacon goes out to all with the next BSEQ. -/
def beaconGoes (s : State) (v : Nat) : State :=
  recordSend (beaconCounted s v) 0xFFFF (beaconRecord (beaconCounted s v) ((s.vfb.bseq + 1) % 2 ^ 32) v (s.vfb.orders.take 4))

theorem myIndex_withVfb (s : State) (x : FabricX) : myIndex (withVfb s x) = myIndex s := rfl

theorem vfbState_withVfb (s : State) (x : FabricX) : vfbState (withVfb s x) = vfbState s := rfl

/-- What the beacon tells of its sender is not changed by counting it. -/
theorem beaconGoes_eq (s : State) (v : Nat) : beaconGoes s v =
    recordSend (beaconCounted s v) 0xFFFF (beaconRecord s ((s.vfb.bseq + 1) % 2 ^ 32) v (s.vfb.orders.take 4)) := by
  rw [beaconGoes, beaconRecord, beaconCounted, myIndex_withVfb, vfbState_withVfb]
  rfl

theorem execBeaconSend_eq {v : Nat}
    (hv : (if beaconTime s.venue = s.vfb.sentAt then beaconTime s.venue + 125000000 else beaconTime s.venue) = v) : exec .beaconSend s =
    if !ptpMaster s || decide (s.nextBoundary ≤ v) then ok s else ok (beaconGoes (setOrders (s.passTo v) (ordersAt (s.passTo v) v)) v) := by
  subst hv
  rfl

theorem execBeaconSend_due {v : Nat} (hm : ptpMaster s = true) (hv : beaconTime s.venue = v) (hne : v ≠ s.vfb.sentAt) (hb : v < s.nextBoundary) :
    exec .beaconSend s = .next (beaconGoes (setOrders (s.passTo v) (ordersAt (s.passTo v) v)) v) := by
  subst hv
  rw [execBeaconSend_eq (if_neg hne), if_neg (by simp [hm, hb])]
  rfl

theorem execBeaconTimeout_locked (h : vfbState s = 2) (hr : s.reachUp (s.vfb.beaconAt - 1 + 385000000) = some s') :
    exec .beaconTimeout s = .next (vfbEnter s' 3) := by
  refine (if_neg (not_not_intro h)).trans ?_
  rw [hr]
  rfl

/-- A master that was locked begins its beacons with the time it has. -/
theorem masterBegin_locked (hb : beaconTime s.venue < s.nextBoundary) (hw : s.vfb.wasLocked = true) :
    masterBegin s = vfbEnter (s.passTo (beaconTime s.venue)) 4 := by
  have hpass : (s.passTo (beaconTime s.venue)).vfb.wasLocked = true := by
    unfold State.passTo
    dsimp only
    split
    · split <;> exact hw
    · exact hw
  have hlocked := (vfbEnter_beaconsKept (s.passTo (beaconTime s.venue)) (st := 4) (by decide) (by decide)).wasLocked hpass
  exact (if_neg (Nat.not_le.mpr hb)).trans (if_pos hlocked)

theorem vfbState_masterBegin (hb : beaconTime s.venue < s.nextBoundary) (hw : s.vfb.wasLocked = true) : vfbState (masterBegin s) = 4 := by
  rw [masterBegin_locked hb hw]
  exact vfbState_vfbEnter _ (by decide)

theorem execMasterTakeover_locked (h : vfbState s = 2) (hm : myIndex s = masterIndex s) : exec .masterTakeover s = .next (masterBegin s) :=
  (if_neg (not_not_intro hm)).trans (if_pos h)

/-- ACQUIRE and HOLDOVER are the states that a takeover waits in. -/
theorem takeover_waits (h : vfbState s = 1 ∨ vfbState s = 3) : (decide (vfbState s = 1) || decide (vfbState s = 3)) = true := by
  rwa [Bool.or_eq_true, decide_eq_true_eq, decide_eq_true_eq]

theorem execMasterTakeover_waited (h : vfbState s = 1 ∨ vfbState s = 3) (hm : myIndex s = masterIndex s)
    (hr : s.reachUp (max s.vfb.acquireAt (s.vfb.beaconAt - 1) + 1000000000) = some s') : exec .masterTakeover s = .next (masterBegin s') := by
  have hfree : ¬ vfbState s = 2 := by omega
  have hseeks : ¬ (!(decide (vfbState s = 1) || decide (vfbState s = 3))) = true := by rw [takeover_waits h]; decide
  refine (if_neg (not_not_intro hm)).trans ((if_neg hfree).trans ((if_neg hseeks).trans ?_))
  rw [hr]
  rfl

theorem execBackupTakeover_waited (h : vfbState s = 1 ∨ vfbState s = 3) (hm : myIndex s = backupIndex s)
    (hr : s.reachUp ((if s.vfb.masterAt = 0 then s.vfb.acquireAt else s.vfb.masterAt - 1) + 2000000000) = some s') :
    exec .backupTakeover s = .next (vfbEnter (setOrders s' (ordersAt s' s'.venue)) 5) := by
  have hgo : ¬ (!(decide (vfbState s = 1) || decide (vfbState s = 3)) || decide (myIndex s ≠ backupIndex s)) = true := by
    rw [takeover_waits h, hm, decide_eq_false (not_not_intro rfl)]
    decide
  refine (if_neg hgo).trans ?_
  rw [hr]
  rfl

theorem execBeaconTimeMissed_due (hs : ptpSlave s = true)
    (hold : s.vfb.beaconAt + (s.venue - (beaconTime s.venue - 125000000)) ≤ s.uptime) :
    exec .beaconTimeMissed s = .next (s.bump VFB_BCNMISS_COUNT) :=
  if_pos (by rw [hs, decide_eq_true hold]; rfl)

/-! ### The commands -/

/-- Settles O17: each command by the equation of its function where its condition holds; a step by what it leaves and by what a late core
sample leaves of it, a beacon by what is noted of it and kept after, and the takeovers by the state entered.  That a backup which has heard
no master counts from its entry to ACQUIRE is the model's reading of R272. -/
theorem venueTimeCommandsComplete : Obligations.VenueTimeCommandsComplete := by
  refine ⟨fun s hm => ⟨_, execPtpSyncSend_master hm, keeps_refl s _, rfl⟩, ?sync, ?reqSend, ?reqReceived, ?resp, ?step, ?send, ?received,
    fun s l h => congrArg ok (beaconIn_again h), ?timeout, ?waited, ?locked, ?backup, fun s hs hold => execBeaconTimeMissed_due hs hold⟩
  case sync =>
    intro s p origin correction arrival hv hb hs hon hp
    exact ⟨_, execPtpSyncReceived_timed hv hb hs hon hp, _, _, rfl, rfl, rfl⟩
  case reqSend => exact fun s hs hon => ⟨_, execPtpDelayReqSend_slave hs hon, rfl, keeps_refl s _, rfl⟩
  case reqReceived =>
    intro s p r arrival hv hb hm hon
    refine ⟨_, execPtpDelayReqReceived_master hv hb hm hon, keeps_emit (advance_keeps s arrival _) _ _ _, ?_⟩
    show (s.advance arrival).out ++ _ = _
    rw [out_advance]
  case resp => exact fun s p received correction hs hon hp => ⟨_, execPtpDelayRespReceived_slave hs hon hp, rfl, keeps_refl s _⟩
  case step =>
    intro s e due hstep hb hdue
    obtain ⟨hnone, hslew, hvenue, hshown⟩ := venueStep_leaves s e
    have hkept := timeKept_snapDue (venueStep s e) (venueStep s e).venue {}
    refine ⟨_, execVenueTimeStep_due hstep hb hdue, rfl, ?_, ?_, hkept.venue.trans hvenue, (hkept.fld (by decide)).trans hshown⟩
    · rw [hkept.vfb, hnone]
    · rw [hkept.vfb, hslew]
  case send =>
    intro s v hm hv hne hb
    exact ⟨_, execBeaconSend_due hm hv hne hb, _, rfl, beaconGoes_eq _ v⟩
  case received =>
    intro s l hv h4 hm h7 hnew
    obtain ⟨⟨hlast, hat, hmaster, hseen, hbcn⟩, hstate⟩ := beaconIn_master hv h4 hm h7 (beaconNewer_of hnew)
    exact ⟨_, rfl, hlast, hat, hmaster, hseen, hbcn, hstate⟩
  case timeout => exact fun s s' h hr => ⟨_, execBeaconTimeout_locked h hr, rfl, vfbState_vfbEnter s' (by decide)⟩
  case waited =>
    intro s s' h hm hr hb hw
    exact ⟨_, execMasterTakeover_waited h hm hr, masterBegin_locked hb hw, vfbState_masterBegin hb hw⟩
  case locked =>
    intro s h hm hb hw
    exact ⟨_, execMasterTakeover_locked h hm, masterBegin_locked hb hw, vfbState_masterBegin hb hw⟩
  case backup => exact fun s s' h hm hr => ⟨_, execBackupTakeover_waited h hm hr, rfl, vfbState_vfbEnter _ (by decide)⟩

end Sys2Proof.Architecture
end

section
/-! SUPPORT. One instruction of Plewin-V from its fetch to its commit or its fault (R283, R294, R318, R328, R329), and the rows that
compute a result from operands or move values between them. -/

namespace Sys2Proof.Architecture

open Sys2Proof.Machine

variable {s s1 s2 t : State} {n : Fin 12} {i : VInstr} {places : List Place} {p vs : List Nat} {e : Effect} {f : VCtx → State → Run Effect}

/-! ### What an engine fetches -/

/-- An engine whose memory has not been written since draws no open octet. -/
theorem vDrawn_clean {n : Nat} (h : (s.eng n).stale = []) (ia : Nat) : vDrawn s n ia = s := by
  have hnone : ((List.range 24).any fun i => stGet false (s.eng n).stale (ia + i)) = false := by simp [h, stGet]
  rw [vDrawn, hnone, if_neg Bool.false_ne_true]

/-- What an instruction comes to: its commit, or its fault at `ia`. -/
def runEnd (n ia : Nat) : Run Unit → State
  | .go _ t => t
  | .trap c a t => vFault t n c a ia

/-- What the operation of an instruction sees of it. -/
def ctxOf (s : State) (n : Fin 12) (i : VInstr) (places : List Place) (p : List Nat) : VCtx :=
  { i := i, w := vActor n, ia := iaOf s n, next := iaOf s n + i.len, places := places, ptrs := p }

/-- Addressing, the check of an atomic operand, the operation and the commit of an instruction. -/
def vRun (s : State) (n : Fin 12) (i : VInstr) (f : VCtx → State → Run Effect) : Run Unit :=
  (specPlaces (vActor n) (iaOf s n) i.ops (s.eng n).ptrs s).bind fun r t =>
    (if i.atomic then atomicCheck (r.1.getD 0 (.val 0)) i.width t else .go () t).bind fun _ t =>
      (f (ctxOf s n i r.1 r.2) t).bind fun e t => vCommit t n (iaOf s n) i.rep e

/-- The row of the fetched instruction executes it; a repeat form whose P6 is zero only goes on (R329). -/
theorem vRow_fetched (h : fetches s n i) (f : VCtx → State → Run Effect) : vRow s n i.op f = runEnd n (iaOf s n)
    (if i.rep && ptrGet (s.eng n).ptrs 6 == 0 then vCommit s n (iaOf s n) false { ptrs := (s.eng n).ptrs, pc := iaOf s n + i.len }
     else vRun s n i f) := by
  obtain ⟨hready, hia, hdecode, hstale, hupsets⟩ := h
  have hdecode' : vDecode (vFetch s n (s.fld (SYS_ENGPC_PC n))) = .ok i := hdecode
  unfold vRow
  simp only [hready, Bool.not_true, if_neg Bool.false_ne_true, if_neg (Nat.not_le.mpr hia : ¬ 0x80000 ≤ s.fld (SYS_ENGPC_PC n)), hdecode',
    ne_eq, not_true_eq_false, if_false, vDrawn_clean hstale, eccRead_clean hupsets]
  rfl

theorem vRow_plain (h : fetches s n i) (hrep : i.rep = false) (f : VCtx → State → Run Effect) :
    vRow s n i.op f = runEnd n (iaOf s n) (vRun s n i f) := by
  rw [vRow_fetched h, hrep]
  rfl

/-! ### The stages of an instruction -/

/-- Addressing that faults is the instruction's fault. -/
theorem vRun_badAddressing {c a : Nat} (hp : specPlaces (vActor n) (iaOf s n) i.ops (s.eng n).ptrs s = .trap c a s1) : vRun s n i f = .trap c a s1 := by
  rw [vRun, hp]
  rfl

/-- Once the operands are found and an atomic one may be accessed, the operation decides. -/
theorem vRun_addressed (hp : specPlaces (vActor n) (iaOf s n) i.ops (s.eng n).ptrs s = .go (places, p) s1)
    (ha : i.atomic = true → atomicCheck (operand i places 0).1 i.width s1 = .go () s1) :
    vRun s n i f = (f (ctxOf s n i places p) s1).bind fun e t => vCommit t n (iaOf s n) i.rep e := by
  have hatomic : (if i.atomic then atomicCheck (operand i places 0).1 i.width s1 else .go () s1) = Run.go () s1 := by
    split
    · exact ha ‹_›
    · rfl
  rw [vRun, hp]
  show Run.bind (if i.atomic then atomicCheck (operand i places 0).1 i.width s1 else .go () s1) _ = _
  rw [hatomic]
  rfl

/-- An instruction that is addressed, computed and stored commits. -/
theorem vRun_commits (hp : specPlaces (vActor n) (iaOf s n) i.ops (s.eng n).ptrs s = .go (places, p) s1)
    (ha : i.atomic = true → atomicCheck (operand i places 0).1 i.width s1 = .go () s1)
    (hf : f (ctxOf s n i places p) s1 = .go e s2) (hc : vCommit s2 n (iaOf s n) i.rep e = .go () t) : vRun s n i f = .go () t := by
  rw [vRun_addressed hp ha, hf]
  exact hc

/-- One whose operation faults, or whose result cannot be stored, takes that fault. -/
theorem vRun_faults {c a : Nat} (hp : specPlaces (vActor n) (iaOf s n) i.ops (s.eng n).ptrs s = .go (places, p) s1) (ha : i.atomic = false)
    (hf : ((f (ctxOf s n i places p) s1).bind fun e t => vCommit t n (iaOf s n) i.rep e) = .trap c a s2) : vRun s n i f = .trap c a s2 := by
  rw [vRun_addressed hp fun h => absurd h (by simp [ha])]
  exact hf

theorem vRow_commits (h : fetches s n i) (hrep : i.rep = false)
    (hp : specPlaces (vActor n) (iaOf s n) i.ops (s.eng n).ptrs s = .go (places, p) s1)
    (ha : i.atomic = true → atomicCheck (operand i places 0).1 i.width s1 = .go () s1)
    (hf : f (ctxOf s n i places p) s1 = .go e s2) (hc : vCommit s2 n (iaOf s n) false e = .go () t) : vRow s n i.op f = t := by
  rw [vRow_plain h hrep, vRun_commits hp ha hf (by rw [hrep]; exact hc)]
  rfl

/-- A fault of a store leaves nothing of the instruction (R333). -/
theorem state_of_vCommit_trap {n ia c a : Nat} {rep : Bool} (h : vCommit s n ia rep e = .trap c a t) : t = s := by
  unfold vCommit at h
  dsimp only at h
  split at h
  · cases h
  · injection h with _ _ h
    exact h.symm

/-! ### The data rows -/

theorem vData_computes {srcs : List Nat} {g : VInstr → List Nat → Option Nat} {v : Nat}
    (hr : placesRead (vActor n) p (srcs.map (operand i places)) s1 = .go vs s2) (hg : g i vs = some v) :
    vData srcs g (ctxOf s n i places p) s1 =
      .go { writes := [⟨(operand i places 0).1, (operand i places 0).2, v⟩], ptrs := p, pc := iaOf s n + i.len } s2 := by
  show (placesRead (vActor n) p (srcs.map (operand i places)) s1).bind _ = _
  rw [hr]
  show (match g i vs with | none => _ | some v => _) = _
  rw [hg]
  rfl

/-- A data row without a result raises ARITH. -/
theorem vData_none {srcs : List Nat} {g : VInstr → List Nat → Option Nat}
    (hr : placesRead (vActor n) p (srcs.map (operand i places)) s1 = .go vs s2) (hg : g i vs = none) :
    vData srcs g (ctxOf s n i places p) s1 = .trap 7 0 s2 := by
  show (placesRead (vActor n) p (srcs.map (operand i places)) s1).bind _ = _
  rw [hr]
  show (match g i vs with | none => _ | some v => _) = _
  rw [hg]

theorem vData_unread {srcs : List Nat} {g : VInstr → List Nat → Option Nat} {c a : Nat}
    (hr : placesRead (vActor n) p (srcs.map (operand i places)) s1 = .trap c a s2) :
    vData srcs g (ctxOf s n i places p) s1 = .trap c a s2 := by
  show (placesRead (vActor n) p (srcs.map (operand i places)) s1).bind _ = _
  rw [hr]
  rfl

/-- The ALU rows of an engine with the operation of each (R322). -/
def aluRows (n : Fin 12) : List (Instr × Nat) :=
  [(.add n, 0), (.sub n, 1), (.mul n, 2), (.mulhu n, 3), (.mulhs n, 4), (.divu n, 5), (.divs n, 6), (.remu n, 7), (.rems n, 8), (.and n, 9),
    (.or n, 10), (.xor n, 11), (.andn n, 12), (.shl n, 13), (.shr n, 14), (.sar n, 15)]

theorem exec_aluRow (s : State) {r : Instr × Nat} (h : r ∈ aluRows n) : exec r.1 s = .next (vRow s n (.alu r.2) (vAlu r.2)) := by
  revert h r
  simp only [aluRows, List.forall_mem_cons]
  refine ⟨rfl, rfl, rfl, rfl, rfl, rfl, rfl, rfl, rfl, rfl, rfl, rfl, rfl, rfl, rfl, rfl, fun r hr => by cases hr⟩

/-- A command executes the instructions of a data row with two or with three operands. -/
def RunsDataRow (n : Fin 12) (three : Bool) (r : DataRow) : Prop :=
  ∀ s, ∃ f, exec r.cmd s = .next (vRow s n r.op f) ∧ ∀ c t, (c.i.ops.length == 3) = three → f c t = vData r.srcs r.result c t

theorem runsDataRow_alu (three : Bool) {r : Instr × Nat} (h : r ∈ aluRows n) : RunsDataRow n three (aluRow r.1 r.2 three) := by
  refine fun s => ⟨vAlu r.2, exec_aluRow s h, fun c t hc => ?_⟩
  have hsrcs : (if c.i.ops.length = 3 then [1, 2] else [0, 1]) = if three then [1, 2] else [0, 1] := by
    subst hc
    simp
  rw [vAlu, hsrcs]
  rfl

theorem runsDataRow (three : Bool) : ∀ r ∈ dataRows n three, RunsDataRow n three r := by
  have plain {r : DataRow} (h : ∀ s, exec r.cmd s = .next (vRow s n r.op (vData r.srcs r.result))) : RunsDataRow n three r :=
    fun s => ⟨_, h s, fun _ _ _ => rfl⟩
  simp only [dataRows, List.forall_mem_append]
  refine ⟨⟨?moves, ?alu⟩, ?set⟩
  case moves =>
    simp only [List.forall_mem_cons]
    exact ⟨plain fun _ => rfl, plain fun _ => rfl, plain fun _ => rfl, plain fun _ => rfl, plain fun _ => rfl, plain fun _ => rfl,
      plain fun _ => rfl, plain fun _ => rfl, plain fun _ => rfl, plain fun _ => rfl, plain fun _ => rfl, plain fun _ => rfl,
      fun r hr => by cases hr⟩
  case alu => exact List.forall_mem_map.mpr fun e he => runsDataRow_alu three he
  case set =>
    simp only [List.map_cons, List.map_nil, List.forall_mem_cons]
    exact ⟨plain fun _ => rfl, plain fun _ => rfl, plain fun _ => rfl, plain fun _ => rfl, plain fun _ => rfl, plain fun _ => rfl,
      fun r hr => by cases hr⟩

/-- The row of the fetched data instruction. -/
theorem exec_dataRow (h : fetches s n i) {r : DataRow} (hr : r ∈ dataRows n (i.ops.length == 3)) (hop : i.op = r.op) :
    exec r.cmd s = .next (runEnd n (iaOf s n)
      (if i.rep && ptrGet (s.eng n).ptrs 6 == 0 then vCommit s n (iaOf s n) false { ptrs := (s.eng n).ptrs, pc := iaOf s n + i.len }
       else vRun s n i (vData r.srcs r.result))) := by
  obtain ⟨f, hexec, hf⟩ := runsDataRow _ r hr s
  have hrun : vRun s n i f = vRun s n i (vData r.srcs r.result) := by
    unfold vRun
    congr; funext q t
    congr; funext _ t
    rw [hf _ _ rfl]
  rw [hexec, ← hop, vRow_fetched h, hrun]

theorem exec_dataRow_plain (h : fetches s n i) (hrep : i.rep = false) {r : DataRow} (hr : r ∈ dataRows n (i.ops.length == 3))
    (hop : i.op = r.op) : exec r.cmd s = .next (runEnd n (iaOf s n) (vRun s n i (vData r.srcs r.result))) := by
  rw [exec_dataRow h hr hop, hrep]
  rfl

/-- A data instruction that is read, computed and stored commits, in a repeat form as one pass (R329). -/
theorem dataRow_commits (h : fetches s n i) {r : DataRow} (hr : r ∈ dataRows n (i.ops.length == 3)) (hop : i.op = r.op)
    (ha : i.atomic = false) (hpass : (i.rep && ptrGet (s.eng n).ptrs 6 == 0) = false) {v : Nat}
    (hp : specPlaces (vActor n) (iaOf s n) i.ops (s.eng n).ptrs s = .go (places, p) s1)
    (hread : placesRead (vActor n) p (r.srcs.map (operand i places)) s1 = .go vs s2) (hv : r.result i vs = some v)
    (hc : vCommit s2 n (iaOf s n) i.rep
      { writes := [⟨(operand i places 0).1, (operand i places 0).2, v⟩], ptrs := p, pc := iaOf s n + i.len } = .go () t) :
    exec r.cmd s = .next t := by
  rw [exec_dataRow h hr hop, hpass, if_neg Bool.false_ne_true,
    vRun_commits hp (fun h => absurd h (by simp [ha])) (vData_computes hread hv) hc]
  rfl

/-- Settles O22: the one commit of a data row, and the upset that MOV's operand brings before it. -/
theorem plewinVDataRowsComplete : Obligations.PlewinVDataRowsComplete := by
  refine ⟨fun s n i r h hrep ha hr hop places p vs v s1 s2 t hp hread hv hc => ?_, fun _ _ _ => rfl⟩
  exact dataRow_commits h hr hop ha (by rw [hrep]; rfl) hp hread hv (by rw [hrep]; exact hc)

end Sys2Proof.Architecture
end

section
/-! SUPPORT. The rows of Plewin-V that move operands without computing, and the atomic forms (R318, R321, R328). -/

namespace Sys2Proof.Architecture

open Sys2Proof.Machine

variable {s s1 s2 t : State} {n : Fin 12} {i : VInstr} {places : List Place} {p : List Nat}

theorem leaOf_eq {a : Nat} (h : (operand i places 1).1 = .mem a) :
    leaOf (ctxOf s n i places p) s1 = .go { writes := [⟨(operand i places 0).1, 4, a⟩], ptrs := p, pc := iaOf s n + i.len } s1 := by
  have hsource : ((ctxOf s n i places p).at 1).1 = .mem a := h
  unfold leaOf
  rw [hsource]
  rfl

theorem pushOf_eq {v : Nat} (h : placesRead (vActor n) p [operand i places 0] s1 = .go [v] s2) :
    pushOf (ctxOf s n i places p) s1 = .go { writes := [⟨.mem (addrAdd (ptrGet p 7) (-(i.width : Int))), i.width, v⟩]
                                             ptrs := ptrSet p 7 (addrAdd (ptrGet p 7) (-(i.width : Int))), pc := iaOf s n + i.len } s2 := by
  show (placesRead (vActor n) p [operand i places 0] s1).bind _ = _
  rw [h]
  rfl

theorem popOf_eq {v : Nat} (h : accRead (vActor n) (ptrGet p 7) i.width s1 = .go v s2) :
    popOf (ctxOf s n i places p) s1 = .go { writes := [⟨(operand i places 0).1, i.width, v⟩], ptrs := ptrSet p 7 (ptrGet p 7 + i.width)
                                            pc := iaOf s n + i.len } s2 := by
  show (accRead (vActor n) (ptrGet p 7) i.width s1).bind _ = _
  rw [h]
  rfl

theorem swapOf_eq {x y : Nat} (h : placesRead (vActor n) p [operand i places 0, operand i places 1] s1 = .go [x, y] s2) :
    swapOf (ctxOf s n i places p) s1 = .go { writes := [⟨(operand i places 0).1, i.width, y⟩, ⟨(operand i places 1).1, i.width, x⟩], ptrs := p
                                             pc := iaOf s n + i.len } s2 := by
  show (placesRead (vActor n) p [operand i places 0, operand i places 1] s1).bind _ = _
  rw [h]
  rfl

theorem casOf_eq {old e new : Nat}
    (h : placesRead (vActor n) p [operand i places 0, operand i places 1, operand i places 2] s1 = .go [old, e, new] s2) :
    casOf (ctxOf s n i places p) s1 = .go
      { writes := (if old = e then [⟨(operand i places 0).1, i.width, new⟩] else []) ++ [⟨(operand i places 1).1, i.width, old⟩]
        ptrs := p, pc := iaOf s n + i.len } s2 := by
  show (placesRead (vActor n) p [operand i places 0, operand i places 1, operand i places 2] s1).bind _ = _
  rw [h]
  refine congrArg (fun l => Run.go ({ writes := l, ptrs := p, pc := iaOf s n + i.len } : Effect) s2)
    (?_ : (if old = e then [_, _] else [_]) = _)
  split <;> rfl

/-- The two-operand form of an ALU operation. -/
theorem vAlu_two {k x y v : Nat} (hlen : i.ops.length = 2)
    (h : placesRead (vActor n) p [operand i places 0, operand i places 1] s1 = .go [x, y] s2) (hv : alu k (8 * i.width) x y = some v) :
    vAlu k (ctxOf s n i places p) s1 =
      .go { writes := [⟨(operand i places 0).1, (operand i places 0).2, v⟩], ptrs := p, pc := iaOf s n + i.len } s2 := by
  have hsrcs : (if i.ops.length = 3 then [1, 2] else [0, 1]) = [0, 1] := if_neg (by omega)
  show vData (if i.ops.length = 3 then [1, 2] else [0, 1]) _ _ s1 = _
  rw [hsrcs]
  exact vData_computes h hv

/-- Settles O26: each row's operation, in the one commit of an instruction. -/
theorem plewinVMemoryRowsComplete : Obligations.PlewinVMemoryRowsComplete := by
  intro s n i h hrep places p s1 hp
  have plain {e : Effect} {s2 t : State} {f : VCtx → State → Run Effect} (ha : i.atomic = false) (hf : f (ctxOf s n i places p) s1 = .go e s2)
      (hc : vCommit s2 n (iaOf s n) false e = .go () t) : vRow s n i.op f = t :=
    vRow_commits h hrep hp (fun h => absurd h (by simp [ha])) hf hc
  refine ⟨?lea, ?push, ?pop, ?swap, ?cas, ?alu⟩
  case lea =>
    intro a t hop ha hmem hc
    exact congrArg ok (hop ▸ plain ha (leaOf_eq hmem) hc)
  case push =>
    intro v s2 t hop ha hread hc
    exact congrArg ok (hop ▸ plain ha (pushOf_eq hread) hc)
  case pop =>
    intro v s2 t hop ha hread hc
    exact congrArg ok (hop ▸ plain ha (popOf_eq hread) hc)
  case swap =>
    intro x y s2 t hop ha hread hc
    exact congrArg ok (hop ▸ vRow_commits h hrep hp ha (swapOf_eq hread) hc)
  case cas =>
    intro old e new s2 t hop ha hread hc
    exact congrArg ok (hop ▸ vRow_commits h hrep hp (fun _ => ha) (casOf_eq hread) hc)
  case alu =>
    intro c k x y v s2 t hmem hop _ hlen ha hread hv hc
    have hrow : (c, k) ∈ aluRows n := by
      revert hmem
      simp only [aluRows, List.mem_cons]
      tauto
    rw [exec_aluRow s hrow, ← hop, vRow_commits h hrep hp (fun _ => ha) (vAlu_two hlen hread hv) hc]

end Sys2Proof.Architecture
end

section
/-! SUPPORT. The faults of Plewin-V instructions: where no instruction is read, and where one cannot be addressed, computed or stored
(R283, R296, R322, R328, R332, R333). -/

namespace Sys2Proof.Architecture

open Sys2Proof.Machine

variable {s s1 s2 : State} {n : Fin 12} {i : VInstr} {places : List Place} {p vs : List Nat} {c a : Nat}

/-! ### No instruction is read (R283, R332) -/

theorem vRow_outside (h : vReady s n = true) (hia : 0x80000 ≤ iaOf s n) (op : VOp) (f : VCtx → State → Run Effect) :
    vRow s n op f = vFault s n 4 (iaOf s n) (iaOf s n) := by
  unfold vRow
  rw [h]
  exact if_pos hia

theorem vRow_pastView (h : vReady s n = true) (hia : iaOf s n < 0x80000) (hs : (s.eng n).stale = [])
    (hd : vDecode (vFetch s n (iaOf s n)) = .error .fetch) (op : VOp) (f : VCtx → State → Run Effect) :
    vRow s n op f = vFault s n 4 0x80000 (iaOf s n) := by
  have hd' : vDecode (vFetch s n (s.fld (SYS_ENGPC_PC n))) = .error .fetch := hd
  unfold vRow
  simp only [h, Bool.not_true, if_neg Bool.false_ne_true, if_neg (Nat.not_le.mpr hia : ¬ 0x80000 ≤ s.fld (SYS_ENGPC_PC n)), hd', vDrawn_clean hs]
  rfl

theorem execIllegal_outside (h : vReady s n = true) (hia : 0x80000 ≤ iaOf s n) :
    exec (.illegal n) s = .next (vFault s n 4 (iaOf s n) (iaOf s n)) := by
  have hready : ¬ (!vReady s n) = true := by simp [h]
  exact (if_neg hready).trans (if_pos hia)

/-- An encoding that gives no instruction, by the reason. -/
theorem execIllegal_unread (h : vReady s n = true) (hia : iaOf s n < 0x80000) (hs : (s.eng n).stale = []) {e : DecErr}
    (hd : vDecode (vFetch s n (iaOf s n)) = .error e) : exec (.illegal n) s = .next
      (match e with | .illegal => vFault s n 1 0 (iaOf s n) | .fetch => vFault s n 4 0x80000 (iaOf s n)) := by
  have hd' : vDecode (vFetch s n (s.fld (SYS_ENGPC_PC n))) = .error e := hd
  show execIllegal n s = _
  unfold execIllegal
  simp only [h, Bool.not_true, if_neg Bool.false_ne_true, if_neg (Nat.not_le.mpr hia : ¬ 0x80000 ≤ s.fld (SYS_ENGPC_PC n)), hd', vDrawn_clean hs]
  cases e <;> rfl

/-- A data row takes the fault of a fetch whatever its operation. -/
theorem exec_dataRow_outside (h : vReady s n = true) (hia : 0x80000 ≤ iaOf s n) {three : Bool} {r : DataRow} (hr : r ∈ dataRows n three) :
    exec r.cmd s = .next (vFault s n 4 (iaOf s n) (iaOf s n)) := by
  obtain ⟨f, hexec, -⟩ := runsDataRow three r hr s
  rw [hexec, vRow_outside h hia]

theorem exec_dataRow_pastView (h : vReady s n = true) (hia : iaOf s n < 0x80000) (hs : (s.eng n).stale = [])
    (hd : vDecode (vFetch s n (iaOf s n)) = .error .fetch) {three : Bool} {r : DataRow} (hr : r ∈ dataRows n three) :
    exec r.cmd s = .next (vFault s n 4 0x80000 (iaOf s n)) := by
  obtain ⟨f, hexec, -⟩ := runsDataRow three r hr s
  rw [hexec, vRow_pastView h hia hs hd]

/-! ### An instruction that is read faults (R322, R333) -/

/-- A data instruction whose stages come to a fault takes it. -/
theorem dataRow_faults (h : fetches s n i) (hrep : i.rep = false) {r : DataRow} (hr : r ∈ dataRows n (i.ops.length == 3)) (hop : i.op = r.op)
    (hrun : vRun s n i (vData r.srcs r.result) = .trap c a s2) : exec r.cmd s = .next (vFault s2 n c a (iaOf s n)) := by
  rw [exec_dataRow_plain h hrep hr hop, hrun]
  rfl

/-- Settles O32: which stage of a row faults, and that a fault leaves nothing of the instruction. -/
theorem plewinVFaultsAreTaken : Obligations.PlewinVFaultsAreTaken := by
  refine ⟨fun s n h hia hs hd => execIllegal_unread h hia hs hd,
    fun s n h hia hs hd => ⟨execIllegal_unread h hia hs hd, fun r hr => exec_dataRow_pastView h hia hs hd hr⟩,
    fun s n h hia => ⟨execIllegal_outside h hia, fun r hr => exec_dataRow_outside h hia hr⟩,
    fun s n i r c a s1 h hrep hr hop hp => dataRow_faults h hrep hr hop (vRun_badAddressing hp), ?operands,
    fun a size s h => if_pos h, ?atomic⟩
  case operands =>
    intro s n i r places p s1 h hrep ha hr hop hp
    have faults {c a : Nat} {t : State} (hf : ((vData r.srcs r.result (ctxOf s n i places p) s1).bind fun e t =>
        vCommit t n (iaOf s n) i.rep e) = .trap c a t) : exec r.cmd s = .next (vFault t n c a (iaOf s n)) :=
      dataRow_faults h hrep hr hop (vRun_faults hp ha hf)
    refine ⟨fun c a s2 hread => faults (by rw [vData_unread hread]; rfl),
      fun vs s2 hread hv => faults (by rw [vData_none hread hv]; rfl), fun vs v a c x s2 s3 hread hv hc hmem => ?_⟩
    obtain rfl := state_of_vCommit_trap hc
    refine ⟨rfl, faults ?_⟩
    rw [vData_computes hread hv, hrep, hmem]
    exact hc
  case atomic =>
    intro a size s h hbad
    exact (if_neg (not_not_intro h)).trans (if_pos hbad)

end Sys2Proof.Architecture
end

section
/-! SUPPORT. What an engine holds beside its registers, the stores of an instruction in memory, and the entry of a handler (R17, R26,
R295 to R297, R329). -/

namespace Sys2Proof.Architecture

open Sys2Proof.Machine

variable {s t : State} {n : Fin 12} {l : List Nat} {p : List Nat}

/-! ### What an engine holds -/

@[simp] theorem eng_setEng (s : State) (n : Nat) (x : EngX) (j : Nat) : (s.setEng n x).eng j = if n = j then x else s.eng j := stGet_set ..
@[simp] theorem eng_setFld (s : State) (f : Field) (v j : Nat) : (s.setFld f v).eng j = s.eng j := rfl
@[simp] theorem eng_setFlds (s : State) (fs : List (Field × Nat)) (j : Nat) : (s.setFlds fs).eng j = s.eng j := by simp [State.eng]
@[simp] theorem eng_fire (s : State) (q v j : Nat) : (s.fire q v).eng j = s.eng j := rfl
@[simp] theorem eng_bump (s : State) (f : Field) (j : Nat) : (s.bump f).eng j = s.eng j := by simp [State.eng]
@[simp] theorem fld_setEng (s : State) (n : Nat) (x : EngX) (f : Field) : (s.setEng n x).fld f = s.fld f := fld_congr rfl f

theorem eng_setEng_same (s : State) (n : Nat) (x : EngX) : (s.setEng n x).eng n = x := by simp

theorem keeps_setEng (h : keeps s t l) (n : Nat) (x : EngX) : keeps s (t.setEng n x) l := h

/-- Two registers of an engine's page stand apart. -/
theorem engReg_ne {x y : Nat} (n : Nat) (h : x ≠ y) : x + 0x40 * n ≠ y + 0x40 * n := by omega

/-- A field of a register whose place is known lies in its word. -/
theorem field_fits {f : Field} (h : Nat.ble (f.lo + f.width) 32 = true) : f.lo + f.width ≤ 32 := Nat.le_of_ble_eq_true h

/-- Two fields whose places are known share no bit. -/
theorem fields_apart {f g : Field} (h : (Nat.ble (f.lo + f.width) 32 && (Nat.ble (f.lo + f.width) g.lo || Nat.ble (g.lo + g.width) f.lo)) = true) :
    f.addr ≠ g.addr ∨ (f.lo + f.width ≤ 32 ∧ (f.lo + f.width ≤ g.lo ∨ g.lo + g.width ≤ f.lo)) := by
  simp only [Bool.and_eq_true, Bool.or_eq_true, Nat.ble_eq] at h
  exact .inr h

/-! ### Pointers (R282) -/

theorem ptrGet_ptrSet (p : List Nat) {i k : Nat} (h : k < 8) (x : Nat) : ptrGet (ptrSet p i x) k = if k = i then x % 2 ^ 32 else ptrGet p k := by
  simp [ptrGet, ptrSet, List.getD_eq_getElem?_getD, List.getElem?_map, List.getElem?_range h]

/-- The address of a pushed word fits a pointer. -/
theorem ptrGet_lowered (p : List Nat) (a : Nat) (d : Int) : ptrGet (ptrSet p 7 (addrAdd a d)) 7 = addrAdd a d := by
  rw [ptrGet_ptrSet p (by decide), if_pos rfl]
  exact Nat.mod_eq_of_lt (wrapOf_lt 32 _)

/-! ### Octets that an engine stores in memory (R17, R26, R289) -/

/-- Octets are stored in memory, where an engine's fetch path has not seen them. -/
def octetsStored (s : State) (b : Nat) (o : List Byte) : State := (codeStale (busOk s) b o.length).wrN b o

theorem codeStale_leaves (s : State) (b k : Nat) : (codeStale s b k).regs = s.regs ∧ (codeStale s b k).mem = s.mem ∧
    (codeStale s b k).busResult = s.busResult := by
  unfold codeStale
  split <;> exact ⟨rfl, rfl, rfl⟩

/-- Of an engine a store changes what its fetch path has not seen. -/
theorem eng_codeStale (s : State) (b k j : Nat) : ∃ m, (codeStale s b k).eng j = { s.eng j with stale := m } := by
  unfold codeStale
  split
  · exact ⟨_, rfl⟩
  · dsimp only
    rw [eng_setEng]
    split
    · subst_vars
      exact ⟨_, rfl⟩
    · exact ⟨_, rfl⟩

theorem eng_octetsStored (s : State) (b : Nat) (o : List Byte) (j : Nat) : ∃ m, (octetsStored s b o).eng j = { s.eng j with stale := m } := by
  obtain ⟨m, hm⟩ := eng_codeStale (busOk s) b o.length j
  refine ⟨m, Eq.trans ?_ hm⟩
  simp [octetsStored, State.eng]

theorem regs_octetsStored (s : State) (b : Nat) (o : List Byte) : (octetsStored s b o).regs = s.regs :=
  (regs_wrN ..).trans (codeStale_leaves ..).1

theorem rd8_octetsStored_ne (s : State) {b : Nat} {o : List Byte} {x : Nat} (h : x < b ∨ b + o.length ≤ x) :
    (octetsStored s b o).rd8 x = s.rd8 x := by
  rw [octetsStored, rd8_wrN_ne _ _ _ h]
  exact congrArg (stGet 0 · x) (codeStale_leaves ..).2.1

theorem rdN_octetsStored (s : State) (b : Nat) (o : List Byte) : (octetsStored s b o).rdN b o.length = o := rdN_wrN ..

theorem rdN_octetsStored_ne (s : State) {a b k : Nat} {o : List Byte} (h : b + k ≤ a ∨ a + o.length ≤ b) :
    (octetsStored s a o).rdN b k = s.rdN b k := by
  have hmem : (codeStale (busOk s) a o.length).mem = s.mem := (codeStale_leaves ..).2.1
  rw [octetsStored, rdN_wrN_ne _ h]
  exact rdN_congr hmem b k

/-- A store of an engine in memory that may be written. -/
theorem accWrite_mem {a k b : Nat} (hreg : isReg a = false) (hspan : memSpan n a k = some b) (hro : memRo b = false) (x : Nat) (s : State) :
    accWrite (vActor n) a k x s = .go () (octetsStored s b (leBytes k x)) := by
  have hself : ¬ ((vActor n).v = 13 ∧ a < 0x10000) := fun h => by have := n.isLt; exact absurd h.1 (by simp [vActor]; omega)
  have hbus : busWrite s (vActor n).m (vActor n).v a (leBytes k x) = octetsStored s b (leBytes k x) := by
    unfold busWrite
    simp only [hreg, Bool.false_eq_true, if_false, length_leBytes, vActor, hspan, hro, octetsStored]
    rfl
  have hok : (octetsStored s b (leBytes k x)).busResult = .ok := (busResult_wrN ..).trans (codeStale_leaves ..).2.2
  unfold accWrite
  rw [if_neg hself]
  dsimp only
  rw [hbus, hok, if_neg (by decide)]

/-- A store at an address where the engine reaches no memory is refused. -/
theorem accWrite_nowhere {a k : Nat} (hreg : isReg a = false) (hspan : memSpan n a k = none) (x : Nat) (s : State) :
    accWrite (vActor n) a k x s = .trap (accCause s n a) a s := by
  have hself : ¬ ((vActor n).v = 13 ∧ a < 0x10000) := fun h => by have := n.isLt; exact absurd h.1 (by simp [vActor]; omega)
  have hbus : (busWrite s (vActor n).m (vActor n).v a (leBytes k x)).busResult = .error := by
    unfold busWrite
    simp only [hreg, Bool.false_eq_true, if_false, length_leBytes, vActor, hspan]
    rfl
  unfold accWrite
  rw [if_neg hself]
  exact if_pos hbus

/-! ### An instruction that stores its result in memory (R318, R329) -/

/-- The registers of an engine whose instruction at `ia` commits. -/
def engCommitted (s : State) (n ia : Nat) (rep : Bool) (p : List Nat) (pc : Nat) : State :=
  (s.setEng n { s.eng n with ptrs := if rep then ptrSet p 6 (ptrGet p 6 - 1) else p
                             eiHold := false
                             repAt := if rep then some ia else none }).setFld (SYS_ENGPC_PC n) (if rep && ptrGet p 6 - 1 != 0 then ia else pc)

theorem vCommit_stores {a k b : Nat} (hreg : isReg a = false) (hspan : memSpan n a k = some b) (hro : memRo b = false) (s : State) (ia : Nat)
    (rep : Bool) (p : List Nat) (pc v : Nat) : vCommit s n ia rep { writes := [⟨.mem a, k, v⟩], ptrs := p, pc := pc } =
      .go () (octetsStored (engCommitted s n ia rep p pc) b (leBytes k v)) := by
  show (match (accWrite (vActor n) a k v (engCommitted s n ia rep p pc)).bind fun _ t => Run.go () t with
    | .go _ t => Run.go () t | .trap c a _ => .trap c a s) = _
  rw [accWrite_mem hreg hspan hro]
  rfl

/-- One pass of a repeat form (R329), and the address at which an interrupt after it resumes (R295). -/
theorem pass_stores {a k b : Nat} (hreg : isReg a = false) (hspan : memSpan n a k = some b) (hro : memRo b = false) (s : State) {ia pc : Nat}
    (hia : ia < 2 ^ 32) (hpc : pc < 2 ^ 32) {p : List Nat} (hp : ptrGet p 6 < 2 ^ 32) (v : Nat) :
    ∃ t, vCommit s n ia true { writes := [⟨.mem a, k, v⟩], ptrs := p, pc := pc } = .go () t ∧ ptrGet (t.eng n).ptrs 6 = ptrGet p 6 - 1 ∧
      iaOf t n = (if ptrGet p 6 - 1 = 0 then pc else ia) ∧ vInterrupt t n = vEnter t n 1 ia := by
  refine ⟨_, vCommit_stores hreg hspan hro s ia true p pc v, ?_⟩
  obtain ⟨m, hm⟩ := eng_octetsStored (engCommitted s n ia true p pc) b (leBytes k v) n
  have heng : (octetsStored (engCommitted s n ia true p pc) b (leBytes k v)).eng n =
      { s.eng n with ptrs := ptrSet p 6 (ptrGet p 6 - 1), eiHold := false, repAt := some ia, stale := m } := by
    rw [hm, engCommitted, eng_setFld, eng_setEng_same]
    rfl
  refine ⟨?_, ?_, ?_⟩
  · rw [heng, ptrGet_ptrSet p (by decide), if_pos rfl]
    exact Nat.mod_eq_of_lt (by omega)
  · rw [iaOf, fld_congr (regs_octetsStored ..), engCommitted, fld_setFld _ _ _ (field_fits rfl)]
    by_cases h : ptrGet p 6 - 1 = 0
    · simp only [h, bne_self_eq_false, Bool.and_false, Bool.false_eq_true, if_false, if_true]
      exact Nat.mod_eq_of_lt hpc
    · have hne : (ptrGet p 6 - 1 != 0) = true := bne_iff_ne.mpr h
      simp only [h, hne, Bool.and_self, if_true, if_false]
      exact Nat.mod_eq_of_lt hia
  · rw [vInterrupt, heng]
    rfl

/-- Settles O30: no pass where P6 is zero, else the commit of one pass. -/
theorem plewinVRepeat : Obligations.PlewinVRepeat := by
  refine ⟨fun s n i r h hrep hr hop hzero => ?_, fun s n i r places p vs v s1 s2 h hrep ha hr hop hleft hp hread hv t hc => ?_,
    fun s n ia k v a b pc p hreg hspan hro hia hpc hp => pass_stores hreg hspan hro s hia hpc hp v⟩
  · rw [exec_dataRow h hr hop, hrep, hzero]
    rfl
  · refine dataRow_commits h hr hop ha ?_ hp hread hv (by rw [hrep]; exact hc)
    rw [hrep, beq_eq_false_iff_ne.mpr hleft]
    rfl

end Sys2Proof.Architecture
end

section
/-! SUPPORT. Handler entry, faults and double faults of Plewin-V (R295, R296, R297). -/

namespace Sys2Proof.Architecture

open Sys2Proof.Machine

variable {s t : State} {n : Fin 12} {l : List Nat} {p : List Nat}

/-! ### Entry (R295) -/

/-- The resume address and the status word are pushed. -/
def handlerPushed (s : State) (n : Fin 12) (b resume : Nat) : State :=
  octetsStored (octetsStored s b (leBytes 4 resume)) (b + 4) (leBytes 4 (vStatus s n))

/-- Word `word` of the vector table of an engine. -/
def vectorAt (s : State) (n : Fin 12) (word : Nat) : Nat := s.rdLe (localBase n + 16 * s.fld (SYS_ENGVEC_BASE n) + 4 * word) 4

/-- The engine goes to the handler that word `word` of its vector table names, with the pointers `p`. -/
def handlerBegun (s : State) (n : Fin 12) (word : Nat) (p : List Nat) : State :=
  let t := s.setEng n { s.eng n with ptrs := p, waiting := false, eiHold := false, repAt := none }
  let t := t.setFlds [(SYS_ENGSTAT_INT_EN n, 0), (SYS_ENGPC_PC n, vectorAt t n word)]
  if word = 0 then t.setFld (SYS_ENGSTAT_IN_HANDLER n) 1 else t

/-- The address of the two words that an entry pushes. -/
def pushAt (s : State) (n : Fin 12) : Nat := addrAdd (ptrGet (s.eng n).ptrs 7) (-8)

theorem vEnter_pushes {b : Nat} (hreg : isReg (pushAt s n) = false) (hreg' : isReg (addrAdd (pushAt s n) 4) = false)
    (hspan : memSpan n (pushAt s n) 4 = some b) (hspan' : memSpan n (addrAdd (pushAt s n) 4) 4 = some (b + 4)) (hro : memRo b = false)
    (hro' : memRo (b + 4) = false) (word resume : Nat) : vEnter s n word resume =
      handlerBegun (handlerPushed s n b resume) n word (ptrSet (s.eng n).ptrs 7 (pushAt s n)) := by
  have hpush : ((accWrite (vActor n) (pushAt s n) 4 resume s).bind fun _ t => accWrite (vActor n) (addrAdd (pushAt s n) 4) 4 (vStatus s n) t) =
      .go () (handlerPushed s n b resume) := by
    rw [accWrite_mem hreg hspan hro]
    exact accWrite_mem hreg' hspan' hro' _ _
  unfold vEnter
  dsimp only
  rw [show addrAdd (ptrGet (s.eng n).ptrs 7) (-8) = pushAt s n from rfl, hpush]
  rfl

/-- An entry whose first push reaches no memory is a double fault (R297). -/
theorem vEnter_nowhere (hreg : isReg (pushAt s n) = false) (hspan : memSpan n (pushAt s n) 4 = none) (word resume : Nat) :
    vEnter s n word resume = vDouble s n := by
  unfold vEnter
  dsimp only
  rw [show addrAdd (ptrGet (s.eng n).ptrs 7) (-8) = pushAt s n from rfl, accWrite_nowhere hreg hspan]
  rfl

/-! ### What the pushes leave -/

theorem regs_handlerPushed (s : State) (b resume : Nat) : (handlerPushed s n b resume).regs = s.regs :=
  (regs_octetsStored ..).trans (regs_octetsStored ..)

theorem rd8_handlerPushed_ne (s : State) {b x : Nat} (h : x < b ∨ b + 8 ≤ x) (resume : Nat) : (handlerPushed s n b resume).rd8 x = s.rd8 x := by
  rw [handlerPushed, rd8_octetsStored_ne _ (by rw [length_leBytes]; omega), rd8_octetsStored_ne _ (by rw [length_leBytes]; omega)]

/-- The status word as it is pushed (R295). -/
theorem vStatus_eq (s : State) (n : Fin 12) : vStatus s n = s.fld (SYS_ENGSTAT_INT_EN n) + 2 * s.fld (SYS_ENGSTAT_IN_HANDLER n) +
    4 * (if n = 0 then 1 else s.fld (SYS_ENGCTL_WORLD n)) := by
  have hworld : b2n (s.flag (SYS_ENGCTL_WORLD n)) = s.fld (SYS_ENGCTL_WORLD n) := by
    have hlt : s.fld (SYS_ENGCTL_WORLD n) < 2 := fld_lt s _
    unfold State.flag b2n
    interval_cases s.fld (SYS_ENGCTL_WORLD n) <;> rfl
  by_cases h : n = 0
  · subst h
    rfl
  · have hn : ((n : Nat) == 0) = false := beq_eq_false_iff_ne.mpr fun h0 => h (Fin.ext h0)
    rw [vStatus, hn, Bool.false_or, hworld, if_neg h]

theorem vStatus_lt (s : State) (n : Fin 12) : vStatus s n < 8 := by
  have h1 : s.fld (SYS_ENGSTAT_INT_EN n) < 2 := fld_lt s _
  have h2 : s.fld (SYS_ENGSTAT_IN_HANDLER n) < 2 := fld_lt s _
  have h3 : ∀ b, b2n b ≤ 1 := by decide
  have := h3 ((n : Nat) == 0 || s.flag (SYS_ENGCTL_WORLD n))
  unfold vStatus
  omega

/-- The two words that were pushed read back. -/
theorem pushed_words (s : State) (n : Fin 12) (b resume : Nat) :
    (handlerPushed s n b resume).rdLe b 4 = resume % 2 ^ 32 ∧ (handlerPushed s n b resume).rdLe (b + 4) 4 = vStatus s n := by
  have stored (s : State) (b v : Nat) : (octetsStored s b (leBytes 4 v)).rdN b 4 = leBytes 4 v := by
    simpa using rdN_octetsStored s b (leBytes 4 v)
  constructor
  · rw [State.rdLe, handlerPushed, rdN_octetsStored_ne _ (Or.inl le_rfl), stored, ofLe_leBytes]
    rfl
  · rw [State.rdLe, handlerPushed, stored, ofLe_leBytes]
    exact Nat.mod_eq_of_lt ((vStatus_lt s n).trans (by decide))

/-! ### What the handler begins with -/

theorem vectorAt_setEng (s : State) (n : Fin 12) (j : Nat) (x : EngX) (word : Nat) : vectorAt (s.setEng j x) n word = vectorAt s n word := by
  have hmem (a : Nat) : (s.setEng j x).rdN a 4 = s.rdN a 4 := rdN_congr rfl a 4
  rw [vectorAt, vectorAt, fld_setEng, State.rdLe, State.rdLe, hmem]

theorem vectorAt_lt (s : State) (n : Fin 12) (word : Nat) : vectorAt s n word < 2 ^ 32 := by
  have h := ofLe_lt (s.rdN (localBase n + 16 * s.fld (SYS_ENGVEC_BASE n) + 4 * word) 4)
  rwa [rdN_length] at h

/-- The engine without INT_EN, at the address `pc`. -/
def masked (s : State) (n pc : Nat) : State := s.setFlds [(SYS_ENGSTAT_INT_EN n, 0), (SYS_ENGPC_PC n, pc)]

theorem masked_keeps (h : keeps s t [SYS_ENGSTAT n, SYS_ENGPC n]) (pc : Nat) : keeps s (masked t n pc) [SYS_ENGSTAT n, SYS_ENGPC n] :=
  keeps_setFlds h (by simp [SYS_ENGSTAT_INT_EN, SYS_ENGPC_PC])

theorem fld_masked (s : State) (n pc : Nat) : (masked s n pc).fld (SYS_ENGSTAT_INT_EN n) = 0 ∧
    (masked s n pc).fld (SYS_ENGSTAT_IN_HANDLER n) = s.fld (SYS_ENGSTAT_IN_HANDLER n) ∧ iaOf (masked s n pc) n = pc % 2 ^ 32 := by
  have hpc : SYS_ENGPC n ≠ SYS_ENGSTAT n := engReg_ne n (by decide)
  unfold masked iaOf
  rw [setFlds_cons, setFlds_cons, setFlds_nil]
  refine ⟨?_, ?_, fld_setFld _ _ _ (field_fits rfl)⟩
  · rw [fld_setFld_ne _ _ _ _ (.inl hpc), fld_setFld_of_lt _ (field_fits rfl) Nat.zero_lt_two]
  · rw [fld_setFld_ne _ _ _ _ (.inl hpc), fld_setFld_ne _ _ _ _ (fields_apart rfl)]

theorem handlerBegun_eq (s : State) (n : Fin 12) (word : Nat) (p : List Nat) : handlerBegun s n word p =
    let t := masked (s.setEng n { s.eng n with ptrs := p, waiting := false, eiHold := false, repAt := none }) n (vectorAt s n word)
    if word = 0 then t.setFld (SYS_ENGSTAT_IN_HANDLER n) 1 else t := by
  rw [handlerBegun, vectorAt_setEng]
  rfl

theorem eng_handlerBegun (s : State) (n : Fin 12) (word : Nat) (p : List Nat) : (handlerBegun s n word p).eng n =
    { s.eng n with ptrs := p, waiting := false, eiHold := false, repAt := none } := by
  rw [handlerBegun_eq]
  dsimp only
  split
  · rw [eng_setFld, masked, eng_setFlds, eng_setEng_same]
  · rw [masked, eng_setFlds, eng_setEng_same]

theorem handlerBegun_keeps (s : State) (n : Fin 12) (word : Nat) (p : List Nat) : keeps s (handlerBegun s n word p) [SYS_ENGSTAT n, SYS_ENGPC n] := by
  have hk := masked_keeps (n := n) (keeps_setEng (keeps_refl s _) n { s.eng n with ptrs := p, waiting := false, eiHold := false, repAt := none })
    (vectorAt s n word)
  rw [handlerBegun_eq]
  dsimp only
  split
  · exact keeps_setFld hk (List.mem_cons_self ..) 1
  · exact hk

theorem fld_handlerBegun (s : State) (n : Fin 12) (word : Nat) (p : List Nat) :
    (handlerBegun s n word p).fld (SYS_ENGSTAT_INT_EN n) = 0 ∧
    (handlerBegun s n word p).fld (SYS_ENGSTAT_IN_HANDLER n) = (if word = 0 then 1 else s.fld (SYS_ENGSTAT_IN_HANDLER n)) ∧
    iaOf (handlerBegun s n word p) n = vectorAt s n word := by
  have hpc : SYS_ENGSTAT n ≠ SYS_ENGPC n := engReg_ne n (by decide)
  obtain ⟨hint, hin, hia⟩ := fld_masked
    (s.setEng n { s.eng n with ptrs := p, waiting := false, eiHold := false, repAt := none }) n (vectorAt s n word)
  rw [fld_setEng] at hin
  rw [Nat.mod_eq_of_lt (vectorAt_lt s n word)] at hia
  rw [handlerBegun_eq]
  dsimp only
  split
  · exact ⟨(fld_setFld_ne _ _ _ _ (fields_apart rfl)).trans hint, fld_setFld_of_lt _ (field_fits rfl) Nat.one_lt_two,
      (fld_setFld_ne _ _ _ _ (.inl hpc)).trans hia⟩
  · exact ⟨hint, hin, hia⟩

/-- The entry of a handler whose pushes reach one run of memory. -/
theorem vEnter_pushed {b : Nat} (hreg : isReg (pushAt s n) = false) (hreg' : isReg (addrAdd (pushAt s n) 4) = false)
    (hspan : memSpan n (pushAt s n) 4 = some b) (hspan' : memSpan n (addrAdd (pushAt s n) 4) 4 = some (b + 4)) (hro : memRo b = false)
    (hro' : memRo (b + 4) = false) (word resume : Nat) :
    ∃ t, t = vEnter s n word resume ∧ ptrGet (t.eng n).ptrs 7 = pushAt s n ∧ (∀ k < 7, ptrGet (t.eng n).ptrs k = ptrGet (s.eng n).ptrs k) ∧
      t.rdLe b 4 = resume % 2 ^ 32 ∧ t.rdLe (b + 4) 4 = s.fld (SYS_ENGSTAT_INT_EN n) + 2 * s.fld (SYS_ENGSTAT_IN_HANDLER n) +
        4 * (if n = 0 then 1 else s.fld (SYS_ENGCTL_WORLD n)) ∧
      (∀ x, x < b ∨ b + 8 ≤ x → t.rd8 x = s.rd8 x) ∧ t.fld (SYS_ENGSTAT_INT_EN n) = 0 ∧
      t.fld (SYS_ENGSTAT_IN_HANDLER n) = (if word = 0 then 1 else s.fld (SYS_ENGSTAT_IN_HANDLER n)) ∧
      iaOf t n = t.rdLe (localBase n + 16 * s.fld (SYS_ENGVEC_BASE n) + 4 * word) 4 ∧
      (∀ r, r ≠ SYS_ENGSTAT n → r ≠ SYS_ENGPC n → t.reg r = s.reg r) := by
  refine ⟨_, (vEnter_pushes hreg hreg' hspan hspan' hro hro' word resume).symm, ?_⟩
  generalize hT : handlerPushed s n b resume = T
  have hregs : T.regs = s.regs := by rw [← hT]; exact regs_handlerPushed s b resume
  obtain ⟨hresume, hstatus⟩ := pushed_words s n b resume
  obtain ⟨hmem, hkept⟩ := handlerBegun_keeps T n word (ptrSet (s.eng n).ptrs 7 (pushAt s n))
  obtain ⟨hint, hin, hia⟩ := fld_handlerBegun T n word (ptrSet (s.eng n).ptrs 7 (pushAt s n))
  have hread (a : Nat) : (handlerBegun T n word (ptrSet (s.eng n).ptrs 7 (pushAt s n))).rdLe a 4 = T.rdLe a 4 :=
    congrArg ofLe (rdN_congr hmem a 4)
  rw [hT] at hresume hstatus
  rw [eng_handlerBegun]
  refine ⟨ptrGet_lowered _ _ _, fun k hk => ?_, ?_, ?_, fun x hx => ?_, hint, ?_, ?_, fun r hr hr' => ?_⟩
  · exact (ptrGet_ptrSet _ (by omega) _).trans (if_neg (by omega))
  · rw [hread, hresume]
  · rw [hread, hstatus, vStatus_eq]
  · exact (congrArg (stGet 0 · x) hmem).trans (by subst hT; exact rd8_handlerPushed_ne s hx resume)
  · rw [hin, fld_congr hregs]
  · rw [hread, hia, vectorAt, fld_congr hregs]
  · rw [hkept r (by simp [hr, hr']), reg_congr hregs]

/-! ### Faults (R296, R297) -/

theorem fld_faultRecord (s : State) (n : Fin 12) {cause : Nat} (hcause : cause < 8) (addr ia : Nat) :
    (faultRecord s n cause addr ia).fld (SYS_ENGFAULT_CAUSE n) = cause ∧
    (faultRecord s n cause addr ia).fld (SYS_ENGFADDR_ADDR n) = addr % 2 ^ 32 ∧
    (faultRecord s n cause addr ia).fld (SYS_ENGFPC_PC n) = ia % 2 ^ 32 := by
  have haddr : SYS_ENGFADDR n ≠ SYS_ENGFAULT n := engReg_ne n (by decide)
  have hpc : SYS_ENGFPC n ≠ SYS_ENGFAULT n := engReg_ne n (by decide)
  have hpc' : SYS_ENGFPC n ≠ SYS_ENGFADDR n := engReg_ne n (by decide)
  unfold faultRecord
  rw [setFlds_cons, setFlds_cons, setFlds_cons, setFlds_nil]
  refine ⟨?_, ?_, ?_⟩
  · rw [fld_bump_ne _ _ _ (fields_apart rfl), fld_setFld_ne _ _ _ _ (.inl hpc), fld_setFld_ne _ _ _ _ (.inl haddr)]
    exact fld_setFld_of_lt _ (field_fits rfl) hcause
  · rw [fld_bump_ne _ _ _ (.inl haddr.symm), fld_setFld_ne _ _ _ _ (.inl hpc')]
    exact fld_setFld _ _ _ (field_fits rfl)
  · rw [fld_bump_ne _ _ _ (.inl hpc.symm)]
    exact fld_setFld _ _ _ (field_fits rfl)

theorem engFaulted_keeps (s : State) (n : Nat) : keeps s (engFaulted s n) [SYS_ENGSTAT n, SYS_ENGCTL n] :=
  keeps_fire (keeps_setFlds (keeps_setEng (keeps_refl s _) _ _) (by simp [SYS_ENGSTAT_STATE, SYS_ENGCTL_RUN])) _ _

theorem events_engFaulted (s : State) (n : Nat) : (engFaulted s n).events = s.events ++ [{ producer := 1, payload := n % 2 ^ 32 }] := by
  show (State.setFlds _ _).events ++ _ = _
  rw [events_setFlds]
  rfl

/-- An engine that faulted is FAULTED and does not run (R297, R305). -/
theorem fld_engFaulted (s : State) (n : Nat) : engState (engFaulted s n) n = 2 ∧ (engFaulted s n).fld (SYS_ENGCTL_RUN n) = 0 := by
  have hctl : SYS_ENGCTL n ≠ SYS_ENGSTAT n := engReg_ne n (by decide)
  unfold engState engFaulted
  rw [fld_fire, fld_fire, setFlds_cons, setFlds_cons, setFlds_nil]
  refine ⟨?_, fld_setFld_of_lt _ (field_fits rfl) Nat.zero_lt_two⟩
  rw [fld_setFld_ne _ _ _ _ (.inl hctl)]
  exact fld_setFld_of_lt _ (field_fits rfl) (show 2 < 8 by decide)

theorem vDouble_keeps (s : State) (n : Nat) : keeps s (vDouble s n) [SYS_ENGSTAT n, SYS_ENGCTL n, SYS_ENGFAULT n] :=
  keeps_trans (keeps_setFld (keeps_bump (keeps_refl s _) (by simp [SYS_ENGFAULT_COUNT])) (by simp [SYS_ENGFAULT_DOUBLE]) 1)
    (keeps_mono (engFaulted_keeps _ n) (by simp))

/-- A double fault: the engine stops with DOUBLE, and the record of its first fault stays (R297). -/
theorem vDouble_leaves (s : State) (n : Fin 12) : engState (vDouble s n) n = 2 ∧ (vDouble s n).fld (SYS_ENGFAULT_DOUBLE n) = 1 ∧
    (vDouble s n).fld (SYS_ENGCTL_RUN n) = 0 ∧ (vDouble s n).reg (SYS_ENGFADDR n) = s.reg (SYS_ENGFADDR n) ∧
    (vDouble s n).reg (SYS_ENGFPC n) = s.reg (SYS_ENGFPC n) ∧ (vDouble s n).mem = s.mem ∧
    (vDouble s n).events = s.events ++ [{ producer := 1, payload := n }] := by
  obtain ⟨hstate, hrun⟩ := fld_engFaulted ((s.bump (SYS_ENGFAULT_COUNT n)).setFld (SYS_ENGFAULT_DOUBLE n) 1) n
  obtain ⟨hmem, hkept⟩ := vDouble_keeps s n
  have hother {x : Nat} (hx : x = 0x20001018 ∨ x = 0x2000101C) :
      x + 0x40 * n.val ∉ [SYS_ENGSTAT n, SYS_ENGCTL n, SYS_ENGFAULT n] := by
    simp only [List.mem_cons, List.not_mem_nil, or_false, SYS_ENGSTAT, SYS_ENGCTL, SYS_ENGFAULT]
    omega
  refine ⟨hstate, ?_, hrun, hkept _ (hother (.inl rfl)), hkept _ (hother (.inr rfl)), hmem, ?_⟩
  · have hfault : (SYS_ENGFAULT_DOUBLE n).addr ∉ [SYS_ENGSTAT n, SYS_ENGCTL n] := by
      simp only [List.mem_cons, List.not_mem_nil, or_false, SYS_ENGFAULT_DOUBLE, SYS_ENGSTAT, SYS_ENGCTL, SYS_ENGFAULT]
      omega
    exact (fld_of_keeps (engFaulted_keeps _ n) hfault).trans (fld_setFld_of_lt _ (field_fits rfl) Nat.one_lt_two)
  · rw [vDouble, events_engFaulted, events_setFld, events_bump, Nat.mod_eq_of_lt (n.isLt.trans (by decide))]

/-- Settles O31: entry by the state it ends in, a fault by where it goes, and a double fault by what it leaves. -/
theorem plewinVHandlerEntry : Obligations.PlewinVHandlerEntry := by
  refine ⟨fun s n word resume b hreg hreg' hspan hspan' hro hro' => vEnter_pushed hreg hreg' hspan hspan' hro hro' word resume,
    fun s n cause addr ia hin hcause => ⟨if_neg (by simp [hin]), fld_faultRecord s n hcause addr ia⟩,
    fun s n cause addr ia hin => ⟨_, (if_pos hin : vFault s n cause addr ia = vDouble s n).symm, vDouble_leaves s n⟩, ?nowhere⟩
  case nowhere =>
    intro s n word resume hreg hspan
    obtain ⟨hstate, hdouble, -, haddr, hpc, hmem, -⟩ := vDouble_leaves s n
    exact ⟨_, (vEnter_nowhere hreg hspan word resume).symm, hstate, hdouble, hmem, haddr, hpc⟩

end Sys2Proof.Architecture
end

section
/-! SUPPORT. The control instructions of Plewin-V: changes of the engine alone, branches, calls, returns and the wait for an interrupt
(R287, R289, R323, R330, R331). -/

namespace Sys2Proof.Architecture

open Sys2Proof.Machine

variable {s s1 s2 t : State} {n : Fin 12} {i : VInstr} {places : List Place} {p : List Nat} {e : Effect} {f : VCtx → State → Run Effect}

/-! ### Instructions without a result -/

/-- An engine goes on at `pc` with what an instruction on the engine alone leaves of it. -/
def engPlain (s : State) (n : Nat) (p : List Nat) (pc : Nat) (hold flush : Bool) : State :=
  (s.setEng n { s.eng n with ptrs := p, eiHold := hold, stale := if flush then [] else (s.eng n).stale, repAt := none }).setFld (SYS_ENGPC_PC n) pc

theorem vCommit_plain (s : State) (n ia : Nat) (p : List Nat) (pc : Nat) (intEn : Option Bool) (hold flush : Bool) :
    vCommit s n ia false { ptrs := p, pc := pc, intEn := intEn, hold := hold, flush := flush } =
      .go () (setOpt (engPlain s n p pc hold flush) (SYS_ENGSTAT_INT_EN n) intEn) := by
  cases intEn <;> rfl

theorem vCommit_goes (s : State) (n ia : Nat) (p : List Nat) (pc : Nat) :
    vCommit s n ia false { ptrs := p, pc := pc } = .go () (engGoes s n p pc) := rfl

theorem engPlain_leaves (s : State) (n : Nat) (pc : Nat) (hold flush : Bool) :
    (engPlain s n (s.eng n).ptrs pc hold flush).eng n =
      { s.eng n with eiHold := hold, stale := if flush then [] else (s.eng n).stale, repAt := none } ∧
    iaOf (engPlain s n (s.eng n).ptrs pc hold flush) n = pc % 2 ^ 32 ∧ keeps s (engPlain s n (s.eng n).ptrs pc hold flush) [SYS_ENGPC n] := by
  refine ⟨?_, fld_setFld _ _ _ (field_fits rfl), keeps_setFld (keeps_setEng (keeps_refl s _) _ _) (List.mem_singleton_self _) _⟩
  rw [engPlain, eng_setFld, eng_setEng_same]

/-- INT_EN is set or cleared as the engine goes on (R331). -/
def engIntEn (s : State) (n pc : Nat) (hold b : Bool) : State :=
  (engPlain s n (s.eng n).ptrs pc hold false).setFld (SYS_ENGSTAT_INT_EN n) (b2n b)

theorem engIntEn_leaves (s : State) (n pc : Nat) (hold b : Bool) :
    (engIntEn s n pc hold b).eng n = { s.eng n with eiHold := hold, repAt := none } ∧
    (engIntEn s n pc hold b).fld (SYS_ENGSTAT_INT_EN n) = b2n b ∧ iaOf (engIntEn s n pc hold b) n = pc % 2 ^ 32 ∧
    keeps s (engIntEn s n pc hold b) [SYS_ENGPC n, SYS_ENGSTAT n] := by
  have hpc : SYS_ENGSTAT n ≠ SYS_ENGPC n := engReg_ne n (by decide)
  have hb : b2n b < 2 := by cases b <;> decide
  obtain ⟨heng, hia, hkept⟩ := engPlain_leaves s n pc hold false
  unfold iaOf at hia ⊢
  unfold engIntEn
  refine ⟨?_, fld_setFld_of_lt _ (field_fits rfl) hb, ?_, keeps_setFld (keeps_mono hkept (by simp)) (by simp [SYS_ENGSTAT_INT_EN]) _⟩
  · rw [eng_setFld, heng]
    rfl
  · rw [fld_setFld_ne _ _ _ _ (.inl hpc), hia]

/-- An instruction that is not atomic, with its operands found and its operation done, commits. -/
theorem vRow_commits_plain (h : fetches s n i) (hrep : i.rep = false) (ha : i.atomic = false)
    (hp : specPlaces (vActor n) (iaOf s n) i.ops (s.eng n).ptrs s = .go (places, p) s1)
    (hf : f (ctxOf s n i places p) s1 = .go e s2) (hc : vCommit s2 n (iaOf s n) false e = .go () t) : vRow s n i.op f = t :=
  vRow_commits h hrep hp (fun h => absurd h (by simp [ha])) hf hc

/-- An instruction without operands sees the engine's pointers. -/
theorem vRow_bare (h : fetches s n i) (hrep : i.rep = false) (ha : i.atomic = false) (hops : i.ops = [])
    (hf : f (ctxOf s n i [] (s.eng n).ptrs) s = .go e s2) (hc : vCommit s2 n (iaOf s n) false e = .go () t) : vRow s n i.op f = t :=
  vRow_commits_plain h hrep ha (by rw [hops]; rfl) hf hc

/-! ### Branches, calls and returns (R323, R330) -/

theorem exec_cbRow (s : State) {r : Instr × Nat}
    (h : r ∈ ([(.cbEq n, 0), (.cbNe n, 1), (.cbLt n, 2), (.cbGe n, 3), (.cbLtu n, 4), (.cbGeu n, 5)] : List (Instr × Nat))) :
    exec r.1 s = .next (vRow s n (.cb r.2) (vBranch r.2)) := by
  revert h r
  simp only [List.forall_mem_cons]
  exact ⟨rfl, rfl, rfl, rfl, rfl, rfl, fun r hr => by cases hr⟩

theorem vBranch_eq {a b : Nat} (cc : Nat) (h : placesRead (vActor n) p [operand i places 0, operand i places 1] s1 = .go [a, b] s2) :
    vBranch cc (ctxOf s n i places p) s1 =
      .go { ptrs := p, pc := if condHolds cc (8 * i.width) a b then addrAdd (iaOf s n) i.disp else iaOf s n + i.len } s2 := by
  show (placesRead (vActor n) p [operand i places 0, operand i places 1] s1).bind _ = _
  rw [h]
  rfl

theorem retiOf_eq {pc st : Nat} (h : accRead (vActor n) (ptrGet p 7) 4 s = .go pc s1) (h' : accRead (vActor n) (addrAdd (ptrGet p 7) 4) 4 s1 = .go st s2) :
    retiOf (ctxOf t n i places p) s =
      .go { ptrs := ptrSet p 7 (ptrGet p 7 + 8), pc := pc, intEn := some (bitOf st 0), inHandler := some (bitOf st 1) } s2 := by
  show (accRead (vActor n) (ptrGet p 7) 4 s).bind _ = _
  rw [h]
  show (accRead (vActor n) (addrAdd (ptrGet p 7) 4) 4 s1).bind _ = _
  rw [h']
  rfl

/-! ### The wait for an interrupt (R331) -/

theorem nextIs_fetched (h : fetches s n i) : nextIs s n i.op = true := by
  obtain ⟨-, -, hdecode, -, -⟩ := h
  have hdecode' : vDecode (vFetch s n (s.fld (SYS_ENGPC_PC n))) = .ok i := hdecode
  unfold nextIs
  rw [hdecode']
  exact beq_self_eq_true _

theorem wfiWait_fetched (h : fetches s n i) : wfiWait s n = s.setEng n { s.eng n with waiting := true, wake := iaOf s n + i.len } := by
  obtain ⟨-, -, hdecode, hstale, hupsets⟩ := h
  have hdecode' : vDecode (vFetch s n (s.fld (SYS_ENGPC_PC n))) = .ok i := hdecode
  unfold wfiWait
  dsimp only
  rw [hdecode']
  dsimp only
  rw [vDrawn_clean hstale, eccRead_clean hupsets]
  rfl

/-- WFI of a ready engine, by the interrupt input. -/
theorem execWfi_fetched (h : fetches s n i) (hop : i.op = .wfi) : exec (.wfi n) s = .next
    (if irqLevel s n then
      if engState (vRow s n .wfi (vPlain none false false)) n = 1 then wfiDone (vRow s n .wfi (vPlain none false false)) n
      else vRow s n .wfi (vPlain none false false)
    else wfiWait s n) := by
  have hnext : nextIs s n .wfi = true := hop ▸ nextIs_fetched h
  show execWfi n s = _
  unfold execWfi
  simp only [h.1, hnext, Bool.not_true, Bool.false_eq_true, if_false]
  cases irqLevel s n <;> rfl

theorem fld_engGoes_ne (s : State) (n : Fin 12) (p : List Nat) (pc : Nat) {g : Field} (hg : SYS_ENGPC n ≠ g.addr) :
    (engGoes s n p pc).fld g = s.fld g := (fld_setFld_ne _ _ _ _ (.inl hg)).trans (fld_setEng ..)

/-- WFI that finds its interrupt completes, into it where INT_EN is set. -/
theorem execWfi_completes (h : fetches s n i) (hop : i.op = .wfi) (hrep : i.rep = false) (ha : i.atomic = false) (hops : i.ops = [])
    (hirq : irqLevel s n = true) : exec (.wfi n) s = .next (wfiDone (engGoes s n (s.eng n).ptrs (iaOf s n + i.len)) n) := by
  have hrow : vRow s n .wfi (vPlain none false false) = engGoes s n (s.eng n).ptrs (iaOf s n + i.len) :=
    hop ▸ vRow_bare h hrep ha hops rfl (vCommit_goes ..)
  have hstate : engState (engGoes s n (s.eng n).ptrs (iaOf s n + i.len)) n = 1 := by
    have hready : engState s n = 1 := by
      have := h.1
      simp only [vReady, Bool.and_eq_true, beq_iff_eq] at this
      exact this.1.2
    rw [engState, fld_engGoes_ne s n _ _ (engReg_ne n (by decide))]
    exact hready
  rw [execWfi_fetched h hop, hrow, hirq, if_pos rfl, if_pos hstate]

theorem wfiDone_masked {n : Nat} (h : s.flag (SYS_ENGSTAT_INT_EN n) = false) : wfiDone s n = s := by
  rw [wfiDone, h]
  rfl

/-- The interrupt of a completed WFI resumes behind it. -/
theorem wfiDone_enters (h : s.flag (SYS_ENGSTAT_INT_EN n) = true) (p : List Nat) (pc : Nat) :
    wfiDone (engGoes s n p pc) n = vEnter (engGoes s n p pc) n 1 (pc % 2 ^ 32) := by
  have hint : (engGoes s n p pc).flag (SYS_ENGSTAT_INT_EN n) = true := by
    rw [State.flag, fld_engGoes_ne s n _ _ (engReg_ne n (by decide))]
    exact h
  have heng : ((engGoes s n p pc).eng n).repAt = none := by rw [engGoes, eng_setFld, eng_setEng_same]
  have hpc : (engGoes s n p pc).fld (SYS_ENGPC_PC n) = pc % 2 ^ 32 := fld_setFld _ _ _ (field_fits rfl)
  rw [wfiDone, hint, if_pos rfl, vInterrupt, heng, hpc]
  rfl

/-- The engine that waits in WFI goes on behind it. -/
def wfiWoken (s : State) (n : Nat) : State :=
  (s.setEng n { s.eng n with waiting := false, eiHold := false, repAt := none }).setFld (SYS_ENGPC_PC n) (s.eng n).wake

theorem execWfiWake_waiting (hm : mainOn s = true) (hst : engState s n = 1) (hw : (s.eng n).waiting = true) (hirq : irqLevel s n = true) :
    exec (.wfiWake n) s = .next (wfiDone (wfiWoken s n) n) := by
  have hgo : ¬ (!mainOn s || decide (engState s n ≠ 1) || !(s.eng n).waiting || !irqLevel s n) = true := by simp [hm, hst, hw, hirq]
  exact if_neg hgo

/-- Settles O25: the commit of each row, WFI by the interrupt input, and the end of its wait. -/
theorem plewinVControlRowsComplete : Obligations.PlewinVControlRowsComplete := by
  refine ⟨?bare, ?cb, ?jump, ?call, ?ret, ?reti, ?wfi, ?wake⟩
  case bare =>
    intro s n i h hrep ha hops
    have bare {f : VCtx → State → Run Effect} {e : Effect} {t : State} (hf : f (ctxOf s n i [] (s.eng n).ptrs) s = .go e s)
        (hc : vCommit s n (iaOf s n) false e = .go () t) : vRow s n i.op f = t := vRow_bare h hrep ha hops hf hc
    refine ⟨fun hop => ?_, fun hop => ?_, fun hop => ?_, fun hop => ?_, fun hop => ?_, fun hop => ?_⟩
    · exact congrArg ok (hop ▸ bare rfl (vCommit_goes ..))
    · exact congrArg ok (hop ▸ bare rfl (vCommit_goes ..))
    · exact ⟨_, congrArg ok (hop ▸ bare rfl (vCommit_plain ..)), engPlain_leaves s n _ false true⟩
    · exact ⟨_, congrArg ok (hop ▸ bare rfl (vCommit_plain ..)), engIntEn_leaves s n _ true true⟩
    · exact ⟨_, congrArg ok (hop ▸ bare rfl (vCommit_plain ..)), engIntEn_leaves s n _ false false⟩
    · exact congrArg ok (hop ▸ bare rfl (vCommit_goes ..))
  case cb =>
    intro s n i c cc h hrep ha hrow hop places p a b s1 s2 hp hread
    rw [exec_cbRow s hrow, ← hop, vRow_commits_plain h hrep ha hp (vBranch_eq cc hread) (vCommit_goes ..)]
  case jump =>
    intro s n i h hrep ha places p a s1 s2 hp hread
    have jump {f : VCtx → State → Run Effect} {e : Effect} {t : State} (hf : f (ctxOf s n i places p) s1 = .go e s2)
        (hc : vCommit s2 n (iaOf s n) false e = .go () t) : vRow s n i.op f = t := vRow_commits_plain h hrep ha hp hf hc
    have read (g : List Nat → State → Run Effect) : (placesRead (ctxOf s n i places p).w (ctxOf s n i places p).ptrs
        [(ctxOf s n i places p).at 0] s1).bind g = g [a] s2 := congrArg (Run.bind · g) hread
    exact ⟨fun hop => congrArg ok (hop ▸ jump (read _) (vCommit_goes ..)), fun t hop hc => congrArg ok (hop ▸ jump (read _) hc)⟩
  case call =>
    intro s t n i h hrep ha hop hops hc
    exact congrArg ok (hop ▸ vRow_bare h hrep ha hops rfl hc)
  case ret =>
    intro s s1 n i pc h hrep ha hop hops hread
    have read (g : Nat → State → Run Effect) : (accRead (ctxOf s n i [] (s.eng n).ptrs).w
        (ptrGet (ctxOf s n i [] (s.eng n).ptrs).ptrs 7) 4 s).bind g = g pc s1 := congrArg (Run.bind · g) hread
    exact congrArg ok (hop ▸ vRow_bare h hrep ha hops (read _) (vCommit_goes ..))
  case reti =>
    intro s s1 s2 n i pc st h hrep ha hop hops hread hread'
    exact congrArg ok (hop ▸ vRow_bare h hrep ha hops (retiOf_eq hread hread') rfl)
  case wfi =>
    intro s n i h hop hrep ha hops
    refine ⟨fun hirq => ?_, fun hirq hint => ?_, fun hirq hint => ?_⟩
    · refine ⟨_, execWfi_fetched h hop, ?_⟩
      rw [hirq, if_neg Bool.false_ne_true, wfiWait_fetched h]
      beta_reduce
      rw [eng_setEng_same]
      exact ⟨rfl, rfl, keeps_setEng (keeps_refl s _) _ _⟩
    · have hint' : (engGoes s n (s.eng n).ptrs (iaOf s n + i.len)).flag (SYS_ENGSTAT_INT_EN n) = false := by
        rw [State.flag, fld_engGoes_ne s n _ _ (engReg_ne n (by decide))]
        exact hint
      rw [execWfi_completes h hop hrep ha hops hirq, wfiDone_masked hint']
    · rw [execWfi_completes h hop hrep ha hops hirq, wfiDone_enters hint]
  case wake =>
    intro s n hm hst hw hirq hint
    have hint' : (wfiWoken s n).flag (SYS_ENGSTAT_INT_EN n) = false := by
      rw [State.flag, wfiWoken, fld_setFld_ne _ _ _ _ (.inl (engReg_ne n (by decide))), fld_setEng]
      exact hint
    refine ⟨_, execWfiWake_waiting hm hst hw hirq, ?_⟩
    rw [wfiDone_masked hint', wfiWoken]
    beta_reduce
    rw [eng_setFld, eng_setEng_same]
    exact ⟨rfl, fld_setFld _ _ _ (field_fits rfl), keeps_setFld (keeps_setEng (keeps_refl s _) _ _) (List.mem_singleton_self _) _⟩

end Sys2Proof.Architecture
end

section
/-! SUPPORT. One instruction of Plewin-C from its fetch to its completion, and its rows (R306, R307, R318, R336). -/

namespace Sys2Proof.Architecture

open Sys2Proof.Machine

variable {s s1 s2 t : State} {u : Fin 13} {i : CInstr} {places : List Place} {p : List Nat} {e : Effect} {f : CCtx → State → Run Effect}

/-! ### The stages of an instruction -/

/-- What the operation of an instruction sees of it. -/
def cCtxOf (s : State) (u : Fin 13) (i : CInstr) (places : List Place) (p : List Nat) : CCtx :=
  { i := i, w := cActor u, wa := cPc s u, places := places, ptrs := p }

/-- An instruction that is addressed, computed and stored completes. -/
theorem cRow_completes (h : cFetches s u i) (hp : specPlaces (cActor u) 0 i.ops (cPtrs s u) s = .go (places, p) s1)
    (hf : f (cCtxOf s u i places p) s1 = .go e s2) (hc : cCommit s2 u e = .go () t) : cRow s u i.op f = t := by
  obtain ⟨hready, hdecode⟩ := h
  have hrun : ((specPlaces (cActor u) 0 i.ops (cPtrs s u) s).bind fun r s' =>
      (f { i := i, w := cActor u, wa := cPc s u, places := r.1, ptrs := r.2 } s').bind fun e s' => cCommit s' u e) = .go () t := by
    rw [hp]
    show (f (cCtxOf s u i places p) s1).bind _ = _
    rw [hf]
    exact hc
  unfold cRow
  simp only [hready, hdecode, Bool.not_true, Bool.false_eq_true, if_false, ne_eq, not_true_eq_false, hrun]

/-- An instruction without results goes on. -/
theorem cCommit_goes (s : State) (u : Nat) (p : List Nat) (pc : Nat) : cCommit s u { ptrs := p, pc := pc } = .go () (cSet s u p pc) := rfl

theorem cRead_then {l : List (Place × Nat)} {vs : List Nat} {α : Type} (h : placesRead (cActor u) p l s1 = .go vs s2) (g : List Nat → State → Run α) :
    (placesRead (cActor u) p l s1).bind g = g vs s2 := congrArg (Run.bind · g) h

/-! ### The rows whose result goes to A (R336) -/

/-- The result of a row that reads A and B. -/
theorem cData_eq {g : Nat → Nat → Nat} {a b : Nat}
    (h : placesRead (cActor u) p [(cCtxOf s u i places p).at 0, (cCtxOf s u i places p).at 1] s1 = .go [a, b] s2) :
    cData g (cCtxOf s u i places p) s1 = .go { writes := [⟨((cCtxOf s u i places p).at 0).1, ((cCtxOf s u i places p).at 0).2, g a b⟩]
                                               ptrs := p, pc := (cPc s u + i.len) % 2 ^ 14 } s2 := cRead_then h _

/-- A command executes the instructions of an operation that writes A: B alone, or a function of A and B. -/
def RunsCRow (u : Fin 13) (r : Instr × COp × Bool × (Nat → Nat → Nat)) : Prop :=
  ∀ s, exec r.1 s = .next (cRow s u r.2.1 (if r.2.2.1 then cData r.2.2.2 else cMove))

/-- An ALU row, from the result of its operation at any width. -/
theorem runsCRow_alu {c : Instr} {k : Nat} (g : Nat → Nat → Nat → Nat) (hc : ∀ s, exec c s = .next (cRow s u (.alu k) (cAlu k)))
    (h : ∀ w a b, alu (cAluIndex k) w a b = some (g w a b)) : RunsCRow u (c, .alu k, true, g 32) := fun s => by
  have hg : (fun a b => (alu (cAluIndex k) 32 a b).getD 0) = g 32 := funext₂ fun a b => by rw [h, Option.getD_some]
  have hdata : cAlu k = cData (g 32) := congrArg cData hg
  rw [hc, hdata]
  rfl

theorem runsCRow : ∀ r ∈ cDataRows u, RunsCRow u r := by
  simp only [cDataRows, List.forall_mem_cons]
  exact ⟨fun _ => rfl, fun _ => rfl, runsCRow_alu (fun w a b => (a + b) % 2 ^ w) (fun _ => rfl) (fun _ _ _ => rfl),
    runsCRow_alu (fun w a b => (a + 2 ^ w - b) % 2 ^ w) (fun _ => rfl) (fun _ _ _ => rfl),
    runsCRow_alu (fun _ a b => a &&& b) (fun _ => rfl) (fun _ _ _ => rfl), runsCRow_alu (fun _ a b => a ||| b) (fun _ => rfl) (fun _ _ _ => rfl),
    runsCRow_alu (fun _ a b => a ^^^ b) (fun _ => rfl) (fun _ _ _ => rfl),
    runsCRow_alu (fun w a b => a * 2 ^ (b % w) % 2 ^ w) (fun _ => rfl) (fun _ _ _ => rfl),
    runsCRow_alu (fun w a b => a / 2 ^ (b % w)) (fun _ => rfl) (fun _ _ _ => rfl), fun r hr => by cases hr⟩

/-! ### Branches (R336) -/

theorem exec_cBranchRow (s : State) {r : Instr × Nat × (Nat → Nat → Bool)} (h : r ∈ ([(.cCbeq u, 0, fun a b => a == b),
      (.cCbne u, 1, fun a b => a != b), (.cCbltu u, 2, fun a b => decide (a < b)), (.cCbgeu u, 3, fun a b => decide (b ≤ a))] :
        List (Instr × Nat × (Nat → Nat → Bool)))) :
    exec r.1 s = .next (cRow s u (.cb r.2.1) (cBranch r.2.1)) ∧ ∀ a b, condHolds (cCond r.2.1) 32 a b = r.2.2 a b := by
  revert h r
  simp only [List.forall_mem_cons]
  exact ⟨⟨rfl, fun _ _ => rfl⟩, ⟨rfl, fun _ _ => rfl⟩, ⟨rfl, fun _ _ => rfl⟩, ⟨rfl, fun _ _ => rfl⟩, fun r hr => by cases hr⟩

/-! ### The wait (R336) -/

theorem cWaits_fetched (h : cFetches s u i) (hop : i.op = .wait) : cWaits s u = true := by
  unfold cWaits
  rw [h.2]
  exact beq_iff_eq.mpr hop

theorem execCWait_eq (h : cFetches s u i) (hop : i.op = .wait) :
    exec (.cWait u) s = .next (if irqLevel s (cRing u) then cRow s u .wait cPlain else cWait s u true) := by
  show ok (if cReady s u && cWaits s u && !irqLevel s (cRing u) then cWait s u true else cRow s u .wait cPlain) = _
  rw [h.1, cWaits_fetched h hop]
  cases irqLevel s (cRing u) <;> rfl

theorem execCWaitWake_waiting (hm : mainOn s = true) (hw : if u.val < 12 then engState s u = 3 ∧ (s.eng u).waiting = true else s.srl.waiting = true)
    (hirq : irqLevel s (cRing u) = true) : exec (.cWaitWake u) s = .next (cSet (cWait s u false) u (cPtrs s u) (cPc s u + 1)) := by
  have hwaits : (if u.val < 12 then engState s u == 3 && (s.eng u).waiting else s.srl.waiting) = true := by
    split at hw
    · rw [if_pos ‹_›, hw.1, hw.2]
      rfl
    · rw [if_neg ‹_›, hw]
  have hgo : ¬ (!mainOn s || !(if u.val < 12 then engState s u == 3 && (s.eng u).waiting else s.srl.waiting) || !irqLevel s (cRing u)) = true := by
    simp only [hm, hwaits, hirq]
    decide
  exact if_neg hgo

/-- Settles O36: each row's operation in the one completion of an instruction, and the wait by the interrupt level. -/
theorem plewinCRowsComplete : Obligations.PlewinCRowsComplete := by
  refine ⟨fun s u i places p s1 h hp => ?rows, fun s u hm hw hirq => execCWaitWake_waiting hm hw hirq⟩
  have completed {f : CCtx → State → Run Effect} {e : Effect} {s2 t : State} (hf : f (cCtxOf s u i places p) s1 = .go e s2)
      (hc : cCommit s2 u e = .go () t) : cRow s u i.op f = t := cRow_completes h hp hf hc
  refine ⟨?move, ?data, ?branch, ?jump, ?call, ?ret, ?nop, ?fence, ?wait, ?stall⟩
  case move =>
    intro c op f b s2 t hrow hop hread hc
    subst hop
    exact (runsCRow _ hrow s).trans (congrArg ok (completed (f := cMove) (cRead_then hread _) hc))
  case data =>
    intro c op f a b s2 t hrow hop hread hc
    subst hop
    exact (runsCRow _ hrow s).trans (congrArg ok (completed (f := cData f) (cData_eq hread) hc))
  case branch =>
    intro c k holds a b s2 hrow hop hread
    obtain ⟨hexec, hcond⟩ := exec_cBranchRow s hrow
    rw [hexec, ← hop, completed (f := cBranch k) (cRead_then hread _) (cCommit_goes ..)]
    exact congrArg (fun c => ok (cSet s2 u p (if c = true then _ else _))) (hcond a b)
  case jump => exact fun b s2 hop hread => congrArg ok (hop ▸ completed (cRead_then hread _) (cCommit_goes ..))
  case call => exact fun b s2 t hop hread hc => congrArg ok (hop ▸ completed (cRead_then hread _) hc)
  case ret =>
    intro pc s2 hop hread
    have read (g : Nat → State → Run Effect) : (accRead (cCtxOf s u i places p).w (ptrGet (cCtxOf s u i places p).ptrs 7) 4 s1).bind g = g pc s2 :=
      congrArg (Run.bind · g) hread
    exact congrArg ok (hop ▸ completed (read _) (cCommit_goes ..))
  case nop => exact fun hop => congrArg ok (hop ▸ completed rfl (cCommit_goes ..))
  case fence => exact fun hop => congrArg ok (hop ▸ completed rfl (cCommit_goes ..))
  case wait =>
    intro hop hirq
    rw [execCWait_eq h hop, hirq, if_pos rfl, ← hop, completed (f := cPlain) rfl (cCommit_goes ..)]
    rfl
  case stall =>
    intro hop hirq
    rw [execCWait_eq h hop, hirq, if_neg Bool.false_ne_true]

end Sys2Proof.Architecture
end

section
/-! SUPPORT. What the bus does with registers of block SYS, of an engine's page and of block KEY (R19, R20, R301, R433). -/

namespace Sys2Proof.Architecture

open Sys2Proof.Machine

variable {s t : State} {n : Fin 12} {m : Master} {a w : Nat}

/-! ### Block SYS stands below every other -/

theorem among_below {base : Nat} (h : a < base) (stride n : Nat) : among a base stride n = false := by
  rw [among, decide_eq_false (Nat.not_le.mpr h)]
  rfl

theorem among_between {base stride n : Nat} (h : a < base ∨ (a - base) % stride ≠ 0) : among a base stride n = false := by
  rcases h with h | h
  · exact among_below h stride n
  · rw [among, beq_eq_false_iff_ne.mpr h, Bool.and_false, Bool.false_and]

/-- No array of another block has a register of block SYS. -/
theorem among_other (h : a < 0x20010000) {base : Nat} (hb : 0x20010000 ≤ base) (stride n : Nat) : among a base stride n = false :=
  among_below (h.trans_le hb) stride n

theorem ne_other (h : a < 0x20010000) {b : Nat} (hb : 0x20010000 ≤ b) : ¬ a = b := by omega

theorem ringSpec_sys (h : a < 0x20010000) : ringSpec a = none := by
  unfold ringSpec
  simp (disch := decide) only [among_other h, ne_other h, if_false, Bool.false_eq_true, decide_false, Bool.or_self]

theorem indexSpec_sys (h : a < 0x20010000) : indexSpec a = none := by
  unfold indexSpec
  simp (disch := decide) only [among_other h, ne_other h, if_false, Bool.false_eq_true]

/-- No register of block SYS belongs to an absent unit. -/
theorem absent_sys (h : a < 0x20010000) (part : Part) : absent part a = false := by
  have hself : unMirror a = a := by
    unfold unMirror
    rw [if_neg (by simp; omega)]
  unfold absent
  rw [hself]
  simp only [Bool.or_eq_false_iff, Bool.and_eq_false_iff, decide_eq_false_iff_not, beq_eq_false_iff_ne]
  refine ⟨⟨⟨⟨?_, ?_⟩, ?_⟩, ?_⟩, .inr ⟨⟨⟨⟨⟨?_, ?_⟩, ?_⟩, ?_⟩, ?_⟩, ne_other h (by decide)⟩⟩ <;> omega

theorem clampShadow_sys (h : a < 0x20010000) (s : State) (old w : Word) : clampShadow s a old w = w := by
  unfold clampShadow
  simp (disch := decide) only [among_other h, ne_other h, if_false, Bool.false_eq_true]

theorem clampPlain_sys (h : a < 0x20010000) (hrec : among a (SYS_ENGREC 0) 0x40 12 = false) (old w : Word) : clampPlain a old w = w := by
  unfold clampPlain
  simp (disch := decide) only [among_other h, ne_other h, hrec, if_false, Bool.false_eq_true, decide_false, Bool.or_self]

theorem partMask_sys (h : a < 0x20010000) (part : Part) : partMask part a = BitVec.allOnes 32 := by
  have hmask : bandBMask a = 0 := by
    unfold bandBMask
    simp (disch := decide) only [ne_other h, if_false, Bool.false_eq_true, decide_false, Bool.or_self]
  unfold partMask
  rw [hmask, if_neg (ne_other h (by decide) : ¬ a = FLC_WPROT)]
  split <;> rfl

/-- A write of a register of block SYS stores the bits that software may write, and clears the W1C bits it names (R20). -/
theorem plainWrite_sys (h : a < 0x20010000) (hrec : among a (SYS_ENGREC 0) 0x40 12 = false) {r : RegRow} (hr : regRow a = some r)
    (hs : r.shadowed = false) (s : State) (w : Nat) : plainWrite s a w =
      s.setReg a (((s.reg a &&& ~~~BitVec.ofNat 32 r.rw) ||| (BitVec.ofNat 32 w &&& BitVec.ofNat 32 r.rw)) &&&
        ~~~(BitVec.ofNat 32 w &&& BitVec.ofNat 32 r.w1c)) := by
  have hg : granule a = 1 := by
    unfold granule
    simp (disch := decide) only [among_other h, ne_other h, if_false, Bool.false_eq_true, decide_false, Bool.or_self]
  unfold plainWrite
  rw [hr]
  simp only [hs, Bool.false_eq_true, if_false, hg, Nat.div_one, Nat.mul_one, clampWord, clampShadow_sys h, clampPlain_sys h hrec, partMask_sys h,
    BitVec.and_allOnes]

/-! ### Accesses of registers (R19) -/

theorem isReg_of {a : Nat} (h : 0x20000000 ≤ a) (h' : a < 0x22000000) : isReg a = true := decide_eq_true ⟨h, h'⟩

/-- A write of a word at a register's address is the register's. -/
theorem busWrite_word (hreg : isReg a = true) (h4 : a % 4 = 0) (s : State) (m v : Nat) (w : Word) :
    busWrite s m v a (leBytes 4 w.toNat) = regWrite (busOk s) m a w.toNat := by
  have hw : ofLe (leBytes 4 w.toNat) = w.toNat := (ofLe_leBytes 4 _).trans (Nat.mod_eq_of_lt w.isLt)
  unfold busWrite
  simp only [hreg, if_true, length_leBytes, h4, decide_true, Bool.and_self, hw]
  rfl

theorem busRead_word (hreg : isReg a = true) (h4 : a % 4 = 0) (s : State) (m v : Nat) : (busRead s m v a 4).2 = regRead s m a := by
  unfold busRead
  rw [if_pos hreg, if_pos (by simp [h4])]

/-- A write of other octets at a register's address is refused. -/
theorem busWrite_odd {l : List Byte} (hreg : isReg a = true) (h : ¬ (l.length = 4 ∧ a % 4 = 0)) (s : State) (m v : Nat) :
    busWrite s m v a l = s.refuse := by
  unfold busWrite
  dsimp only
  rw [if_pos hreg, if_neg (by simpa using h)]
  rfl

theorem regWrite_denied {m : Nat} (habs : absent s.part a = false) (hmay : writeMay s m a w = false) : regWrite s m a w = s.refuse := by
  rw [regWrite, habs, hmay]
  rfl

theorem regWrite_granted {m : Nat} (habs : absent s.part a = false) (hmay : writeMay s m a w = true) : regWrite s m a w = wordWrite s m a w := by
  rw [regWrite, habs, hmay]
  rfl

/-- What a register write comes to where its access is refused. -/
theorem execRegisterWrite_refused {address : BitVec 32} {l : List Byte} {e : Word} (hm : mainOn s = true) (hl : l ≠ [])
    (h : busWrite s m m address.toNat l = s.refuse) : exec (.registerWrite m address ⟨l, e⟩) s = .next s.refuse := by
  have hgo : ¬ (!mainOn s || l.isEmpty) = true := by simp [hm, hl]
  refine (if_neg hgo).trans ?_
  show ok (if (busWrite s m m address.toNat l).busResult = .ok && _ then _ else _) = _
  rw [h]
  rfl

/-! ### The registers of an engine (R301) -/

/-- The row of a register of every engine's page. -/
def engRow (base rw : Nat) : RegRow := ⟨base, 12, 0x40, 1, 0x4, rw, 0, 0, 0, 0, 0, false⟩

theorem regRow_entry : ∀ n : Fin 12, regRow (SYS_ENGENTRY n) = some (engRow 0x20001008 0x7ffff) := by decide

theorem regRow_vec : ∀ n : Fin 12, regRow (SYS_ENGVEC n) = some (engRow 0x20001010 0x7fff0) := by decide

/-- The register at offset `d` of engine n's page. -/
def engReg (d n : Nat) : Nat := 0x20001000 + d + 0x40 * n

theorem engReg_bounds {d : Nat} (hd : d < 64) (n : Fin 12) : 0x20001000 ≤ engReg d n ∧ engReg d n < 0x20001300 := by
  have := n.isLt
  unfold engReg
  omega

theorem engReg_sys {d : Nat} (hd : d < 64) (n : Fin 12) : engReg d n < 0x20010000 := (engReg_bounds hd n).2.trans (by decide)

theorem isReg_engReg {d : Nat} (hd : d < 64) (n : Fin 12) : isReg (engReg d n) = true := by
  obtain ⟨h, h'⟩ := engReg_bounds hd n
  exact isReg_of (le_trans (by decide) h) (h'.trans (by decide))

theorem engReg_aligned {d : Nat} (h4 : d % 4 = 0) (n : Nat) : engReg d n % 4 = 0 := by
  unfold engReg
  omega

theorem toNat_engReg {d : Nat} (hd : d < 64) (n : Fin 12) : (BitVec.ofNat 32 (engReg d n)).toNat = engReg d n :=
  (BitVec.toNat_ofNat ..).trans (Nat.mod_eq_of_lt ((engReg_sys hd n).trans (by decide)))

/-- Who may write a register of an engine, by its place in the page (R301). -/
theorem writeMay_engReg {d : Nat} (hd : d < 64) (s : State) (m : Nat) (n : Fin 12) (w : Nat) : writeMay s m (engReg d n) w =
    (if d = 0 || d = 8 || d = 0x20 || d = 0x28 then m == 13 || (m == 0 && n.val != 0)
     else if d = 0x10 || d = 0x24 then m == 13 || m == 0 || m == n.val else true) := by
  obtain ⟨h, h'⟩ := engReg_bounds hd n
  have hblock : (engReg d n - 0x20000000) / 0x10000 = 0 := by omega
  have hpage : (0x20001000 ≤ engReg d n && engReg d n < 0x20001300) = true := by simp [h, h']
  have hofs : engReg d n - 0x20001000 = d + 0x40 * n := by rw [engReg, Nat.add_assoc, Nat.add_sub_cancel_left]
  have hn : (d + 0x40 * n.val) / 64 = n := by omega
  have hplace : (d + 0x40 * n.val) % 64 = d := by omega
  have hsys : writeMay s m (engReg d n) w = sysMay m (engReg d n) := by
    unfold writeMay
    simp only [hblock]
  rw [hsys, sysMay, if_pos hpage, hofs, hn, hplace]

/-- A write of an engine's register by a master that may not is refused. -/
theorem engWrite_refused {d : Nat} (hd : d < 64) (h4 : d % 4 = 0) (hm : mainOn s = true) (w e : Word)
    (hmay : ∀ t w, writeMay t m (engReg d n) w = false) :
    exec (.registerWrite m (BitVec.ofNat 32 (engReg d n)) ⟨leBytes 4 w.toNat, e⟩) s = .next s.refuse := by
  refine execRegisterWrite_refused hm (List.cons_ne_nil _ _) ?_
  rw [toNat_engReg hd, busWrite_word (isReg_engReg hd n) (engReg_aligned h4 n)]
  exact regWrite_denied (absent_sys (engReg_sys hd n) _) (hmay ..)

/-- ENGENTRY and ENGVEC are stored as they are written. -/
theorem wordWrite_engReg {d : Nat} (hd : d = 8 ∨ d = 0x10) (s : State) (m : Nat) (n : Fin 12) (w : Nat) :
    wordWrite s m (engReg d n) w = plainWrite s (engReg d n) w := by
  have hlt : d < 64 := by omega
  have hsys := engReg_sys hlt n
  obtain ⟨h, h'⟩ := engReg_bounds hlt n
  have hblock : (engReg d n - 0x20000000) / 0x10000 < 2 := by omega
  have hctl : among (engReg d n) (SYS_ENGCTL 0) 64 12 = false := among_between (by unfold engReg SYS_ENGCTL; omega)
  have hkick : among (engReg d n) (SYS_ENGKICK 0) 64 12 = false := among_between (by unfold engReg SYS_ENGKICK; omega)
  have hbelow : ∀ b, b < 0x20001000 → ¬ engReg d n = b := fun b hb => by omega
  have habove : ∀ b, 0x20001300 ≤ b → ¬ engReg d n = b := fun b hb => by omega
  unfold wordWrite
  rw [ringSpec_sys hsys, indexSpec_sys hsys]
  dsimp only
  rw [if_pos hblock]
  unfold writeSys
  simp (disch := decide) only [hbelow, habove, hctl, hkick, if_false, Bool.false_eq_true]

/-- The bits under the mask of a field are those of the word that is put under it. -/
theorem fieldGet_masked (old w : Word) {lo width : Nat} (h : lo + width ≤ 32) :
    fieldGet ((old &&& ~~~fieldMask lo width) ||| (w &&& fieldMask lo width)) lo width = fieldGet w lo width := by
  apply Nat.eq_of_testBit_eq
  intro i
  rw [fieldGet_testBit, fieldGet_testBit]
  by_cases hi : i < width
  · have hin : lo + i < 32 := by omega
    have hmask : (fieldMask lo width).getLsbD (lo + i) = true := by
      rw [fieldMask_getLsbD _ _ _ h]
      simp [hi]
    rw [BitVec.getLsbD_or, BitVec.getLsbD_and, BitVec.getLsbD_and, BitVec.getLsbD_not, hmask]
    simp
  · simp [hi]

/-- A write of ENGENTRY or ENGVEC by its owner. -/
theorem engWrite_stores {d : Nat} (hd : d = 8 ∨ d = 0x10) {f : Field} (hf : f.addr = engReg d n) (hfit : f.lo + f.width ≤ 32) {mask : Nat}
    (hmask : BitVec.ofNat 32 mask = fieldMask f.lo f.width) (hrow : regRow (engReg d n) = some (engRow (0x20001000 + d) mask)) (hm : mainOn s = true)
    (hmay : ∀ t w, writeMay t m (engReg d n) w = true) (w e : Word) :
    completes (.registerWrite m (BitVec.ofNat 32 (engReg d n)) ⟨leBytes 4 w.toNat, e⟩) s fun t =>
      t.fld f = fieldGet w f.lo f.width ∧ t.busResult = .ok ∧ keeps s t [engReg d n] := by
  have hlt : d < 64 := by omega
  have hsys := engReg_sys hlt n
  have hrec : among (engReg d n) (SYS_ENGREC 0) 0x40 12 = false := among_between (by unfold engReg SYS_ENGREC; omega)
  have hwrite : busWrite s m m (engReg d n) (leBytes 4 w.toNat) = (busOk s).setReg (engReg d n)
      ((s.reg (engReg d n) &&& ~~~fieldMask f.lo f.width) ||| (w &&& fieldMask f.lo f.width)) := by
    rw [busWrite_word (isReg_engReg hlt n) (engReg_aligned (by omega) n), regWrite_granted (absent_sys hsys _) (hmay ..), wordWrite_engReg hd,
      plainWrite_sys hsys hrec hrow rfl, BitVec.ofNat_toNat, BitVec.setWidth_eq]
    show (busOk s).setReg _ (((s.reg _ &&& ~~~BitVec.ofNat 32 mask) ||| (w &&& BitVec.ofNat 32 mask)) &&& ~~~(w &&& 0#32)) = _
    rw [hmask, BitVec.and_zero, BitVec.not_zero, BitVec.and_allOnes]
  have hexec : exec (.registerWrite m (BitVec.ofNat 32 (engReg d n)) ⟨leBytes 4 w.toNat, e⟩) s =
      .next (busWrite s m m (engReg d n) (leBytes 4 w.toNat)) := by
    have hgo : ¬ (!mainOn s || (leBytes 4 w.toNat).isEmpty) = true := by simp [hm, leBytes]
    refine (if_neg hgo).trans (congrArg ok ?_)
    rw [toNat_engReg hlt]
    split
    · unfold landed
      rw [hrow]
      rfl
    · rfl
  refine ⟨_, hexec, ?_⟩
  rw [hwrite]
  refine ⟨?_, rfl, keeps_setReg (keeps_of_eq rfl rfl) (List.mem_singleton_self _) _⟩
  rw [State.fld, reg_setReg, if_pos hf.symm, fieldGet_masked _ _ hfit]

/-! ### Reads -/

theorem computedLow_engReg {d : Nat} (hd : d = 8) (s : State) (n : Fin 12) : computedLow s (engReg d n) = none := by
  have hlt : d < 64 := by omega
  obtain ⟨h, h'⟩ := engReg_bounds hlt n
  have hstat : among (engReg d n) (SYS_ENGSTAT 0) 64 12 = false := among_between (by unfold engReg SYS_ENGSTAT; omega)
  have hctl : ¬ engReg d n = SYS_ENGCTL 0 := by unfold engReg SYS_ENGCTL; omega
  have hbelow : ∀ b, b < 0x20001000 → ¬ engReg d n = b := fun b hb => by omega
  unfold computedLow
  simp (disch := decide) only [among_other (engReg_sys hlt n), ne_other (engReg_sys hlt n), hbelow, hstat, hctl, if_false, Bool.false_eq_true,
    decide_false, Bool.or_self]

/-- A read of ENGENTRY shows what it holds to every master. -/
theorem regRead_entry (s : State) (m : Nat) (n : Fin 12) : regRead s m (SYS_ENGENTRY n) = s.answer (s.reg (SYS_ENGENTRY n)) := by
  change regRead s m (engReg 8 n) = s.answer (s.reg (engReg 8 n))
  have hrow : regRow (engReg 8 n) = some (engRow 0x20001008 0x7ffff) := regRow_entry n
  have hsys : engReg 8 n < 0x20010000 := engReg_sys (by decide) n
  obtain ⟨h, h'⟩ := engReg_bounds (d := 8) (by decide) n
  have hbelow : ∀ b, b < 0x20001000 → ¬ engReg 8 n = b := fun b hb => by omega
  have hmbx : (0x200F0000 ≤ engReg 8 n) = False := by simp; omega
  have hmay : readMay s m (engReg 8 n) = true := by
    have hblock : (engReg 8 n - 0x20000000) / 0x10000 = 0 := by omega
    unfold readMay
    simp only [hblock]
  have hpeek : peek s (engReg 8 n) = s.reg (engReg 8 n) := by
    have hlow : engReg 8 n < 0x200B0000 := hsys.trans (by decide)
    unfold peek
    rw [absent_sys hsys, if_neg Bool.false_ne_true, if_pos hlow, computedLow_engReg rfl]
    dsimp only
    rw [hrow, if_pos rfl, partMask_sys (by unfold unMirror; rw [if_neg (by simp; omega)]; exact hsys), BitVec.and_allOnes]
  have hshown : shownTo s m (engReg 8 n) (s.reg (engReg 8 n)) = s.reg (engReg 8 n) := by
    unfold shownTo
    simp (disch := decide) only [among_other hsys, if_false, Bool.false_eq_true, Bool.or_self, ite_self]
  have hclear : rcClear s (engReg 8 n) = s := by
    unfold rcClear
    rw [hrow]
    rfl
  unfold regRead
  rw [absent_sys hsys, hmay]
  simp (disch := decide) only [among_other hsys, ne_other hsys, hbelow, hmbx, if_false, Bool.false_eq_true, Bool.not_true, decide_false,
    Bool.false_and, hclear, hpeek, hshown]

theorem execCounterReadClear_entry (hm : mainOn s = true) (m : Master) (n : Fin 12) (l : Word) :
    exec (.counterReadClear m (BitVec.ofNat 32 (SYS_ENGENTRY n)) l) s = .next (s.answer (s.reg (SYS_ENGENTRY n))) := by
  have hto : (BitVec.ofNat 32 (SYS_ENGENTRY n)).toNat = SYS_ENGENTRY n := toNat_engReg (d := 8) (by decide) n
  have hread : (busRead s m m (SYS_ENGENTRY n) 4).2 = s.answer (s.reg (SYS_ENGENTRY n)) :=
    (busRead_word (isReg_engReg (d := 8) (by decide) n) (engReg_aligned (d := 8) rfl n) s m m).trans (regRead_entry s m n)
  show execCounterReadClear m _ l s = _
  unfold execCounterReadClear
  rw [hm, hto]
  dsimp only
  rw [regRow_entry, hread]
  rfl

/-- Settles O53: the rights by a register's place in the engine's page, and the register a granted write or a read meets. -/
theorem engineRegistersHaveOwners : Obligations.EngineRegistersHaveOwners := by
  have val_ne {m k : Fin 17} (h : m ≠ k) : m.val ≠ k.val := fun hv => h (Fin.ext hv)
  refine ⟨?control, ?own, ?entry, ?vec, fun s n m l hm => ⟨_, execCounterReadClear_entry hm m n l, rfl, rfl, keeps_of_eq rfl rfl⟩⟩
  case control =>
    intro s n m a w e hm ha h13 h0
    have hdenied : (m.val == 13 || (m.val == 0 && n.val != 0)) = false := by
      have h13' : m.val ≠ 13 := val_ne h13
      have h0' : n.val = 0 ∨ m.val ≠ 0 := h0.imp (congrArg Fin.val) val_ne
      simp only [Bool.or_eq_false_iff, beq_eq_false_iff_ne, Bool.and_eq_false_iff, bne_eq_false_iff_eq]
      tauto
    have refused {d : Nat} (hd : d = 0 ∨ d = 8 ∨ d = 0x20 ∨ d = 0x28) :
        exec (.registerWrite m (BitVec.ofNat 32 (engReg d n)) ⟨leBytes 4 w.toNat, e⟩) s = .next s.refuse :=
      engWrite_refused (by omega) (by omega) hm w e fun t w => by
        rw [writeMay_engReg (by omega), if_pos (by simpa [or_assoc] using hd), hdenied]
    simp only [List.mem_cons, List.not_mem_nil, or_false] at ha
    rcases ha with rfl | rfl | rfl | rfl
    · exact refused (d := 0) (.inl rfl)
    · exact refused (d := 8) (.inr (.inl rfl))
    · exact refused (d := 0x20) (.inr (.inr (.inl rfl)))
    · exact refused (d := 0x28) (.inr (.inr (.inr rfl)))
  case own =>
    intro s n m a w e hm ha h13 h0 hn
    have hdenied : (m.val == 13 || m.val == 0 || m.val == n.val) = false := by
      have h13' : m.val ≠ 13 := val_ne h13
      have h0' : m.val ≠ 0 := val_ne h0
      simp [h13', h0', hn]
    have refused {d : Nat} (hd : d = 0x10 ∨ d = 0x24) :
        exec (.registerWrite m (BitVec.ofNat 32 (engReg d n)) ⟨leBytes 4 w.toNat, e⟩) s = .next s.refuse :=
      engWrite_refused (by omega) (by omega) hm w e fun t w => by
        rw [writeMay_engReg (by omega), if_neg (by simp; omega), if_pos (by simpa using hd), hdenied]
    simp only [List.mem_cons, List.not_mem_nil, or_false] at ha
    rcases ha with rfl | rfl
    · exact refused (d := 0x10) (.inl rfl)
    · exact refused (d := 0x24) (.inr rfl)
  case entry =>
    intro s n m w e hm hmay
    refine engWrite_stores (d := 8) (.inl rfl) rfl (field_fits rfl) (by decide : 0x7ffff#32 = fieldMask 0 19) (regRow_entry n) hm (fun t w => ?_) w e
    rw [writeMay_engReg (by decide), if_pos (by decide)]
    rcases hmay with rfl | ⟨rfl, hn⟩
    · rfl
    · have hn' : (n.val != 0) = true := bne_iff_ne.mpr fun h => hn (Fin.ext h)
      rw [hn']
      rfl
  case vec =>
    intro s n m w e hm hmay
    refine engWrite_stores (d := 0x10) (.inr rfl) rfl (field_fits rfl) (by decide : 0x7fff0#32 = fieldMask 4 15) (regRow_vec n) hm (fun t w => ?_) w e
    rw [writeMay_engReg (by decide), if_neg (by decide), if_pos (by decide)]
    rcases hmay with rfl | rfl | hn
    · rfl
    · rfl
    · rw [hn, beq_self_eq_true, Bool.or_true]

end Sys2Proof.Architecture
end

section
/-! SUPPORT. What a NORMAL-world master meets at the key-blob region and at block KEY (R300, R410, R433). -/

namespace Sys2Proof.Architecture

open Sys2Proof.Machine

variable {s : State} {m a : Nat}

/-! ### The flash read window (R300, R410) -/

/-- The host's view has no memory at the flash read window. -/
theorem memSpan_host_flash (h : 0x10000000 ≤ a) (n : Nat) : memSpan 12 a n = none := by
  have hnone : memAddr 12 a = none := by
    unfold memAddr
    rw [if_pos rfl, if_neg (by simp; omega)]
  unfold memSpan
  rw [hnone]

/-- A read that touches the key-blob region is refused to the NORMAL world. -/
theorem busRead_keyBlob {n x : Nat} (hm : masterSecure s m = false) (ha : 0x10000000 ≤ a) (hend : a + n ≤ 0x14000000) (hx : a ≤ x) (hx' : x < a + n)
    (hlo : 0x10000000 + 65536 * keySector s ≤ x) (hhi : x < 0x10000000 + 65536 * generalSector s) : busRead s m m a n = ([], s.refuse) := by
  have hreg : ¬ isReg a = true := by simp [isReg]; omega
  have hblob : inKeyBlob s (a - 0x10000000) n = true := decide_eq_true ⟨by omega, by omega⟩
  unfold busRead
  rw [if_neg hreg]
  by_cases hhost : m = 12
  · subst hhost
    rw [if_neg (by simp), memSpan_host_flash ha]
  · rw [if_pos (by simp [ha, hend, hhost]), hm, hblob]
    rfl

/-! ### Block KEY (R433) -/

/-- No register of block KEY belongs to an absent unit. -/
theorem absent_key (h : 0x20130000 ≤ a) (h' : a < 0x20140000) (part : Part) : absent part a = false := by
  have hself : unMirror a = a := by
    unfold unMirror
    rw [if_neg (by simp; omega)]
  have hne : a ≠ TXS_HOPSTAT := by unfold TXS_HOPSTAT; omega
  have hports : part.ports ≤ 48 ∧ part.rxLanes ≤ 384 ∧ part.txLanes ≤ 96 := by cases part <;> decide
  unfold absent
  rw [hself]
  simp only [Bool.or_eq_false_iff, Bool.and_eq_false_iff, decide_eq_false_iff_not, beq_eq_false_iff_ne]
  refine ⟨⟨⟨⟨?_, ?_⟩, ?_⟩, ?_⟩, .inr ⟨⟨⟨⟨⟨?_, ?_⟩, ?_⟩, ?_⟩, ?_⟩, hne⟩⟩ <;> omega

theorem isReg_key (h : 0x20130000 ≤ a) (h' : a < 0x20140000) : isReg a = true := isReg_of (le_trans (by decide) h) (h'.trans (by decide))

theorem block_key (h : 0x20130000 ≤ a) (h' : a < 0x20140000) : (a - 0x20000000) / 0x10000 = 19 := by omega

theorem regWrite_key (h : 0x20130000 ≤ a) (h' : a < 0x20140000) (hm : masterSecure s m = false) (w : Nat) : regWrite s m a w = s.refuse := by
  have hmay : writeMay s m a w = false := by
    unfold writeMay
    simp only [block_key h h', hm, Bool.false_and]
  exact regWrite_denied (absent_key h h' s.part) hmay

theorem regRead_key (h : 0x20130000 ≤ a) (h' : a < 0x20140000) (hm : masterSecure s m = false) : regRead s m a = s.refuse := by
  have hmay : readMay s m a = false := by
    unfold readMay
    rw [block_key h h']
    exact hm
  have habsent : ¬ absent s.part a = true := by simp [absent_key h h']
  exact (if_neg habsent).trans (if_pos (by simp [hmay]))

/-- The NORMAL world writes no register of block KEY, in any width. -/
theorem busWrite_key (h : 0x20130000 ≤ a) (h' : a < 0x20140000) (hm : masterSecure s m = false) (v : Nat) (l : List Byte) :
    busWrite s m v a l = s.refuse := by
  by_cases hl : l.length = 4 ∧ a % 4 = 0
  · unfold busWrite
    dsimp only
    rw [if_pos (isReg_key h h'), if_pos (by simpa using hl)]
    exact regWrite_key (s := busOk s) h h' hm _
  · exact busWrite_odd (isReg_key h h') hl s m v

/-- Nor does it read one, in any width. -/
theorem busRead_key (h : 0x20130000 ≤ a) (h' : a < 0x20140000) (hm : masterSecure s m = false) (v n : Nat) :
    (busRead s m v a n).2 = s.refuse := by
  unfold busRead
  rw [if_pos (isReg_key h h')]
  split
  · exact regRead_key h h' hm
  · rfl

/-- Settles O54: the refusal at the region's octets, and at every register of the block. -/
theorem keyBlobRegionIsClosed : Obligations.KeyBlobRegionIsClosed := by
  refine ⟨fun s m a n hm ha hend ⟨x, hx, hx', hlo, hhi⟩ => ?region, fun s m a l hon hm ha ha' => ?read,
    fun s m a l e hon hl hm ha ha' => execRegisterWrite_refused hon hl (busWrite_key ha ha' hm _ l)⟩
  case region =>
    rw [busRead_keyBlob hm ha hend hx hx' hlo hhi]
    exact ⟨rfl, rfl⟩
  case read =>
    refine ⟨s.refuse, ?_, rfl, rfl, keeps_of_eq rfl rfl⟩
    show execCounterReadClear m a l s = _
    unfold execCounterReadClear
    rw [hon]
    dsimp only
    rw [busRead_key ha ha' hm]
    cases regRow a.toNat with
    | none => rfl
    | some row => exact if_pos (Bool.or_true _)

end Sys2Proof.Architecture
end

section
/-! SUPPORT. What a read of the flash leaves as it is (R411 to R413, R423), for the operations that read it. -/

namespace Sys2Proof.Architecture

open Sys2Proof.Machine

variable {s t u : State}

/-- Memory, the answer of the last access, the latched wake sources and the registers of the SYS block are as before. -/
structure Undisturbed (s t : State) : Prop where
  mem : t.mem = s.mem
  busResult : t.busResult = s.busResult
  wakeLatch : t.wakeLatch = s.wakeLatch
  sys : ∀ a < 0x20010000, t.reg a = s.reg a

namespace Undisturbed

theorem refl (s : State) : Undisturbed s s := ⟨rfl, rfl, rfl, fun _ _ => rfl⟩

theorem trans (h : Undisturbed s t) (h' : Undisturbed t u) : Undisturbed s u :=
  ⟨h'.mem.trans h.mem, h'.busResult.trans h.busResult, h'.wakeLatch.trans h.wakeLatch, fun a ha => (h'.sys a ha).trans (h.sys a ha)⟩

/-- A change of what is neither a register nor named here. -/
theorem of_eq (hr : t.regs = s.regs) (hm : t.mem = s.mem) (hb : t.busResult = s.busResult) (hw : t.wakeLatch = s.wakeLatch) : Undisturbed s t :=
  ⟨hm, hb, hw, fun a _ => reg_congr hr a⟩

theorem setReg (s : State) {a : Nat} (h : 0x20010000 ≤ a) (w : Word) : Undisturbed s (s.setReg a w) :=
  ⟨rfl, rfl, rfl, fun b hb => by rw [reg_setReg, if_neg (by omega)]⟩

theorem setFld (s : State) {f : Field} (h : 0x20010000 ≤ f.addr) (v : Nat) : Undisturbed s (s.setFld f v) := setReg s h _

theorem setFlds (s : State) {l : List (Field × Nat)} (h : ∀ e ∈ l, 0x20010000 ≤ e.1.addr) : Undisturbed s (s.setFlds l) := by
  induction l generalizing s with
  | nil => exact refl s
  | cons e l ih => exact (setFld s (h e List.mem_cons_self) e.2).trans (ih _ fun x hx => h x (List.mem_cons_of_mem _ hx))

theorem bumpBy (s : State) {f : Field} (h : 0x20010000 ≤ f.addr) (n : Nat) : Undisturbed s (s.bumpBy f n) :=
  ⟨mem_bumpBy s f n, busResult_bumpBy s f n, wakeLatch_bumpBy s f n, fun _ ha => reg_bumpBy_ne s f n (by omega)⟩

theorem bump (s : State) {f : Field} (h : 0x20010000 ≤ f.addr) : Undisturbed s (s.bump f) := bumpBy s h 1

theorem fire (s : State) (p v : Nat) : Undisturbed s (s.fire p v) := of_eq rfl rfl rfl rfl

/-- A loop whose every pass leaves them. -/
theorem foldl {α : Type} (f : State → α → State) (h : ∀ s x, Undisturbed s (f s x)) (l : List α) (s : State) : Undisturbed s (l.foldl f s) := by
  induction l generalizing s with
  | nil => exact refl s
  | cons x l ih => exact (h s x).trans (ih _)

theorem forBelow (f : State → Nat → State) (h : ∀ s k, Undisturbed s (f s k)) (n : Nat) (s : State) : Undisturbed s (Machine.forBelow n f s) :=
  foldl f h _ s

theorem fld (h : Undisturbed s t) {f : Field} (hf : f.addr < 0x20010000) : t.fld f = s.fld f := by
  unfold State.fld
  rw [h.sys _ hf]

end Undisturbed

theorem wearSign_undisturbed (s : State) (kind level sector : Nat) : Undisturbed s (wearSign s kind level sector) := by
  have hset : Undisturbed s (s.setFlds [(FLC_WEAR_WEAR, 1), (FLC_WEAR_KIND, kind), (FLC_WEAR_SECTOR, sector)]) :=
    .setFlds s (by simp [FLC_WEAR_WEAR, FLC_WEAR_KIND, FLC_WEAR_SECTOR, FLC_WEAR])
  have hlevel (x : State) : Undisturbed x (if kind = 1 then x.setFld FLC_WEAR_LEVEL level else x) := by
    split
    · exact .setFld x (by decide) level
    · exact .refl x
  have hworn (x : State) : Undisturbed x (if inLoam x sector && kind ≠ 3 && !x.loamWorn.contains sector then
      { x with loamWorn := sector :: x.loamWorn } else x) := by
    split
    · exact .of_eq rfl rfl rfl rfl
    · exact .refl x
  exact (((hset.trans (hlevel _)).trans (.fire _ 578 sector))).trans (hworn _)

theorem codeLevel_undisturbed (s : State) (p : Nat) : Undisturbed s (codeLevel s p).2 := by
  unfold codeLevel
  dsimp only
  split
  · exact .refl s
  · exact .of_eq rfl rfl rfl rfl

theorem codeCorrect_undisturbed (s : State) (p : Nat) : Undisturbed s (codeCorrect s p).2 := by
  have hretry (x : State) (lv : Nat) : Undisturbed x (if lv = 0 then x else x.bump FLC_RETRY_COUNT) := by
    split
    · exact .refl x
    · exact .bump x (by decide)
  have hread := (codeLevel_undisturbed s p).trans (hretry (codeLevel s p).2 (codeLevel s p).1)
  unfold codeCorrect
  dsimp only
  split
  · exact (hread.trans (.bump _ (by decide))).trans (.fire _ 580 _)
  · have hsign (x : State) (n lv : Nat) : Undisturbed x (if n ≤ lv then wearSign x 1 lv (p / 128) else x) := by
      split
      · exact wearSign_undisturbed x ..
      · exact .refl x
    have hmark (x : State) (c : Bool) : Undisturbed x (if c then { x with loamMarked := p / 128 :: x.loamMarked } else x) := by
      split
      · exact .of_eq rfl rfl rfl rfl
      · exact .refl x
    exact (hread.trans (hsign _ _ _)).trans (hmark _ _)

theorem pageIn_undisturbed (s : State) (p : Nat) (again : Bool) : Undisturbed s (pageIn s p again).2 := by
  have hgood : Undisturbed s (if again then (true, s) else codeCorrect s p).2 := by
    split
    · exact .refl s
    · exact codeCorrect_undisturbed s p
  unfold pageIn
  dsimp only
  split
  · exact .refl s
  split
  · exact .refl s
  split
  · exact .refl s
  generalize (if again then (true, s) else codeCorrect s p) = read at hgood ⊢
  split
  · exact hgood
  split
  · exact hgood
  · exact hgood.trans (.of_eq rfl rfl rfl rfl)

theorem pagesFrom_undisturbed (n : Nat) (s : State) (p : Nat) (again : Bool) : Undisturbed s (pagesFrom s p again n).2 := by
  induction n generalizing s p again with
  | zero => exact .refl s
  | succ n ih =>
    have hpage := pageIn_undisturbed s p again
    unfold pagesFrom
    split
    next x hx => rwa [hx] at hpage
    next l x hx =>
      rw [hx] at hpage
      have hrest := ih x (p + 1) (p % 2 == 0 && !pageErased x p)
      split
      next y hy => exact hpage.trans (by rwa [hy] at hrest)
      next r y hy => exact hpage.trans (by rwa [hy] at hrest)

theorem flashRead_undisturbed (s : State) (off n : Nat) : Undisturbed s (flashRead s off n).2 := by
  have hpages := pagesFrom_undisturbed ((off + n + 511) / 512 - off / 512) s (off / 512) false
  unfold flashRead pagesRead
  split
  next x hx => rwa [hx] at hpages
  next l x hx => rwa [hx] at hpages

theorem opRead_undisturbed (s : State) (m a n : Nat) : Undisturbed s (opRead s m a n).2 := by
  unfold opRead
  dsimp only
  split
  · exact .refl s
  split
  · split
    · exact .refl s
    · exact flashRead_undisturbed ..
  split
  · exact .refl s
  · exact .refl s

end Sys2Proof.Architecture
end

section
/-! SUPPORT. The cipher pages: GO, the operations, their end (R445, R446, R450). -/

namespace Sys2Proof.Architecture

open Sys2Proof.Machine

variable {s t : State} {m : Master} {p : Fin 16}

/-! ### What an operation leaves -/

theorem ccmOp_undisturbed (s : State) (p slot owner : Nat) (dec : Bool) : Undisturbed s (ccmOp s p slot owner dec).2 := by
  have hprm := opRead_undisturbed s owner (s.fld (CPH_PARAM_ADDR p)) 16
  unfold ccmOp
  split
  next x hx => rwa [hx] at hprm
  next l x hx =>
    rw [hx] at hprm
    dsimp only
    generalize (if dec then ofLe ((l.drop 13).take 1) else 0) = mic, (if dec then 2 else 1) = usage
    split
    · exact hprm
    split
    · exact hprm
    · have hsrc := opRead_undisturbed x owner (x.fld (CPH_SRC_ADDR p)) (x.fld (CPH_LEN_LEN p))
      split
      next y hy => exact hprm.trans (by rwa [hy] at hsrc)
      next r y hy => exact hprm.trans (by rwa [hy] at hsrc)

theorem kwOp_undisturbed (s : State) (p slot owner : Nat) (unwrap : Bool) : Undisturbed s (kwOp s p slot owner unwrap).2 := by
  have hsrc := opRead_undisturbed s owner (s.fld (CPH_SRC_ADDR p)) (s.fld (CPH_LEN_LEN p))
  unfold kwOp
  dsimp only
  split
  · exact .refl s
  split
  · exact .refl s
  split
  next x hx => rwa [hx] at hsrc
  next l x hx => rwa [hx] at hsrc

theorem shaOp_undisturbed (s : State) (p owner : Nat) : Undisturbed s (shaOp s p owner).2 := by
  have hsrc := opRead_undisturbed s owner (s.fld (CPH_SRC_ADDR p)) (s.fld (CPH_LEN_LEN p))
  unfold shaOp
  split
  next x hx => rwa [hx] at hsrc
  next l x hx => rwa [hx] at hsrc

theorem ecdsaOp_undisturbed (s : State) (p slot owner : Nat) (rom : Bool) : Undisturbed s (ecdsaOp s p slot owner rom).2 := by
  have hprm := opRead_undisturbed s owner (s.fld (CPH_PARAM_ADDR p)) 96
  unfold ecdsaOp
  dsimp only
  split
  · exact .refl s
  split
  next x hx => rwa [hx] at hprm
  next l x hx => rwa [hx] at hprm

theorem cphOp_undisturbed (s : State) (p op slot owner : Nat) (rom : Bool) : Undisturbed s (cphOp s p op slot owner rom).2 := by
  unfold cphOp
  split
  · exact .refl s
  split
  · exact ccmOp_undisturbed ..
  · exact ccmOp_undisturbed ..
  · exact kwOp_undisturbed ..
  · exact kwOp_undisturbed ..
  · exact shaOp_undisturbed ..
  · exact ecdsaOp_undisturbed ..
  · exact .refl s

theorem outLen_undisturbed (s : State) (n : Nat) : Undisturbed s (outLen s n).2 := by
  unfold outLen
  split
  · exact .refl s
  · exact .of_eq rfl rfl rfl rfl

/-! ### The start of an operation (R446) -/

/-- A run of a page, with the page's marks. -/
def pageStarted (s : State) (p : Nat) (run : CphRun) : State :=
  { s with cphRuns := stInsert run s.cphRuns p }.setFlds [(CPH_STAT_BUSY p, 1), (CPH_STAT_RESULT p, 0)]

/-- What an operation that ended so leaves for its page: ACCERR where its destination may not be written. -/
def opStored (s : State) (p owner : Nat) (e : OpEnd) : OpEnd := if opWritable owner (s.fld (CPH_DST_ADDR p)) e.2.length then e else (5, [])

/-- The run of an operation's end. -/
def opRun (s : State) (p owner : Nat) (e : OpEnd) : CphRun :=
  { dst := (memAddr owner (s.fld (CPH_DST_ADDR p))).getD 0, data := e.2, result := e.1, outlen := (outLen s e.2.length).1 }

/-- An operation's end is kept for its page. -/
def opKept (s : State) (p owner : Nat) (e : OpEnd) : State := pageStarted (outLen s e.2.length).2 p (opRun s p owner e)

theorem cphStart_eq (s : State) (p op slot : Nat) (rom : Bool) : cphStart s p op slot rom =
    let owner := (pageOwner s p).getD 13
    let x := cphOp s p op slot owner rom
    opKept x.2 p owner (opStored x.2 p owner x.1) := rfl

theorem fld_pageStarted (s : State) (p : Nat) (run : CphRun) : (pageStarted s p run).fld (CPH_STAT_BUSY p) = 1 ∧
    (pageStarted s p run).fld (CPH_STAT_RESULT p) = 0 := by
  rw [pageStarted, setFlds_cons, setFlds_cons, setFlds_nil]
  constructor
  · rw [fld_setFld_ne _ _ _ _ (fields_apart rfl)]
    exact fld_setFld_of_lt _ (field_fits rfl) Nat.one_lt_two
  · exact fld_setFld_of_lt _ (field_fits rfl) (Nat.two_pow_pos 4)

theorem pageStarted_leaves (s : State) (p : Nat) (run : CphRun) : (pageStarted s p run).mem = s.mem ∧ (pageStarted s p run).busResult = s.busResult :=
  ⟨mem_setFlds .., busResult_setFlds ..⟩

theorem run_pageStarted (s : State) (p : Nat) (run : CphRun) : (pageStarted s p run).cphRuns.find? (·.1 = p) = some (p, run) := by
  have hruns : (pageStarted s p run).cphRuns = stInsert run s.cphRuns p := by simp [pageStarted]
  have hfind := find?_stInsert run s.cphRuns p p
  rw [if_pos rfl] at hfind
  obtain ⟨e, he, hrun⟩ := Option.map_eq_some_iff.mp hfind
  have hkey : e.1 = p := by simpa using List.find?_some he
  rw [hruns, he, ← hkey, ← hrun]

theorem opKept_leaves (s : State) (p owner : Nat) (e : OpEnd) : (opKept s p owner e).mem = s.mem ∧ (opKept s p owner e).busResult = s.busResult := by
  obtain ⟨hmem, hbus⟩ := pageStarted_leaves (outLen s e.2.length).2 p (opRun s p owner e)
  have hlen := outLen_undisturbed s e.2.length
  exact ⟨hmem.trans hlen.mem, hbus.trans hlen.busResult⟩

theorem cphStart_leaves (s : State) (p op slot : Nat) (rom : Bool) : (cphStart s p op slot rom).mem = s.mem ∧
    (cphStart s p op slot rom).busResult = s.busResult := by
  rw [cphStart_eq]
  dsimp only
  have hop := cphOp_undisturbed s p op slot ((pageOwner s p).getD 13) rom
  generalize cphOp s p op slot ((pageOwner s p).getD 13) rom = x at hop
  obtain ⟨hmem, hbus⟩ := opKept_leaves x.2 p ((pageOwner s p).getD 13) (opStored x.2 p ((pageOwner s p).getD 13) x.1)
  exact ⟨hmem.trans hop.mem, hbus.trans hop.busResult⟩

theorem fld_cphStart (s : State) (p op slot : Nat) (rom : Bool) : (cphStart s p op slot rom).fld (CPH_STAT_BUSY p) = 1 ∧
    (cphStart s p op slot rom).fld (CPH_STAT_RESULT p) = 0 := fld_pageStarted ..

/-- The digest of a source in memory is kept with RESULT 1 where its destination may be written. -/
theorem cphStart_sha {owner a n : Nat} {rom : Bool} {p slot : Nat} (ho : pageOwner s p = some owner) (hs : bitOf (pageWord s p) 5 = false)
    (ha : s.fld (CPH_SRC_ADDR p) = a) (hlow : a < 0x10000000) (hn : s.fld (CPH_LEN_LEN p) = n) (hpos : 1 ≤ n) (hrun : memRun owner a n = true)
    (hw : opWritable owner (s.fld (CPH_DST_ADDR p)) (sha256 (octNats (s.rdN ((memAddr owner a).getD 0) n))).length = true) :
    ∃ r, (cphStart s p 5 slot rom).cphRuns.find? (·.1 = p) = some (p, r) ∧ r.result = 1 ∧
      r.data = natOcts (sha256 (octNats (s.rdN ((memAddr owner a).getD 0) n))) := by
  have hread : opRead s owner a n = (some (s.rdN ((memAddr owner a).getD 0) n), s) := by
    unfold opRead
    rw [if_neg (by omega), if_neg (by simp; omega), if_pos hrun]
  have hop : cphOp s p 5 slot owner rom = ((1, natOcts (sha256 (octNats (s.rdN ((memAddr owner a).getD 0) n)))), s) := by
    unfold cphOp
    rw [if_neg (by simp [hs])]
    show shaOp s p owner = _
    unfold shaOp
    rw [ha, hn, hread]
  have hstored : opStored s p owner (1, natOcts (sha256 (octNats (s.rdN ((memAddr owner a).getD 0) n)))) =
      (1, natOcts (sha256 (octNats (s.rdN ((memAddr owner a).getD 0) n)))) :=
    if_pos (by rw [show (natOcts (sha256 (octNats (s.rdN ((memAddr owner a).getD 0) n)))).length =
      (sha256 (octNats (s.rdN ((memAddr owner a).getD 0) n))).length from List.length_map ..]; exact hw)
  rw [cphStart_eq, ho]
  dsimp only [Option.getD_some]
  rw [hop, hstored]
  exact ⟨_, run_pageStarted .., rfl, rfl⟩

/-! ### The command word (R446) -/

theorem cphWord_parts {op slot : Nat} (hop : op < 16) (hslot : slot < 256) (rom : Bool) : bitOf (cphWord op slot rom) 31 = true ∧
    cphWord op slot rom % 16 = op ∧ bitsOf (cphWord op slot rom) 15 8 = slot ∧ bitsOf (cphWord op slot rom) 16 16 = b2n rom ∧
    bitOf (cphWord op slot rom) 16 = rom := by
  cases rom <;> simp [cphWord, bitOf, bitsOf, b2n] <;> omega

/-- A field takes what fits of a value. -/
theorem setFld_mod (s : State) (f : Field) (v : Nat) : s.setFld f (v % 2 ^ f.width) = s.setFld f v := by
  unfold State.setFld fieldSet
  rw [Nat.mod_mod]

theorem cphAsked_word {op slot : Nat} (hop : op < 16) (hslot : slot < 256) (rom : Bool) (s : State) (p : Nat) :
    State.setFlds { s with busResult := .ok } [(CPH_CMD_OP p, cphWord op slot rom), (CPH_CMD_KEYSLOT p, bitsOf (cphWord op slot rom) 15 8),
      (CPH_CMD_ROM p, bitsOf (cphWord op slot rom) 16 16)] = cphAsked s p op slot rom := by
  obtain ⟨-, hcode, hkey, hrom, -⟩ := cphWord_parts hop hslot rom
  have hset (x : State) : x.setFld (CPH_CMD_OP p) (cphWord op slot rom) = x.setFld (CPH_CMD_OP p) op := by
    rw [← setFld_mod x _ (cphWord op slot rom), show cphWord op slot rom % 2 ^ (CPH_CMD_OP p).width = op from hcode]
  rw [hkey, hrom, setFlds_cons, hset]
  rfl

theorem fld_cphAsked {f : Field} (s : State) (p op slot : Nat) (rom : Bool) (h : f.addr ≠ CPH_CMD p) : (cphAsked s p op slot rom).fld f = s.fld f := by
  unfold cphAsked
  rw [setFlds_cons, setFlds_cons, setFlds_cons, setFlds_nil, fld_setFld_ne _ _ _ _ (.inl h.symm), fld_setFld_ne _ _ _ _ (.inl h.symm),
    fld_setFld_ne _ _ _ _ (.inl h.symm)]
  exact fld_congr rfl f

/-- A page's word is that of the region of the cipher pages, whose registers stand in CFG. -/
theorem pageWord_congr (hA : t.planeA = s.planeA) (hB : t.planeB = s.planeB) (hf : ∀ f : Field, f.addr = CFG_RGN 10 → t.fld f = s.fld f) (p : Nat) :
    pageWord t p = pageWord s p := by
  have hact : t.actB 10 = s.actB 10 := congrArg (· == 1) (hf _ rfl)
  have hplane : t.active 10 = s.active 10 := by
    unfold State.active State.plane
    rw [hact, hA, hB]
  have hon : t.regionOn 10 = s.regionOn 10 := by
    unfold State.regionOn
    rw [hact, hf (planeState (s.actB 10) 10) (by cases s.actB 10 <;> rfl)]
  unfold pageWord State.table
  rw [hon, show tableRegion 20 0 = 10 from rfl, hplane]

theorem pageWord_cphAsked (s : State) (p : Fin 16) (op slot : Nat) (rom : Bool) : pageWord (cphAsked s p op slot rom) p = pageWord s p := by
  refine pageWord_congr (by simp [cphAsked]) (by simp [cphAsked]) (fun f hf => fld_cphAsked s p op slot rom ?_) p
  rw [hf]
  show (_ : Nat) ≠ 0x20140000 + 0x1000 * p.val
  unfold CFG_RGN
  omega

/-- GO on a free page starts the operation that its word names. -/
theorem cphWrite_starts (h : cphFree s m p) {op slot : Nat} (hop : op < 16) (hslot : slot < 256) (rom : Bool) :
    cphWrite s m p (cphWord op slot rom) = cphStart (cphAsked s p op slot rom) p op slot rom := by
  obtain ⟨hp, hmay, hbusy, hen⟩ := h
  obtain ⟨hgo, hcode, hkey, -, hrom⟩ := cphWord_parts hop hslot rom
  have hfree : ¬ (true && State.flag { s with busResult := .ok } (CPH_STAT_BUSY p)) = true := by
    simp only [Bool.true_and, Bool.not_eq_true]
    exact hbusy
  have hon : (true && (cphAsked s p op slot rom).flag CPH_CTL_EN) = true := by
    have hne : CPH_CTL_EN.addr ≠ CPH_CMD p := by
      show (0x2014F000 : Nat) ≠ 0x20140000 + 0x1000 * p.val
      omega
    rw [Bool.true_and]
    unfold State.flag
    rw [fld_cphAsked s p op slot rom hne]
    exact hen
  unfold cphWrite
  rw [if_neg (by omega), if_pos hmay]
  unfold cphCmd
  dsimp only
  rw [hgo, if_neg hfree, cphAsked_word hop hslot, if_pos hon, hcode, hkey, hrom]

theorem cphWrite_refused (hp : p ≠ 15) (h : pageMayUse s p m = false) (w : Nat) : cphWrite s m p w = s.refuse := by
  unfold cphWrite
  rw [if_neg (show ¬ p.val = 15 from fun h15 => hp (Fin.ext h15)), if_neg (by simp [h])]

/-! ### The end of an operation (R446) -/

/-- What the end of a page's run leaves. -/
def pageEnded (s : State) (p : Nat) (r : CphRun) : State :=
  ((State.wrN { s with cphRuns := stErase s.cphRuns p } r.dst r.data).setFlds
    [(CPH_STAT_BUSY p, 0), (CPH_STAT_RESULT p, r.result), (CPH_STAT_OUTLEN p, r.outlen)]).fire (640 + p) r.result

theorem execCipherOperationDone_running {e : Nat × CphRun} (h : s.cphRuns.find? (·.1 = p.val) = some e) :
    exec (.cipherOperationDone p) s = .next (pageEnded s p e.2) := by
  show execCipherOperationDone p s = _
  unfold execCipherOperationDone
  dsimp only
  rw [h]
  rfl

theorem fld_pageEnded (s : State) (p : Nat) (r : CphRun) : (pageEnded s p r).fld (CPH_STAT_BUSY p) = 0 ∧
    (pageEnded s p r).fld (CPH_STAT_RESULT p) = r.result % 2 ^ (CPH_STAT_RESULT p).width ∧
    (pageEnded s p r).fld (CPH_STAT_OUTLEN p) = r.outlen % 2 ^ (CPH_STAT_OUTLEN p).width := by
  rw [pageEnded, setFlds_cons, setFlds_cons, setFlds_cons, setFlds_nil, fld_fire, fld_fire, fld_fire]
  refine ⟨?_, ?_, fld_setFld _ _ _ (field_fits rfl)⟩
  · rw [fld_setFld_ne _ _ _ _ (fields_apart rfl), fld_setFld_ne _ _ _ _ (fields_apart rfl)]
    exact fld_setFld_of_lt _ (field_fits rfl) Nat.zero_lt_two
  · rw [fld_setFld_ne _ _ _ _ (fields_apart rfl)]
    exact fld_setFld _ _ _ (field_fits rfl)

theorem reg_pageEnded (s : State) (p : Nat) (r : CphRun) {a : Nat} (h : a ≠ CPH_STAT p) : (pageEnded s p r).reg a = s.reg a := by
  have hset (x : State) (f : Field) (v : Nat) (hf : f.addr = CPH_STAT p) : (x.setFld f v).reg a = x.reg a := reg_setFld_ne x f v (hf ▸ h.symm)
  rw [pageEnded, reg_fire, setFlds_cons, setFlds_cons, setFlds_cons, setFlds_nil, hset _ _ _ rfl, hset _ _ _ rfl, hset _ _ _ rfl]
  exact reg_congr (regs_wrN ..) a

/-- What octets leave of memory depends on memory alone. -/
theorem mem_wrN_congr (h : t.mem = s.mem) (a : Nat) (l : List Byte) : (t.wrN a l).mem = (s.wrN a l).mem := by
  induction l generalizing s t a with
  | nil => exact h
  | cons b l ih => exact ih (s := s.wr8 a b) (congrArg (stSet 0 · a b) h) (a + 1)

theorem mem_pageEnded (s : State) (p : Nat) (r : CphRun) : (pageEnded s p r).mem = (s.wrN r.dst r.data).mem := by
  rw [pageEnded, mem_fire, mem_setFlds]
  exact mem_wrN_congr (s := s) (t := { s with cphRuns := stErase s.cphRuns p }) rfl r.dst r.data

theorem events_pageEnded (s : State) (p : Nat) (r : CphRun) :
    (pageEnded s p r).events = s.events ++ [{ producer := 640 + p, payload := r.result % 2 ^ 32 }] := by
  unfold pageEnded State.fire
  rw [events_setFlds, events_wrN]

/-- Settles O44: GO is the command word's start, whose operation leaves memory; the digest stands in the run; the end stores the run. -/
theorem cipherCommandsComplete : Obligations.CipherCommandsComplete := by
  have started {s : State} {m : Master} {p : Fin 16} (h : cphFree s m p) {op slot : Nat} (hop : op < 16) (hslot : slot < 256) (rom : Bool) :
      ok (cphWrite s m p (cphWord op slot rom)) = .next (cphStart (cphAsked s p op slot rom) p op slot rom) :=
    congrArg ok (cphWrite_starts h hop hslot rom)
  have refused {s : State} {m : Master} {p : Fin 16} (hp : p ≠ 15) (h : pageMayUse s p m = false) (w : Nat) :
      ok (cphWrite s m p w) = .next s.refuse := congrArg ok (cphWrite_refused hp h w)
  refine ⟨?keyed, fun s m p h => started h (by decide) (by decide) false, fun s m p k rom h => started h (by decide) k.isLt rom, ?busy, ?digest,
    ?denied, fun s m p k rom hp h => ⟨refused hp h _, refused hp h _⟩, ?done⟩
  case keyed =>
    intro s op c m p k hc h
    simp only [List.mem_cons, List.not_mem_nil, or_false, Prod.mk.injEq] at hc
    obtain ⟨rfl, rfl⟩ | ⟨rfl, rfl⟩ | ⟨rfl, rfl⟩ | ⟨rfl, rfl⟩ := hc
    · exact started h (by decide) k.isLt false
    · exact started h (by decide) k.isLt false
    · exact started h (by decide) k.isLt false
    · exact started h (by decide) k.isLt false
  case busy =>
    intro s m p h
    refine ⟨_, started h (op := 5) (slot := 0) (by decide) (by decide) false, ?_⟩
    obtain ⟨hmem, hbus⟩ := cphStart_leaves (cphAsked s p 5 0 false) p 5 0 false
    obtain ⟨hbusy, hresult⟩ := fld_cphStart (cphAsked s p 5 0 false) p 5 0 false
    exact ⟨hbusy, hresult, hmem.trans (mem_setFlds ..), hbus.trans (busResult_setFlds ..)⟩
  case digest =>
    intro s m p a n h ho hs ha hlow hn hpos hrun hw
    refine ⟨_, started h (op := 5) (slot := 0) (by decide) (by decide) false, ?_⟩
    have hword := pageWord_cphAsked s p 5 0 false
    have hfld (f : Field) (hf : f.addr ≠ CPH_CMD p) : (cphAsked s p 5 0 false).fld f = s.fld f := fld_cphAsked s p 5 0 false hf
    have hoct (b : Nat) : (cphAsked s p 5 0 false).rdN b n = s.rdN b n := rdN_congr (s := cphAsked s p 5 0 false) (t := s) (mem_setFlds ..) b n
    beta_reduce
    rw [← hoct] at hw ⊢
    refine cphStart_sha (by unfold pageOwner; rw [hword]; exact ho) (hword ▸ hs) ((hfld _ ?_).trans ha) hlow ((hfld _ ?_).trans hn) hpos hrun ?_
    · exact fun h => by simp [CPH_SRC_ADDR, CPH_SRC, CPH_CMD] at h
    · exact fun h => by simp [CPH_LEN_LEN, CPH_LEN, CPH_CMD] at h
    · rw [hfld _ fun h => by simp [CPH_DST_ADDR, CPH_DST, CPH_CMD] at h]
      exact hw
  case denied =>
    intro s m p k c hc hp h
    simp only [List.mem_cons, List.not_mem_nil, or_false] at hc
    obtain rfl | rfl | rfl | rfl := hc
    · exact refused hp h _
    · exact refused hp h _
    · exact refused hp h _
    · exact refused hp h _
  case done =>
    intro s p e hp h
    obtain ⟨hbusy, hresult, hlen⟩ := fld_pageEnded s p e.2
    exact ⟨_, execCipherOperationDone_running h, mem_pageEnded .., hbusy, hresult, hlen, events_pageEnded .., fun a ha => reg_pageEnded s p e.2 ha⟩

end Sys2Proof.Architecture
end

section
/-! SUPPORT. Control of the engines: run, stop, reset, watchdogs (R299 to R305). -/

namespace Sys2Proof.Architecture

open Sys2Proof.Machine

variable {s t : State} {n : Fin 12} {m : Master}

/-! ### The reset of an engine (R303, R357) -/

theorem cellSend_undisturbed (s : State) (type dst : Nat) (body : List Byte) : Undisturbed s (cellSend s type dst body) := by
  rw [cellSend_eq]
  exact .of_eq rfl rfl rfl rfl

theorem frameSend_undisturbed (s : State) (dst count : Nat) (records : List Byte) : Undisturbed s (frameSend s dst count records) := by
  have hframe (x : State) (p : Nat) (l : List Byte) : Undisturbed x ((x.emit .fabricFrame [p, dst] l).bump VFB_TXFRM_COUNT) :=
    .trans (t := x.emit .fabricFrame [p, dst] l) (.of_eq rfl rfl rfl rfl) (.bump _ (by decide))
  unfold frameSend
  split
  · exact .refl s
  · exact (Undisturbed.foldl _ (fun x p => hframe x p _) _ s).trans (.of_eq rfl rfl rfl rfl)

theorem peerSend_undisturbed (s : State) (peer : Nat) (record : List Byte) : Undisturbed s (peerSend s peer record) := by
  unfold peerSend recordSend
  split
  · exact cellSend_undisturbed ..
  split
  · exact frameSend_undisturbed ..
  split
  · exact cellSend_undisturbed ..
  · exact .refl s

theorem abortNotice_undisturbed (s : State) (e tag : Nat) : Undisturbed s (abortNotice s e tag) :=
  ((Undisturbed.setFld s (f := MBX_ABORT_TAG e) (Nat.le_add_right_of_le (by decide)) tag).trans
    (.bump _ (f := MBX_ABORT_COUNT e) (Nat.le_add_right_of_le (by decide)))).trans (.fire _ _ _)

theorem slotsNotified_undisturbed (s : State) (e : Nat) : Undisturbed s (slotsNotified s e) := by
  refine .forBelow _ (fun t i => ?_) _ s
  split
  · exact .refl t
  · split
    · dsimp only
      split
      · exact abortNotice_undisturbed ..
      · exact .refl t
    · exact peerSend_undisturbed ..

theorem slotsCleared_undisturbed (s : State) (e : Nat) : Undisturbed s (slotsCleared s e) := by
  have hslot (x : State) (w : Nat) : Undisturbed x (x.setReg (MBX_SLOT e w) 0) := .setReg x (by unfold MBX_SLOT; omega) 0
  have hsrc (x : State) (i : Nat) : Undisturbed x ((x.setReg (MBX_SRC e i) 0).setReg (MBX_SRCTAG e i) 0) :=
    (Undisturbed.setReg x (by unfold MBX_SRC; omega) 0).trans (.setReg _ (by unfold MBX_SRCTAG; omega) 0)
  have hpage (x : State) : Undisturbed x (x.setFlds [(MBX_FULL_FULL e, 0), (MBX_DB_DB e, 0), (MBX_DBMASK_MASK e, 0),
      (MBX_SENDTAG_TAG e, 0), (MBX_CNT_LATEREPLY e, 0), (MBX_CNT_FRAGDROP e, 0)]) := by
    refine .setFlds x ?_
    simp only [List.forall_mem_cons, List.not_mem_nil, false_imp_iff, implies_true, and_true, MBX_FULL_FULL, MBX_FULL, MBX_DB_DB, MBX_DB,
      MBX_DBMASK_MASK, MBX_DBMASK, MBX_SENDTAG_TAG, MBX_SENDTAG, MBX_CNT_LATEREPLY, MBX_CNT_FRAGDROP, MBX_CNT]
    omega
  exact (((Undisturbed.forBelow _ hslot 144 s).trans (.forBelow _ hsrc 8 _)).trans (hpage _)).trans (.setReg _ (by unfold MBX_SENDSTAT; omega) 0)

theorem sendsDropped_undisturbed (s : State) (e : Nat) : Undisturbed s (sendsDropped s e) := .of_eq rfl rfl rfl rfl

theorem setEng_undisturbed (s : State) (n : Nat) (x : EngX) : Undisturbed s (s.setEng n x) := .of_eq rfl rfl rfl rfl

theorem pageReset_undisturbed (s : State) (e : Nat) : Undisturbed s (pageReset s e) := by
  rw [pageReset_eq]
  exact ((slotsNotified_undisturbed s e).trans (slotsCleared_undisturbed _ e)).trans (sendsDropped_undisturbed _ e)

/-- A reset engine: RESETTING, in normal mode, with nothing of its own left. -/
theorem engReset_leaves (s : State) (n : Nat) : (engReset s n).busResult = s.busResult ∧ engState (engReset s n) n = 4 ∧
    (engReset s n).eng n = {} ∧ (engReset s n).fld (SYS_ENGCTL_RUN n) = 0 ∧ (engReset s n).fld (SYS_ENGCTL_MODE n) = 0 ∧
    (engReset s n).fld (SYS_ENGSTAT_INT_EN n) = 0 ∧ (engReset s n).fld (SYS_ENGSTAT_IN_HANDLER n) = 0 := by
  have hctl : SYS_ENGCTL n ≠ SYS_ENGSTAT n := engReg_ne n (by decide)
  have hbus : (engReset s n).busResult = s.busResult := by
    unfold engReset
    rw [busResult_setFlds]
    exact ((pageReset_undisturbed s n).trans (setEng_undisturbed _ n {})).busResult
  have heng : (engReset s n).eng n = {} := (eng_setFlds ..).trans (eng_setEng_same ..)
  have hone {x : State} {f : Field} (hf : f.lo + f.width ≤ 32) : (x.setFld f 0).fld f = 0 := fld_setFld_of_lt x hf (Nat.two_pow_pos _)
  refine ⟨hbus, ?_, heng, ?_⟩
  · unfold engState engReset
    rw [setFlds_cons, setFlds_cons, setFlds_cons, setFlds_cons, setFlds_cons, setFlds_nil, fld_setFld_ne _ _ _ _ (.inl hctl),
      fld_setFld_ne _ _ _ _ (.inl hctl), fld_setFld_ne _ _ _ _ (fields_apart rfl), fld_setFld_ne _ _ _ _ (fields_apart rfl)]
    exact fld_setFld_of_lt _ (field_fits rfl) (show 4 < 8 by decide)
  · unfold engReset
    rw [setFlds_cons, setFlds_cons, setFlds_cons, setFlds_cons, setFlds_cons, setFlds_nil]
    refine ⟨?_, hone (field_fits rfl), ?_, ?_⟩
    · rw [fld_setFld_ne _ _ _ _ (fields_apart rfl)]
      exact hone (field_fits rfl)
    · rw [fld_setFld_ne _ _ _ _ (.inl hctl), fld_setFld_ne _ _ _ _ (.inl hctl), fld_setFld_ne _ _ _ _ (fields_apart rfl)]
      exact hone (field_fits rfl)
    · rw [fld_setFld_ne _ _ _ _ (.inl hctl), fld_setFld_ne _ _ _ _ (.inl hctl)]
      exact hone (field_fits rfl)

/-! ### A write of SYS_ENGCTLn (R299, R302) -/

/-- The mode, which is taken while RUN is 0. -/
def modeStored (s : State) (n w : Nat) : State := if s.flag (SYS_ENGCTL_RUN n) then s else s.setFld (SYS_ENGCTL_MODE n) (bitsOf w 2 2)

/-- The world, which is taken of the engines but the lead engine while it is not locked. -/
def worldStored (s : State) (n w : Nat) : State :=
  if n = 0 || s.flag SYS_ENGLOCK_WORLD_LOCK then s else s.setFlds [(SYS_ENGCTL_WORLD n, bitsOf w 3 3), (SYS_ENGSTAT_WORLD n, bitsOf w 3 3)]

/-- What a write of SYS_ENGCTLn stores before it acts. -/
def ctlStored (s : State) (n w : Nat) : State := worldStored (modeStored s n w) n w

theorem engCtlWrite_eq {n w : Nat} (h : bitOf w 1 = false) : engCtlWrite s n w =
    let t := ctlStored s n w
    if bitOf w 0 then (if engState t n = 0 then engRun t n else t)
    else if engState t n = 1 || engState t n = 3 then (t.setEng n { t.eng n with stopping := true }).setFld (SYS_ENGCTL_RUN n) 0 else t :=
  if_neg (by simp [h])

theorem modeStored_leaves (s : State) (n w : Nat) : (modeStored s n w).busResult = s.busResult ∧ engState (modeStored s n w) n = engState s n ∧
    (s.flag (SYS_ENGCTL_RUN n) = false → (modeStored s n w).fld (SYS_ENGCTL_MODE n) = bitsOf w 2 2) := by
  have hctl : SYS_ENGCTL n ≠ SYS_ENGSTAT n := engReg_ne n (by decide)
  unfold modeStored
  split
  next hrun => exact ⟨rfl, rfl, fun h => by rw [h] at hrun; cases hrun⟩
  next hrun => exact ⟨rfl, fld_setFld_ne _ _ _ _ (.inl hctl), fun _ => fld_setFld_of_lt _ (field_fits rfl) (Nat.mod_lt _ Nat.zero_lt_two)⟩

theorem worldStored_leaves (s : State) (n w : Nat) : (worldStored s n w).busResult = s.busResult ∧ engState (worldStored s n w) n = engState s n ∧
    (worldStored s n w).fld (SYS_ENGCTL_MODE n) = s.fld (SYS_ENGCTL_MODE n) := by
  have hctl : SYS_ENGCTL n ≠ SYS_ENGSTAT n := engReg_ne n (by decide)
  unfold worldStored
  split
  · exact ⟨rfl, rfl, rfl⟩
  · refine ⟨busResult_setFlds .., ?_, ?_⟩
    · unfold engState
      rw [setFlds_cons, setFlds_cons, setFlds_nil, fld_setFld_ne _ _ _ _ (fields_apart rfl), fld_setFld_ne _ _ _ _ (.inl hctl)]
    · rw [setFlds_cons, setFlds_cons, setFlds_nil, fld_setFld_ne _ _ _ _ (.inl hctl.symm), fld_setFld_ne _ _ _ _ (fields_apart rfl)]

theorem ctlStored_leaves (s : State) (n w : Nat) : (ctlStored s n w).busResult = s.busResult ∧ engState (ctlStored s n w) n = engState s n ∧
    (s.flag (SYS_ENGCTL_RUN n) = false → (ctlStored s n w).fld (SYS_ENGCTL_MODE n) = bitsOf w 2 2) := by
  obtain ⟨hbus, hstate, hmode⟩ := modeStored_leaves s n w
  obtain ⟨hbus', hstate', hmode'⟩ := worldStored_leaves (modeStored s n w) n w
  exact ⟨hbus'.trans hbus, hstate'.trans hstate, fun h => hmode'.trans (hmode h)⟩

/-- An engine that is HELD runs in the mode of its MODE bit. -/
theorem engRun_leaves (s : State) (n : Nat) : (engRun s n).busResult = s.busResult ∧ (engRun s n).fld (SYS_ENGCTL_RUN n) = 1 ∧
    engState (engRun s n) n = if s.flag (SYS_ENGCTL_MODE n) then 3 else 1 := by
  have hctl : SYS_ENGSTAT n ≠ SYS_ENGCTL n := engReg_ne n (by decide)
  have hpc : SYS_ENGPC n ≠ SYS_ENGCTL n := engReg_ne n (by decide)
  have hpc' : SYS_ENGPC n ≠ SYS_ENGSTAT n := engReg_ne n (by decide)
  have hfault : SYS_ENGFAULT n ≠ SYS_ENGCTL n := engReg_ne n (by decide)
  have hfault' : SYS_ENGFAULT n ≠ SYS_ENGSTAT n := engReg_ne n (by decide)
  have hmode : (s.setFld (SYS_ENGCTL_RUN n) 1).flag (SYS_ENGCTL_MODE n) = s.flag (SYS_ENGCTL_MODE n) :=
    congrArg (· == 1) (fld_setFld_ne _ _ _ _ (fields_apart rfl))
  have hrun : (s.setFld (SYS_ENGCTL_RUN n) 1).fld (SYS_ENGCTL_RUN n) = 1 := fld_setFld_of_lt _ (field_fits rfl) Nat.one_lt_two
  have hstate (x : State) {v : Nat} (hv : v < 8) : (x.setFld (SYS_ENGSTAT_STATE n) v).fld (SYS_ENGSTAT_STATE n) = v :=
    fld_setFld_of_lt _ (field_fits rfl) hv
  unfold engRun engState
  dsimp only
  rw [hmode]
  by_cases hm : s.flag (SYS_ENGCTL_MODE n) = true
  · rw [if_pos hm, if_pos hm, setFlds_cons, setFlds_cons, setFlds_nil]
    refine ⟨rfl, ?_, ?_⟩
    · rw [fld_setFld_ne _ _ _ _ (.inl hpc), fld_setFld_ne _ _ _ _ (.inl hctl), fld_setEng, hrun]
    · rw [fld_setFld_ne _ _ _ _ (.inl hpc'), hstate _ (by decide)]
  · rw [if_neg hm, if_neg hm]
    split
    · rw [setFlds_cons, setFlds_cons, setFlds_cons, setFlds_nil]
      refine ⟨busResult_bump .., ?_, ?_⟩
      · rw [fld_bump_ne _ _ _ (.inl hctl), fld_setFld_ne _ _ _ _ (.inl hfault), fld_setFld_ne _ _ _ _ (.inl hpc),
          fld_setFld_ne _ _ _ _ (.inl hctl), fld_setEng, hrun]
      · rw [fld_bump_ne _ _ _ (fields_apart rfl), fld_setFld_ne _ _ _ _ (.inl hfault'), fld_setFld_ne _ _ _ _ (.inl hpc'), hstate _ (by decide)]
    · refine ⟨rfl, ?_, hstate _ (by decide)⟩
      rw [fld_setFld_ne _ _ _ _ (.inl hctl), fld_setEng, hrun]

/-- A write with RUN = 1 to an engine that is HELD (R302). -/
theorem engCtlWrite_runs {w : Nat} (h0 : bitOf w 0 = true) (h1 : bitOf w 1 = false) (hheld : engState s n = 0)
    (hrun : s.flag (SYS_ENGCTL_RUN n) = false) : (engCtlWrite s n w).busResult = s.busResult ∧ (engCtlWrite s n w).fld (SYS_ENGCTL_RUN n) = 1 ∧
      engState (engCtlWrite s n w) n = if bitOf w 2 then 3 else 1 := by
  obtain ⟨hbus, hstate, hmode⟩ := ctlStored_leaves s n w
  obtain ⟨hbus', hrun', hstate'⟩ := engRun_leaves (ctlStored s n w) n
  have hflag : (ctlStored s n w).flag (SYS_ENGCTL_MODE n) = bitOf w 2 := congrArg (· == 1) (hmode hrun)
  have heq : engCtlWrite s n w = engRun (ctlStored s n w) n := by
    rw [engCtlWrite_eq h1]
    dsimp only
    rw [if_pos h0, if_pos (hstate.trans hheld)]
  rw [heq]
  exact ⟨hbus'.trans hbus, hrun', hflag ▸ hstate'⟩

/-- A write with RUN = 0 to an engine that runs (R302). -/
theorem engCtlWrite_stops {w : Nat} (h0 : bitOf w 0 = false) (h1 : bitOf w 1 = false) (hon : engState s n = 1 ∨ engState s n = 3) :
    (engCtlWrite s n w).busResult = s.busResult ∧ (engCtlWrite s n w).fld (SYS_ENGCTL_RUN n) = 0 ∧
      ((engCtlWrite s n w).eng n).stopping = true ∧ engState (engCtlWrite s n w) n = engState s n := by
  obtain ⟨hbus, hstate, -⟩ := ctlStored_leaves s n w
  have hctl : SYS_ENGCTL n ≠ SYS_ENGSTAT n := engReg_ne n (by decide)
  have heq : engCtlWrite s n w = ((ctlStored s n w).setEng n { (ctlStored s n w).eng n with stopping := true }).setFld (SYS_ENGCTL_RUN n) 0 := by
    rw [engCtlWrite_eq h1]
    dsimp only
    rw [if_neg (by simp [h0]), if_pos (by simpa [hstate] using hon)]
  rw [heq]
  refine ⟨hbus, fld_setFld_of_lt _ (field_fits rfl) Nat.zero_lt_two, ?_, ?_⟩
  · rw [eng_setFld, eng_setEng_same]
  · exact (fld_setFld_ne _ _ _ _ (.inl hctl)).trans ((fld_setEng ..).trans hstate)

theorem engCtlWrite_resets (s : State) (n : Nat) : engCtlWrite s n 2 = engReset s n := if_pos (by decide)

/-- The word of a run request: RUN, the mode and the world. -/
theorem runWord_bits (b : Bool) {v : Nat} (hv : v < 2) : bitOf (1 + 4 * b2n b + 8 * v) 0 = true ∧ bitOf (1 + 4 * b2n b + 8 * v) 1 = false ∧
    bitOf (1 + 4 * b2n b + 8 * v) 2 = b := by
  interval_cases v <;> cases b <;> decide

theorem stopWord_bits {u v : Nat} (hu : u < 2) (hv : v < 2) : bitOf (4 * u + 8 * v) 0 = false ∧ bitOf (4 * u + 8 * v) 1 = false := by
  interval_cases u <;> interval_cases v <;> decide

end Sys2Proof.Architecture
end

section
/-! SUPPORT. The start of Sorrel and of the lead engine: what of it touches the registers of the SYS block (R308, R309, R443). -/

namespace Sys2Proof.Architecture

open Sys2Proof.Machine

variable {s t : State}

/-! ### The controller's work (R414) -/

theorem flcRefresh_undisturbed (s : State) : Undisturbed s (flcRefresh s) :=
  .setFlds s (by simp [FLC_STAT_BUSY, FLC_STAT_QUEUED, FLC_STAT])

theorem chanEnd_undisturbed (s : State) (k result : Nat) : Undisturbed s (chanEnd s k result) := by
  have hset : Undisturbed s (s.setFlds [(FLC_CSTAT_BUSY k, 0), (FLC_CSTAT_RESULT k, result)]) := by
    refine .setFlds s ?_
    simp only [List.forall_mem_cons, List.not_mem_nil, false_imp_iff, implies_true, and_true, FLC_CSTAT_BUSY, FLC_CSTAT_RESULT, FLC_CSTAT]
    omega
  unfold chanEnd
  split
  · exact .refl s
  · exact hset.trans (.fire _ _ _)

theorem primStart_undisturbed (s : State) (j : FlcJob) (p : FlcPrim) : Undisturbed s (primStart s j p) := by
  unfold primStart
  dsimp only
  split
  · exact .of_eq rfl rfl rfl rfl
  · exact .of_eq rfl rfl rfl rfl

theorem freeOctets_undisturbed (s : State) (n : Nat) : Undisturbed s (freeOctets s n).2 := .of_eq rfl rfl rfl rfl

theorem sourceRead_undisturbed (s : State) (m a n : Nat) : Undisturbed s (sourceRead s m a n).2 := by
  have hread := flashRead_undisturbed s (a - 0x10000000) n
  unfold sourceRead
  split
  · split
    next l x hx => rwa [hx] at hread
    next x hx =>
      rw [hx] at hread
      exact hread.trans (freeOctets_undisturbed x n)
  · split
    · exact .refl s
    · exact freeOctets_undisturbed s n

theorem jobStart_undisturbed (s : State) (j : FlcJob) : Undisturbed s (jobStart s j) := by
  unfold jobStart
  dsimp only
  split
  · exact primStart_undisturbed ..
  split
  · exact (sourceRead_undisturbed s j.master j.src 512).trans (primStart_undisturbed _ _ _)
  · split
    · exact chanEnd_undisturbed ..
    · split
      · exact chanEnd_undisturbed ..
      · exact primStart_undisturbed ..
  · split
    · exact chanEnd_undisturbed ..
    · exact primStart_undisturbed ..
  · split
    · exact chanEnd_undisturbed ..
    · exact primStart_undisturbed ..
  · exact primStart_undisturbed ..

theorem flcTake_undisturbed (n : Nat) (s : State) : Undisturbed s (flcTake s n) := by
  induction n generalizing s with
  | zero => exact flcRefresh_undisturbed s
  | succ n ih =>
    unfold flcTake
    dsimp only
    split
    · exact flcRefresh_undisturbed s
    split
    · exact flcRefresh_undisturbed s
    split
    · exact flcRefresh_undisturbed s
    next i _ _ j _ =>
      have hqueue : Undisturbed s { s with flcQueue := s.flcQueue.eraseIdx i } := .of_eq rfl rfl rfl rfl
      exact (hqueue.trans (jobStart_undisturbed _ j)).trans (ih _)

theorem flcQueueJob_undisturbed (s : State) (j : FlcJob) : Undisturbed s (flcQueueJob s j) :=
  .trans (t := { s with flcQueue := s.flcQueue ++ [j] }) (.of_eq rfl rfl rfl rfl) (flcTake_undisturbed _ _)

/-! ### The key store (R427, R443, R444) -/

theorem slotLoad_undisturbed (s : State) (n attr : Nat) (icv : Bool) (key : List Byte) (res : Nat) : Undisturbed s (slotLoad s n attr icv key res) :=
  .of_eq rfl rfl rfl rfl

theorem deriveDeviceKeys_undisturbed (s : State) : Undisturbed s (deriveDeviceKeys s) := by
  have hderived : Undisturbed s { s with keysDerived := true } := .of_eq rfl rfl rfl rfl
  have hput (x : State) (w : Nat → Word) {addr : Nat → Nat} (h : ∀ i, 0x20010000 ≤ addr i) (n : Nat) :
      Undisturbed x (forBelow n (fun s i => s.setReg (addr i) (w i)) x) := .forBelow _ (fun y i => .setReg y (h i) _) n x
  unfold deriveDeviceKeys
  split
  · exact .refl s
  dsimp only
  split
  · exact hderived
  · exact (hderived.trans (hput _ _ (fun i => by unfold KEY_IDFP; omega) 8)).trans (hput _ _ (fun i => by unfold KEY_IDPUB; omega) 16)

/-- A zeroization that was cut short is completed. -/
def zeroizeResumed (s : State) : State := if s.priv.zeroPending then { s with priv := { lc := 4 } }.fire 608 0 else s

/-- A root is generated where there is none. -/
def rootGenerated (s : State) (entropyFail : Bool) : State :=
  if s.priv.root.isSome then s
  else if entropyFail then (s.setFld KEY_STAT_ENTROPY_FAIL 1).fire 610 0
  else { (freeOctets s 32).2 with priv := { (freeOctets s 32).2.priv with root := some (freeOctets s 32).1 } }

theorem keyStart_eq (s : State) (entropyFail : Bool) : keyStart s entropyFail =
    (rootGenerated (zeroizeResumed s) entropyFail).priv.verify.foldl (fun s e => slotLoad s e.1 e.2.1 e.2.2.1 e.2.2.2 0)
      (deriveDeviceKeys (rootGenerated (zeroizeResumed s) entropyFail)) := rfl

theorem keyStart_undisturbed (s : State) (entropyFail : Bool) : Undisturbed s (keyStart s entropyFail) := by
  have hzero : Undisturbed s (zeroizeResumed s) := by
    unfold zeroizeResumed
    split
    · exact .of_eq rfl rfl rfl rfl
    · exact .refl s
  have hroot (x : State) : Undisturbed x (rootGenerated x entropyFail) := by
    unfold rootGenerated
    split
    · exact .refl x
    split
    · exact (Undisturbed.setFld x (by decide) 1).trans (.fire _ _ _)
    · exact .of_eq rfl rfl rfl rfl
  rw [keyStart_eq]
  exact ((hzero.trans (hroot _)).trans (deriveDeviceKeys_undisturbed _)).trans (.foldl _ (fun x e => slotLoad_undisturbed x ..) _ _)

theorem recordsOf_undisturbed (l : List (Nat × FlashPage)) (s : State) : Undisturbed s (recordsOf s l).2.2 := by
  induction l generalizing s with
  | nil => exact .refl s
  | cons e l ih =>
    have hpage := pageIn_undisturbed s e.1 false
    unfold recordsOf pageRead
    split
    next x hx =>
      rw [hx] at hpage
      exact hpage.trans (ih x)
    next o x hx =>
      rw [hx] at hpage
      split
      · exact hpage.trans (ih x)
      · exact hpage.trans (ih x)

theorem counterAdvance_undisturbed (s : State) (which value : Nat) : Undisturbed s (counterAdvance s which value) := .of_eq rfl rfl rfl rfl

theorem keyLoad_undisturbed (s : State) : Undisturbed s (keyLoad s) := by
  have hrecords := recordsOf_undisturbed (halfPages s false ++ halfPages s true) s
  have hku (x : State) (v : Nat) : Undisturbed x (if x.priv.ku < v then counterAdvance x 0 v else x) := by
    split
    · exact counterAdvance_undisturbed ..
    · exact .refl x
  have hloaded (x : State) (i j : Nat) : Undisturbed x (((x.bumpBy (KEY_CNT_COUNT 2) i).bumpBy (KEY_CNT_COUNT 3) j).setFld KEY_STAT_LOADED 1) :=
    ((Undisturbed.bumpBy x (by decide) i).trans (.bumpBy _ (by decide) j)).trans (.setFld _ (by decide) 1)
  exact (((hrecords.trans (.foldl _ (fun x r => slotLoad_undisturbed x ..) _ _)).trans (hku _ _)).trans
    (.foldl _ (fun x n => flcQueueJob_undisturbed x _) _ _)).trans (hloaded _ _ _)

/-! ### The firmware (R308, R309, R453) -/

theorem secCheck_undisturbed (s : State) (slot : Nat) (x : ImgSec) : Undisturbed s (secCheck s slot x).2 := by
  have hread := flashRead_undisturbed s (imageBase slot + x.off) x.len
  unfold secCheck
  split
  next y hy => rwa [hy] at hread
  next l y hy =>
    rw [hy] at hread
    split
    · exact hread
    · exact hread

theorem patchLoad_undisturbed (s : State) (slot : Nat) (m : Manifest) : Undisturbed s (patchLoad s slot m) := by
  unfold patchLoad
  split
  next x _ _ =>
    have hread := flashRead_undisturbed s (imageBase slot + x.off) x.len
    split
    next l y hy =>
      rw [hy] at hread
      exact hread.trans (.of_eq rfl rfl rfl rfl)
    next y hy => rwa [hy] at hread
  · exact .refl s

/-- The registers that a run of an engine writes. -/
theorem engRun_keeps (s : State) (n : Nat) : keeps s (engRun s n) [SYS_ENGCTL n, SYS_ENGSTAT n, SYS_ENGPC n, SYS_ENGFAULT n] := by
  have hrun : keeps s (s.setFld (SYS_ENGCTL_RUN n) 1) [SYS_ENGCTL n, SYS_ENGSTAT n, SYS_ENGPC n, SYS_ENGFAULT n] :=
    keeps_setFld (keeps_refl s _) (by simp [SYS_ENGCTL_RUN]) 1
  unfold engRun
  dsimp only
  split
  · exact keeps_setFlds (keeps_setEng hrun n _) (by simp [SYS_ENGSTAT_STATE, SYS_ENGPC_PC])
  split
  · exact keeps_bump (keeps_setFlds (keeps_setEng hrun n _) (by simp [SYS_ENGSTAT_STATE, SYS_ENGPC_PC, SYS_ENGFAULT_DOUBLE]))
      (by simp [SYS_ENGSTAT_STARTS])
  · exact keeps_setFld (keeps_setEng hrun n _) (by simp [SYS_ENGSTAT_STATE]) 1

theorem srlState_leadStart (s : State) (x : ImgSec) (l : List Byte) : (leadStart s x l).fld SYS_SRLSTAT_STATE = s.fld SYS_SRLSTAT_STATE := by
  have hne (b : Nat) (h : b ≠ SYS_SRLSTAT) : b ≠ SYS_SRLSTAT_STATE.addr := h
  unfold leadStart
  rw [fld_of_keeps (engRun_keeps _ 0) (by decide), setFlds_cons, setFlds_cons, setFlds_nil, fld_setFld_ne _ _ _ _ (.inl (hne _ (by decide))),
    fld_setFld_ne _ _ _ _ (.inl (hne _ (by decide)))]
  exact fld_congr (regs_wrN ..) _

/-- A field of Sorrel's state as it is set. -/
theorem srlState_set (s : State) {v : Nat} (h : v < 8) : (s.setFld SYS_SRLSTAT_STATE v).fld SYS_SRLSTAT_STATE = v :=
  fld_setFld_of_lt s (by decide) h

theorem srlState_leadSection (h : s.fld SYS_SRLSTAT_STATE = 1) (slot : Nat) (m : Manifest) :
    (leadSection s slot m).fld SYS_SRLSTAT_STATE = 1 ∨ (leadSection s slot m).fld SYS_SRLSTAT_STATE = 4 := by
  unfold leadSection
  split
  next x _ _ =>
    have hcheck := secCheck_undisturbed s slot x
    split
    next l y hy =>
      rw [hy] at hcheck
      exact .inl ((srlState_leadStart y x l).trans ((hcheck.fld (by decide)).trans h))
    · exact .inr (srlState_set _ (by decide))
  · exact .inr (srlState_set _ (by decide))

/-- What an authenticated image leaves before its firmware starts. -/
def imageChosen (s : State) (slot a : Nat) (m : Manifest) : State :=
  s.setFlds [(UPD_STAT_RUNSLOT, slot), (UPD_SLOTSTAT_STATE slot, if a = 0 then 4 else 5), (UPD_SLOTSTAT_AUTH slot, 1),
    (UPD_SLOTSTAT_BUILD slot, m.build), (SYS_SRLSTAT_STATE, 1)]

theorem srlState_imageChosen (s : State) (slot a : Nat) (m : Manifest) : (imageChosen s slot a m).fld SYS_SRLSTAT_STATE = 1 :=
  srlState_set _ (by decide)

theorem isvnAdvance_undisturbed (s : State) (v : Nat) : Undisturbed s { isvnAdvance s 13 v with busResult := s.busResult } := by
  unfold isvnAdvance
  rw [if_neg (by decide)]
  dsimp only
  split
  · exact .of_eq rfl rfl rfl rfl
  · exact .of_eq rfl rfl rfl rfl

/-- Sorrel is IDLE with the firmware that it started, or in RECOVERY (R308). -/
theorem srlState_imageStart (s : State) : (imageStart s).fld SYS_SRLSTAT_STATE = 1 ∨ (imageStart s).fld SYS_SRLSTAT_STATE = 4 := by
  unfold imageStart
  dsimp only
  split
  · exact .inr (srlState_set _ (by decide))
  next slot a m x _ =>
    have hadvance : Undisturbed (imageChosen x slot a m) (if a = 0 then imageChosen x slot a m else
        { isvnAdvance (imageChosen x slot a m) 13 m.isvn with busResult := (imageChosen x slot a m).busResult }) := by
      split
      · exact .refl _
      · exact isvnAdvance_undisturbed ..
    refine srlState_leadSection ?_ slot m
    rw [(patchLoad_undisturbed _ slot m).fld (by decide)]
    exact (hadvance.fld (by decide)).trans (srlState_imageChosen ..)

/-- Start-up without a tamper wake goes through Sorrel's steps (R308). -/
theorem execSorrelStartup_awake {fail : Bool} (hm : mainOn s = true) (hs : s.fld SYS_SRLSTAT_STATE = 0)
    (hw : (keyStart s fail).flag SYS_RSTCAUSE_WAKE = false) (hl : bitOf (keyStart s fail).wakeLatch 2 = false) : exec (.sorrelStartup fail) s =
      .next (flcTake (keyLoad (imageStart (bootLoad (loamRebuild (tornScan (keyStart s fail)))))) 64) := by
  show execSorrelStartup fail s = _
  unfold execSorrelStartup
  rw [if_neg (by simp [hm, hs])]
  dsimp only
  rw [hw, hl]
  rfl

theorem sorrelStartup_ends {fail : Bool} (hm : mainOn s = true) (hs : s.fld SYS_SRLSTAT_STATE = 0) (hw : s.flag SYS_RSTCAUSE_WAKE = false)
    (hl : bitOf s.wakeLatch 2 = false) : completes (.sorrelStartup fail) s fun t => t.fld SYS_SRLSTAT_STATE = 1 ∨ t.fld SYS_SRLSTAT_STATE = 4 := by
  have hkey := keyStart_undisturbed s fail
  have hwake : (keyStart s fail).flag SYS_RSTCAUSE_WAKE = false := by
    unfold State.flag
    rw [hkey.fld (by decide)]
    exact hw
  refine ⟨_, execSorrelStartup_awake hm hs hwake (by rw [hkey.wakeLatch]; exact hl), ?_⟩
  beta_reduce
  rw [(flcTake_undisturbed 64 _).fld (by decide), (keyLoad_undisturbed _).fld (by decide)]
  exact srlState_imageStart _

end Sys2Proof.Architecture
end

section
/-! SUPPORT. Watchdogs of the engines and the reload of the lead engine (R305, R308 to R312). -/

namespace Sys2Proof.Architecture

open Sys2Proof.Machine

variable {s t : State} {n : Fin 12} {m : Master}

/-! ### Watchdogs (R305) -/

/-- A field of a whole word carries its register. -/
theorem reg_eq_of_fld {f g : Field} (hf : f.lo = 0 ∧ f.width = 32) (hg : g.lo = 0 ∧ g.width = 32) (h : t.fld f = s.fld g) :
    t.reg f.addr = s.reg g.addr := by
  have hword (w : Word) : fieldGet w 0 32 = w.toNat := by
    unfold fieldGet
    rw [Nat.pow_zero, Nat.div_one]
    exact Nat.mod_eq_of_lt w.isLt
  unfold State.fld at h
  rw [hf.1, hf.2, hg.1, hg.2, hword, hword] at h
  exact BitVec.eq_of_toNat_eq h

/-- An engine whose watchdog expired: a fault of cause 6, and FAULTED. -/
def watchdogFaulted (s : State) (n : Nat) : State := engFaulted (faultRecord s n 6 0 (s.fld (SYS_ENGPC_PC n))) n

theorem execWatchdogExpiry_due (hon : engState s n = 1) (hl : s.fld (SYS_ENGWDT_LIMIT n) ≠ 0)
    (hup : s.reachUp ((s.eng n).kickAt + 1000 * s.fld (SYS_ENGWDT_LIMIT n)) = some t) : exec (.watchdogExpiry n) s =
      .next (if n.val = 0 then leadReload (watchdogFaulted t n) else watchdogFaulted t n) := by
  show execWatchdogExpiry n s = _
  unfold execWatchdogExpiry
  dsimp only
  rw [if_neg (by simp [hon, hl]), hup]
  rfl

theorem faultRecord_keeps (s : State) (n cause addr pc : Nat) :
    keeps s (faultRecord s n cause addr pc) [SYS_ENGFAULT n, SYS_ENGFADDR n, SYS_ENGFPC n] :=
  keeps_bump (keeps_setFlds (keeps_refl s _) (by simp [SYS_ENGFAULT_CAUSE, SYS_ENGFADDR_ADDR, SYS_ENGFPC_PC])) (by simp [SYS_ENGFAULT_COUNT])

theorem watchdogFaulted_leaves (s : State) (n : Fin 12) : engState (watchdogFaulted s n) n = 2 ∧
    (watchdogFaulted s n).fld (SYS_ENGFAULT_CAUSE n) = 6 ∧ (watchdogFaulted s n).fld (SYS_ENGFADDR_ADDR n) = 0 ∧
    (watchdogFaulted s n).reg (SYS_ENGFPC n) = s.reg (SYS_ENGPC n) ∧
    keeps s (watchdogFaulted s n) [SYS_ENGSTAT n, SYS_ENGCTL n, SYS_ENGFAULT n, SYS_ENGFADDR n, SYS_ENGFPC n] := by
  obtain ⟨hcause, haddr, hpc⟩ := fld_faultRecord s n (show 6 < 8 by decide) 0 (s.fld (SYS_ENGPC_PC n))
  have hkept := engFaulted_keeps (faultRecord s n 6 0 (s.fld (SYS_ENGPC_PC n))) n
  have hother {x : Nat} (hx : x ≠ 0x20001000) (hx' : x ≠ 0x20001004) : x + 0x40 * n.val ∉ [SYS_ENGSTAT n, SYS_ENGCTL n] := by
    simp only [List.mem_cons, List.not_mem_nil, or_false, SYS_ENGSTAT, SYS_ENGCTL]
    omega
  refine ⟨(fld_engFaulted _ n).1, (fld_of_keeps hkept (hother (by decide) (by decide))).trans hcause,
    (fld_of_keeps hkept (hother (by decide) (by decide))).trans haddr, ?_,
    keeps_trans (keeps_mono (faultRecord_keeps s n _ _ _) (by simp)) (keeps_mono hkept (by simp))⟩
  refine (hkept.2 _ (hother (by decide) (by decide))).trans ?_
  exact reg_eq_of_fld (f := SYS_ENGFPC_PC n) (g := SYS_ENGPC_PC n) ⟨rfl, rfl⟩ ⟨rfl, rfl⟩ (hpc.trans (Nat.mod_eq_of_lt (fld_lt s (SYS_ENGPC_PC n))))

/-! ### The reload (R309, R310, R312) -/

/-- A reload has begun. -/
def reloadBegun (s : State) (a : Nat) (u : UpdX) : State := { s with reloadAt := a, upd := u }

theorem fld_reloadBegun (s : State) (a : Nat) (u : UpdX) (f : Field) : (reloadBegun s a u).fld f = s.fld f := fld_congr rfl f

theorem leadReload_eq (s : State) : leadReload s = (reloadBegun (engReset s 0) s.uptime { s.upd with reloadSlot := s.fld SYS_SRLCMD_SLOT }).setFlds
    [(SYS_SRLSTAT_LEAD_DOWN, 1), (SYS_SRLSTAT_STATE, 3)] := rfl

/-- The lead engine is down and in reset, and Sorrel reloads it. -/
theorem leadReload_leaves (s : State) : (leadReload s).fld SYS_SRLSTAT_STATE = 3 ∧ (leadReload s).fld SYS_SRLSTAT_LEAD_DOWN = 1 ∧
    engState (leadReload s) 0 = 4 := by
  have hstat : (SYS_SRLSTAT : Nat) ≠ SYS_ENGSTAT 0 := by decide
  obtain ⟨-, hstate, -⟩ := engReset_leaves s 0
  unfold engState
  rw [leadReload_eq, setFlds_cons, setFlds_cons, setFlds_nil]
  refine ⟨srlState_set _ (by decide), ?_, ?_⟩
  · rw [fld_setFld_ne _ _ _ _ (fields_apart rfl)]
    exact fld_setFld_of_lt _ (by decide) Nat.one_lt_two
  · rw [fld_setFld_ne _ _ _ _ (.inl hstat), fld_setFld_ne _ _ _ _ (.inl hstat), fld_reloadBegun]
    exact hstate

/-- The state in which a request for a reload is judged. -/
def reloadAsked (s : State) (slot : Nat) : State := { s with busResult := .ok }.setFld SYS_SRLCMD_SLOT slot

theorem srlState_reloadAsked (s : State) (slot : Nat) : (reloadAsked s slot).fld SYS_SRLSTAT_STATE = s.fld SYS_SRLSTAT_STATE :=
  (fld_setFld_ne _ _ _ _ (.inl (by decide))).trans (fld_congr rfl _)

theorem execLeadReload_may {slot : Fin 4} (hm : m.val = 12 ∨ m.val = 0) : exec (.leadReload m slot) s = .next (reloadRequest (reloadAsked s slot)) :=
  if_pos (by simpa using hm)

theorem reloadRequest_busy (h : s.fld SYS_SRLSTAT_STATE ≠ 1) : reloadRequest s = s.setFld SYS_SRLSTAT_REFUSED 1 := if_neg h

theorem execLeadReload_refused {slot : Fin 4} (hm : m.val = 12 ∨ m.val = 0) (h : s.fld SYS_SRLSTAT_STATE ≠ 1) :
    completes (.leadReload m slot) s fun t => t.busResult = .ok ∧ t.fld SYS_SRLSTAT_REFUSED = 1 ∧ t.fld SYS_SRLCMD_SLOT = slot ∧
      keeps s t [SYS_SRLCMD, SYS_SRLSTAT] := by
  refine ⟨_, execLeadReload_may hm, ?_⟩
  rw [reloadRequest_busy (by rw [srlState_reloadAsked]; exact h)]
  refine ⟨rfl, fld_setFld_of_lt _ (by decide) Nat.one_lt_two, ?_, ?_⟩
  · rw [fld_setFld_ne _ _ _ _ (.inl (by decide))]
    exact fld_setFld_of_lt _ (by decide) slot.isLt
  · have hok : keeps s { s with busResult := .ok } [SYS_SRLCMD, SYS_SRLSTAT] := keeps_of_eq rfl rfl
    exact keeps_setFld (keeps_setFld hok (f := SYS_SRLCMD_SLOT) (by decide) slot) (by decide) 1

/-- The section of a reload, as the image of its slot is good or not. -/
theorem execLeadReloadSectionLoaded_due (hs : s.fld SYS_SRLSTAT_STATE = 3) (hd : s.flag SYS_SRLSTAT_LEAD_DOWN = true)
    (hr : s.flag (SYS_ENGCTL_RUN 0) = false) : exec .leadReloadSectionLoaded s =
      match imageCheck (s.setFld (SYS_ENGSTAT_STATE 0) 0) s.upd.reloadSlot
        (!(s.setFld (SYS_ENGSTAT_STATE 0) 0).flag (UPD_SLOTSTAT_AUTH s.upd.reloadSlot)) false with
      | (none, s') => .next (s'.setFld SYS_SRLSTAT_STATE 4)
      | (some m, s') => .next (leadSection
          (s'.setFlds [(UPD_SLOTSTAT_AUTH s.upd.reloadSlot, 1), (UPD_SLOTSTAT_BUILD s.upd.reloadSlot, m.build)]) s.upd.reloadSlot m) := by
  show execLeadReloadSectionLoaded s = _
  unfold execLeadReloadSectionLoaded
  rw [if_neg (by simp [hs, hd, hr])]
  rfl

theorem busResult_slotRuns (s : State) : (slotRuns s).busResult = s.busResult := by
  unfold slotRuns
  dsimp only
  split
  · rfl
  · exact busResult_setFlds ..

/-- LEAD_READY ends the reload (R309 step 5). -/
theorem leadReady_leaves (hs : s.fld SYS_SRLSTAT_STATE = 3) (hd : s.flag SYS_SRLSTAT_LEAD_DOWN = true) :
    (leadReady s).busResult = s.busResult ∧ (leadReady s).fld SYS_SRLSTAT_STATE = 1 ∧ (leadReady s).fld SYS_SRLSTAT_LEAD_DOWN = 0 := by
  unfold leadReady
  rw [if_pos (by simp [hs, hd]), setFlds_cons, setFlds_cons, setFlds_cons, setFlds_nil]
  refine ⟨busResult_slotRuns s, ?_, ?_⟩
  · rw [fld_setFld_ne _ _ _ _ (fields_apart rfl)]
    exact srlState_set _ (by decide)
  · rw [fld_setFld_ne _ _ _ _ (fields_apart rfl), fld_setFld_ne _ _ _ _ (fields_apart rfl)]
    exact fld_setFld_of_lt _ (by decide) Nat.zero_lt_two

theorem execLeadReady_engine (hs : s.fld SYS_SRLSTAT_STATE = 3) (hd : s.flag SYS_SRLSTAT_LEAD_DOWN = true) :
    completes (.leadReady 0) s fun t => t.busResult = .ok ∧ t.fld SYS_SRLSTAT_STATE = 1 ∧ t.fld SYS_SRLSTAT_LEAD_DOWN = 0 :=
  ⟨leadReady { s with busResult := .ok }, rfl, leadReady_leaves (s := { s with busResult := .ok }) hs hd⟩

theorem execLeadReady_denied (h : m.val ≠ 0) (h' : m.val ≠ 12) : exec (.leadReady m) s = .next s.refuse := (if_neg h).trans (if_neg h')

/-- The lead engine is late, once in a reload (R310). -/
def autonomyEnded (s : State) : State := ((s.setEng 0 { s.eng 0 with late := true }).setFld SYS_SRLSTAT_AUTONOMY_OVER 1).fire 2 0

theorem execAutonomyOver_due (hd : s.flag SYS_SRLSTAT_LEAD_DOWN = true) (hl : (s.eng 0).late = false)
    (hup : s.reachUp (s.reloadAt + 50000000) = some t) : exec .autonomyOver s = .next (autonomyEnded t) := by
  show execAutonomyOver s = _
  unfold execAutonomyOver
  rw [if_neg (by simp [hd, hl]), hup]
  rfl

theorem autonomyEnded_leaves (s : State) : (autonomyEnded s).fld SYS_SRLSTAT_AUTONOMY_OVER = 1 ∧ ((autonomyEnded s).eng 0).late = true ∧
    (autonomyEnded s).events = s.events ++ [{ producer := 2, payload := 0 }] ∧ keeps s (autonomyEnded s) [SYS_SRLSTAT] := by
  refine ⟨?_, ?_, rfl, keeps_fire (keeps_setFld (keeps_setEng (keeps_refl s _) 0 _) (List.mem_singleton_self _) 1) 2 0⟩
  · rw [autonomyEnded, fld_fire]
    exact fld_setFld_of_lt _ (by decide) Nat.one_lt_two
  · rw [autonomyEnded, eng_fire, eng_setFld, eng_setEng_same]

/-! ### Registers of single engines (R301 to R305) -/

theorem execWatchdogKick_may (h : engMay m n true = true) : completes (.watchdogKick m n) s fun t =>
    t.busResult = .ok ∧ t.eng n = { s.eng n with kickAt := s.uptime, wdHeld := 0 } ∧ keeps s t [] :=
  ⟨engKick { s with busResult := .ok } n, if_pos h, rfl, eng_setEng_same .., keeps_of_eq rfl rfl⟩

theorem execEngineRun_may {rcv : Bool} (h : engMay m n false = true) (hheld : engState s n = 0) (hrun : s.flag (SYS_ENGCTL_RUN n) = false) :
    completes (.engineRun m n rcv) s fun t =>
      t.busResult = .ok ∧ t.fld (SYS_ENGCTL_RUN n) = 1 ∧ engState t n = if rcv then 3 else 1 := by
  obtain ⟨h0, h1, h2⟩ := runWord_bits rcv (fld_lt s (SYS_ENGCTL_WORLD n))
  obtain ⟨hbus, hset, hstate⟩ := engCtlWrite_runs (s := { s with busResult := .ok }) (n := n) h0 h1 hheld hrun
  exact ⟨_, if_pos h, hbus, hset, hstate.trans (by rw [h2])⟩

theorem execEngineStop_may (h : engMay m n false = true) (hon : engState s n = 1 ∨ engState s n = 3) : completes (.engineStop m n) s fun t =>
    t.busResult = .ok ∧ t.fld (SYS_ENGCTL_RUN n) = 0 ∧ (t.eng n).stopping = true ∧ engState t n = engState s n := by
  obtain ⟨h0, h1⟩ := stopWord_bits (fld_lt s (SYS_ENGCTL_MODE n)) (fld_lt s (SYS_ENGCTL_WORLD n))
  exact ⟨_, if_pos h, engCtlWrite_stops (s := { s with busResult := .ok }) (n := n) h0 h1 hon⟩

/-- A field of an engine's state as it is set. -/
theorem engState_set (s : State) (n : Nat) {v : Nat} (h : v < 8) : engState (s.setFld (SYS_ENGSTAT_STATE n) v) n = v :=
  fld_setFld_of_lt s (field_fits rfl) h

theorem execEngineHeld_stopping (h : (s.eng n).stopping = true) : completes (.engineHeld n) s fun t =>
    engState t n = 0 ∧ (t.eng n).stopping = false ∧ keeps s t [SYS_ENGSTAT n] := by
  refine ⟨engHeld s n, rfl, ?_⟩
  unfold engHeld
  dsimp only
  rw [if_neg (by simp [h])]
  refine ⟨engState_set _ _ (by decide), ?_, keeps_setFld (keeps_setEng (keeps_refl s _) n _) (List.mem_singleton_self _) 0⟩
  rw [eng_setFld, eng_setEng_same]

theorem execEngineReset_may (h : engMay m n false = true) : completes (.engineReset m n) s fun t =>
    t = engReset { s with busResult := .ok } n ∧ t.busResult = .ok ∧ engState t n = 4 ∧ t.eng n = {} ∧ t.fld (SYS_ENGCTL_RUN n) = 0 ∧
      t.fld (SYS_ENGCTL_MODE n) = 0 ∧ t.fld (SYS_ENGSTAT_INT_EN n) = 0 ∧ t.fld (SYS_ENGSTAT_IN_HANDLER n) = 0 :=
  ⟨_, (if_pos h).trans (congrArg ok (engCtlWrite_resets { s with busResult := .ok } n)), rfl, engReset_leaves { s with busResult := .ok } n⟩

theorem execWorldLock_may (h : leadOrSorrel m = true) : completes (.worldLock m) s fun t =>
    t.busResult = .ok ∧ t.fld SYS_ENGLOCK_WORLD_LOCK = 1 ∧ keeps s t [SYS_ENGLOCK] := by
  have hok : keeps s { s with busResult := .ok } [SYS_ENGLOCK] := keeps_of_eq rfl rfl
  exact ⟨_, if_pos h, rfl, fld_setFld_of_lt _ (by decide) Nat.one_lt_two, keeps_setFld hok (List.mem_singleton_self _) 1⟩

/-- Settles O18: what each command leaves, by the operation that it calls. -/
theorem engineCommandsComplete : Obligations.EngineCommandsComplete := by
  refine ⟨fun s n hr hi hq he => congrArg ok (if_pos (by simp [hr, hi, hq, he])), ?expiry, ?leadExpiry, fun s m n h => execWatchdogKick_may h,
    fun s m n rcv h hheld hrun => execEngineRun_may h hheld hrun, fun s m n h hon => execEngineStop_may h hon,
    fun s n h => execEngineHeld_stopping h, fun s m n h => execEngineReset_may h,
    fun s n h => ⟨_, if_pos h, engState_set s n (by decide), keeps_setFld (keeps_refl s _) (List.mem_singleton_self _) 0⟩,
    fun s m h => execWorldLock_may h, fun s fail hm hs hw hl => execSorrelStartup_awake hm hs hw hl,
    fun s fail hm hs hw hl => sorrelStartup_ends hm hs hw hl, ?reload, fun s m slot hm h => execLeadReload_refused hm h, ?loaded,
    fun s hs hd => execLeadReady_engine hs hd, fun s => ⟨{ s with busData := 0, busResult := .ok }, rfl, rfl, keeps_of_eq rfl rfl⟩,
    fun s m h h' => ⟨_, execLeadReady_denied h h', rfl, keeps_of_eq rfl rfl⟩, ?autonomy⟩
  case expiry =>
    intro s s' n hon hl hup hn
    obtain ⟨hregs, hmem, -⟩ := reachUp_leaves hup
    obtain ⟨hstate, hcause, haddr, hpc, hkept⟩ := watchdogFaulted_leaves s' n
    refine ⟨_, (execWatchdogExpiry_due hon hl hup).trans (congrArg ok (if_neg fun h => hn (Fin.ext h))), hstate, hcause, haddr,
      hpc.trans (reg_congr hregs _), keeps_trans (keeps_of_eq hregs hmem) hkept⟩
  case leadExpiry =>
    intro s s' hon hl hup
    exact ⟨_, execWatchdogExpiry_due (n := 0) hon hl hup, rfl, leadReload_leaves _⟩
  case reload =>
    intro s m slot hm hs
    exact (execLeadReload_may hm).trans (congrArg ok (if_pos ((srlState_reloadAsked s slot).trans hs)))
  case loaded =>
    intro s hs hd hr
    unfold completes
    rw [execLeadReloadSectionLoaded_due hs hd hr]
    rcases imageCheck (s.setFld (SYS_ENGSTAT_STATE 0) 0) s.upd.reloadSlot
      (!(s.setFld (SYS_ENGSTAT_STATE 0) 0).flag (UPD_SLOTSTAT_AUTH s.upd.reloadSlot)) false with ⟨_ | image, x⟩
    · exact ⟨_, rfl, rfl⟩
    · exact ⟨_, rfl, rfl⟩
  case autonomy =>
    intro s s' hd hl hup
    obtain ⟨hregs, hmem, hevents⟩ := reachUp_leaves hup
    obtain ⟨hover, hlate, hev, hkept⟩ := autonomyEnded_leaves s'
    exact ⟨_, execAutonomyOver_due hd hl hup, hover, hlate, hev.trans (by rw [hevents]), keeps_trans (keeps_of_eq hregs hmem) hkept⟩

end Sys2Proof.Architecture
end
